-- ==== Sys2Proof/Word.lean ====
section
/-! DEFINITION. The words of the machine: what the manual treats as bits. -/

namespace Sys2Proof

/-- A byte of memory. -/
abbrev Byte := BitVec 8
/-- A 32-bit word: a binary32 encoding, a packet field. -/
abbrev W32 := BitVec 32
/-- A 64-bit word: a g-register, a memory word, a control register. -/
abbrev W64 := BitVec 64

end Sys2Proof
end

