-- ==== Sys2Proof/Syntax.lean ====
section
/-! DEFINITION. The commands the T9 takes: the instructions of its tile contexts, the writes of its control registers,
the packets and frames it meets, its timers and its pins. Bounded numbers are `Fin`, bit fields are bit vectors; the
operands that are lists are bounded by WellFormed. -/

namespace Sys2Proof

/-- A task context: tile and context within it (R50). -/
structure CtxId where
  tile : Fin 256
  ctx : Fin 16
deriving DecidableEq, Repr

/-- The body of a Format A word with its guard (R54, R55). -/
structure FmtA where
  pg : BitVec 3 := 0
  pn : Bool := false
  rd : BitVec 5 := 0
  ra : BitVec 5 := 0
  rb : BitVec 5 := 0
  i : Bool := false
  fn : BitVec 4 := 0
  imm : W32 := 0
deriving DecidableEq, Repr

/-- The body of a Format B word with its guard (R54, R56). -/
structure FmtB where
  pg : BitVec 3 := 0
  pn : Bool := false
  rd : BitVec 5 := 0
  ra : BitVec 5 := 0
  rb : BitVec 5 := 0
  rc : BitVec 5 := 0
  sd : BitVec 5 := 0
  tf : Bool := false
  opx : BitVec 26 := 0
deriving DecidableEq, Repr

/-- Where a packet waits on arrival: port 0 to 31, or 32 for the package crossbar, and its virtual channel (R257). -/
structure Rx where
  port : Fin 33
  vc : Fin 8
deriving DecidableEq, Repr

/-- What the M-array's checkers found while an MMA ran (R94). -/
inductive ArrayFault where
  | none
  /-- the residue check of a block sum failed in a physical column, with the block of rows and of K reached -/
  | residue (col : Fin 64) (block : Nat)
  /-- an uncorrectable accumulator-bank error, at a physical bank and row -/
  | accUe (bank : Fin 4) (row : Fin 64)
deriving DecidableEq, Repr

/-- One slot of a link frame: the flit's 64 bytes and its CRC (R244). -/
structure LinkSlot where
  flit : BitVec 512
  crc : W32
deriving DecidableEq, Repr

/-- A link frame: the control word and its slots (R244, R245). -/
structure LinkFrame where
  ctl : BitVec 128
  slots : List LinkSlot
deriving DecidableEq, Repr

/-- A frame at an Ethernet MAC: its bytes without FCS, the outcome of the MAC's checks, and its stamp's source (R343, R348). -/
structure EthFrame where
  bytes : List Byte
  /-- FCS, symbols and FEC are good -/
  good : Bool
deriving DecidableEq, Repr

/-- A message at the PTP receiver, or what its servo makes of it (R320). -/
inductive PtpMsg where
  /-- Sync with its origin time stamp in TAI ns, and the announced UTC offset and leap flags -/
  | sync (originTai : W64) (utcOffset : BitVec 16) (leap61 leap59 : Bool)
  /-- a message of a domain or source other than the selected one -/
  | other
deriving DecidableEq, Repr

/-- A sensor's reading (R350). -/
inductive Sensor where
  /-- junction sensor i, in 1/16 degree C -/
  | temp (i : Fin 256) (v : BitVec 16)
  /-- tile power estimator, in 1/64 W -/
  | tilePower (t : Fin 256) (v : BitVec 16)
  /-- stack temperature, in 1/16 degree C -/
  | hbmTemp (s : Fin 8) (v : BitVec 16)
  /-- eye margin of a lane -/
  | eye (l : Fin 132) (height width : BitVec 16)
  /-- HOLD_MON conversion -/
  | hold (code : BitVec 12) (mv : BitVec 16)
deriving DecidableEq, Repr

/-- What a regulator answers to a poll (R356). -/
inductive PmbusAnswer where
  /-- READ_VOUT in 0.25 mV, READ_IOUT in 1/16 A, READ_TEMPERATURE_1 -/
  | values (vout iout temp : BitVec 16)
  /-- three retries failed: 0 NAK, 1 PEC, 2 timeout, with the command code -/
  | failed (kind : Fin 3) (cmd : Byte)
deriving DecidableEq, Repr

/-- What the units report while the dies are released: which channels and ports failed training (R401). -/
structure ReleaseReport where
  badChannels : List (Fin 256) := []
  badPorts : List (Fin 32) := []
deriving DecidableEq, Repr

/-- The commands of the T9: one constructor per row of the table of operations and events, in the table's order but for
those at the end, which carry no operand or name only a unit. -/
inductive Instr where
  /-- BR (R67): Branches to PC + 8 × IMM32 or to gRA, popping loops whose bodies do not contain the target. -/
  | br (k : CtxId) (w : FmtA)
  /-- BRC (R67): Branches as BR when gRA meets the condition that FN selects. -/
  | brc (k : CtxId) (w : FmtA)
  /-- LOOP (R67): Runs the next N instructions gRA[31:0] times with no overhead, trapping on a fifth nested loop. -/
  | loop (k : CtxId) (w : FmtA)
  /-- YIELD (R67): The context leaves the issue window and nothing else changes. -/
  | yield (k : CtxId) (w : FmtA)
  /-- HALT (R33): The task retires: releases banks and context, increments output knots in order and frees its slot. -/
  | halt (k : CtxId) (w : FmtA)
  /-- TRAP (R67): Traps with TR_SOFT and writes the code into TRAP_INFO. -/
  | trap (k : CtxId) (w : FmtA)
  /-- ADD (R68): Writes gRA plus gRB or the sign-extended immediate, modulo 2^64. -/
  | add (k : CtxId) (w : FmtA)
  /-- SUB (R68): Writes gRA minus the second operand, modulo 2^64. -/
  | sub (k : CtxId) (w : FmtA)
  /-- MUL (R68): Writes the low 64 bits of gRA times the second operand. -/
  | mul (k : CtxId) (w : FmtA)
  /-- AND (R68): Writes the bitwise AND of gRA and the second operand. -/
  | and (k : CtxId) (w : FmtA)
  /-- OR (R68): Writes the bitwise OR of gRA and the second operand. -/
  | or (k : CtxId) (w : FmtA)
  /-- XOR (R68): Writes the bitwise XOR of gRA and the second operand. -/
  | xor (k : CtxId) (w : FmtA)
  /-- SHL (R68): Writes gRA shifted left by B[5:0]. -/
  | shl (k : CtxId) (w : FmtA)
  /-- SHR (R68): Writes gRA shifted right, logically or arithmetically as FN[0] says. -/
  | shr (k : CtxId) (w : FmtA)
  /-- CMP (R68): Writes a predicate with the comparison of gRA and the second operand. -/
  | cmp (k : CtxId) (w : FmtA)
  /-- MOVI (R68): Loads a sign-extended immediate, or writes the immediate into the high half of gRD. -/
  | movi (k : CtxId) (w : FmtA)
  /-- TDSET (R69): Checks a 64-byte descriptor record and loads it into a t-register. -/
  | tdset (k : CtxId) (w : FmtB)
  /-- TDADV (R69): Advances a descriptor's BASE, and its SCALE, by n steps along one dimension. -/
  | tdadv (k : CtxId) (w : FmtB)
  /-- LDT (R70): Checks and starts an asynchronous copy of a block, with its scales, into the TLS under a move tag. -/
  | ldt (k : CtxId) (w : FmtB)
  /-- STT (R70): Checks and starts an asynchronous copy of a TLS block to memory under a move tag. -/
  | stt (k : CtxId) (w : FmtB)
  /-- MOVE_COMPLETE (R71): All bytes of an asynchronous move are written at the destination, releasing any FENCE waiting on its tag. -/
  | moveComplete (k : CtxId) (j : Nat)
  /-- STREAM (R220): Checks a stream record and its block list and declares or closes a weight stream. -/
  | stream (k : CtxId) (w : FmtB)
  /-- PREF (R70): Hints that a block be brought into the die's shared cache; never fails. -/
  | pref (k : CtxId) (w : FmtB)
  /-- MMA (R81): Checks operands and queues a dense matrix product into a bank on the M-array. -/
  | mma (k : CtxId) (w : FmtB)
  /-- MMA_NM (R96): Checks operands and queues a structured-sparse product with an NM24 weight operand. -/
  | mmaNm (k : CtxId) (w : FmtB)
  /-- MMA_COMPLETE (R90): An MMA leaves the array queue, streams its beats and its bank elements become readable 24 ACLK after the last beat. -/
  | mmaComplete (t : Fin 256) (f : ArrayFault)
  /-- ACCZ (R72): Sets every element of a bank to +0. -/
  | accz (k : CtxId) (w : FmtB)
  /-- ACCMV (R72): Converts part of a bank to the destination format, counting clipped values. -/
  | accmv (k : CtxId) (w : FmtB)
  /-- VOP (R131): Queues an element-wise operation on the vector engine. -/
  | vop (k : CtxId) (w : FmtB)
  /-- VBC (R132): Queues an operation against a broadcast row or column vector. -/
  | vbc (k : CtxId) (w : FmtB)
  /-- VRED (R134): Queues a reduction in the fixed chunk and butterfly order. -/
  | vred (k : CtxId) (w : FmtB)
  /-- VCVT (R133): Queues a format conversion, with scale choice and rounding for narrower destinations. -/
  | vcvt (k : CtxId) (w : FmtB)
  /-- VXA (R135): Queues an exact-cell operation: add, clear, fold, read, save, load or add raw records. -/
  | vxa (k : CtxId) (w : FmtB)
  /-- LACE_LD (R138): Loads a lace program of 1 to 32 steps from the TLS into the context's lace slot. -/
  | laceLd (k : CtxId) (w : FmtB)
  /-- LACE_RUN (R138): Queues the lace in the slot to run over each element in one pass. -/
  | laceRun (k : CtxId) (w : FmtB)
  /-- VEC_INSTR_COMPLETE (R140): A queued vector or lace instruction runs its chunks and writes its last output. -/
  | vecInstrComplete (t : Fin 256) (f : Option (Fin 1024))
  /-- SPMM (R154): Validates a compressed operand and queues a sparse times dense product that adds into RD. -/
  | spmm (k : CtxId) (w : FmtB)
  /-- SPENC (R150): Encodes a dense block into the smallest or requested compressed form, or DENSE when none is smaller. -/
  | spenc (k : CtxId) (w : FmtB)
  /-- SPDEC (R152): Validates and expands a compressed block to dense form. -/
  | spdec (k : CtxId) (w : FmtB)
  /-- SPM_INSTR_COMPLETE (R157): A queued S-unit instruction finishes its streams and its last write. -/
  | spmInstrComplete (t : Fin 256) (f : Option (Fin 256 × Fin 256))
  /-- SIEVE (R169): Queues scoring of 64 rows of logits from a bank into candidate lists in the sieve store. -/
  | sieve (k : CtxId) (w : FmtB)
  /-- SIEVE_COMPLETE (R168): The sieve reads its rows and writes each row's candidate list into the store. -/
  | sieveComplete (t : Fin 256)
  /-- SIEVE_FL (R171): Sends the context's sieve records to the step's engine and frees them. -/
  | sieveFl (k : CtxId) (w : FmtB)
  /-- ROUTE_GO (R165): Checks a routing-step descriptor and starts the step on an idle Brimir engine, returning a handle. -/
  | routeGo (k : CtxId) (w : FmtB)
  /-- ROUTE_RET (R204): Checks the return list and launches the return exchange of a step. -/
  | routeRet (k : CtxId) (w : FmtB)
  /-- ROUTE_STAT (R188): Writes the step's 256-byte statistics block. -/
  | routeStat (k : CtxId) (w : FmtB)
  /-- KWAIT (R76): Waits until a local knot is reached or the timeout passes. -/
  | kwait (k : CtxId) (w : FmtB)
  /-- KWAIT_TIMEOUT (R76): A KWAIT's timeout passes and it completes with ST_TIMEOUT, leaving the waiter list. -/
  | kwaitTimeout (k : CtxId)
  /-- KARRIVE (R14): Adds 1 to a local knot, or sends a KNOT_OP ARRIVE for a remote one. -/
  | karrive (k : CtxId) (w : FmtB)
  /-- KADD (R14): Adds an unsigned 32-bit amount to a local knot, or sends a KNOT_OP ADD for a remote one. -/
  | kadd (k : CtxId) (w : FmtB)
  /-- KSET (R14): Sets a local knot's count and target in one step and clears its TAINT. -/
  | kset (k : CtxId) (w : FmtB)
  /-- KAT (R322): Waits until the lanyard reaches a value, or completes at once with ok or timeout. -/
  | kat (k : CtxId) (w : FmtB)
  /-- KAT_WAKE (R322): The lanyard reaches a KAT's value and the waiting context resumes. -/
  | katWake (k : CtxId)
  /-- PALLOC (R232): Takes the head buffer of a pool and sets its count to 1. -/
  | palloc (k : CtxId) (w : FmtB)
  /-- PHOLD (R77): Adds 1 to a buffer's reference count. -/
  | phold (k : CtxId) (w : FmtB)
  /-- PFREE (R232): Subtracts 1 from a buffer's count and returns it to the free list at 0. -/
  | pfree (k : CtxId) (w : FmtB)
  /-- LD (R78): Loads 1 to 8 bytes from memory, the TLS, an exact cell or the pod range. -/
  | ld (k : CtxId) (w : FmtB)
  /-- ST (R78): Stores the low bytes of gRB to memory, an exact cell or the pod range. -/
  | st (k : CtxId) (w : FmtB)
  /-- ATOM (R223): Performs an atomic at the line's home slice, or sends it to the pod target. -/
  | atom (k : CtxId) (w : FmtB)
  /-- PUT (R295): Checks a transfer descriptor and starts sending data to a remote device or a hitch. -/
  | put (k : CtxId) (w : FmtB)
  /-- GET (R295): Checks a transfer descriptor and sends GET_REQ chunks for remote data. -/
  | get (k : CtxId) (w : FmtB)
  /-- FENCE (R79): Waits for tagged moves, orders memory operations and optionally waits for pod-store acknowledgements. -/
  | fence (k : CtxId) (w : FmtB)
  /-- CSRR (R80): Reads a context control register into gRD. -/
  | csrr (k : CtxId) (w : FmtB)
  /-- CSRW (R80): Writes a context control register, refusing RO registers. -/
  | csrw (k : CtxId) (w : FmtB)
  /-- EVT (R80): Raises EV_TILE_USER with a code into the tile's event queue. -/
  | evt (k : CtxId) (w : FmtB)
  /-- PERF (R80): Reads a performance counter into gRD. -/
  | perf (k : CtxId) (w : FmtB)
  /-- ADMIT_GRAPH (R25): With the admission knot ahead of TAKEN, the knot engine reads the next ring entry and admits, holds or rejects the graph. -/
  | admitGraph (n : Fin 64)
  /-- ADMIT_STALL (R27): A glove's admission has been held 10 ms without progress and the glove faults with ADMIT_STALL. -/
  | admitStall (n : Fin 64)
  /-- TASK_MAXRUN_EXCEEDED (R34): A task's run exceeds its MAXRUN and EV_KNOT_TASK_LONG is raised once. -/
  | taskMaxrunExceeded (q : Fin 4096)
  /-- TASK_WATCHDOG (R34): A task's run reaches 10 ms and its glove faults with cause WATCHDOG. -/
  | taskWatchdog (q : Fin 4096)
  /-- KNOT_OP_RECEIVE (R19): A received KNOT_OP is checked and applied to the local knot, or refused with a NAK. -/
  | knotOpReceive (x : Rx)
  /-- CREATE (R40): Checks the conditions and creates a glove in its slot, clearing its knots and making it ACTIVE. -/
  | create (n : Fin 64)
  /-- TEARDOWN (R42): Starts the teardown of a glove: stops its tasks, drains and revokes, or does nothing for an idle slot. -/
  | teardown (n : Fin 64)
  /-- GLOVE_DRAIN_DONE (R42): A tearing-down glove's queued outbound packets have been sent and its resources revoked; scrub starts. -/
  | gloveDrainDone (n : Fin 64)
  /-- GLOVE_SCRUB_DONE (R42): The scrub ends, the epoch advances, the teardown is journalled and the slot becomes RETIRED. -/
  | gloveScrubDone (n : Fin 64)
  /-- KNOT_REL (R340): A service-core store adds an amount to a knot after the hart's earlier stores apply. -/
  | knotRel (i : Fin 16384) (v : W64) (core : Fin 18)
  /-- KNOT_SVC_WRITE (R346): Sets the service-knot range unless it overlaps a glove or an enabled ring or stream uses it. -/
  | knotSvcWrite (v : W64)
  /-- TWIN_DIGEST_RECEIVE (R123): A DIGEST packet is matched and compared, applying held increments or declaring a divergence. -/
  | twinDigestReceive (x : Rx)
  /-- TWIN_RING_RECEIVE (R124): A RING packet with the twin's checkpoint ring names the first differing window. -/
  | twinRingReceive (x : Rx)
  /-- TWIN_DIGEST_MISSING (R125): The twin's digests have not arrived 10 ms after HALT and a divergence with stream MISSING is declared. -/
  | twinDigestMissing (q : Nat)
  /-- TWIN_DIGEST_DISCARD (R124): A digest held 10 ms before its own subject reaches comparison is discarded and counted. -/
  | twinDigestDiscard (j : Nat)
  /-- TILE_TEST_START (R94): Starts the tile self-test on a fenced idle tile, or reports ST_BUSY. -/
  | tileTestStart (t : Fin 256)
  /-- TILE_SELF_TEST_DONE (R94): The self-test ends and bypasses columns, lowers WIDTH or keeps the tile fenced below grade. -/
  | tileSelfTestDone (t : Fin 256) (map : W64)
  /-- TILE_CTL_WRITE (R100): A FENCE write to TILE_CTL is arbitrated and fences or releases the tile. -/
  | tileCtlWrite (t : Fin 256) (src : Fin 22) (v : W64)
  /-- BRM_LIST_INTAKE (R174): The engine takes in flushed sieve lists and merges each token once it holds all its range lists. -/
  | brmListIntake (e : Fin 2)
  /-- BRM_RANKING_DONE (R178): Merge, ranks, weights and counts are done and the counts vectors are sent to every member. -/
  | brmRankingDone (e : Fin 2)
  /-- COUNTS_PART_RECEIVE (R178): A routing counts part, or a FAIL vector, is checked and its entries held for its round. -/
  | countsPartReceive (x : Rx)
  /-- HOME_ADMIT (R180): With matching counts from every member, the home checks its queues, admits the round and sends grants. -/
  | homeAdmit (e : Fin 2)
  /-- GRANT_PART_RECEIVE (R179): A grant part is checked and its entries held until the source holds every home's grant. -/
  | grantPartReceive (x : Rx)
  /-- SOURCE_REROUTE (R182): With all first-round grants in, refused ranks move to spares and second-round counts are sent. -/
  | sourceReroute (e : Fin 2)
  /-- SOURCE_SORT (R185): After the final grants the source writes weights, sorts admitted records, builds send lists and advances ROUTED_KNOT. -/
  | sourceSort (e : Fin 2)
  /-- BRM_STEP_TIMEOUT (R190): Lists, counts or grants are missing at STEP_TIMEOUT and the step fails with ST_TIMEOUT. -/
  | brmStepTimeout (e : Fin 2)
  /-- BRM_DIR_NEXTEP_WRITE (R187): Arms, disarms or sets a pending directory, installing it at once while no directory is valid. -/
  | brmDirNextepWrite (n : Fin 64) (v : W64)
  /-- SPLICE_SEND_FRAGMENT (R200): In rotation the splice engine sends one SPLICE fragment to a destination that has rate and credit. -/
  | spliceSendFragment (e : Fin 2)
  /-- SPLICE_ROW_RECEIVE (R203): A SPLICE ROW is checked, lands its bytes and tag, and adds its length to the queue knot. -/
  | spliceRowReceive (x : Rx)
  /-- SPLICE_ABORT_RECEIVE (R203): A SPLICE ABORT adds its unsent bytes to the queue knot and sets TAINT. -/
  | spliceAbortReceive (x : Rx)
  /-- RETURN_SEND_FRAGMENT (R205): In rotation the engine sends one RETURN fragment of an expert output row to its source. -/
  | returnSendFragment (e : Fin 2)
  /-- RETURN_RESULT_RECEIVE (R203): A RETURN RESULT is checked and lands in its combine slot, counting received bytes. -/
  | returnResultReceive (x : Rx)
  /-- SPLICE_LANDING_TIMEOUT (R208): Home queues are not all reached STEP_TIMEOUT after landing opened and the step ends tainted. -/
  | spliceLandingTimeout (e : Fin 2)
  /-- RETURN_ARRIVAL_TIMEOUT (R208): Return rows are not all in STEP_TIMEOUT after ROUTE.RET and the step ends tainted. -/
  | returnArrivalTimeout (e : Fin 2)
  /-- MIG_TLBINV_GO (R213): Starts an invalidation of a glove's translations. -/
  | migTlbinvGo (v : W64)
  /-- MIG_PROMOTE (R216): A candidate page reaching the threshold is promoted to the resident partition, evicting if needed. -/
  | migPromote (page : Fin 8388608)
  /-- PIN (R218): Makes a page resident on a die and exempt from eviction. -/
  | pin (die : Fin 4) (page : Fin 8388608)
  /-- UNPIN (R218): Makes a pinned page evictable with AGE 255. -/
  | unpin (page : Fin 8388608)
  /-- DISCARD (R228): Releases a page's frame, losing its content. -/
  | discard (page : Fin 8388608)
  /-- VACATE (R227): Drains a channel into TEST. -/
  | vacate (c : Fin 256)
  /-- RESUME (R227): Retrains a channel out of TEST. -/
  | resume (c : Fin 256)
  /-- MIG_CFG_WRITE (R218): Sets migration parameters; lowering RES_WAYS evicts pages until they fit. -/
  | migCfgWrite (v : W64)
  /-- STREAM_FILL (R221): The migration engine fills a stream's window in block order as the position advances. -/
  | streamFill (n : Fin 64)
  /-- HBM_CHANNEL_DRAIN (R227): Once free frames suffice, a DEGRADED channel's frames are moved out. -/
  | hbmChannelDrain (c : Fin 256)
  /-- HBM_CHANNEL_RETRAIN_DONE (R227): A drained channel retrains with a spare lane and returns ONLINE or is RETIRED. -/
  | hbmChannelRetrainDone (c : Fin 256) (ok : Bool)
  /-- HBM_TG_START (R230): Starts a traffic-generator run on a channel in TEST when allowed. -/
  | hbmTgStart (c : Fin 256)
  /-- HBM_TG_STOP (R230): Ends a traffic-generator run after the current line. -/
  | hbmTgStop (c : Fin 256)
  /-- HBM_TG_RUN_DONE (R230): A traffic-generator run completes its passes and records errors by lane. -/
  | hbmTgRunDone (c : Fin 256) (errors : BitVec 48) (lanes : W64)
  /-- HBM_QOS_WRITE (R237): An arbitrated write of the HBM read-class weights and URGENT share. -/
  | hbmQosWrite (src : Fin 22) (v : W64)
  /-- POOL_INIT (R231): Checks a FREE pool's configuration and starts linking its buffers. -/
  | poolInit (c : Fin 256)
  /-- POOL_INIT_DONE (R231): The pool's counts are zeroed and buffers linked, and it enters READY. -/
  | poolInitDone (c : Fin 256)
  /-- POOL_RELEASE (R231): Returns a READY pool with all buffers free to FREE. -/
  | poolRelease (c : Fin 256)
  /-- POOL_RESET (R238): Resets a BROKEN pool to FREE. -/
  | poolReset (c : Fin 256)
  /-- POOL_SVC_FREE (R238): A service-core store applies PFREE to a buffer of a service pool. -/
  | poolSvcFree (c : Fin 256) (v : W64)
  /-- NVS_DIE_TIMEOUT (R235): A NAND die stays busy 10 ms past its command and is reset, retried or marked failed. -/
  | nvsDieTimeout (die : Fin 2) (cmd : W64)
  /-- LINK_FRAME_RECEIVE (R248): A link frame is checked and accepted, or discarded with a replay request; ACKs, credits and INIT are taken. -/
  | linkFrameReceive (p : Fin 32) (f : LinkFrame)
  /-- PORT_LANE_FAIL (R243): A lane fails and the port retrains without it, or goes DOWN below its minimum width. -/
  | portLaneFail (p : Fin 32) (lane : Fin 4)
  /-- PORT_RETRAIN_DONE (R243): Retraining completes and the port returns to UP at its new width. -/
  | portRetrainDone (p : Fin 32)
  /-- PORT_RETRAIN_TIMEOUT (R243): Retraining takes more than 1 ms and the port goes DOWN. -/
  | portRetrainTimeout (p : Fin 32)
  /-- PORT_RX_SILENCE (R275): No frame is received for 10 µs and the port retrains. -/
  | portRxSilence (p : Fin 32)
  /-- PORT_ENABLE (R280): Enables a port and starts its training. -/
  | portEnable (p : Fin 32) (src : Fin 22)
  /-- PORT_DISABLE (R280): Disables a port. -/
  | portDisable (p : Fin 32) (src : Fin 22)
  /-- PORT_FENCE (R280): Holds a port down by command. -/
  | portFence (p : Fin 32) (src : Fin 22)
  /-- PORT_RELEASE (R276): Releases a quarantined or fenced port, which then retrains. -/
  | portRelease (p : Fin 32) (src : Fin 22)
  /-- PORT_FI_ARM (R279): Arms the port's fault injector when lifecycle or debug state permits. -/
  | portFiArm (p : Fin 32) (v : W64)
  /-- PORT_FI_STOP (R278): Disarms the port's fault injector. -/
  | portFiStop (p : Fin 32)
  /-- FI_DELAY_EXPIRE (R278): A packet held by the injector's DELAY is released to the link. -/
  | fiDelayExpire (p : Fin 32)
  /-- PORT_OUTPUT_SEND (R258): At a packet boundary an output port picks its next packet by VC0, circuits and round robin, holding credit. -/
  | portOutputSend (p : Fin 32)
  /-- PACKET_TRANSIT (R262): A packet for another device is checked and forwarded to its routed output. -/
  | packetTransit (x : Rx)
  /-- PACKET_ESCAPE (R260): An adaptive packet waiting ESC_US for credit escapes to VC7 on deterministic routes. -/
  | packetEscape (p : Fin 32) (vc : Fin 8)
  /-- SYNC_DRAIN_EXPIRE (R261): DRAIN_US after a route change passes and the held packets go out with SYNC set. -/
  | syncDrainExpire (slot : Fin 64)
  /-- PACKET_BAD_TYPE_RECEIVE (R274): A packet with a reserved TYPE is discarded with NAK BAD_TYPE and a violation. -/
  | packetBadTypeReceive (x : Rx)
  /-- STORE_RECEIVE (R287): A remote STORE is checked for glove, translation and ownership and applied, then acknowledged. -/
  | storeReceive (x : Rx)
  /-- LOAD_REQ_RECEIVE (R287): A remote LOAD_REQ is checked and answered with a LOAD_RSP. -/
  | loadReqReceive (x : Rx)
  /-- LOAD_RSP_RECEIVE (R283): A LOAD_RSP completes the pending load or atomic that its TAG names. -/
  | loadRspReceive (x : Rx)
  /-- ATOMIC_RECEIVE (R284): A remote ATOMIC is checked, applied at the home slice and answered. -/
  | atomicReceive (x : Rx)
  /-- PUT_RECEIVE (R295): A PUT packet is checked and landed, adds to RKNOT and is acknowledged. -/
  | putReceive (x : Rx)
  /-- GET_REQ_RECEIVE (R295): A GET_REQ is checked and answered with a GET_RSP carrying the chunk. -/
  | getReqReceive (x : Rx)
  /-- GET_RSP_RECEIVE (R295): A GET_RSP lands its chunk, completing the GET when all chunks are in. -/
  | getRspReceive (x : Rx)
  /-- ACK_RECEIVE (R255): An ACK is handed to the engine that sent the original, completing stores, PUTs or circuit setups. -/
  | ackReceive (x : Rx)
  /-- NAK_RECEIVE (R255): A NAK is handed to the engine that sent the refused packet, or counted and discarded. -/
  | nakReceive (x : Rx)
  /-- CNP_RECEIVE (R266): A CNP's marks decrease the source's rate limiter for that destination. -/
  | cnpReceive (x : Rx)
  /-- CNP_SEND (R265): Marks pending CNP_GAP ns without a carrying packet are echoed in a CNP. -/
  | cnpSend (dev : BitVec 24)
  /-- RATE_LIMIT_RECOVER (R266): After RECOV_US without echo a limiter's rate rises by INC, and it is freed at full rate. -/
  | rateLimitRecover (dev : BitVec 24)
  /-- PROBE_RECEIVE (R256): A PROBE is answered with a reply, or a matching reply fills the probe result registers. -/
  | probeReceive (x : Rx)
  /-- FAB_PROBE (R256): A service-core write sends a PROBE to a device. -/
  | fabProbe (v : W64)
  /-- CIRC_SETUP_RECEIVE (R268): A CIRC_SETUP reserves a circuit slot at the hop and is forwarded, acknowledged or refused, or refreshes a slot. -/
  | circSetupReceive (x : Rx)
  /-- CIRC_TEAR_RECEIVE (R270): A CIRC_TEAR frees the circuit slot at each hop. -/
  | circTearReceive (x : Rx)
  /-- CIRC_SETUP_TIMEOUT (R268): No ACK for a setup within 100 µs and the source tears down the slots held. -/
  | circSetupTimeout (cid : W32)
  /-- CIRC_REFRESH (R270): A circuit idle for 25 µs is refreshed along its path. -/
  | circRefresh (cid : W32)
  /-- CIRC_LEASE_EXPIRE (R270): A slot with no packet or refresh for 100 µs is freed and counted. -/
  | circLeaseExpire (p : Fin 32) (s : Fin 64)
  /-- HITCH_CAST_RECEIVE (R272): A HITCH_CAST is delivered locally and replicated to the pod and branch devices. -/
  | hitchCastReceive (x : Rx)
  /-- RGN_COMMIT (R285): Validates and commits a region-table entry. -/
  | rgnCommit (i : Fin 1024)
  /-- RGN_CLEAR (R285): Clears a region-table entry. -/
  | rgnClear (i : Fin 1024)
  /-- RGN_TRANSFER (R288): Starts an ownership transfer: the entry becomes LEAVING and writes by the old owner stop. -/
  | rgnTransfer (i : Fin 1024) (owner : BitVec 24) (knot : BitVec 14)
  /-- RGN_TRANSFER_FLUSHED (R288): All writes into the region are answered and OWN_XFER is sent to the home. -/
  | rgnTransferFlushed (i : Fin 1024)
  /-- OWN_XFER_RECEIVE (R288): The home switches OWNER and OSEQ and sends OWN_GRANT and OWN_DONE, or refuses. -/
  | ownXferReceive (x : Rx)
  /-- OWN_GRANT_RECEIVE (R288): The new owner's copy takes the ownership and its knot advances. -/
  | ownGrantReceive (x : Rx)
  /-- OWN_DONE_RECEIVE (R288): The old owner's copy names the new owner and returns to STABLE. -/
  | ownDoneReceive (x : Rx)
  /-- OWN_XFER_TIMEOUT (R290): OWN_XFER gets no answer within RSP_US and the transfer reports ST_TIMEOUT. -/
  | ownXferTimeout (i : Fin 1024)
  /-- POD_RSP_TIMEOUT (R291): A remote access gets no answer within RSP_US and the glove faults. -/
  | podRspTimeout (tag : Nat)
  /-- TRANSFER_RSP_TIMEOUT (R296): A stopped transfer's outstanding answers time out and it completes tainted. -/
  | transferRspTimeout (xid : Nat)
  /-- COLL_SUBMIT (R297): A service core submits a collective descriptor to the collective engine. -/
  | collSubmit (addr : BitVec 57)
  /-- COLL_START (R297): A collective's START_KNOT is reached and the engine starts sending. -/
  | collStart (h : Fin 64)
  /-- COLL_CONTRIB_RECEIVE (R300): A CONTRIB is checked and its terms reduced into the window's cells. -/
  | collContribReceive (x : Rx)
  /-- COLL_RESULT_RECEIVE (R305): A RESULT lands in DST and its readback check is scheduled. -/
  | collResultReceive (x : Rx)
  /-- COLL_FAIL_RECEIVE (R308): A FAIL completes the collective with its status. -/
  | collFailReceive (x : Rx)
  /-- COLL_RETRY_RECEIVE (R306): A RETRY restarts the collective at the next generation. -/
  | collRetryReceive (x : Rx)
  /-- COLL_ARRIVE_RECEIVE (R299): An ARRIVE counts a member's arrival at a barrier. -/
  | collArriveReceive (x : Rx)
  /-- COLL_WINDOW_READOUT (R300): A filled window's cells are read out and the results sent. -/
  | collWindowReadout (h : Fin 64)
  /-- COLL_READBACK_DONE (R305): A readback check finishes, releasing, retrying or tainting the collective. -/
  | collReadbackDone (h : Fin 64) (good : Bool)
  /-- COLL_TIMEOUT (R308): A member is missing at TIMEOUT and the collective fails with ST_TIMEOUT. -/
  | collTimeout (h : Fin 64)
  /-- NAK_BUSY_RETRY (R302): After 1 µs a packet refused with NAK BUSY is sent again. -/
  | nakBusyRetry (j : Nat)
  /-- ALLTOALLV_COUNTS_RECEIVE (R301): An ALLTOALLV counts packet is held, and once all are in the offsets are granted. -/
  | alltoallvCountsReceive (x : Rx)
  /-- ALLTOALLV_GRANT_RECEIVE (R301): An ALLTOALLV grant gives the sender its offset and data sending starts. -/
  | alltoallvGrantReceive (x : Rx)
  /-- TIME_SYNC_RECEIVE (R317): A follower stamps an accepted SYNC and answers with REQ. -/
  | timeSyncReceive (x : Rx)
  /-- TIME_REQ_RECEIVE (R317): A master answers a REQ with RESP carrying its arrival stamp. -/
  | timeReqReceive (x : Rx)
  /-- TIME_RESP_RECEIVE (R317): A follower computes the offset and slews or steps its lanyard. -/
  | timeRespReceive (x : Rx)
  /-- PTP_MESSAGE_RECEIVE (R320): The grand master's PTP receiver processes a time message and steers UTC. -/
  | ptpMessageReceive (m : PtpMsg)
  /-- TIME_LCH_GO (R323): A service core starts a launch from a descriptor and the root sends PREPARE. -/
  | timeLchGo (addr : BitVec 57)
  /-- LAUNCH_PREPARE_RECEIVE (R325): A device checks a PREPARE, takes an entry, sends HOLD and casts onward, or refuses. -/
  | launchPrepareReceive (x : Rx)
  /-- LAUNCH_HOLD_RECEIVE (R326): A head records a branch's HOLD. -/
  | launchHoldReceive (x : Rx)
  /-- LAUNCH_ACK_RECEIVE (R327): A head aggregates an ACK, or the root decides to commit or cancel. -/
  | launchAckReceive (x : Rx)
  /-- LAUNCH_COMMIT_RECEIVE (R329): A PREPARED entry becomes COMMITTED. -/
  | launchCommitReceive (x : Rx)
  /-- LAUNCH_CANCEL_RECEIVE (R329): An entry is CANCELLED before T, or a late CANCEL is ignored. -/
  | launchCancelReceive (x : Rx)
  /-- LAUNCH_QUERY_RECEIVE (R328): The root answers a QUERY with its decision. -/
  | launchQueryReceive (x : Rx)
  /-- LAUNCH_READY (R325): READY_KNOT is reached and the device acknowledges the PREPARE. -/
  | launchReady (l : Fin 16)
  /-- LAUNCH_REACH_TIMEOUT (R326): REACH_US passes without HOLD or ACK and the head re-sends to an alternate or slot, or gives up. -/
  | launchReachTimeout (l : Fin 16) (j : Nat)
  /-- LAUNCH_DEADLINE (R328): D passes at the root without a commit and it casts CANCEL. -/
  | launchDeadline (l : Fin 16)
  /-- LAUNCH_QUERY_TIMER (R329): A PREPARED entry reaches halfway from D to T and sends QUERY to the root. -/
  | launchQueryTimer (l : Fin 16)
  /-- LAUNCH_RELEASE (R329): The lanyard reaches T: a COMMITTED entry adds 1 to its knot, a PREPARED one is ORPHANED. -/
  | launchRelease (l : Fin 16)
  /-- SVC_CORE_REFRESH (R338): A core refreshes its own watchdog. -/
  | svcCoreRefresh (core : Fin 16) (target : Fin 16)
  /-- SVC_WDOG_REFRESH (R338): Refreshes the device-wide service watchdog. -/
  | svcWdogRefresh (core : Fin 16)
  /-- ETH_TX_FRAME (R344): While the ring knot differs from TAKEN, the MAC sends the next frame and advances DONE_KNOT. -/
  | ethTxFrame (m : Fin 2) (r : Fin 16)
  /-- ETH_RX_FRAME (R344): A received frame is checked, classified, written into a pool buffer and its descriptor, or dropped. -/
  | ethRxFrame (m : Fin 2) (f : EthFrame)
  /-- ETH_RING_ENABLE (R346): Enables an Ethernet ring, refusing invalid knots or pools. -/
  | ethRingEnable (m : Fin 2) (d : Fin 2) (r : Fin 16) (v : W64)
  /-- SENSOR_SAMPLE (R350): The sensor hub samples a sensor at its period. -/
  | sensorSample (q : Sensor)
  /-- POWER_CAP_TICK (R353): The 10 kHz power-cap loop measures power and sets each C-die's ACLK. -/
  | powerCapTick (est : Nat)
  /-- AVS_READBACK (R355): A rail's read-back reaches its target and the die's clock is raised. -/
  | avsReadback (rail : Fin 6) (mv : Nat)
  /-- RAIL_ENABLE_STEP (R356): The previous rail's power-good has held 1 ms; VOUT is checked and the next enable asserted. -/
  | railEnableStep (vout : Option Nat)
  /-- PMBUS_POLL (R356): Every 1 ms the T9 reads each regulator's voltage, current and temperature. -/
  | pmbusPoll (rail : Fin 8) (r : PmbusAnswer)
  /-- CTR_CLEAR (R358): Clears every statistics counter of a block window and re-arms EV_CTR_SAT. -/
  | ctrClear (window : Fin 4096)
  /-- ARBITRATED_CONTROL_WRITE (R8): A write to an arbitrated control field fills its source's request slot for the round. -/
  | arbitratedControlWrite (off : W32) (src : Fin 22) (v : W64)
  /-- SVC_ARB_REL (R360): A source empties its request slots in a register. -/
  | svcArbRel (src : Fin 22) (v : W64)
  /-- NONCE (R379): Writes a fresh 32-byte nonce and invalidates the earlier one. -/
  | nonce (core : Fin 16)
  /-- QUOTE (R374): Writes a signed attestation quote for a nonce and glove mask. -/
  | quote (core : Fin 16)
  /-- EXTEND (R375): Extends an ACTIVE glove's measurement with a digest. -/
  | extend (core : Fin 16)
  /-- DBG_OPEN (R383): Checks a debug token and opens a D1 or D2 session. -/
  | dbgOpen (core : Fin 16)
  /-- DBG_CLOSE (R388): Closes the debug session and tears down gloves made during D2. -/
  | dbgClose (core : Fin 16)
  /-- CFG_WRITE (R372): Builds and writes a new signed configuration record into the older or invalid slot. -/
  | cfgWrite (core : Fin 16) (good : Bool × Bool)
  /-- STAGE (R366): Writes and verifies an image into the slot its KIND is not running from. -/
  | stage (core : Fin 16)
  /-- ACTIVATE (R366): Starts switching a KIND's units to the staged image. -/
  | activate (core : Fin 16)
  /-- ACTIVATE_UNIT_SWITCH (R366): A unit reaches idle and switches to the new image; the SVN floor rises when all have switched. -/
  | activateUnitSwitch (unit : Nat)
  /-- VERIFY (R390): Verifies an image and returns its digest and kind. -/
  | verify (core : Fin 16)
  /-- LIFECYCLE (R379): Checks an authority block and changes the lifecycle state. -/
  | lifecycle (core : Fin 16)
  /-- JREAD (R390): Copies journal entries out. -/
  | jread (core : Fin 16)
  /-- EXPORTED (R378): Advances SEC_JNL_EXPORTED. -/
  | exported (core : Fin 16)
  /-- MBOX_RESERVED_CMD (R390): A reserved mailbox command completes with ST_RANGE. -/
  | mboxReservedCmd (core : Fin 16) (cmd : BitVec 5)
  /-- SEC_WRITE_VIOLATION (R391): A write to the SEC_ window other than the mailbox is ignored and counted. -/
  | secWriteViolation (off : BitVec 20) (src : Fin 22)
  /-- BOOT_UART_IMAGE (R391): With no accepted security firmware, the boot ROM takes an image over UART_RX. -/
  | bootUartImage (image : List Byte)
  /-- TILE_DBG_HALT (R381): Halts a task context after its current instruction. -/
  | tileDbgHalt (t : Fin 256) (c : Fin 16)
  /-- TILE_DBG_STEP (R381): Lets a halted context issue one instruction, then halts it again. -/
  | tileDbgStep (t : Fin 256) (c : Fin 16)
  /-- TILE_DBG_RESUME (R381): Ends a context's halt. -/
  | tileDbgResume (t : Fin 256) (c : Fin 16)
  /-- TILE_DBG_VAL_WRITE (R381): Writes a selected register of a halted context. -/
  | tileDbgValWrite (t : Fin 256) (v : W64)
  /-- DBGRD (R380): TAP debug read of control space, event log and traces at D1 or D2. -/
  | dbgrd (off : W32)
  /-- DBGRW (R380): TAP debug read and write of memory and control space at D2. -/
  | dbgrw (a : BitVec 57) (v : Option W64)
  /-- PWR_REQ_P0 (R394): A request to return to P0 ungates tiles or powers dies back up. -/
  | pwrReqP0 (src : Fin 22)
  /-- PWR_REQ_P2 (R394): A request for P2 stops dispatch until running tasks retire. -/
  | pwrReqP2 (src : Fin 22)
  /-- PWR_REQ_P3 (R394): A request for P3 powers down dies with HBM4 in self-refresh. -/
  | pwrReqP3 (src : Fin 22)
  /-- PWR_REQ_P4 (R394): A request for P4 powers down dies and HBM4. -/
  | pwrReqP4 (src : Fin 22)
  /-- SOFTWARE_FULL_RESET (R413): A FULL write from rank 1 to 3 takes the software full reset; rank 4 is denied. -/
  | softwareFullReset (src : Fin 22)
  /-- RESET_RELEASE (R401): After a reset the dies are released in order through boot, rails, training and readiness. -/
  | resetRelease (r : ReleaseReport)
  /-- RST_BLOCK_TILE (R403): Resets an idle fenced tile. -/
  | rstBlockTile (t : Fin 256)
  /-- RST_BLOCK_PORT (R403): Resets a DOWN or FENCED port. -/
  | rstBlockPort (p : Fin 32)
  /-- RST_BLOCK_HBM_CHANNEL (R403): Resets an HBM4 channel in TEST or RETIRED. -/
  | rstBlockHbmChannel (c : Fin 256)
  /-- RST_BLOCK_BRIMIR (R403): Resets an idle Brimir engine. -/
  | rstBlockBrimir (e : Fin 2)
  /-- SAG_DETECT (R404): PWRWARN_N, HOLD_MON, a rail monitor or lost power-good starts a sag save. -/
  | sagDetect (cause : BitVec 4)
  /-- REGISTER_WRITE (R6): A write to a control register without a row of its own updates its fields by access code, ignoring reserved values. -/
  | registerWrite (off : W32) (src : Fin 22) (v : W64)
  /-- PMB_ALERT (R356): PMB_ALERT_N asserted: regulator status is read and faults cleared. -/
  | pmbAlert (words : List (BitVec 16)) (stays : Bool)
  /-- HBM_PARITY_ERROR (R229): A command or address parity error is retried up to 3 times, then the channel is treated as DEGRADED. -/
  | hbmParityError (c : Fin 256) (retries : Fin 4)
  /-- TASK_DISPATCH (R31): A ready task is chosen and placed on the best-scoring candidate tile when a context is free. -/
  | taskDispatch
  /-- KNOT_JOBCTL_CLEAR (R46): Clears every job-count entry. -/
  | knotJobctlClear
  /-- MIG_TLBINV_DONE (R213): No TLB holds a covered translation and accesses through them are complete; DONE reads 1. -/
  | migTlbinvDone
  /-- MIG_AGE_TICK (R217): Every AGE_US candidate counts halve and resident page ages rise. -/
  | migAgeTick
  /-- TIME_SYNC_TICK (R317): Every 10 µs a pod master sends SYNC on each alignment port. -/
  | timeSyncTick
  /-- TIME_HOLDOVER (R317): No completed exchange for 1 ms and the device enters HOLDOVER. -/
  | timeHoldover
  /-- PPS_IN_EDGE (R320): A PPS_IN rising edge is taken as a UTC second boundary. -/
  | ppsInEdge
  /-- PPS_OUT_EDGE (R321): PPS_OUT rises as the UTC value crosses a whole second. -/
  | ppsOutEdge
  /-- UTC_SOURCE_SILENT (R335): PTP or PPS_IN silent for 4 s puts UTC into HOLDOVER. -/
  | utcSourceSilent
  /-- SVC_CORE_WATCHDOG (R338): A core misses its refresh and is fenced. -/
  | svcCoreWatchdog (core : Fin 16)
  /-- SVC_CORE_CACHE_UE (R338): An uncorrectable cache error fences the service core. -/
  | svcCoreCacheUe (core : Fin 16)
  /-- SERVICE_WATCHDOG (R399): No refresh for 2 s and the device takes the service-watchdog reset. -/
  | serviceWatchdog
  /-- ETH_LINK_DOWN (R348): The link goes down and pending transmit descriptors complete with STATUS 3. -/
  | ethLinkDown (m : Fin 2)
  /-- ETH_PFC_STORM (R348): A priority paused more than 100 ms stops honouring PFC for 1 s. -/
  | ethPfcStorm (prio : Fin 8)
  /-- ETH_FLAP (R348): More than 10 link-downs in 1 s hold the port down for 1 s. -/
  | ethFlap (m : Fin 2)
  /-- ETH_LINK_RETRY (R348): Auto-negotiation or training failing for 5 s is retried every 5 s. -/
  | ethLinkRetry (m : Fin 2)
  /-- THERMAL_REQUEST_REPEAT (R354): Every 1 ms while hot, the thermal monitor repeats its lower-limit request. -/
  | thermalRequestRepeat
  /-- TELEMETRY_RECORD (R351): Every PERIOD_US the sensor hub writes a telemetry record and advances the stream knot. -/
  | telemetryRecord
  /-- DROOP_TRIP (R352): A droop detector trips and the die's ACLK is stretched. -/
  | droopTrip (die : Fin 4)
  /-- DROOP_RECOVER (R352): The rail recovers and ACLK returns to its set frequency. -/
  | droopRecover (die : Fin 4)
  /-- AVS_READBACK_TIMEOUT (R356): Read-back still off target after 1 ms holds the die at 275 MHz. -/
  | avsReadbackTimeout (rail : Fin 6) (mv : Nat)
  /-- RAIL_PGOOD_TIMEOUT (R356): Power-good missing 5 ms after enable: rails are disabled and retried once. -/
  | railPgoodTimeout
  /-- RAIL_PGOOD_LOST (R356): Power-good is lost on a rail in P0 to P2 and a sag save starts. -/
  | railPgoodLost (rail : Fin 8)
  /-- PMBUS_BUS_STUCK (R356): SDA or SCL low for 35 ms is cleared with nine clocks and a STOP. -/
  | pmbusBusStuck (scl : Bool)
  /-- ARB_ROUND_END (R360): An arbitration round ends, the effective value is set and each write completes applied or SUPERSEDED. -/
  | arbRoundEnd
  /-- DBG_D2_GLOVES_GONE (R384): Every slot is FREE or RETIRED after D2's teardowns and the D2 session opens. -/
  | dbgD2GlovesGone
  /-- DEBUG_SESSION_EXPIRE (R383): A session's DURATION passes and the device returns to D0. -/
  | debugSessionExpire
  /-- NONCE_EXPIRE (R379): A nonce older than 10 minutes becomes invalid. -/
  | nonceExpire
  /-- JOURNAL_CHECKPOINT (R376): After 1,024 entries or 1 s a signed checkpoint entry is written. -/
  | journalCheckpoint
  /-- JOURNAL_NVS_WRITE (R378): Journal entries reach the NVS ring within 10 ms, with low-space actions. -/
  | journalNvsWrite
  /-- SECURITY_VIOLATION (R391): A glitch or lockstep mismatch zeroes memory and takes the security-violation reset. -/
  | securityViolation
  /-- BYPASS (R385): TAP instruction selecting the bypass register. -/
  | bypass
  /-- IDCODE (R385): TAP instruction reading the device identification code. -/
  | idcode
  /-- EXTEST (R385): TAP boundary-scan test instruction where allowed. -/
  | extest
  /-- SAMPLE_PRELOAD (R385): TAP boundary-scan sample instruction where allowed. -/
  | samplePreload
  /-- TRST_N (R399): TRST_N low resets the TAP alone. -/
  | trstN
  /-- P2_TILE_GATE (R394): The last running task retires and the tiles' ACLK is gated. -/
  | p2TileGate
  /-- P2_AUTOWAKE (R394): A task of an ACTIVE glove becomes ready in P2 and the device returns to P0. -/
  | p2Autowake
  /-- POWER_TRANSITION_DONE (R394): A power-state transition finishes its sequence. -/
  | powerTransitionDone
  /-- PORST_N (R399): PORST_N low clears everything including sticky state and the seed. -/
  | porstN
  /-- SYSRST_N (R399): SYSRST_N low clears everything but always-on and sticky state. -/
  | sysrstN
  /-- RST_BLOCK_COLL (R403): Resets an idle collective engine. -/
  | rstBlockColl
  /-- PLL_UNLOCK (R395): A PLL loses lock and holds its domain, fencing tiles for a C-die. -/
  | pllUnlock (i : Fin 12)
  /-- PLL_RELOCK (R395): A PLL relocks and its domain's logic resumes. -/
  | pllRelock (i : Fin 12)
  /-- SAG_SAVE_COMPLETE (R406): The header page is programmed and the save is complete. -/
  | sagSaveComplete
  /-- SAG_ENERGY_SHORT (R412): VHOLD falls below 7.2 V before the save ends and programming stops. -/
  | sagEnergyShort
  /-- SAG_RESTART (R410): After a save, rail inputs good for 10 ms start the sag-restart reset. -/
  | sagRestart
  /-- PWRWARN_GLITCH (R412): A PWRWARN_N pulse shorter than 1 µs is ignored and counted. -/
  | pwrwarnGlitch
  /-- FABREF_CLK_LOST (R422): Loss of a FABREF_CLK input takes its P-die's ports DOWN. -/
  | fabrefClkLost (e : Fin 2)
  /-- ETHREF_CLK_LOST (R422): Loss of ETHREF_CLK takes E0 and E1 down. -/
  | ethrefClkLost
  /-- ETH_LINK_UP (R348): An Ethernet port's auto-negotiation and training succeed and SVC_ETH_STAT.LINK becomes 1. -/
  | ethLinkUp (m : Fin 2)
  /-- ETH_HOLDDOWN_END (R348): The 1 s hold-down after flapping ends and the port may come up again, clearing HOLDDOWN. -/
  | ethHolddownEnd (m : Fin 2)
  /-- ETH_PFC_IGNORE_END (R348): The 1 s during which E0 ignores PFC for a stormed priority ends, and PFC is honoured again. -/
  | ethPfcIgnoreEnd (prio : Fin 8)
  /-- PMBUS_STALE_END (R356): The 100 ms stale mark on a regulator's telemetry expires, clearing SNS_RAIL.STALE, and the power-cap loop uses rail telemetry again. -/
  | pmbusStaleEnd (rail : Fin 8)
  /-- PMB_ALERT_UNMASK (R356): The 1 s mask on a persistently asserted PMB_ALERT_N ends and the pin is watched again. -/
  | pmbAlertUnmask
deriving DecidableEq, Repr

end Sys2Proof
end

