-- ==== Sys2Proof/Config.lean ====
section
/-! DEFINITION. What the manual leaves open, as constants with no body: nothing can be proved of their values. The
argument of a fresh value is the state's counter `free`; the others are fixed functions of their operands. -/

namespace Sys2Proof.Config

/-- A fresh 64-bit value (random nonces, the injector's probability draws, measured values the manual leaves open). -/
opaque freeWord : Nat → W64

/-- The draw of a port's injector for the m-th matching packet since ARM: fixed by SEED and m, and not otherwise stated (R278). -/
opaque injectorDraw : W64 → Nat → W64

/-- Whether a demand access misses at its home slice (R216): the manual does not fix what the caches hold. -/
opaque freeMiss : Nat → Bool

/-- The home slice of a line by the "fixed hash" of R215. -/
opaque sliceHash : Nat → Nat

/-- The function of each transcendental vector operation at an operand (R129): only its error is bounded. -/
opaque vecFun : Nat → W32 → W32

/-- The quotient operations of R129, whose last bit is open. -/
opaque divFun : W32 → W32 → W32

/-- The device seed S that the PUF gives (R367). -/
opaque deviceSeed : BitVec 256

/-- SHA-512 of the Obvas root key, held in the boot ROM (R365). -/
opaque rootHash : BitVec 512

/-- The Obvas manufacturing CA's public key (R379, R386). -/
opaque mfgKey : BitVec 256

end Sys2Proof.Config
end

