-- ==== Sys2Proof/Machine/Tab.lean ====
section
/-! DEFINITION. Sparse tables: a list of (key, value) pairs in one canonical form, with a value that every unlisted
key reads as. Memory, the control registers and every large array of the machine are kept this way. -/

namespace Sys2Proof.Machine

/-- A sparse table. -/
abbrev Tab (α : Type) := List (Nat × α)

/-- The value at a key; an unlisted key reads as `d k`. -/
def Tab.look {α : Type} (d : Nat → α) : Tab α → Nat → α
  | [], k => d k
  | (j, v) :: t, k => if k = j then v else Tab.look d t k

/-- Lists the pair (k, v) in its place, replacing an entry of key k. -/
def Tab.enter {α : Type} (k : Nat) (v : α) : Tab α → Tab α
  | [] => [(k, v)]
  | (j, w) :: t => if k = j then (k, v) :: t else if k < j then (k, v) :: (j, w) :: t else (j, w) :: Tab.enter k v t

/-- Drops every entry of key k. -/
def Tab.drop {α : Type} (k : Nat) : Tab α → Tab α
  | [] => []
  | (j, w) :: t => if k = j then Tab.drop k t else (j, w) :: Tab.drop k t

/-- Writes v at key k, keeping the canonical form: a value equal to what an unlisted key reads as is not listed. -/
def Tab.store {α : Type} [DecidableEq α] (d : Nat → α) (t : Tab α) (k : Nat) (v : α) : Tab α :=
  if v = d k then Tab.drop k t else Tab.enter k v t

/-- Every key of the table is above k. -/
def Tab.above {α : Type} (k : Nat) : Tab α → Bool
  | [] => true
  | (j, _) :: t => decide (k < j) && Tab.above k t

/-- The canonical form: keys strictly rising, and no entry equal to what its key reads as when unlisted. -/
def Tab.wf {α : Type} [DecidableEq α] (d : Nat → α) : Tab α → Bool
  | [] => true
  | (j, v) :: t => decide (v ≠ d j) && Tab.above j t && Tab.wf d t

/-- Drops every entry whose key satisfies p. -/
def Tab.dropIf {α : Type} (p : Nat → Bool) : Tab α → Tab α
  | [] => []
  | (j, w) :: t => if p j then Tab.dropIf p t else (j, w) :: Tab.dropIf p t

end Sys2Proof.Machine
end

