-- ==== Sys2Proof/Machine/Regs.lean ====
section
/-! DEFINITION. The control registers of the manual, from its register tables: the control-space offset (R426) of each
register, the bit range of each field, and per field its access code (R6) and its value at reset. Where a table gives no
reset value ("from boot", "from configuration", "from training", "from eMRAM", "from NVS") the value is the model's
(assumptions 3 and 4). -/

namespace Sys2Proof.Machine

/-- A field's bit range, [hi:lo]. -/
structure Fld where
  hi : Nat
  lo : Nat
deriving DecidableEq, Repr

/-- The access codes of R6. -/
inductive Acc where
  | RW | RO | WO | W1C | W1S | RWS | RSV
deriving DecidableEq, Repr

/-- One field of a register table: range, access code, reset value, and whether R357 makes it a statistics counter. -/
structure FieldDef where
  hi : Nat
  lo : Nat
  acc : Acc
  rst : Nat
  ctr : Bool
deriving DecidableEq, Repr

/-- One register: its offset within the block window, the strides and counts of its indices, and its fields. -/
structure RegDef where
  base : Nat
  strides : List (Nat × Nat)
  fields : List FieldDef
deriving DecidableEq, Repr


namespace Reg

/-- `KNOT_STAT` (R45). -/
def KNOT_STAT : Nat := 0x20400000
abbrev KNOT_STAT_RUNNING : Fld := ⟨38, 26⟩
abbrev KNOT_STAT_READY : Fld := ⟨25, 13⟩
abbrev KNOT_STAT_FREE_SLOTS : Fld := ⟨12, 0⟩
/-- `KNOT_ENTRY[k]` (R45). -/
def KNOT_ENTRY (k : Nat) : Nat := 0x20480000 + 0x20 * k
abbrev KNOT_ENTRY_NWAIT : Fld := ⟨111, 98⟩
abbrev KNOT_ENTRY_WAIT_HEAD : Fld := ⟨97, 86⟩
abbrev KNOT_ENTRY_COMPARE : Fld := ⟨85, 85⟩
abbrev KNOT_ENTRY_TAINT : Fld := ⟨84, 84⟩
abbrev KNOT_ENTRY_ADMIT : Fld := ⟨83, 83⟩
abbrev KNOT_ENTRY_VALID : Fld := ⟨82, 82⟩
abbrev KNOT_ENTRY_HEAD_CTX : Fld := ⟨81, 81⟩
abbrev KNOT_ENTRY_TARGET : Fld := ⟨79, 48⟩
abbrev KNOT_ENTRY_COUNT : Fld := ⟨47, 0⟩
/-- `KNOT_GLOVE_CFG0[n]` (R45). -/
def KNOT_GLOVE_CFG0 (n : Nat) : Nat := 0x20410000 + 0x40 * n
abbrev KNOT_GLOVE_CFG0_CLIENT : Fld := ⟨63, 48⟩
abbrev KNOT_GLOVE_CFG0_EPOCH : Fld := ⟨47, 32⟩
abbrev KNOT_GLOVE_CFG0_GLOBAL_ID : Fld := ⟨31, 16⟩
abbrev KNOT_GLOVE_CFG0_CLASS : Fld := ⟨0, 0⟩
/-- `KNOT_GLOVE_CFG1[n]` (R45). -/
def KNOT_GLOVE_CFG1 (n : Nat) : Nat := 0x20410008 + 0x40 * n
abbrev KNOT_GLOVE_CFG1_TASK_MAX : Fld := ⟨44, 32⟩
abbrev KNOT_GLOVE_CFG1_KNOT_COUNT : Fld := ⟨28, 14⟩
abbrev KNOT_GLOVE_CFG1_KNOT_BASE : Fld := ⟨13, 0⟩
/-- `KNOT_GLOVE_ADM0[n]` (R45). -/
def KNOT_GLOVE_ADM0 (n : Nat) : Nat := 0x20410010 + 0x40 * n
abbrev KNOT_GLOVE_ADM0_RING_LOG2 : Fld := ⟨60, 57⟩
abbrev KNOT_GLOVE_ADM0_RING_BASE : Fld := ⟨56, 0⟩
/-- `KNOT_GLOVE_ADM1[n]` (R45). -/
def KNOT_GLOVE_ADM1 (n : Nat) : Nat := 0x20410018 + 0x40 * n
abbrev KNOT_GLOVE_ADM1_ADM_KNOT : Fld := ⟨61, 48⟩
abbrev KNOT_GLOVE_ADM1_TAKEN : Fld := ⟨47, 0⟩
/-- `KNOT_GLOVE_PT[n]` (R45). -/
def KNOT_GLOVE_PT (n : Nat) : Nat := 0x20410020 + 0x40 * n
abbrev KNOT_GLOVE_PT_ROOT : Fld := ⟨56, 12⟩
/-- `KNOT_GLOVE_CTL[n]` (R45). -/
def KNOT_GLOVE_CTL (n : Nat) : Nat := 0x20410028 + 0x40 * n
abbrev KNOT_GLOVE_CTL_REMOTE_NAK : Fld := ⟨27, 20⟩
abbrev KNOT_GLOVE_CTL_CAUSE : Fld := ⟨19, 12⟩
abbrev KNOT_GLOVE_CTL_STATUS : Fld := ⟨11, 8⟩
abbrev KNOT_GLOVE_CTL_STATE : Fld := ⟨6, 4⟩
abbrev KNOT_GLOVE_CTL_CMD : Fld := ⟨3, 0⟩
/-- `KNOT_GLOVE_STEP[n]` (R45). -/
def KNOT_GLOVE_STEP (n : Nat) : Nat := 0x20410030 + 0x40 * n
abbrev KNOT_GLOVE_STEP_LAST_STEP : Fld := ⟨63, 0⟩
/-- `KNOT_JOBCTL` (R46). -/
def KNOT_JOBCTL : Nat := 0x20400008
abbrev KNOT_JOBCTL_CLEAR : Fld := ⟨0, 0⟩
/-- `KNOT_JOBCLI[m]` (R46). -/
def KNOT_JOBCLI (m : Nat) : Nat := 0x20420000 + 0x10 * m
abbrev KNOT_JOBCLI_VALID : Fld := ⟨16, 16⟩
abbrev KNOT_JOBCLI_CLIENT : Fld := ⟨15, 0⟩
/-- `KNOT_JOBCNT[m]` (R46). -/
def KNOT_JOBCNT (m : Nat) : Nat := 0x20420008 + 0x10 * m
abbrev KNOT_JOBCNT_OVF : Fld := ⟨63, 63⟩
abbrev KNOT_JOBCNT_COUNT : Fld := ⟨47, 0⟩
/-- `TILE_CAP` (R100). -/
def TILE_CAP (t : Nat) : Nat := 0x0 + 0x100000 * t
abbrev TILE_CAP_NM : Fld := ⟨19, 16⟩
abbrev TILE_CAP_FENCED : Fld := ⟨15, 15⟩
abbrev TILE_CAP_ROWS : Fld := ⟨14, 8⟩
abbrev TILE_CAP_WIDTH : Fld := ⟨6, 0⟩
/-- `TILE_COLMAP` (R100). -/
def TILE_COLMAP (t : Nat) : Nat := 0x8 + 0x100000 * t
abbrev TILE_COLMAP_BYPASS : Fld := ⟨63, 0⟩
/-- `TILE_CTL` (R100). -/
def TILE_CTL (t : Nat) : Nat := 0x10 + 0x100000 * t
abbrev TILE_CTL_FENCE : Fld := ⟨0, 0⟩
/-- `TILE_TEST` (R100). -/
def TILE_TEST (t : Nat) : Nat := 0x18 + 0x100000 * t
abbrev TILE_TEST_STATUS : Fld := ⟨11, 8⟩
abbrev TILE_TEST_RESULT : Fld := ⟨5, 4⟩
abbrev TILE_TEST_RUNNING : Fld := ⟨1, 1⟩
abbrev TILE_TEST_START : Fld := ⟨0, 0⟩
/-- `TILE_TESTMAP` (R100). -/
def TILE_TESTMAP (t : Nat) : Nat := 0x20 + 0x100000 * t
abbrev TILE_TESTMAP_FAILMAP : Fld := ⟨63, 0⟩
/-- `TILE_ARRAY_CNT` (R100). -/
def TILE_ARRAY_CNT (t : Nat) : Nat := 0x28 + 0x100000 * t
abbrev TILE_ARRAY_CNT_OVF : Fld := ⟨63, 63⟩
abbrev TILE_ARRAY_CNT_RESIDUE : Fld := ⟨62, 48⟩
abbrev TILE_ARRAY_CNT_FOLDS : Fld := ⟨47, 0⟩
/-- `KNOT_GLOVE_TWIN[n]` (R125). -/
def KNOT_GLOVE_TWIN (n : Nat) : Nat := 0x20410038 + 0x40 * n
abbrev KNOT_GLOVE_TWIN_PARTNER_GLOVE : Fld := ⟨42, 27⟩
abbrev KNOT_GLOVE_TWIN_PARTNER_DEV : Fld := ⟨26, 3⟩
abbrev KNOT_GLOVE_TWIN_ENABLE : Fld := ⟨0, 0⟩
/-- `KNOT_TWIN_DIV0` (R125). -/
def KNOT_TWIN_DIV0 : Nat := 0x20400100
abbrev KNOT_TWIN_DIV0_VALID : Fld := ⟨63, 63⟩
abbrev KNOT_TWIN_DIV0_WRAPPED : Fld := ⟨62, 62⟩
abbrev KNOT_TWIN_DIV0_GLOVE_SLOT : Fld := ⟨61, 56⟩
abbrev KNOT_TWIN_DIV0_STREAM : Fld := ⟨55, 53⟩
abbrev KNOT_TWIN_DIV0_WINDOW : Fld := ⟨52, 47⟩
abbrev KNOT_TWIN_DIV0_TASK : Fld := ⟨46, 35⟩
abbrev KNOT_TWIN_DIV0_SUBJECT : Fld := ⟨34, 33⟩
/-- `KNOT_TWIN_DIV1` (R125). -/
def KNOT_TWIN_DIV1 : Nat := 0x20400108
abbrev KNOT_TWIN_DIV1_STEP : Fld := ⟨63, 0⟩
/-- `KNOT_TWIN_DIV2` (R125). -/
def KNOT_TWIN_DIV2 : Nat := 0x20400110
abbrev KNOT_TWIN_DIV2_GRAPH : Fld := ⟨47, 0⟩
/-- `KNOT_TWIN_DIV3` (R125). -/
def KNOT_TWIN_DIV3 : Nat := 0x20400118
abbrev KNOT_TWIN_DIV3_LOCAL_DIGEST : Fld := ⟨63, 0⟩
/-- `KNOT_TWIN_DIV4` (R125). -/
def KNOT_TWIN_DIV4 : Nat := 0x20400120
abbrev KNOT_TWIN_DIV4_PARTNER_DIGEST : Fld := ⟨63, 0⟩
/-- `TILE_VEC_CNT` (R142). -/
def TILE_VEC_CNT (t : Nat) : Nat := 0x40 + 0x100000 * t
abbrev TILE_VEC_CNT_OVF : Fld := ⟨63, 63⟩
abbrev TILE_VEC_CNT_CELL_UE : Fld := ⟨62, 48⟩
abbrev TILE_VEC_CNT_BUSY : Fld := ⟨47, 0⟩
/-- `TILE_SPM_CFG` (R162). -/
def TILE_SPM_CFG (t : Nat) : Nat := 0x50 + 0x100000 * t
abbrev TILE_SPM_CFG_HEAVY : Fld := ⟨16, 0⟩
/-- `TILE_SPM_CNT0` (R162). -/
def TILE_SPM_CNT0 (t : Nat) : Nat := 0x58 + 0x100000 * t
abbrev TILE_SPM_CNT0_OVF : Fld := ⟨63, 63⟩
abbrev TILE_SPM_CNT0_AVOIDED : Fld := ⟨47, 0⟩
/-- `TILE_SPM_CNT1` (R162). -/
def TILE_SPM_CNT1 (t : Nat) : Nat := 0x60 + 0x100000 * t
abbrev TILE_SPM_CNT1_OVF : Fld := ⟨63, 63⟩
abbrev TILE_SPM_CNT1_BUF_UE : Fld := ⟨62, 48⟩
abbrev TILE_SPM_CNT1_HEAVY_ROWS : Fld := ⟨47, 0⟩
/-- `TILE_SPM_CNT2` (R162). -/
def TILE_SPM_CNT2 (t : Nat) : Nat := 0x68 + 0x100000 * t
abbrev TILE_SPM_CNT2_OVF : Fld := ⟨63, 63⟩
abbrev TILE_SPM_CNT2_CONFLICT : Fld := ⟨47, 0⟩
/-- `BRM_ENG_STAT[e]` (R191). -/
def BRM_ENG_STAT (e : Nat) : Nat := 0x20100000 + 0x100 * e
abbrev BRM_ENG_STAT_SEQ : Fld := ⟨47, 16⟩
abbrev BRM_ENG_STAT_PHASE : Fld := ⟨15, 12⟩
abbrev BRM_ENG_STAT_GLOVE : Fld := ⟨5, 0⟩
/-- `BRM_ENG_ERR[e]` (R191). -/
def BRM_ENG_ERR (e : Nat) : Nat := 0x20100008 + 0x100 * e
abbrev BRM_ENG_ERR_VALID : Fld := ⟨63, 63⟩
abbrev BRM_ENG_ERR_MEMBER : Fld := ⟨59, 48⟩
abbrev BRM_ENG_ERR_STEP_TAG : Fld := ⟨47, 16⟩
abbrev BRM_ENG_ERR_REASON : Fld := ⟨15, 8⟩
abbrev BRM_ENG_ERR_STATUS : Fld := ⟨3, 0⟩
/-- `BRM_ENG_CNT0[e]` (R191). -/
def BRM_ENG_CNT0 (e : Nat) : Nat := 0x20100010 + 0x100 * e
abbrev BRM_ENG_CNT0_OVF : Fld := ⟨63, 63⟩
abbrev BRM_ENG_CNT0_FAILED : Fld := ⟨62, 48⟩
abbrev BRM_ENG_CNT0_STEPS : Fld := ⟨47, 0⟩
/-- `BRM_ENG_CNT1[e]` (R191). -/
def BRM_ENG_CNT1 (e : Nat) : Nat := 0x20100018 + 0x100 * e
abbrev BRM_ENG_CNT1_OVF : Fld := ⟨63, 63⟩
abbrev BRM_ENG_CNT1_CHOICES : Fld := ⟨47, 0⟩
/-- `BRM_ENG_CNT2[e]` (R191). -/
def BRM_ENG_CNT2 (e : Nat) : Nat := 0x20100020 + 0x100 * e
abbrev BRM_ENG_CNT2_OVF : Fld := ⟨63, 63⟩
abbrev BRM_ENG_CNT2_HOME_REFUSED : Fld := ⟨47, 0⟩
/-- `BRM_COIL_ERR` (R191). -/
def BRM_COIL_ERR : Nat := 0x20100200
abbrev BRM_COIL_ERR_OVF : Fld := ⟨63, 63⟩
abbrev BRM_COIL_ERR_UE : Fld := ⟨62, 48⟩
abbrev BRM_COIL_ERR_CE : Fld := ⟨47, 0⟩
/-- `BRM_DIR_CUR[n]` (R191). -/
def BRM_DIR_CUR (n : Nat) : Nat := 0x20110000 + 0x20 * n
abbrev BRM_DIR_CUR_BASE : Fld := ⟨56, 0⟩
/-- `BRM_DIR_CUREP[n]` (R191). -/
def BRM_DIR_CUREP (n : Nat) : Nat := 0x20110008 + 0x20 * n
abbrev BRM_DIR_CUREP_VALID : Fld := ⟨16, 16⟩
abbrev BRM_DIR_CUREP_EPOCH : Fld := ⟨15, 0⟩
/-- `BRM_DIR_NEXT[n]` (R191). -/
def BRM_DIR_NEXT (n : Nat) : Nat := 0x20110010 + 0x20 * n
abbrev BRM_DIR_NEXT_BASE : Fld := ⟨56, 0⟩
/-- `BRM_DIR_NEXTEP[n]` (R191). -/
def BRM_DIR_NEXTEP (n : Nat) : Nat := 0x20110018 + 0x20 * n
abbrev BRM_DIR_NEXTEP_ARMED : Fld := ⟨17, 17⟩
abbrev BRM_DIR_NEXTEP_EPOCH : Fld := ⟨15, 0⟩
/-- `SPL_STAT` (R210). -/
def SPL_STAT : Nat := 0x20200000
abbrev SPL_STAT_RET_B : Fld := ⟨3, 3⟩
abbrev SPL_STAT_RET_A : Fld := ⟨2, 2⟩
abbrev SPL_STAT_DISP_B : Fld := ⟨1, 1⟩
abbrev SPL_STAT_DISP_A : Fld := ⟨0, 0⟩
/-- `SPL_ERR` (R210). -/
def SPL_ERR : Nat := 0x20200008
abbrev SPL_ERR_VALID : Fld := ⟨63, 63⟩
abbrev SPL_ERR_ENGINE : Fld := ⟨62, 62⟩
abbrev SPL_ERR_KIND : Fld := ⟨61, 59⟩
abbrev SPL_ERR_NAK : Fld := ⟨58, 51⟩
abbrev SPL_ERR_MEMBER : Fld := ⟨43, 32⟩
abbrev SPL_ERR_STEP_TAG : Fld := ⟨31, 0⟩
/-- `SPL_CNT0` (R210). -/
def SPL_CNT0 : Nat := 0x20200010
abbrev SPL_CNT0_OVF : Fld := ⟨63, 63⟩
abbrev SPL_CNT0_SPLICE_SENT : Fld := ⟨47, 0⟩
/-- `SPL_CNT1` (R210). -/
def SPL_CNT1 : Nat := 0x20200018
abbrev SPL_CNT1_OVF : Fld := ⟨63, 63⟩
abbrev SPL_CNT1_RETURN_SENT : Fld := ⟨47, 0⟩
/-- `SPL_CNT2` (R210). -/
def SPL_CNT2 : Nat := 0x20200020
abbrev SPL_CNT2_OVF : Fld := ⟨63, 63⟩
abbrev SPL_CNT2_TAINTED : Fld := ⟨62, 48⟩
abbrev SPL_CNT2_REFUSED : Fld := ⟨47, 0⟩
/-- `SPL_CNT3` (R210). -/
def SPL_CNT3 : Nat := 0x20200028
abbrev SPL_CNT3_OVF : Fld := ⟨63, 63⟩
abbrev SPL_CNT3_PASSED : Fld := ⟨47, 0⟩
/-- `MIG_CFG` (R236). -/
def MIG_CFG : Nat := 0x20600000
abbrev MIG_CFG_STREAM_PAGES : Fld := ⟨44, 32⟩
abbrev MIG_CFG_AGE_US : Fld := ⟨31, 24⟩
abbrev MIG_CFG_PROMOTE : Fld := ⟨23, 20⟩
abbrev MIG_CFG_RES_WAYS : Fld := ⟨19, 16⟩
/-- `MIG_CMD` (R236). -/
def MIG_CMD : Nat := 0x20600008
abbrev MIG_CMD_STATUS : Fld := ⟨39, 36⟩
abbrev MIG_CMD_CMD : Fld := ⟨35, 32⟩
abbrev MIG_CMD_DIE : Fld := ⟨31, 30⟩
abbrev MIG_CMD_ARG : Fld := ⟨22, 0⟩
/-- `MIG_STAT` (R236). -/
def MIG_STAT : Nat := 0x20600010
abbrev MIG_STAT_FREE_FRAMES : Fld := ⟨63, 40⟩
abbrev MIG_STAT_RESIDENT : Fld := ⟨39, 27⟩
abbrev MIG_STAT_PINNED : Fld := ⟨26, 14⟩
abbrev MIG_STAT_STREAMED : Fld := ⟨13, 1⟩
abbrev MIG_STAT_BUSY : Fld := ⟨0, 0⟩
/-- `MIG_TLBINV` (R236). -/
def MIG_TLBINV : Nat := 0x20600018
abbrev MIG_TLBINV_DONE : Fld := ⟨63, 63⟩
abbrev MIG_TLBINV_SLOT : Fld := ⟨62, 57⟩
abbrev MIG_TLBINV_VPAGE : Fld := ⟨56, 16⟩
abbrev MIG_TLBINV_COUNT_M1 : Fld := ⟨15, 8⟩
abbrev MIG_TLBINV_ALL : Fld := ⟨1, 1⟩
abbrev MIG_TLBINV_GO : Fld := ⟨0, 0⟩
/-- `MIG_CNT0` (R236). -/
def MIG_CNT0 : Nat := 0x20600020
abbrev MIG_CNT0_OVF : Fld := ⟨63, 63⟩
abbrev MIG_CNT0_NO_FRAME : Fld := ⟨62, 48⟩
abbrev MIG_CNT0_PROMOTED : Fld := ⟨47, 0⟩
/-- `MIG_CNT1` (R236). -/
def MIG_CNT1 : Nat := 0x20600028
abbrev MIG_CNT1_OVF : Fld := ⟨63, 63⟩
abbrev MIG_CNT1_FILL_WAIT : Fld := ⟨47, 0⟩
/-- `HBM_QOS` (R237). -/
def HBM_QOS : Nat := 0x20800000
abbrev HBM_QOS_URG_MAX : Fld := ⟨31, 24⟩
abbrev HBM_QOS_W_NORMAL : Fld := ⟨23, 16⟩
abbrev HBM_QOS_W_STREAM : Fld := ⟨15, 8⟩
abbrev HBM_QOS_W_BACKGROUND : Fld := ⟨7, 0⟩
/-- `HBM_CNT0` (R237). -/
def HBM_CNT0 : Nat := 0x20800008
abbrev HBM_CNT0_OVF : Fld := ⟨63, 63⟩
abbrev HBM_CNT0_URG_DEMOTED : Fld := ⟨47, 0⟩
/-- `HBM_CH_STAT[c]` (R237). -/
def HBM_CH_STAT (c : Nat) : Nat := 0x20810000 + 0x40 * c
abbrev HBM_CH_STAT_STATE : Fld := ⟨63, 61⟩
abbrev HBM_CH_STAT_SPARES : Fld := ⟨60, 59⟩
abbrev HBM_CH_STAT_FAILED_LANE : Fld := ⟨55, 48⟩
abbrev HBM_CH_STAT_UE : Fld := ⟨47, 32⟩
abbrev HBM_CH_STAT_FRAMES_USED : Fld := ⟨15, 0⟩
/-- `HBM_CH_CE[c]` (R237). -/
def HBM_CH_CE (c : Nat) : Nat := 0x20810008 + 0x40 * c
abbrev HBM_CH_CE_OVF : Fld := ⟨63, 63⟩
abbrev HBM_CH_CE_CE : Fld := ⟨47, 0⟩
/-- `HBM_TG_CTL[c]` (R237). -/
def HBM_TG_CTL (c : Nat) : Nat := 0x20810010 + 0x40 * c
abbrev HBM_TG_CTL_SEED : Fld := ⟨63, 32⟩
abbrev HBM_TG_CTL_PATTERN : Fld := ⟨27, 24⟩
abbrev HBM_TG_CTL_STATUS : Fld := ⟨23, 20⟩
abbrev HBM_TG_CTL_PASSES : Fld := ⟨15, 8⟩
abbrev HBM_TG_CTL_STOP : Fld := ⟨1, 1⟩
abbrev HBM_TG_CTL_START : Fld := ⟨0, 0⟩
/-- `HBM_TG_RES[c]` (R237). -/
def HBM_TG_RES (c : Nat) : Nat := 0x20810018 + 0x40 * c
abbrev HBM_TG_RES_RUNNING : Fld := ⟨63, 63⟩
abbrev HBM_TG_RES_ERRORS : Fld := ⟨47, 0⟩
/-- `HBM_TG_LANES[c]` (R237). -/
def HBM_TG_LANES (c : Nat) : Nat := 0x20810020 + 0x40 * c
abbrev HBM_TG_LANES_LANES : Fld := ⟨63, 0⟩
/-- `POOL_CFG0[p]` (R238). -/
def POOL_CFG0 (p : Nat) : Nat := 0x20710000 + 0x20 * p
abbrev POOL_CFG0_BASE : Fld := ⟨56, 0⟩
/-- `POOL_CFG1[p]` (R238). -/
def POOL_CFG1 (p : Nat) : Nat := 0x20710008 + 0x20 * p
abbrev POOL_CFG1_SLOT : Fld := ⟨63, 58⟩
abbrev POOL_CFG1_SIZE_LOG2 : Fld := ⟨57, 53⟩
abbrev POOL_CFG1_SVC : Fld := ⟨52, 52⟩
abbrev POOL_CFG1_NBUF : Fld := ⟨31, 0⟩
/-- `POOL_CFG2[p]` (R238). -/
def POOL_CFG2 (p : Nat) : Nat := 0x20710010 + 0x20 * p
abbrev POOL_CFG2_COUNTS : Fld := ⟨56, 0⟩
/-- `POOL_STAT[p]` (R238). -/
def POOL_STAT (p : Nat) : Nat := 0x20710018 + 0x20 * p
abbrev POOL_STAT_STATE : Fld := ⟨63, 61⟩
abbrev POOL_STAT_STATUS : Fld := ⟨55, 52⟩
abbrev POOL_STAT_CMD : Fld := ⟨51, 48⟩
abbrev POOL_STAT_FREE : Fld := ⟨31, 0⟩
/-- `POOL_SVC_FREE[p]` (R238). -/
def POOL_SVC_FREE (p : Nat) : Nat := 0x20720000 + 0x8 * p
abbrev POOL_SVC_FREE_ADDR : Fld := ⟨56, 0⟩
/-- `NVS_STAT` (R239). -/
def NVS_STAT : Nat := 0x20e00000
abbrev NVS_STAT_BAD_BLOCKS : Fld := ⟨63, 48⟩
abbrev NVS_STAT_WEAR : Fld := ⟨39, 32⟩
abbrev NVS_STAT_SPARES : Fld := ⟨31, 16⟩
abbrev NVS_STAT_DIE_FAIL : Fld := ⟨2, 2⟩
abbrev NVS_STAT_READONLY : Fld := ⟨1, 1⟩
abbrev NVS_STAT_READY : Fld := ⟨0, 0⟩
/-- `NVS_CNT0` (R239). -/
def NVS_CNT0 : Nat := 0x20e00008
abbrev NVS_CNT0_OVF : Fld := ⟨63, 63⟩
abbrev NVS_CNT0_UE : Fld := ⟨62, 48⟩
abbrev NVS_CNT0_CE : Fld := ⟨47, 0⟩
/-- `NVS_CNT1` (R239). -/
def NVS_CNT1 : Nat := 0x20e00010
abbrev NVS_CNT1_OVF : Fld := ⟨63, 63⟩
abbrev NVS_CNT1_WRITTEN : Fld := ⟨47, 0⟩
/-- `FAB_PROBE` (R256). -/
def FAB_PROBE : Nat := 0x20500030
abbrev FAB_PROBE_DEST : Fld := ⟨63, 40⟩
abbrev FAB_PROBE_PID : Fld := ⟨31, 0⟩
/-- `FAB_PROBE_RES0` (R256). -/
def FAB_PROBE_RES0 : Nat := 0x20500038
abbrev FAB_PROBE_RES0_VALID : Fld := ⟨63, 63⟩
abbrev FAB_PROBE_RES0_IN_PORT : Fld := ⟨62, 57⟩
abbrev FAB_PROBE_RES0_DROPPED : Fld := ⟨47, 32⟩
abbrev FAB_PROBE_RES0_PID : Fld := ⟨31, 0⟩
/-- `FAB_PROBE_RES1` (R256). -/
def FAB_PROBE_RES1 : Nat := 0x20500040
abbrev FAB_PROBE_RES1_RTT_NS : Fld := ⟨63, 32⟩
abbrev FAB_PROBE_RES1_OUT_NS : Fld := ⟨31, 0⟩
/-- `PORT_CFG[p]` (R280). -/
def PORT_CFG (p : Nat) : Nat := 0x10000000 + 0x100000 * p
abbrev PORT_CFG_MIN_WIDTH : Fld := ⟨18, 16⟩
abbrev PORT_CFG_CMD : Fld := ⟨15, 12⟩
abbrev PORT_CFG_TIME_OK : Fld := ⟨9, 9⟩
abbrev PORT_CFG_MGMT_OK : Fld := ⟨8, 8⟩
abbrev PORT_CFG_CIRC_MAX : Fld := ⟨6, 0⟩
/-- `PORT_STAT[p]` (R280). -/
def PORT_STAT (p : Nat) : Nat := 0x10000008 + 0x100000 * p
abbrev PORT_STAT_PARTNER : Fld := ⟨63, 40⟩
abbrev PORT_STAT_PDEV : Fld := ⟨39, 39⟩
abbrev PORT_STAT_LANES : Fld := ⟨35, 32⟩
abbrev PORT_STAT_STATUS : Fld := ⟨31, 28⟩
abbrev PORT_STAT_STATE : Fld := ⟨2, 0⟩
/-- `PORT_CREDIT[p]` (R280). -/
def PORT_CREDIT (p : Nat) : Nat := 0x10000010 + 0x100000 * p
abbrev PORT_CREDIT_SHARED : Fld := ⟨58, 48⟩
abbrev PORT_CREDIT_RSVD : Fld := ⟨15, 8⟩
/-- `PORT_CNT0[p]` (R280). -/
def PORT_CNT0 (p : Nat) : Nat := 0x10000018 + 0x100000 * p
abbrev PORT_CNT0_OVF : Fld := ⟨63, 63⟩
abbrev PORT_CNT0_TX_FLITS : Fld := ⟨47, 0⟩
/-- `PORT_CNT1[p]` (R280). -/
def PORT_CNT1 (p : Nat) : Nat := 0x10000020 + 0x100000 * p
abbrev PORT_CNT1_OVF : Fld := ⟨63, 63⟩
abbrev PORT_CNT1_RX_FLITS : Fld := ⟨47, 0⟩
/-- `PORT_CNT2[p]` (R280). -/
def PORT_CNT2 (p : Nat) : Nat := 0x10000028 + 0x100000 * p
abbrev PORT_CNT2_OVF : Fld := ⟨63, 63⟩
abbrev PORT_CNT2_RETRAINS : Fld := ⟨62, 48⟩
abbrev PORT_CNT2_REPLAYS : Fld := ⟨47, 0⟩
/-- `PORT_CNT3[p]` (R280). -/
def PORT_CNT3 (p : Nat) : Nat := 0x10000030 + 0x100000 * p
abbrev PORT_CNT3_OVF : Fld := ⟨63, 63⟩
abbrev PORT_CNT3_NAK_DROPPED : Fld := ⟨62, 48⟩
abbrev PORT_CNT3_CRC_ERR : Fld := ⟨47, 0⟩
/-- `PORT_CNT4[p]` (R280). -/
def PORT_CNT4 (p : Nat) : Nat := 0x10000048 + 0x100000 * p
abbrev PORT_CNT4_OVF : Fld := ⟨63, 63⟩
abbrev PORT_CNT4_FORCED : Fld := ⟨62, 48⟩
abbrev PORT_CNT4_CM_SET : Fld := ⟨47, 0⟩
/-- `PORT_VIOL[p]` (R280). -/
def PORT_VIOL (p : Nat) : Nat := 0x10000038 + 0x100000 * p
abbrev PORT_VIOL_VALID : Fld := ⟨63, 63⟩
abbrev PORT_VIOL_LAST : Fld := ⟨62, 56⟩
abbrev PORT_VIOL_COUNT : Fld := ⟨47, 0⟩
/-- `PORT_VIOL_CFG[p]` (R280). -/
def PORT_VIOL_CFG (p : Nat) : Nat := 0x10000040 + 0x100000 * p
abbrev PORT_VIOL_CFG_WINDOW_MS : Fld := ⟨31, 16⟩
abbrev PORT_VIOL_CFG_THRESH : Fld := ⟨15, 0⟩
/-- `PORT_CIRC[p][s]` (R280). -/
def PORT_CIRC (p : Nat) (s : Nat) : Nat := 0x10010000 + 0x100000 * p + 0x8 * s
abbrev PORT_CIRC_VALID : Fld := ⟨63, 63⟩
abbrev PORT_CIRC_IN_PORT : Fld := ⟨62, 57⟩
abbrev PORT_CIRC_IN_CIRC : Fld := ⟨56, 50⟩
abbrev PORT_CIRC_SHARE : Fld := ⟨49, 43⟩
abbrev PORT_CIRC_EPOCH : Fld := ⟨31, 16⟩
abbrev PORT_CIRC_GLOVE : Fld := ⟨15, 0⟩
/-- `PORT_FI_CTL[p]` (R280). -/
def PORT_FI_CTL (p : Nat) : Nat := 0x10000100 + 0x100000 * p
abbrev PORT_FI_CTL_BIT : Fld := ⟨56, 48⟩
abbrev PORT_FI_CTL_DELAY : Fld := ⟨47, 32⟩
abbrev PORT_FI_CTL_VCMASK : Fld := ⟨31, 24⟩
abbrev PORT_FI_CTL_TYPE : Fld := ⟨23, 18⟩
abbrev PORT_FI_CTL_LEVEL : Fld := ⟨17, 16⟩
abbrev PORT_FI_CTL_ACTION : Fld := ⟨15, 14⟩
abbrev PORT_FI_CTL_TRIGGER : Fld := ⟨13, 12⟩
abbrev PORT_FI_CTL_STATUS : Fld := ⟨11, 8⟩
abbrev PORT_FI_CTL_ARMED : Fld := ⟨2, 2⟩
abbrev PORT_FI_CTL_STOP : Fld := ⟨1, 1⟩
abbrev PORT_FI_CTL_ARM : Fld := ⟨0, 0⟩
/-- `PORT_FI_TRIG[p]` (R280). -/
def PORT_FI_TRIG (p : Nat) : Nat := 0x10000108 + 0x100000 * p
abbrev PORT_FI_TRIG_N : Fld := ⟨63, 32⟩
abbrev PORT_FI_TRIG_LIMIT : Fld := ⟨31, 16⟩
abbrev PORT_FI_TRIG_SEQ : Fld := ⟨15, 0⟩
/-- `PORT_FI_CNT[p]` (R280). -/
def PORT_FI_CNT (p : Nat) : Nat := 0x10000110 + 0x100000 * p
abbrev PORT_FI_CNT_OVF : Fld := ⟨63, 63⟩
abbrev PORT_FI_CNT_FIRED : Fld := ⟨47, 0⟩
/-- `PORT_FI_SEED[p]` (R280). -/
def PORT_FI_SEED (p : Nat) : Nat := 0x10000118 + 0x100000 * p
abbrev PORT_FI_SEED_SEED : Fld := ⟨63, 0⟩
/-- `FAB_CFG` (R281). -/
def FAB_CFG : Nat := 0x20500000
abbrev FAB_CFG_SELF : Fld := ⟨63, 40⟩
abbrev FAB_CFG_DRAIN_US : Fld := ⟨31, 24⟩
abbrev FAB_CFG_ESC_US : Fld := ⟨23, 16⟩
abbrev FAB_CFG_ADAPT : Fld := ⟨0, 0⟩
/-- `FAB_AMASK` (R281). -/
def FAB_AMASK : Nat := 0x20500008
abbrev FAB_AMASK_MASK : Fld := ⟨23, 0⟩
/-- `FAB_CM` (R281). -/
def FAB_CM : Nat := 0x20500010
abbrev FAB_CM_CNP_GAP : Fld := ⟨31, 16⟩
abbrev FAB_CM_THRESH : Fld := ⟨15, 0⟩
/-- `FAB_RATE` (R281). -/
def FAB_RATE : Nat := 0x20500018
abbrev FAB_RATE_RECOV_US : Fld := ⟨47, 40⟩
abbrev FAB_RATE_HOLD_US : Fld := ⟨39, 32⟩
abbrev FAB_RATE_MIN : Fld := ⟨31, 22⟩
abbrev FAB_RATE_INC : Fld := ⟨21, 12⟩
abbrev FAB_RATE_DEC : Fld := ⟨3, 0⟩
/-- `FAB_CNT0` (R281). -/
def FAB_CNT0 : Nat := 0x20500020
abbrev FAB_CNT0_OVF : Fld := ⟨63, 63⟩
abbrev FAB_CNT0_ESCAPED : Fld := ⟨62, 48⟩
abbrev FAB_CNT0_CNP_SENT : Fld := ⟨47, 0⟩
/-- `FAB_CNT1` (R281). -/
def FAB_CNT1 : Nat := 0x20500028
abbrev FAB_CNT1_OVF : Fld := ⟨63, 63⟩
abbrev FAB_CNT1_ORDER_NAK : Fld := ⟨62, 48⟩
abbrev FAB_CNT1_MARKED : Fld := ⟨47, 0⟩
/-- `FAB_DROUTE[s]` (R281). -/
def FAB_DROUTE (s : Nat) : Nat := 0x20510000 + 0x8 * s
abbrev FAB_DROUTE_ALT : Fld := ⟨13, 8⟩
abbrev FAB_DROUTE_PORT : Fld := ⟨5, 0⟩
/-- `FAB_XROUTE[i]` (R281). -/
def FAB_XROUTE (i : Nat) : Nat := 0x20510400 + 0x8 * i
abbrev FAB_XROUTE_GW : Fld := ⟨7, 7⟩
abbrev FAB_XROUTE_TARGET : Fld := ⟨5, 0⟩
/-- `FAB_HITCH_CTL[h]` (R281). -/
def FAB_HITCH_CTL (h : Nat) : Nat := 0x20520000 + 0x80 * h
abbrev FAB_HITCH_CTL_EPOCH : Fld := ⟨47, 32⟩
abbrev FAB_HITCH_CTL_GLOVE : Fld := ⟨31, 16⟩
abbrev FAB_HITCH_CTL_VALID : Fld := ⟨0, 0⟩
/-- `FAB_HITCH_MASK[h]` (R281). -/
def FAB_HITCH_MASK (h : Nat) : Nat := 0x20520008 + 0x80 * h
abbrev FAB_HITCH_MASK_MASK : Fld := ⟨63, 0⟩
/-- `FAB_HITCH_BR[h][b]` (R281). -/
def FAB_HITCH_BR (h : Nat) (b : Nat) : Nat := 0x20520010 + 0x80 * h + 0x8 * b
abbrev FAB_HITCH_BR_VALID : Fld := ⟨34, 34⟩
abbrev FAB_HITCH_BR_HITCH : Fld := ⟨33, 24⟩
abbrev FAB_HITCH_BR_DEVICE : Fld := ⟨23, 0⟩
/-- `HUB_RGN0[i]` (R311). -/
def HUB_RGN0 (i : Nat) : Nat := 0x20010000 + 0x20 * i
abbrev HUB_RGN0_BASE : Fld := ⟨56, 16⟩
/-- `HUB_RGN1[i]` (R311). -/
def HUB_RGN1 (i : Nat) : Nat := 0x20010008 + 0x20 * i
abbrev HUB_RGN1_VALID : Fld := ⟨63, 63⟩
abbrev HUB_RGN1_MODE : Fld := ⟨62, 62⟩
abbrev HUB_RGN1_W : Fld := ⟨61, 61⟩
abbrev HUB_RGN1_R : Fld := ⟨60, 60⟩
abbrev HUB_RGN1_XSTATE : Fld := ⟨59, 58⟩
abbrev HUB_RGN1_OWNER : Fld := ⟨55, 32⟩
abbrev HUB_RGN1_HOME : Fld := ⟨31, 8⟩
/-- `HUB_RGN2[i]` (R311). -/
def HUB_RGN2 (i : Nat) : Nat := 0x20010010 + 0x20 * i
abbrev HUB_RGN2_GLOVE : Fld := ⟨63, 48⟩
abbrev HUB_RGN2_OSEQ : Fld := ⟨47, 32⟩
abbrev HUB_RGN2_PAGES : Fld := ⟨23, 0⟩
/-- `HUB_RGN_CMD` (R311). -/
def HUB_RGN_CMD : Nat := 0x20000100
abbrev HUB_RGN_CMD_NEW_OWNER : Fld := ⟨63, 40⟩
abbrev HUB_RGN_CMD_KNOT : Fld := ⟨39, 26⟩
abbrev HUB_RGN_CMD_ENTRY : Fld := ⟨25, 16⟩
abbrev HUB_RGN_CMD_STATUS : Fld := ⟨15, 12⟩
abbrev HUB_RGN_CMD_CMD : Fld := ⟨3, 0⟩
/-- `HUB_POD_CFG` (R311). -/
def HUB_POD_CFG : Nat := 0x20000108
abbrev HUB_POD_CFG_RSP_US : Fld := ⟨15, 0⟩
/-- `HUB_POD_ERR` (R311). -/
def HUB_POD_ERR : Nat := 0x20000110
abbrev HUB_POD_ERR_VALID : Fld := ⟨63, 63⟩
abbrev HUB_POD_ERR_SLOT : Fld := ⟨62, 57⟩
abbrev HUB_POD_ERR_TADDR : Fld := ⟨56, 0⟩
/-- `HUB_POD_ERR1` (R311). -/
def HUB_POD_ERR1 : Nat := 0x20000118
abbrev HUB_POD_ERR1_SRC : Fld := ⟨31, 8⟩
abbrev HUB_POD_ERR1_NAK : Fld := ⟨7, 0⟩
/-- `HUB_POD_CNT0` (R311). -/
def HUB_POD_CNT0 : Nat := 0x20000120
abbrev HUB_POD_CNT0_OVF : Fld := ⟨63, 63⟩
abbrev HUB_POD_CNT0_MERGED : Fld := ⟨62, 48⟩
abbrev HUB_POD_CNT0_HELD : Fld := ⟨47, 0⟩
/-- `COLL_SUBMIT` (R312). -/
def COLL_SUBMIT : Nat := 0x20300000
abbrev COLL_SUBMIT_STATUS : Fld := ⟨63, 60⟩
abbrev COLL_SUBMIT_ADDR : Fld := ⟨56, 6⟩
/-- `COLL_CFG` (R312). -/
def COLL_CFG : Nat := 0x20300008
abbrev COLL_CFG_RETRY : Fld := ⟨19, 17⟩
abbrev COLL_CFG_WINDOW : Fld := ⟨16, 0⟩
/-- `COLL_LAG0` (R312). -/
def COLL_LAG0 : Nat := 0x20300010
abbrev COLL_LAG0_KIND : Fld := ⟨63, 63⟩
abbrev COLL_LAG0_MEMBER : Fld := ⟨43, 32⟩
abbrev COLL_LAG0_TAG : Fld := ⟨31, 0⟩
/-- `COLL_LAG1` (R312). -/
def COLL_LAG1 : Nat := 0x20300018
abbrev COLL_LAG1_LATE_NS : Fld := ⟨63, 0⟩
/-- `COLL_CNT0` (R312). -/
def COLL_CNT0 : Nat := 0x20300020
abbrev COLL_CNT0_OVF : Fld := ⟨63, 63⟩
abbrev COLL_CNT0_TAINTED : Fld := ⟨62, 48⟩
abbrev COLL_CNT0_DONE : Fld := ⟨47, 0⟩
/-- `COLL_CNT1` (R312). -/
def COLL_CNT1 : Nat := 0x20300028
abbrev COLL_CNT1_OVF : Fld := ⟨63, 63⟩
abbrev COLL_CNT1_SLOTS : Fld := ⟨62, 48⟩
abbrev COLL_CNT1_CHECK_FAIL : Fld := ⟨47, 0⟩
/-- `TIME_LANYARD` (R336). -/
def TIME_LANYARD : Nat := 0x20d00000
abbrev TIME_LANYARD_VALUE : Fld := ⟨63, 0⟩
/-- `TIME_CFG` (R336). -/
def TIME_CFG : Nat := 0x20d00008
abbrev TIME_CFG_PPS_OUT : Fld := ⟨41, 41⟩
abbrev TIME_CFG_STEP_OK : Fld := ⟨40, 40⟩
abbrev TIME_CFG_PORTS : Fld := ⟨39, 8⟩
abbrev TIME_CFG_UTC_SRC : Fld := ⟨3, 2⟩
abbrev TIME_CFG_ROLE : Fld := ⟨1, 0⟩
/-- `TIME_MASTER` (R336). -/
def TIME_MASTER : Nat := 0x20d00010
abbrev TIME_MASTER_DEVICE : Fld := ⟨23, 0⟩
/-- `TIME_STAT` (R336). -/
def TIME_STAT : Nat := 0x20d00018
abbrev TIME_STAT_OFFSET : Fld := ⟨63, 32⟩
abbrev TIME_STAT_UTC_STATE : Fld := ⟨6, 5⟩
abbrev TIME_STAT_STEPPED : Fld := ⟨4, 4⟩
abbrev TIME_STAT_STATE : Fld := ⟨2, 0⟩
/-- `TIME_UTC0` (R336). -/
def TIME_UTC0 : Nat := 0x20d00020
abbrev TIME_UTC0_TAI_OFFSET : Fld := ⟨63, 0⟩
/-- `TIME_UTC1` (R336). -/
def TIME_UTC1 : Nat := 0x20d00028
abbrev TIME_UTC1_LEAP59 : Fld := ⟨18, 18⟩
abbrev TIME_UTC1_LEAP61 : Fld := ⟨17, 17⟩
abbrev TIME_UTC1_VALID : Fld := ⟨16, 16⟩
abbrev TIME_UTC1_UTC_OFFSET : Fld := ⟨15, 0⟩
/-- `TIME_CNT0` (R336). -/
def TIME_CNT0 : Nat := 0x20d00030
abbrev TIME_CNT0_OVF : Fld := ⟨63, 63⟩
abbrev TIME_CNT0_JUMPS : Fld := ⟨62, 48⟩
abbrev TIME_CNT0_IGNORED : Fld := ⟨47, 0⟩
/-- `TIME_LCH_GO` (R336). -/
def TIME_LCH_GO : Nat := 0x20d00100
abbrev TIME_LCH_GO_STATUS : Fld := ⟨63, 60⟩
abbrev TIME_LCH_GO_ADDR : Fld := ⟨56, 6⟩
/-- `TIME_LCH_ENT0[e]` (R336). -/
def TIME_LCH_ENT0 (e : Nat) : Nat := 0x20d00200 + 0x10 * e
abbrev TIME_LCH_ENT0_STATE : Fld := ⟨63, 61⟩
abbrev TIME_LCH_ENT0_ROOT : Fld := ⟨60, 60⟩
abbrev TIME_LCH_ENT0_SLOT : Fld := ⟨59, 54⟩
abbrev TIME_LCH_ENT0_LID : Fld := ⟨31, 0⟩
/-- `TIME_LCH_ENT1[e]` (R336). -/
def TIME_LCH_ENT1 (e : Nat) : Nat := 0x20d00208 + 0x10 * e
abbrev TIME_LCH_ENT1_T : Fld := ⟨63, 0⟩
/-- `KNOT_REL[k]` (R340). -/
def KNOT_REL (k : Nat) : Nat := 0x20440000 + 0x8 * k
abbrev KNOT_REL_ADD : Fld := ⟨31, 0⟩
/-- `KNOT_SVC` (R346). -/
def KNOT_SVC : Nat := 0x20400010
abbrev KNOT_SVC_COUNT : Fld := ⟨28, 14⟩
abbrev KNOT_SVC_BASE : Fld := ⟨13, 0⟩
/-- `PWR_LIMIT` (R362). -/
def PWR_LIMIT : Nat := 0x20900000
abbrev PWR_LIMIT_TJ_LIMIT : Fld := ⟨23, 16⟩
abbrev PWR_LIMIT_LIMIT_W : Fld := ⟨10, 0⟩
/-- `PWR_DROOP` (R362). -/
def PWR_DROOP : Nat := 0x20900008
abbrev PWR_DROOP_THRESH_MV : Fld := ⟨7, 0⟩
/-- `PWR_STAT` (R362). -/
def PWR_STAT : Nat := 0x20900010
abbrev PWR_STAT_OVF : Fld := ⟨63, 63⟩
abbrev PWR_STAT_SEQ_FAIL : Fld := ⟨62, 59⟩
abbrev PWR_STAT_AVS_HOLD : Fld := ⟨58, 55⟩
abbrev PWR_STAT_DROOPS : Fld := ⟨47, 0⟩
/-- `SVC_ROLE` (R362). -/
def SVC_ROLE : Nat := 0x20f00000
abbrev SVC_ROLE_FENCED : Fld := ⟨19, 4⟩
abbrev SVC_ROLE_MGMT_CORE : Fld := ⟨3, 0⟩
/-- `SVC_ARB_REL` (R362). -/
def SVC_ARB_REL : Nat := 0x20f00008
abbrev SVC_ARB_REL_OFFSET : Fld := ⟨31, 0⟩
/-- `SVC_ARB_LAST[s]` (R362). -/
def SVC_ARB_LAST (s : Nat) : Nat := 0x20f00100 + 0x8 * s
abbrev SVC_ARB_LAST_SUPERSEDED : Fld := ⟨63, 63⟩
abbrev SVC_ARB_LAST_WINNER : Fld := ⟨62, 58⟩
abbrev SVC_ARB_LAST_OFFSET : Fld := ⟨31, 0⟩
/-- `SVC_EVLOG` (R362). -/
def SVC_EVLOG : Nat := 0x20f00010
abbrev SVC_EVLOG_TAIL : Fld := ⟨63, 32⟩
abbrev SVC_EVLOG_HEAD : Fld := ⟨31, 0⟩
/-- `SVC_EVLOG_LOST` (R362). -/
def SVC_EVLOG_LOST : Nat := 0x20f00020
abbrev SVC_EVLOG_LOST_OVF : Fld := ⟨63, 63⟩
abbrev SVC_EVLOG_LOST_LOST : Fld := ⟨47, 0⟩
/-- `SVC_ETH_RING0[m][d][r]` (R362). -/
def SVC_ETH_RING0 (m : Nat) (d : Nat) (r : Nat) : Nat := 0x20f10000 + 0x1000 * m + 0x800 * d + 0x20 * r
abbrev SVC_ETH_RING0_BASE : Fld := ⟨56, 0⟩
/-- `SVC_ETH_RING1[m][d][r]` (R362). -/
def SVC_ETH_RING1 (m : Nat) (d : Nat) (r : Nat) : Nat := 0x20f10008 + 0x1000 * m + 0x800 * d + 0x20 * r
abbrev SVC_ETH_RING1_ENABLE : Fld := ⟨63, 63⟩
abbrev SVC_ETH_RING1_LOG2 : Fld := ⟨62, 59⟩
abbrev SVC_ETH_RING1_POOL : Fld := ⟨58, 51⟩
abbrev SVC_ETH_RING1_DONE_KNOT : Fld := ⟨50, 37⟩
abbrev SVC_ETH_RING1_KNOT : Fld := ⟨36, 23⟩
abbrev SVC_ETH_RING1_TAKEN : Fld := ⟨22, 0⟩
/-- `SVC_ETH_RULE[m][i]` (R362). -/
def SVC_ETH_RULE (m : Nat) (i : Nat) : Nat := 0x20f12000 + 0x400 * m + 0x10 * i
abbrev SVC_ETH_RULE_VALID : Fld := ⟨63, 63⟩
abbrev SVC_ETH_RULE_RING : Fld := ⟨62, 59⟩
abbrev SVC_ETH_RULE_MATCH : Fld := ⟨58, 55⟩
abbrev SVC_ETH_RULE_ETHERTYPE : Fld := ⟨47, 32⟩
abbrev SVC_ETH_RULE_VLAN : Fld := ⟨31, 20⟩
abbrev SVC_ETH_RULE_UDPPORT : Fld := ⟨15, 0⟩
/-- `SVC_ETH_CNT0[m]` (R362). -/
def SVC_ETH_CNT0 (m : Nat) : Nat := 0x20f13000 + 0x20 * m
abbrev SVC_ETH_CNT0_OVF : Fld := ⟨63, 63⟩
abbrev SVC_ETH_CNT0_RX_BAD : Fld := ⟨47, 0⟩
/-- `SVC_ETH_CNT1[m]` (R362). -/
def SVC_ETH_CNT1 (m : Nat) : Nat := 0x20f13008 + 0x20 * m
abbrev SVC_ETH_CNT1_OVF : Fld := ⟨63, 63⟩
abbrev SVC_ETH_CNT1_RX_NOBUF : Fld := ⟨47, 0⟩
/-- `SVC_ETH_CNT2[m]` (R362). -/
def SVC_ETH_CNT2 (m : Nat) : Nat := 0x20f13010 + 0x20 * m
abbrev SVC_ETH_CNT2_OVF : Fld := ⟨63, 63⟩
abbrev SVC_ETH_CNT2_PFC_STORMS : Fld := ⟨62, 48⟩
abbrev SVC_ETH_CNT2_FC_IGNORED : Fld := ⟨47, 0⟩
/-- `SVC_ETH_STAT[m]` (R362). -/
def SVC_ETH_STAT (m : Nat) : Nat := 0x20f13018 + 0x20 * m
abbrev SVC_ETH_STAT_HOLDDOWN : Fld := ⟨1, 1⟩
abbrev SVC_ETH_STAT_LINK : Fld := ⟨0, 0⟩
/-- `SVC_WDOG` (R362). -/
def SVC_WDOG : Nat := 0x20f00018
abbrev SVC_WDOG_REFRESH : Fld := ⟨0, 0⟩
/-- `SVC_CORE_CTL[c]` (R362). -/
def SVC_CORE_CTL (c : Nat) : Nat := 0x20f00200 + 0x8 * c
abbrev SVC_CORE_CTL_WDOG_MS : Fld := ⟨19, 10⟩
abbrev SVC_CORE_CTL_FENCED : Fld := ⟨9, 9⟩
abbrev SVC_CORE_CTL_REFRESH : Fld := ⟨0, 0⟩
/-- `SNS_TELEM0` (R362). -/
def SNS_TELEM0 : Nat := 0x21000000
abbrev SNS_TELEM0_ENABLE : Fld := ⟨63, 63⟩
abbrev SNS_TELEM0_BASE : Fld := ⟨56, 0⟩
/-- `SNS_TELEM1` (R362). -/
def SNS_TELEM1 : Nat := 0x21000008
abbrev SNS_TELEM1_KNOT : Fld := ⟨63, 50⟩
abbrev SNS_TELEM1_PERIOD_US : Fld := ⟨49, 34⟩
abbrev SNS_TELEM1_MASK : Fld := ⟨33, 27⟩
abbrev SNS_TELEM1_LOG2 : Fld := ⟨26, 23⟩
abbrev SNS_TELEM1_WRITTEN : Fld := ⟨22, 0⟩
/-- `SNS_TEMP[i]` (R362). -/
def SNS_TEMP (i : Nat) : Nat := 0x21010000 + 0x8 * i
abbrev SNS_TEMP_PEAK : Fld := ⟨31, 16⟩
abbrev SNS_TEMP_TEMP : Fld := ⟨15, 0⟩
/-- `SNS_TILE_PWR[t]` (R362). -/
def SNS_TILE_PWR (t : Nat) : Nat := 0x21020000 + 0x8 * t
abbrev SNS_TILE_PWR_POWER : Fld := ⟨15, 0⟩
/-- `SNS_RAIL[n]` (R362). -/
def SNS_RAIL (n : Nat) : Nat := 0x21030000 + 0x8 * n
abbrev SNS_RAIL_STALE : Fld := ⟨63, 63⟩
abbrev SNS_RAIL_TEMP : Fld := ⟨47, 32⟩
abbrev SNS_RAIL_IOUT : Fld := ⟨31, 16⟩
abbrev SNS_RAIL_VOUT : Fld := ⟨15, 0⟩
/-- `SNS_HBM_TEMP[s]` (R362). -/
def SNS_HBM_TEMP (s : Nat) : Nat := 0x21030100 + 0x8 * s
abbrev SNS_HBM_TEMP_TEMP : Fld := ⟨15, 0⟩
/-- `SNS_HOLD` (R362). -/
def SNS_HOLD : Nat := 0x21030200
abbrev SNS_HOLD_CODE : Fld := ⟨27, 16⟩
abbrev SNS_HOLD_VHOLD_MV : Fld := ⟨15, 0⟩
/-- `SNS_EYE[l]` (R362). -/
def SNS_EYE (l : Nat) : Nat := 0x21040000 + 0x8 * l
abbrev SNS_EYE_VALID : Fld := ⟨63, 63⟩
abbrev SNS_EYE_HEIGHT : Fld := ⟨31, 16⟩
abbrev SNS_EYE_WIDTH : Fld := ⟨15, 0⟩
/-- `TILE_DBG` (R381). -/
def TILE_DBG (t : Nat) : Nat := 0x80 + 0x100000 * t
abbrev TILE_DBG_CTX : Fld := ⟨31, 28⟩
abbrev TILE_DBG_STATE : Fld := ⟨19, 16⟩
abbrev TILE_DBG_STEP : Fld := ⟨2, 2⟩
abbrev TILE_DBG_RESUME : Fld := ⟨1, 1⟩
abbrev TILE_DBG_HALT : Fld := ⟨0, 0⟩
/-- `TILE_DBG_PC` (R381). -/
def TILE_DBG_PC (t : Nat) : Nat := 0x88 + 0x100000 * t
abbrev TILE_DBG_PC_PC : Fld := ⟨56, 0⟩
/-- `TILE_DBG_SEL` (R381). -/
def TILE_DBG_SEL (t : Nat) : Nat := 0x90 + 0x100000 * t
abbrev TILE_DBG_SEL_INDEX : Fld := ⟨15, 0⟩
/-- `TILE_DBG_VAL` (R381). -/
def TILE_DBG_VAL (t : Nat) : Nat := 0x98 + 0x100000 * t
abbrev TILE_DBG_VAL_VALUE : Fld := ⟨63, 0⟩
/-- `SEC_STAT` (R392). -/
def SEC_STAT : Nat := 0x20c00000
abbrev SEC_STAT_SVC_SLOT : Fld := ⟨35, 35⟩
abbrev SEC_STAT_SEC_SLOT : Fld := ⟨34, 34⟩
abbrev SEC_STAT_CFG_SLOT : Fld := ⟨33, 33⟩
abbrev SEC_STAT_COSIGN : Fld := ⟨32, 32⟩
abbrev SEC_STAT_DBG_GLOVES : Fld := ⟨15, 8⟩
abbrev SEC_STAT_INJECT : Fld := ⟨7, 7⟩
abbrev SEC_STAT_DEBUG : Fld := ⟨5, 4⟩
abbrev SEC_STAT_LIFECYCLE : Fld := ⟨3, 0⟩
/-- `SEC_CFG` (R392). -/
def SEC_CFG : Nat := 0x20c00008
abbrev SEC_CFG_SEQ : Fld := ⟨63, 0⟩
/-- `SEC_CFG_FLOOR` (R392). -/
def SEC_CFG_FLOOR : Nat := 0x20c00010
abbrev SEC_CFG_FLOOR_FLOOR : Fld := ⟨63, 0⟩
/-- `SEC_DBG_EXP` (R392). -/
def SEC_DBG_EXP : Nat := 0x20c00018
abbrev SEC_DBG_EXP_EXPIRES : Fld := ⟨63, 0⟩
/-- `SEC_DBG_NONCE[j]` (R392). -/
def SEC_DBG_NONCE (j : Nat) : Nat := 0x20c00020 + 0x8 * j
abbrev SEC_DBG_NONCE_NONCE : Fld := ⟨63, 0⟩
/-- `SEC_IDHASH[j]` (R392). -/
def SEC_IDHASH (j : Nat) : Nat := 0x20c00040 + 0x8 * j
abbrev SEC_IDHASH_HASH : Fld := ⟨63, 0⟩
/-- `SEC_FW_SVN[k]` (R392). -/
def SEC_FW_SVN (k : Nat) : Nat := 0x20c00080 + 0x8 * k
abbrev SEC_FW_SVN_FLOOR : Fld := ⟨63, 32⟩
abbrev SEC_FW_SVN_SVN : Fld := ⟨31, 0⟩
/-- `SEC_MBOX_CMD` (R392). -/
def SEC_MBOX_CMD : Nat := 0x20c00100
abbrev SEC_MBOX_CMD_STATUS : Fld := ⟨11, 8⟩
abbrev SEC_MBOX_CMD_BUSY : Fld := ⟨7, 7⟩
abbrev SEC_MBOX_CMD_CMD : Fld := ⟨4, 0⟩
/-- `SEC_MBOX_ARG` (R392). -/
def SEC_MBOX_ARG : Nat := 0x20c00108
abbrev SEC_MBOX_ARG_ADDR : Fld := ⟨56, 6⟩
/-- `SEC_JNL_HEAD` (R392). -/
def SEC_JNL_HEAD : Nat := 0x20c00200
abbrev SEC_JNL_HEAD_SEQ : Fld := ⟨63, 0⟩
/-- `SEC_JNL_EXPORTED` (R392). -/
def SEC_JNL_EXPORTED : Nat := 0x20c00208
abbrev SEC_JNL_EXPORTED_SEQ : Fld := ⟨63, 0⟩
/-- `SEC_CNT0` (R392). -/
def SEC_CNT0 : Nat := 0x20c00210
abbrev SEC_CNT0_OVF : Fld := ⟨63, 63⟩
abbrev SEC_CNT0_VIOLATIONS : Fld := ⟨62, 48⟩
abbrev SEC_CNT0_DENIED : Fld := ⟨47, 0⟩
/-- `SEC_GLOVE_MEAS[n][j]` (R392). -/
def SEC_GLOVE_MEAS (n : Nat) (j : Nat) : Nat := 0x20c10000 + 0x40 * n + 0x8 * j
abbrev SEC_GLOVE_MEAS_M : Fld := ⟨63, 0⟩
/-- `PWR_STATE` (R413). -/
def PWR_STATE : Nat := 0x20900018
abbrev PWR_STATE_STATUS : Fld := ⟨15, 12⟩
abbrev PWR_STATE_AUTOWAKE : Fld := ⟨8, 8⟩
abbrev PWR_STATE_BUSY : Fld := ⟨7, 7⟩
abbrev PWR_STATE_REQ : Fld := ⟨6, 4⟩
abbrev PWR_STATE_STATE : Fld := ⟨2, 0⟩
/-- `PWR_SAG_CFG` (R413). -/
def PWR_SAG_CFG : Nat := 0x20900020
abbrev PWR_SAG_CFG_HOLD_MV : Fld := ⟨15, 0⟩
/-- `PWR_SAG_STAT` (R413). -/
def PWR_SAG_STAT : Nat := 0x20900028
abbrev PWR_SAG_STAT_OVF : Fld := ⟨63, 63⟩
abbrev PWR_SAG_STAT_SHORT : Fld := ⟨49, 49⟩
abbrev PWR_SAG_STAT_DONE : Fld := ⟨48, 48⟩
abbrev PWR_SAG_STAT_GLITCHES : Fld := ⟨47, 0⟩
/-- `RST_CAUSE` (R413). -/
def RST_CAUSE : Nat := 0x20b00000
abbrev RST_CAUSE_TRST : Fld := ⟨7, 7⟩
abbrev RST_CAUSE_SOFTWARE : Fld := ⟨6, 6⟩
abbrev RST_CAUSE_SAG : Fld := ⟨5, 5⟩
abbrev RST_CAUSE_SECURITY : Fld := ⟨4, 4⟩
abbrev RST_CAUSE_THERMTRIP : Fld := ⟨3, 3⟩
abbrev RST_CAUSE_WATCHDOG : Fld := ⟨2, 2⟩
abbrev RST_CAUSE_SYSRST : Fld := ⟨1, 1⟩
abbrev RST_CAUSE_PORST : Fld := ⟨0, 0⟩
/-- `RST_CTL` (R413). -/
def RST_CTL : Nat := 0x20b00008
abbrev RST_CTL_STATUS : Fld := ⟨5, 2⟩
abbrev RST_CTL_PART_READY : Fld := ⟨1, 1⟩
abbrev RST_CTL_READY : Fld := ⟨0, 0⟩
/-- `RST_CTL_FULL` (R413). -/
def RST_CTL_FULL : Nat := 0x20b00010
abbrev RST_CTL_FULL_FULL : Fld := ⟨0, 0⟩
/-- `RST_BLOCK` (R413). -/
def RST_BLOCK : Nat := 0x20b00018
abbrev RST_BLOCK_STATUS : Fld := ⟨23, 20⟩
abbrev RST_BLOCK_KIND : Fld := ⟨19, 16⟩
abbrev RST_BLOCK_UNIT : Fld := ⟨7, 0⟩
/-- `CLK_STAT` (R413). -/
def CLK_STAT : Nat := 0x20a00000
abbrev CLK_STAT_LOST : Fld := ⟨23, 12⟩
abbrev CLK_STAT_LOCK : Fld := ⟨11, 0⟩
/-- The second word of `SVC_ETH_RULE[m][i]`: IPPROTO (R362). -/
def SVC_ETH_RULE_HI (m : Nat) (i : Nat) : Nat := 0x20f12008 + 0x400 * m + 0x10 * i
abbrev SVC_ETH_RULE_IPPROTO : Fld := ⟨7, 0⟩

end Reg


/-- The registers of the `KNOT_` window. -/
def regsKNOT : List RegDef := [
  ⟨0x0, [], [⟨63, 39, .RSV, 0, false⟩, ⟨38, 26, .RO, 0, false⟩, ⟨25, 13, .RO, 0, false⟩, ⟨12, 0, .RO, 4096, false⟩]⟩,
  ⟨0x10000, [(0x40, 64)], [⟨63, 48, .RW, 0, false⟩, ⟨47, 32, .RW, 0, false⟩, ⟨31, 16, .RW, 0, false⟩, ⟨15, 1, .RSV, 0, false⟩, ⟨0, 0, .RW, 0, false⟩]⟩,
  ⟨0x10008, [(0x40, 64)], [⟨63, 45, .RSV, 0, false⟩, ⟨44, 32, .RW, 0, false⟩, ⟨31, 29, .RSV, 0, false⟩, ⟨28, 14, .RW, 0, false⟩, ⟨13, 0, .RW, 0, false⟩]⟩,
  ⟨0x10010, [(0x40, 64)], [⟨63, 61, .RSV, 0, false⟩, ⟨60, 57, .RW, 0, false⟩, ⟨56, 0, .RW, 0, false⟩]⟩,
  ⟨0x10018, [(0x40, 64)], [⟨63, 62, .RSV, 0, false⟩, ⟨61, 48, .RW, 0, false⟩, ⟨47, 0, .RO, 0, false⟩]⟩,
  ⟨0x10020, [(0x40, 64)], [⟨63, 57, .RSV, 0, false⟩, ⟨56, 12, .RW, 0, false⟩, ⟨11, 0, .RSV, 0, false⟩]⟩,
  ⟨0x10028, [(0x40, 64)], [⟨63, 28, .RSV, 0, false⟩, ⟨27, 20, .RO, 0, false⟩, ⟨19, 12, .RO, 0, false⟩, ⟨11, 8, .RO, 0, false⟩, ⟨7, 7, .RSV, 0, false⟩, ⟨6, 4, .RO, 0, false⟩, ⟨3, 0, .WO, 0, false⟩]⟩,
  ⟨0x10030, [(0x40, 64)], [⟨63, 0, .RO, 0, false⟩]⟩,
  ⟨0x8, [], [⟨63, 1, .RSV, 0, false⟩, ⟨0, 0, .W1S, 0, false⟩]⟩,
  ⟨0x20000, [(0x10, 256)], [⟨63, 17, .RSV, 0, false⟩, ⟨16, 16, .RO, 0, false⟩, ⟨15, 0, .RO, 0, false⟩]⟩,
  ⟨0x20008, [(0x10, 256)], [⟨63, 63, .RO, 0, false⟩, ⟨62, 48, .RSV, 0, false⟩, ⟨47, 0, .RO, 0, false⟩]⟩,
  ⟨0x10038, [(0x40, 64)], [⟨63, 43, .RSV, 0, false⟩, ⟨42, 27, .RW, 0, false⟩, ⟨26, 3, .RW, 0, false⟩, ⟨2, 1, .RSV, 0, false⟩, ⟨0, 0, .RW, 0, false⟩]⟩,
  ⟨0x100, [], [⟨63, 63, .W1C, 0, false⟩, ⟨62, 62, .RO, 0, false⟩, ⟨61, 56, .RO, 0, false⟩, ⟨55, 53, .RO, 0, false⟩, ⟨52, 47, .RO, 0, false⟩, ⟨46, 35, .RO, 0, false⟩, ⟨34, 33, .RO, 0, false⟩, ⟨32, 0, .RSV, 0, false⟩]⟩,
  ⟨0x108, [], [⟨63, 0, .RO, 0, false⟩]⟩,
  ⟨0x110, [], [⟨63, 48, .RSV, 0, false⟩, ⟨47, 0, .RO, 0, false⟩]⟩,
  ⟨0x118, [], [⟨63, 0, .RO, 0, false⟩]⟩,
  ⟨0x120, [], [⟨63, 0, .RO, 0, false⟩]⟩,
  ⟨0x40000, [(0x8, 16384)], [⟨63, 32, .RSV, 0, false⟩, ⟨31, 0, .WO, 0, false⟩]⟩,
  ⟨0x10, [], [⟨63, 29, .RSV, 0, false⟩, ⟨28, 14, .RW, 0, false⟩, ⟨13, 0, .RW, 0, false⟩]⟩]


/-- The registers of the `TILE_` window. -/
def regsTILE : List RegDef := [
  ⟨0x0, [], [⟨63, 20, .RSV, 0, false⟩, ⟨19, 16, .RO, 3, false⟩, ⟨15, 15, .RO, 0, false⟩, ⟨14, 8, .RO, 64, false⟩, ⟨7, 7, .RSV, 0, false⟩, ⟨6, 0, .RO, 64, false⟩]⟩,
  ⟨0x8, [], [⟨63, 0, .RO, 0, false⟩]⟩,
  ⟨0x10, [], [⟨63, 1, .RSV, 0, false⟩, ⟨0, 0, .RW, 0, false⟩]⟩,
  ⟨0x18, [], [⟨63, 12, .RSV, 0, false⟩, ⟨11, 8, .RO, 0, false⟩, ⟨7, 6, .RSV, 0, false⟩, ⟨5, 4, .RO, 0, false⟩, ⟨3, 2, .RSV, 0, false⟩, ⟨1, 1, .RO, 0, false⟩, ⟨0, 0, .W1S, 0, false⟩]⟩,
  ⟨0x20, [], [⟨63, 0, .RO, 0, false⟩]⟩,
  ⟨0x28, [], [⟨63, 63, .RO, 0, false⟩, ⟨62, 48, .RO, 0, true⟩, ⟨47, 0, .RO, 0, true⟩]⟩,
  ⟨0x40, [], [⟨63, 63, .RO, 0, false⟩, ⟨62, 48, .RO, 0, true⟩, ⟨47, 0, .RO, 0, true⟩]⟩,
  ⟨0x50, [], [⟨63, 17, .RSV, 0, false⟩, ⟨16, 0, .RW, 4096, false⟩]⟩,
  ⟨0x58, [], [⟨63, 63, .RO, 0, false⟩, ⟨62, 48, .RSV, 0, false⟩, ⟨47, 0, .RO, 0, true⟩]⟩,
  ⟨0x60, [], [⟨63, 63, .RO, 0, false⟩, ⟨62, 48, .RO, 0, true⟩, ⟨47, 0, .RO, 0, true⟩]⟩,
  ⟨0x68, [], [⟨63, 63, .RO, 0, false⟩, ⟨62, 48, .RSV, 0, false⟩, ⟨47, 0, .RO, 0, true⟩]⟩,
  ⟨0x80, [], [⟨63, 32, .RSV, 0, false⟩, ⟨31, 28, .RW, 0, false⟩, ⟨27, 20, .RSV, 0, false⟩, ⟨19, 16, .RO, 0, false⟩, ⟨15, 3, .RSV, 0, false⟩, ⟨2, 2, .W1S, 0, false⟩, ⟨1, 1, .W1S, 0, false⟩, ⟨0, 0, .W1S, 0, false⟩]⟩,
  ⟨0x88, [], [⟨63, 57, .RSV, 0, false⟩, ⟨56, 0, .RO, 0, false⟩]⟩,
  ⟨0x90, [], [⟨63, 16, .RSV, 0, false⟩, ⟨15, 0, .RW, 0, false⟩]⟩,
  ⟨0x98, [], [⟨63, 0, .RW, 0, false⟩]⟩]


/-- The registers of the `BRM_` window. -/
def regsBRM : List RegDef := [
  ⟨0x0, [(0x100, 2)], [⟨63, 48, .RSV, 0, false⟩, ⟨47, 16, .RO, 0, false⟩, ⟨15, 12, .RO, 0, false⟩, ⟨11, 6, .RSV, 0, false⟩, ⟨5, 0, .RO, 0, false⟩]⟩,
  ⟨0x8, [(0x100, 2)], [⟨63, 63, .W1C, 0, false⟩, ⟨62, 60, .RSV, 0, false⟩, ⟨59, 48, .RO, 0, false⟩, ⟨47, 16, .RO, 0, false⟩, ⟨15, 8, .RO, 0, false⟩, ⟨7, 4, .RSV, 0, false⟩, ⟨3, 0, .RO, 0, false⟩]⟩,
  ⟨0x10, [(0x100, 2)], [⟨63, 63, .RO, 0, false⟩, ⟨62, 48, .RO, 0, true⟩, ⟨47, 0, .RO, 0, true⟩]⟩,
  ⟨0x18, [(0x100, 2)], [⟨63, 63, .RO, 0, false⟩, ⟨62, 48, .RSV, 0, false⟩, ⟨47, 0, .RO, 0, true⟩]⟩,
  ⟨0x20, [(0x100, 2)], [⟨63, 63, .RO, 0, false⟩, ⟨62, 48, .RSV, 0, false⟩, ⟨47, 0, .RO, 0, true⟩]⟩,
  ⟨0x200, [], [⟨63, 63, .RO, 0, false⟩, ⟨62, 48, .RO, 0, true⟩, ⟨47, 0, .RO, 0, true⟩]⟩,
  ⟨0x10000, [(0x20, 64)], [⟨63, 57, .RSV, 0, false⟩, ⟨56, 0, .RO, 0, false⟩]⟩,
  ⟨0x10008, [(0x20, 64)], [⟨63, 17, .RSV, 0, false⟩, ⟨16, 16, .RO, 0, false⟩, ⟨15, 0, .RO, 0, false⟩]⟩,
  ⟨0x10010, [(0x20, 64)], [⟨63, 57, .RSV, 0, false⟩, ⟨56, 0, .RW, 0, false⟩]⟩,
  ⟨0x10018, [(0x20, 64)], [⟨63, 18, .RSV, 0, false⟩, ⟨17, 17, .RW, 0, false⟩, ⟨16, 16, .RSV, 0, false⟩, ⟨15, 0, .RW, 0, false⟩]⟩]


/-- The registers of the `SPL_` window. -/
def regsSPL : List RegDef := [
  ⟨0x0, [], [⟨63, 4, .RSV, 0, false⟩, ⟨3, 3, .RO, 0, false⟩, ⟨2, 2, .RO, 0, false⟩, ⟨1, 1, .RO, 0, false⟩, ⟨0, 0, .RO, 0, false⟩]⟩,
  ⟨0x8, [], [⟨63, 63, .W1C, 0, false⟩, ⟨62, 62, .RO, 0, false⟩, ⟨61, 59, .RO, 0, false⟩, ⟨58, 51, .RO, 0, false⟩, ⟨50, 44, .RSV, 0, false⟩, ⟨43, 32, .RO, 0, false⟩, ⟨31, 0, .RO, 0, false⟩]⟩,
  ⟨0x10, [], [⟨63, 63, .RO, 0, false⟩, ⟨62, 48, .RSV, 0, false⟩, ⟨47, 0, .RO, 0, true⟩]⟩,
  ⟨0x18, [], [⟨63, 63, .RO, 0, false⟩, ⟨62, 48, .RSV, 0, false⟩, ⟨47, 0, .RO, 0, true⟩]⟩,
  ⟨0x20, [], [⟨63, 63, .RO, 0, false⟩, ⟨62, 48, .RO, 0, true⟩, ⟨47, 0, .RO, 0, true⟩]⟩,
  ⟨0x28, [], [⟨63, 63, .RO, 0, false⟩, ⟨62, 48, .RSV, 0, false⟩, ⟨47, 0, .RO, 0, true⟩]⟩]


/-- The registers of the `MIG_` window. -/
def regsMIG : List RegDef := [
  ⟨0x0, [], [⟨63, 45, .RSV, 0, false⟩, ⟨44, 32, .RW, 2048, false⟩, ⟨31, 24, .RW, 20, false⟩, ⟨23, 20, .RW, 4, false⟩, ⟨19, 16, .RW, 8, false⟩, ⟨15, 0, .RSV, 0, false⟩]⟩,
  ⟨0x8, [], [⟨63, 40, .RSV, 0, false⟩, ⟨39, 36, .RO, 0, false⟩, ⟨35, 32, .WO, 0, false⟩, ⟨31, 30, .RW, 0, false⟩, ⟨29, 23, .RSV, 0, false⟩, ⟨22, 0, .RW, 0, false⟩]⟩,
  ⟨0x10, [], [⟨63, 40, .RO, 0, false⟩, ⟨39, 27, .RO, 0, false⟩, ⟨26, 14, .RO, 0, false⟩, ⟨13, 1, .RO, 0, false⟩, ⟨0, 0, .RO, 0, false⟩]⟩,
  ⟨0x18, [], [⟨63, 63, .RO, 1, false⟩, ⟨62, 57, .RW, 0, false⟩, ⟨56, 16, .RW, 0, false⟩, ⟨15, 8, .RW, 0, false⟩, ⟨7, 2, .RSV, 0, false⟩, ⟨1, 1, .RW, 0, false⟩, ⟨0, 0, .W1S, 0, false⟩]⟩,
  ⟨0x20, [], [⟨63, 63, .RO, 0, false⟩, ⟨62, 48, .RO, 0, true⟩, ⟨47, 0, .RO, 0, true⟩]⟩,
  ⟨0x28, [], [⟨63, 63, .RO, 0, false⟩, ⟨62, 48, .RSV, 0, false⟩, ⟨47, 0, .RO, 0, true⟩]⟩]


/-- The registers of the `HBM_` window. -/
def regsHBM : List RegDef := [
  ⟨0x0, [], [⟨63, 32, .RSV, 0, false⟩, ⟨31, 24, .RW, 25, false⟩, ⟨23, 16, .RW, 8, false⟩, ⟨15, 8, .RW, 4, false⟩, ⟨7, 0, .RW, 1, false⟩]⟩,
  ⟨0x8, [], [⟨63, 63, .RO, 0, false⟩, ⟨62, 48, .RSV, 0, false⟩, ⟨47, 0, .RO, 0, true⟩]⟩,
  ⟨0x10000, [(0x40, 256)], [⟨63, 61, .RO, 0, false⟩, ⟨60, 59, .RO, 2, false⟩, ⟨58, 56, .RSV, 0, false⟩, ⟨55, 48, .RO, 255, false⟩, ⟨47, 32, .RO, 0, true⟩, ⟨31, 16, .RSV, 0, false⟩, ⟨15, 0, .RO, 0, false⟩]⟩,
  ⟨0x10008, [(0x40, 256)], [⟨63, 63, .RO, 0, false⟩, ⟨62, 48, .RSV, 0, false⟩, ⟨47, 0, .RO, 0, true⟩]⟩,
  ⟨0x10010, [(0x40, 256)], [⟨63, 32, .RW, 0, false⟩, ⟨31, 28, .RSV, 0, false⟩, ⟨27, 24, .RW, 0, false⟩, ⟨23, 20, .RO, 0, false⟩, ⟨19, 16, .RSV, 0, false⟩, ⟨15, 8, .RW, 1, false⟩, ⟨7, 2, .RSV, 0, false⟩, ⟨1, 1, .W1S, 0, false⟩, ⟨0, 0, .W1S, 0, false⟩]⟩,
  ⟨0x10018, [(0x40, 256)], [⟨63, 63, .RO, 0, false⟩, ⟨62, 48, .RSV, 0, false⟩, ⟨47, 0, .RO, 0, true⟩]⟩,
  ⟨0x10020, [(0x40, 256)], [⟨63, 0, .RO, 0, false⟩]⟩]


/-- The registers of the `POOL_` window. -/
def regsPOOL : List RegDef := [
  ⟨0x10000, [(0x20, 256)], [⟨63, 57, .RSV, 0, false⟩, ⟨56, 0, .RW, 0, false⟩]⟩,
  ⟨0x10008, [(0x20, 256)], [⟨63, 58, .RW, 0, false⟩, ⟨57, 53, .RW, 0, false⟩, ⟨52, 52, .RW, 0, false⟩, ⟨51, 32, .RSV, 0, false⟩, ⟨31, 0, .RW, 0, false⟩]⟩,
  ⟨0x10010, [(0x20, 256)], [⟨63, 57, .RSV, 0, false⟩, ⟨56, 0, .RW, 0, false⟩]⟩,
  ⟨0x10018, [(0x20, 256)], [⟨63, 61, .RO, 0, false⟩, ⟨60, 56, .RSV, 0, false⟩, ⟨55, 52, .RO, 0, false⟩, ⟨51, 48, .WO, 0, false⟩, ⟨47, 32, .RSV, 0, false⟩, ⟨31, 0, .RO, 0, false⟩]⟩,
  ⟨0x20000, [(0x8, 256)], [⟨63, 57, .RSV, 0, false⟩, ⟨56, 0, .WO, 0, false⟩]⟩]


/-- The registers of the `NVS_` window. -/
def regsNVS : List RegDef := [
  ⟨0x0, [], [⟨63, 48, .RO, 0, false⟩, ⟨47, 40, .RSV, 0, false⟩, ⟨39, 32, .RO, 0, false⟩, ⟨31, 16, .RO, 1024, false⟩, ⟨15, 3, .RSV, 0, false⟩, ⟨2, 2, .RO, 0, false⟩, ⟨1, 1, .RO, 0, false⟩, ⟨0, 0, .RO, 0, false⟩]⟩,
  ⟨0x8, [], [⟨63, 63, .RO, 0, false⟩, ⟨62, 48, .RO, 0, true⟩, ⟨47, 0, .RO, 0, true⟩]⟩,
  ⟨0x10, [], [⟨63, 63, .RO, 0, false⟩, ⟨62, 48, .RSV, 0, false⟩, ⟨47, 0, .RO, 0, true⟩]⟩]


/-- The registers of the `FAB_` window. -/
def regsFAB : List RegDef := [
  ⟨0x30, [], [⟨63, 40, .WO, 0, false⟩, ⟨39, 32, .RSV, 0, false⟩, ⟨31, 0, .WO, 0, false⟩]⟩,
  ⟨0x38, [], [⟨63, 63, .W1C, 0, false⟩, ⟨62, 57, .RO, 0, false⟩, ⟨56, 48, .RSV, 0, false⟩, ⟨47, 32, .RO, 0, true⟩, ⟨31, 0, .RO, 0, false⟩]⟩,
  ⟨0x40, [], [⟨63, 32, .RO, 0, false⟩, ⟨31, 0, .RO, 0, false⟩]⟩,
  ⟨0x0, [], [⟨63, 40, .RW, 0, false⟩, ⟨39, 32, .RSV, 0, false⟩, ⟨31, 24, .RW, 20, false⟩, ⟨23, 16, .RW, 10, false⟩, ⟨15, 1, .RSV, 0, false⟩, ⟨0, 0, .RW, 1, false⟩]⟩,
  ⟨0x8, [], [⟨63, 24, .RSV, 0, false⟩, ⟨23, 0, .RW, 16777215, false⟩]⟩,
  ⟨0x10, [], [⟨63, 32, .RSV, 0, false⟩, ⟨31, 16, .RW, 1000, false⟩, ⟨15, 0, .RW, 384, false⟩]⟩,
  ⟨0x18, [], [⟨63, 48, .RSV, 0, false⟩, ⟨47, 40, .RW, 5, false⟩, ⟨39, 32, .RW, 2, false⟩, ⟨31, 22, .RW, 8, false⟩, ⟨21, 12, .RW, 32, false⟩, ⟨11, 4, .RSV, 0, false⟩, ⟨3, 0, .RW, 4, false⟩]⟩,
  ⟨0x20, [], [⟨63, 63, .RO, 0, false⟩, ⟨62, 48, .RO, 0, true⟩, ⟨47, 0, .RO, 0, true⟩]⟩,
  ⟨0x28, [], [⟨63, 63, .RO, 0, false⟩, ⟨62, 48, .RO, 0, true⟩, ⟨47, 0, .RO, 0, true⟩]⟩,
  ⟨0x10000, [(0x8, 64)], [⟨63, 14, .RSV, 0, false⟩, ⟨13, 8, .RW, 0, false⟩, ⟨7, 6, .RSV, 0, false⟩, ⟨5, 0, .RW, 0, false⟩]⟩,
  ⟨0x10400, [(0x8, 1024)], [⟨63, 8, .RSV, 0, false⟩, ⟨7, 7, .RW, 1, false⟩, ⟨6, 6, .RSV, 0, false⟩, ⟨5, 0, .RW, 0, false⟩]⟩,
  ⟨0x20000, [(0x80, 1024)], [⟨63, 48, .RSV, 0, false⟩, ⟨47, 32, .RW, 0, false⟩, ⟨31, 16, .RW, 0, false⟩, ⟨15, 1, .RSV, 0, false⟩, ⟨0, 0, .RW, 0, false⟩]⟩,
  ⟨0x20008, [(0x80, 1024)], [⟨63, 0, .RW, 0, false⟩]⟩,
  ⟨0x20010, [(0x80, 1024), (0x8, 8)], [⟨63, 35, .RSV, 0, false⟩, ⟨34, 34, .RW, 0, false⟩, ⟨33, 24, .RW, 0, false⟩, ⟨23, 0, .RW, 0, false⟩]⟩]


/-- The registers of the `PORT_` window. -/
def regsPORT : List RegDef := [
  ⟨0x0, [], [⟨63, 19, .RSV, 0, false⟩, ⟨18, 16, .RW, 2, false⟩, ⟨15, 12, .WO, 0, false⟩, ⟨11, 10, .RSV, 0, false⟩, ⟨9, 9, .RW, 0, false⟩, ⟨8, 8, .RW, 0, false⟩, ⟨7, 7, .RSV, 0, false⟩, ⟨6, 0, .RW, 48, false⟩]⟩,
  ⟨0x8, [], [⟨63, 40, .RO, 0, false⟩, ⟨39, 39, .RO, 0, false⟩, ⟨38, 36, .RSV, 0, false⟩, ⟨35, 32, .RO, 0, false⟩, ⟨31, 28, .RO, 0, false⟩, ⟨27, 3, .RSV, 0, false⟩, ⟨2, 0, .RO, 0, false⟩]⟩,
  ⟨0x10, [], [⟨63, 59, .RSV, 0, false⟩, ⟨58, 48, .RO, 960, false⟩, ⟨47, 16, .RSV, 0, false⟩, ⟨15, 8, .RW, 72, false⟩, ⟨7, 0, .RSV, 0, false⟩]⟩,
  ⟨0x18, [], [⟨63, 63, .RO, 0, false⟩, ⟨62, 48, .RSV, 0, false⟩, ⟨47, 0, .RO, 0, true⟩]⟩,
  ⟨0x20, [], [⟨63, 63, .RO, 0, false⟩, ⟨62, 48, .RSV, 0, false⟩, ⟨47, 0, .RO, 0, true⟩]⟩,
  ⟨0x28, [], [⟨63, 63, .RO, 0, false⟩, ⟨62, 48, .RO, 0, true⟩, ⟨47, 0, .RO, 0, true⟩]⟩,
  ⟨0x30, [], [⟨63, 63, .RO, 0, false⟩, ⟨62, 48, .RO, 0, true⟩, ⟨47, 0, .RO, 0, true⟩]⟩,
  ⟨0x48, [], [⟨63, 63, .RO, 0, false⟩, ⟨62, 48, .RO, 0, true⟩, ⟨47, 0, .RO, 0, true⟩]⟩,
  ⟨0x38, [], [⟨63, 63, .W1C, 0, false⟩, ⟨62, 56, .RO, 0, false⟩, ⟨55, 48, .RSV, 0, false⟩, ⟨47, 0, .RO, 0, true⟩]⟩,
  ⟨0x40, [], [⟨63, 32, .RSV, 0, false⟩, ⟨31, 16, .RW, 1000, false⟩, ⟨15, 0, .RW, 64, false⟩]⟩,
  ⟨0x10000, [(0x8, 64)], [⟨63, 63, .RO, 0, false⟩, ⟨62, 57, .RO, 0, false⟩, ⟨56, 50, .RO, 0, false⟩, ⟨49, 43, .RO, 0, false⟩, ⟨42, 32, .RSV, 0, false⟩, ⟨31, 16, .RO, 0, false⟩, ⟨15, 0, .RO, 0, false⟩]⟩,
  ⟨0x100, [], [⟨63, 57, .RSV, 0, false⟩, ⟨56, 48, .RW, 0, false⟩, ⟨47, 32, .RW, 0, false⟩, ⟨31, 24, .RW, 0, false⟩, ⟨23, 18, .RW, 0, false⟩, ⟨17, 16, .RW, 0, false⟩, ⟨15, 14, .RW, 0, false⟩, ⟨13, 12, .RW, 0, false⟩, ⟨11, 8, .RO, 0, false⟩, ⟨7, 3, .RSV, 0, false⟩, ⟨2, 2, .RO, 0, false⟩, ⟨1, 1, .W1S, 0, false⟩, ⟨0, 0, .W1S, 0, false⟩]⟩,
  ⟨0x108, [], [⟨63, 32, .RW, 1, false⟩, ⟨31, 16, .RW, 1, false⟩, ⟨15, 0, .RW, 0, false⟩]⟩,
  ⟨0x110, [], [⟨63, 63, .RO, 0, false⟩, ⟨62, 48, .RSV, 0, false⟩, ⟨47, 0, .RO, 0, true⟩]⟩,
  ⟨0x118, [], [⟨63, 0, .RW, 0, false⟩]⟩]


/-- The registers of the `HUB_` window. -/
def regsHUB : List RegDef := [
  ⟨0x10000, [(0x20, 1024)], [⟨63, 57, .RSV, 0, false⟩, ⟨56, 16, .RW, 0, false⟩, ⟨15, 0, .RSV, 0, false⟩]⟩,
  ⟨0x10008, [(0x20, 1024)], [⟨63, 63, .RO, 0, false⟩, ⟨62, 62, .RW, 0, false⟩, ⟨61, 61, .RW, 0, false⟩, ⟨60, 60, .RW, 0, false⟩, ⟨59, 58, .RO, 0, false⟩, ⟨57, 56, .RSV, 0, false⟩, ⟨55, 32, .RW, 0, false⟩, ⟨31, 8, .RW, 0, false⟩, ⟨7, 0, .RSV, 0, false⟩]⟩,
  ⟨0x10010, [(0x20, 1024)], [⟨63, 48, .RW, 0, false⟩, ⟨47, 32, .RW, 0, false⟩, ⟨31, 24, .RSV, 0, false⟩, ⟨23, 0, .RW, 0, false⟩]⟩,
  ⟨0x100, [], [⟨63, 40, .RW, 0, false⟩, ⟨39, 26, .RW, 0, false⟩, ⟨25, 16, .RW, 0, false⟩, ⟨15, 12, .RO, 0, false⟩, ⟨11, 4, .RSV, 0, false⟩, ⟨3, 0, .WO, 0, false⟩]⟩,
  ⟨0x108, [], [⟨63, 16, .RSV, 0, false⟩, ⟨15, 0, .RW, 50, false⟩]⟩,
  ⟨0x110, [], [⟨63, 63, .W1C, 0, false⟩, ⟨62, 57, .RO, 0, false⟩, ⟨56, 0, .RO, 0, false⟩]⟩,
  ⟨0x118, [], [⟨63, 32, .RSV, 0, false⟩, ⟨31, 8, .RO, 0, false⟩, ⟨7, 0, .RO, 0, false⟩]⟩,
  ⟨0x120, [], [⟨63, 63, .RO, 0, false⟩, ⟨62, 48, .RO, 0, true⟩, ⟨47, 0, .RO, 0, true⟩]⟩]


/-- The registers of the `COLL_` window. -/
def regsCOLL : List RegDef := [
  ⟨0x0, [], [⟨63, 60, .RO, 0, false⟩, ⟨59, 57, .RSV, 0, false⟩, ⟨56, 6, .WO, 0, false⟩, ⟨5, 0, .RSV, 0, false⟩]⟩,
  ⟨0x8, [], [⟨63, 20, .RSV, 0, false⟩, ⟨19, 17, .RW, 2, false⟩, ⟨16, 0, .RW, 8192, false⟩]⟩,
  ⟨0x10, [], [⟨63, 63, .RO, 0, false⟩, ⟨62, 44, .RSV, 0, false⟩, ⟨43, 32, .RO, 0, false⟩, ⟨31, 0, .RO, 0, false⟩]⟩,
  ⟨0x18, [], [⟨63, 0, .RO, 0, false⟩]⟩,
  ⟨0x20, [], [⟨63, 63, .RO, 0, false⟩, ⟨62, 48, .RO, 0, true⟩, ⟨47, 0, .RO, 0, true⟩]⟩,
  ⟨0x28, [], [⟨63, 63, .RO, 0, false⟩, ⟨62, 48, .RO, 0, false⟩, ⟨47, 0, .RO, 0, true⟩]⟩]


/-- The registers of the `TIME_` window. -/
def regsTIME : List RegDef := [
  ⟨0x0, [], [⟨63, 0, .RO, 0, false⟩]⟩,
  ⟨0x8, [], [⟨63, 42, .RSV, 0, false⟩, ⟨41, 41, .RW, 0, false⟩, ⟨40, 40, .RW, 0, false⟩, ⟨39, 8, .RW, 0, false⟩, ⟨7, 4, .RSV, 0, false⟩, ⟨3, 2, .RW, 0, false⟩, ⟨1, 0, .RW, 0, false⟩]⟩,
  ⟨0x10, [], [⟨63, 24, .RSV, 0, false⟩, ⟨23, 0, .RW, 0, false⟩]⟩,
  ⟨0x18, [], [⟨63, 32, .RO, 0, false⟩, ⟨31, 7, .RSV, 0, false⟩, ⟨6, 5, .RO, 0, false⟩, ⟨4, 4, .W1C, 0, false⟩, ⟨3, 3, .RSV, 0, false⟩, ⟨2, 0, .RO, 0, false⟩]⟩,
  ⟨0x20, [], [⟨63, 0, .RW, 0, false⟩]⟩,
  ⟨0x28, [], [⟨63, 19, .RSV, 0, false⟩, ⟨18, 18, .RO, 0, false⟩, ⟨17, 17, .RO, 0, false⟩, ⟨16, 16, .RO, 0, false⟩, ⟨15, 0, .RO, 0, false⟩]⟩,
  ⟨0x30, [], [⟨63, 63, .RO, 0, false⟩, ⟨62, 48, .RO, 0, true⟩, ⟨47, 0, .RO, 0, true⟩]⟩,
  ⟨0x100, [], [⟨63, 60, .RO, 0, false⟩, ⟨59, 57, .RSV, 0, false⟩, ⟨56, 6, .WO, 0, false⟩, ⟨5, 0, .RSV, 0, false⟩]⟩,
  ⟨0x200, [(0x10, 16)], [⟨63, 61, .RO, 0, false⟩, ⟨60, 60, .RO, 0, false⟩, ⟨59, 54, .RO, 0, false⟩, ⟨53, 32, .RSV, 0, false⟩, ⟨31, 0, .RO, 0, false⟩]⟩,
  ⟨0x208, [(0x10, 16)], [⟨63, 0, .RO, 0, false⟩]⟩]


/-- The registers of the `PWR_` window. -/
def regsPWR : List RegDef := [
  ⟨0x0, [], [⟨63, 24, .RSV, 0, false⟩, ⟨23, 16, .RW, 100, false⟩, ⟨15, 11, .RSV, 0, false⟩, ⟨10, 0, .RW, 1500, false⟩]⟩,
  ⟨0x8, [], [⟨63, 8, .RSV, 0, false⟩, ⟨7, 0, .RW, 40, false⟩]⟩,
  ⟨0x10, [], [⟨63, 63, .RO, 0, false⟩, ⟨62, 59, .RO, 0, false⟩, ⟨58, 55, .RO, 0, false⟩, ⟨54, 48, .RSV, 0, false⟩, ⟨47, 0, .RO, 0, true⟩]⟩,
  ⟨0x18, [], [⟨63, 16, .RSV, 0, false⟩, ⟨15, 12, .RO, 0, false⟩, ⟨11, 9, .RSV, 0, false⟩, ⟨8, 8, .RW, 1, false⟩, ⟨7, 7, .RO, 0, false⟩, ⟨6, 4, .RW, 0, false⟩, ⟨3, 3, .RSV, 0, false⟩, ⟨2, 0, .RO, 0, false⟩]⟩,
  ⟨0x20, [], [⟨63, 16, .RSV, 0, false⟩, ⟨15, 0, .RWS, 11500, false⟩]⟩,
  ⟨0x28, [], [⟨63, 63, .RO, 0, false⟩, ⟨62, 50, .RSV, 0, false⟩, ⟨49, 49, .W1C, 0, false⟩, ⟨48, 48, .RO, 0, false⟩, ⟨47, 0, .RO, 0, true⟩]⟩]


/-- The registers of the `SVC_` window. -/
def regsSVC : List RegDef := [
  ⟨0x0, [], [⟨63, 20, .RSV, 0, false⟩, ⟨19, 4, .RO, 0, false⟩, ⟨3, 0, .RO, 0, false⟩]⟩,
  ⟨0x8, [], [⟨63, 32, .RSV, 0, false⟩, ⟨31, 0, .WO, 0, false⟩]⟩,
  ⟨0x100, [(0x8, 22)], [⟨63, 63, .RO, 0, false⟩, ⟨62, 58, .RO, 0, false⟩, ⟨57, 32, .RSV, 0, false⟩, ⟨31, 0, .RO, 0, false⟩]⟩,
  ⟨0x10, [], [⟨63, 32, .RW, 0, false⟩, ⟨31, 0, .RO, 0, false⟩]⟩,
  ⟨0x20, [], [⟨63, 63, .RO, 0, false⟩, ⟨62, 48, .RSV, 0, false⟩, ⟨47, 0, .RO, 0, true⟩]⟩,
  ⟨0x10000, [(0x1000, 2), (0x800, 2), (0x20, 16)], [⟨63, 57, .RSV, 0, false⟩, ⟨56, 0, .RW, 0, false⟩]⟩,
  ⟨0x10008, [(0x1000, 2), (0x800, 2), (0x20, 16)], [⟨63, 63, .RW, 0, false⟩, ⟨62, 59, .RW, 0, false⟩, ⟨58, 51, .RW, 0, false⟩, ⟨50, 37, .RW, 0, false⟩, ⟨36, 23, .RW, 0, false⟩, ⟨22, 0, .RO, 0, false⟩]⟩,
  ⟨0x12000, [(0x400, 2), (0x10, 64)], [⟨63, 63, .RW, 0, false⟩, ⟨62, 59, .RW, 0, false⟩, ⟨58, 55, .RW, 0, false⟩, ⟨54, 48, .RSV, 0, false⟩, ⟨47, 32, .RW, 0, false⟩, ⟨31, 20, .RW, 0, false⟩, ⟨19, 16, .RSV, 0, false⟩, ⟨15, 0, .RW, 0, false⟩]⟩,
  ⟨0x13000, [(0x20, 2)], [⟨63, 63, .RO, 0, false⟩, ⟨62, 48, .RSV, 0, false⟩, ⟨47, 0, .RO, 0, true⟩]⟩,
  ⟨0x13008, [(0x20, 2)], [⟨63, 63, .RO, 0, false⟩, ⟨62, 48, .RSV, 0, false⟩, ⟨47, 0, .RO, 0, true⟩]⟩,
  ⟨0x13010, [(0x20, 2)], [⟨63, 63, .RO, 0, false⟩, ⟨62, 48, .RO, 0, true⟩, ⟨47, 0, .RO, 0, true⟩]⟩,
  ⟨0x13018, [(0x20, 2)], [⟨63, 2, .RSV, 0, false⟩, ⟨1, 1, .RO, 0, false⟩, ⟨0, 0, .RO, 0, false⟩]⟩,
  ⟨0x18, [], [⟨63, 1, .RSV, 0, false⟩, ⟨0, 0, .W1S, 0, false⟩]⟩,
  ⟨0x200, [(0x8, 16)], [⟨63, 20, .RSV, 0, false⟩, ⟨19, 10, .RW, 1000, false⟩, ⟨9, 9, .RO, 0, false⟩, ⟨8, 1, .RSV, 0, false⟩, ⟨0, 0, .W1S, 0, false⟩]⟩,
  ⟨0x12008, [(0x400, 2), (0x10, 64)], [⟨63, 8, .RSV, 0, false⟩, ⟨7, 0, .RW, 0, false⟩]⟩]


/-- The registers of the `SNS_` window. -/
def regsSNS : List RegDef := [
  ⟨0x0, [], [⟨63, 63, .RW, 0, false⟩, ⟨62, 57, .RSV, 0, false⟩, ⟨56, 0, .RW, 0, false⟩]⟩,
  ⟨0x8, [], [⟨63, 50, .RW, 0, false⟩, ⟨49, 34, .RW, 1000, false⟩, ⟨33, 27, .RW, 0, false⟩, ⟨26, 23, .RW, 4, false⟩, ⟨22, 0, .RO, 0, false⟩]⟩,
  ⟨0x10000, [(0x8, 256)], [⟨63, 32, .RSV, 0, false⟩, ⟨31, 16, .RO, 0, false⟩, ⟨15, 0, .RO, 0, false⟩]⟩,
  ⟨0x20000, [(0x8, 256)], [⟨63, 16, .RSV, 0, false⟩, ⟨15, 0, .RO, 0, false⟩]⟩,
  ⟨0x30000, [(0x8, 8)], [⟨63, 63, .RO, 0, false⟩, ⟨62, 48, .RSV, 0, false⟩, ⟨47, 32, .RO, 0, false⟩, ⟨31, 16, .RO, 0, false⟩, ⟨15, 0, .RO, 0, false⟩]⟩,
  ⟨0x30100, [(0x8, 8)], [⟨63, 16, .RSV, 0, false⟩, ⟨15, 0, .RO, 0, false⟩]⟩,
  ⟨0x30200, [], [⟨63, 28, .RSV, 0, false⟩, ⟨27, 16, .RO, 0, false⟩, ⟨15, 0, .RO, 0, false⟩]⟩,
  ⟨0x40000, [(0x8, 132)], [⟨63, 63, .RO, 0, false⟩, ⟨62, 32, .RSV, 0, false⟩, ⟨31, 16, .RO, 0, false⟩, ⟨15, 0, .RO, 0, false⟩]⟩]


/-- The registers of the `SEC_` window. -/
def regsSEC : List RegDef := [
  ⟨0x0, [], [⟨63, 36, .RSV, 0, false⟩, ⟨35, 35, .RO, 0, false⟩, ⟨34, 34, .RO, 0, false⟩, ⟨33, 33, .RO, 0, false⟩, ⟨32, 32, .RO, 0, false⟩, ⟨31, 16, .RSV, 0, false⟩, ⟨15, 8, .RO, 0, true⟩, ⟨7, 7, .RO, 0, false⟩, ⟨6, 6, .RSV, 0, false⟩, ⟨5, 4, .RO, 0, false⟩, ⟨3, 0, .RO, 2, false⟩]⟩,
  ⟨0x8, [], [⟨63, 0, .RO, 0, false⟩]⟩,
  ⟨0x10, [], [⟨63, 0, .RO, 0, false⟩]⟩,
  ⟨0x18, [], [⟨63, 0, .RO, 0, false⟩]⟩,
  ⟨0x20, [(0x8, 4)], [⟨63, 0, .RO, 0, false⟩]⟩,
  ⟨0x40, [(0x8, 8)], [⟨63, 0, .RO, 0, false⟩]⟩,
  ⟨0x80, [(0x8, 5)], [⟨63, 32, .RO, 0, false⟩, ⟨31, 0, .RO, 0, false⟩]⟩,
  ⟨0x100, [], [⟨63, 12, .RSV, 0, false⟩, ⟨11, 8, .RO, 0, false⟩, ⟨7, 7, .RO, 0, false⟩, ⟨6, 5, .RSV, 0, false⟩, ⟨4, 0, .WO, 0, false⟩]⟩,
  ⟨0x108, [], [⟨63, 57, .RSV, 0, false⟩, ⟨56, 6, .RW, 0, false⟩, ⟨5, 0, .RSV, 0, false⟩]⟩,
  ⟨0x200, [], [⟨63, 0, .RO, 0, false⟩]⟩,
  ⟨0x208, [], [⟨63, 0, .RO, 0, false⟩]⟩,
  ⟨0x210, [], [⟨63, 63, .RO, 0, false⟩, ⟨62, 48, .RO, 0, true⟩, ⟨47, 0, .RO, 0, true⟩]⟩,
  ⟨0x10000, [(0x40, 64), (0x8, 8)], [⟨63, 0, .RO, 0, false⟩]⟩]


/-- The registers of the `RST_` window. -/
def regsRST : List RegDef := [
  ⟨0x0, [], [⟨63, 8, .RSV, 0, false⟩, ⟨7, 7, .W1C, 0, false⟩, ⟨6, 6, .W1C, 0, false⟩, ⟨5, 5, .W1C, 0, false⟩, ⟨4, 4, .W1C, 0, false⟩, ⟨3, 3, .W1C, 0, false⟩, ⟨2, 2, .W1C, 0, false⟩, ⟨1, 1, .W1C, 0, false⟩, ⟨0, 0, .W1C, 1, false⟩]⟩,
  ⟨0x8, [], [⟨63, 6, .RSV, 0, false⟩, ⟨5, 2, .RO, 0, false⟩, ⟨1, 1, .RO, 0, false⟩, ⟨0, 0, .RO, 0, false⟩]⟩,
  ⟨0x10, [], [⟨63, 1, .RSV, 0, false⟩, ⟨0, 0, .W1S, 0, false⟩]⟩,
  ⟨0x18, [], [⟨63, 24, .RSV, 0, false⟩, ⟨23, 20, .RO, 0, false⟩, ⟨19, 16, .WO, 0, false⟩, ⟨15, 8, .RSV, 0, false⟩, ⟨7, 0, .RW, 0, false⟩]⟩]


/-- The registers of the `CLK_` window. -/
def regsCLK : List RegDef := [
  ⟨0x0, [], [⟨63, 24, .RSV, 0, false⟩, ⟨23, 12, .W1C, 0, false⟩, ⟨11, 0, .RO, 0, false⟩]⟩]


/-- The registers that a block window holds, by window number (R426). -/
def windowRegs (w : Nat) : List RegDef :=
  if w < 0x100 then regsTILE
  else if w < 0x120 then regsPORT
  else if w = 0x200 then regsHUB else if w = 0x201 then regsBRM else if w = 0x202 then regsSPL
  else if w = 0x203 then regsCOLL else if w = 0x204 then regsKNOT else if w = 0x205 then regsFAB
  else if w = 0x206 then regsMIG else if w = 0x207 then regsPOOL else if w = 0x208 then regsHBM
  else if w = 0x209 then regsPWR else if w = 0x20A then regsCLK else if w = 0x20B then regsRST
  else if w = 0x20C then regsSEC else if w = 0x20D then regsTIME else if w = 0x20E then regsNVS
  else if w = 0x20F then regsSVC else if w = 0x210 then regsSNS else []

/-- Whether the distance `d` from a register's base is one of its indexed copies; strides fall. -/
def stridesHit : Nat → List (Nat × Nat) → Bool
  | d, [] => d == 0
  | d, (st, n) :: rest =>
    let i := d / st
    if i < n then stridesHit (d - st * i) rest else stridesHit (d - st * (n - 1)) rest

/-- The register at an offset within a block window, if there is one. -/
def findReg : List RegDef → Nat → Option RegDef
  | [], _ => none
  | r :: rs, o => if r.base ≤ o ∧ stridesHit (o - r.base) r.strides then some r else findReg rs o

/-- The register at a control-space offset (R426), if there is one. -/
def regAt (off : Nat) : Option RegDef := findReg (windowRegs (off / 0x100000)) (off % 0x100000)

/-- A register's reset value from its fields. -/
def fieldsReset : List FieldDef → Nat
  | [] => 0
  | f :: fs => f.rst * 2 ^ f.lo + fieldsReset fs

/-- The value a control register holds after reset. `FAB_DROUTE[s]` resets to port and alternate s mod 24 (R281). -/
def regReset (off : Nat) : BitVec 64 :=
  match regAt off with
  | none => 0
  | some r =>
    if Reg.FAB_DROUTE 0 ≤ off ∧ off < Reg.FAB_DROUTE 64 then
      let p := (off - Reg.FAB_DROUTE 0) / 8 % 24
      BitVec.ofNat 64 (p + p * 256)
    else BitVec.ofNat 64 (fieldsReset r.fields)

end Sys2Proof.Machine
end

