-- ==== Sys2Proof/Machine/State.lean ====
section
/-! DEFINITION. The state of the T9 as plain data: every register, memory, queue, counter, mode and pin of the manual,
the queue of waiting commands, and the state after reset. Every large array is a sparse table (Tab). -/

namespace Sys2Proof.Machine

/-- Why the machine stops. No command of the manual stops the part; the one constructor is raised by nothing (safe). -/
inductive Fault where
  /-- raised by nothing: every error of the manual has an effect on the state (safe) -/
  | none
deriving DecidableEq, Repr

/-- Why a command has no meaning. -/
inductive Refusal where
  /-- raised by the dispatch of a command whose meaning is not written (safe: nothing is claimed of it) -/
  | notModelled (mnemonic : String)
deriving DecidableEq, Repr

/-! ### Packets and frames (chapter 11) -/

/-- A packet: its header fields (R250, R251), the payload or control in flit 0, and the data that starts at flit 1 for
the types with a control (R254). `body` is the 32-byte control's four words for those types and empty otherwise; `hcrcOk`
is whether the header passed its CRC on arrival, and `flits` the flits it came in. -/
structure Packet where
  ty : Nat
  vc : Nat
  dest : BitVec 24 := 0
  src : BitVec 24 := 0
  glove : BitVec 16 := 0
  epoch : BitVec 16 := 0
  taddr : BitVec 57 := 0
  len : Nat := 0
  fmt : Nat := 0
  cm : Bool := false
  echo : Nat := 0
  seq : BitVec 16 := 0
  circ : Nat := 0
  hitch : Nat := 0
  adapt : Bool := false
  sync : Bool := false
  poison : Bool := false
  gloved : Bool := false
  escaped : Bool := false
  reply : Bool := false
  /-- header bits [239:214] and FLAGS bits 6 and 7, which must be 0 -/
  rsv : Nat := 0
  hcrcOk : Bool := true
  body : List W64 := []
  data : List Byte := []
  /-- its TYPE and LEN did not agree with the flits it arrived in -/
  badLen : Bool := false
  /-- flits of this input's reserved and shared credit that it holds (R257) -/
  crR : Nat := 0
  crS : Nat := 0
  /-- the lanyard when it joined the queue it waits in -/
  since : Nat := 0
  /-- a cast's inner packet that arrived as STAGE 0: the hitch entry it arrived for (R272) -/
  stage0 : Option Nat := none
  /-- the model's own: where the packet of a NAK with LOCAL = 1 was to go -/
  lostTo : Option (BitVec 24) := none
deriving DecidableEq, Repr

/-- A circuit slot's bucket and last use beside its register (R267 to R270). -/
structure CircUse where
  lastUse : Nat := 0
  /-- bucket in 1/2^20 flit, as it stood at `asOf` -/
  bucket : Nat := 0
  asOf : Nat := 0
deriving DecidableEq, Repr

/-- The fault injector's running state (R278). -/
structure Injector where
  /-- matching packets met since armed -/
  met : Nat := 0
  fired : Nat := 0
  /-- a packet held by REORDER, by VC -/
  reorder : List Packet := []
  /-- packets held by DELAY, each with the lanyard of its release -/
  delayed : List (Nat × Packet) := []
  /-- flit 0 bit to invert in the next frame after its flit CRC (LEVEL 0) -/
  linkFlip : Option Nat := none
deriving DecidableEq, Repr

/-- A fabric port's link layer and queues (R243 to R249, R257, R258). -/
structure Port where
  enabled : Bool := true
  failedLanes : BitVec 4 := 0
  /-- FSEQ of the newest frame sent, and the last FSEQ received in order -/
  txSeq : BitVec 16 := 0
  rxAck : BitVec 16 := 0
  /-- frames sent and not covered by an ACK, oldest first -/
  replay : List LinkFrame := []
  nakReq : Bool := false
  badRun : Nat := 0
  initSent : Bool := false
  initRecv : Bool := false
  initFails : Nat := 0
  /-- credit the partner advertised, and of it what is held now: reserved per VC, and shared -/
  advRsvd : Nat := 0
  advShared : Nat := 0
  held : Tab Nat := []
  heldShared : Nat := 0
  /-- credit returns waiting for a frame: pool and flits -/
  returns : List (Nat × Nat) := []
  /-- reserved credit advertised at the last training, and flits held in the input buffer: per VC reserved, and shared -/
  ownRsvd : Nat := 72
  usedRsvd : Tab Nat := []
  usedShared : Nat := 0
  /-- flits of a packet whose last flit has not arrived -/
  rxFlits : List (BitVec 512) := []
  /-- flits of a packet being sent -/
  txFlits : List (BitVec 512) := []
  /-- packets of flits in unacknowledged frames, with the FSEQ of each one's last frame -/
  inFlight : List (BitVec 16 × Packet) := []
  rrCirc : Nat := 0
  rrVc : Nat := 0
  violStart : Nat := 0
  violCount : Nat := 0
  lastNak : Option Nat := none
  lastProbe : Option Nat := none
  lastRx : Nat := 0
  retrainAt : Nat := 0
  circ : Tab CircUse := []
  inj : Injector := {}
deriving DecidableEq, Repr

/-- A rate limiter (R266). -/
structure Limiter where
  rate : Nat
  lastDec : Nat
  lastEcho : Nat
  /-- bucket in 1/2^20 flit, as it stood at `asOf` -/
  bucket : Nat
  asOf : Nat
deriving DecidableEq, Repr

/-- A circuit this device set up (R267, R268, R270). -/
structure OwnCirc where
  cid : W32
  dest : BitVec 24
  glove : Nat
  share : Nat
  port : Nat
  slot : Nat
  usable : Bool
  sentAt : Nat
  lastUse : Nat
deriving DecidableEq, Repr

/-- The router (R256, R259 to R266). -/
structure Router where
  /-- packets at each input: port × 8 + VC; the crossbar is port 32 -/
  inq : Tab (List Packet) := []
  /-- packets at each output: port × 8 + VC -/
  outq : Tab (List Packet) := []
  /-- SEQ of the last packet sent, per slot × 16 + VC × 2 + ADAPT; slot 64 stands for all destinations beyond the pod (R261) -/
  txSeq : Tab Nat := []
  /-- per slot × 8 + VC, no SYNC is due (R261) -/
  synced : Tab Bool := []
  /-- per slot, the port last used plus 1 and the end of the drain hold after a change -/
  lastPort : Tab Nat := []
  drain : Tab Nat := []
  /-- packets held while a route drains -/
  heldPkts : List Packet := []
  /-- base SEQ per slot × 8 + VC (R261); 65,536 none -/
  rxBase : Tab Nat := []
  /-- pending marks per source, and since when (R265) -/
  marks : Tab Nat := []
  marksAt : Tab Nat := []
  limits : Tab (Option Limiter) := []
  lastPid : Option W32 := none
  circs : List OwnCirc := []
  /-- NAKs discarded because their glove is gone (R255) -/
  naksLost : Nat := 0
deriving DecidableEq, Repr

/-! ### Knots, graphs and gloves (chapter 2) -/

/-- A waiter of a knot: a task slot, or a context stopped in KWAIT (R13). -/
inductive Waiter where
  | task (slot : Nat)
  | ctx (tile ctx : Nat)
deriving DecidableEq, Repr

/-- A knot (R13, R37, R307). -/
structure Knot where
  count : Nat := 0
  target : Nat := 0
  taint : Bool := false
  compare : Bool := false
  waiters : List Waiter := []
  marks : List Nat := []
deriving DecidableEq, Repr

/-- Where a task stands (R28, R32). -/
inductive TaskPh where
  | waiting
  | ready
  | running (tile ctx : Nat)
  /-- at HALT in twin mode, its increments held until the partner's digests are compared (R123) -/
  | held
deriving DecidableEq, Repr

/-- A registered task (R23, R28, R33, R34). -/
structure Task where
  glove : Nat
  graph : Nat
  index : Nat
  desc : List W64
  /-- input knots not yet satisfied -/
  unsat : List Nat := []
  ph : TaskPh := .waiting
  readyAt : Nat := 0
  taint : Bool := false
  marks : List Nat := []
  runStart : Nat := 0
  paused : Nat := 0
  longRaised : Bool := false
deriving DecidableEq, Repr

/-- An admitted graph (R21, R33). -/
structure Graph where
  glove : Nat
  stepId : W64
  doneKnot : Nat
  stepEnd : Bool
  remaining : Nat
  /-- TAKEN at its admission (R123) -/
  ordinal : Nat := 0
  taint : Bool := false
  marks : List Nat := []
  order : Nat := 0
deriving DecidableEq, Repr

/-- A residency record: glove, base and length of a range a retired task left in the TLS (R31). -/
structure KeptRange where
  glove : Nat
  base : Nat
  len : Nat
deriving DecidableEq, Repr

/-- A held admission: its last progress, and the knots that the held graph initialises (R27). -/
structure Hold where
  since : Nat
  knots : List Nat
deriving DecidableEq, Repr

/-- What a twin comparison holds back: a task's retirement, a routing step's or a collective's completion (R123). -/
inductive TwinWhat where
  | task (slot : Nat)
  | step (engine : Nat)
  | coll (handle : Nat)
deriving DecidableEq, Repr

/-- A subject of twin mode that has reached its comparison (R123, R124). -/
structure TwinHeld where
  what : TwinWhat
  glove : Nat
  /-- SUBJECT, TASK, ID and GRAPH of its packet -/
  subject : Nat
  task : Nat
  id : W64
  graph : Nat
  /-- its digests ACC, PKT, KNOT, ENG -/
  digs : List W64
  /-- its checkpoint ring, newest first, and the windows it ran -/
  ring : List (W64 × W64 × W64)
  windows : Nat
  since : Nat
  /-- the digests differed, or did not come, and it stays held -/
  diverged : Bool := false
deriving DecidableEq, Repr

/-- A DIGEST of the twin that waits for its subject here (R124). -/
structure TwinDigest where
  glove : Nat
  subject : Nat
  task : Nat
  id : W64
  graph : Nat
  digs : List W64
  since : Nat
deriving DecidableEq, Repr

/-- The knot engine beside its registers. -/
structure KnotEngine where
  knots : Tab Knot := []
  tasks : Tab (Option Task) := []
  graphs : Tab (Option Graph) := []
  /-- a counter that orders graphs as admitted and tasks as made ready -/
  order : Nat := 0
  /-- slot served last: of the URGENT class, of the BULK class (R29) -/
  lastUrgent : Nat := 63
  lastBulk : Nat := 63
  /-- held admission per glove (R27) -/
  holds : Tab (Option Hold) := []
  /-- per tile, the URGENT tasks for which its next free contexts are reserved (R30) -/
  reserved : Tab (List Nat) := []
  /-- per tile, the ranges kept by the last eight tasks retired there, newest first (R31) -/
  kept : Tab (List (List KeptRange)) := []
  /-- per slot, further causes met during a teardown (R44) -/
  causes : Tab (List Nat) := []
  jobFull : Bool := false
  /-- the glove's batch step must abort and replay (R36), per slot -/
  replay : Tab Bool := []
  /-- the global id and epoch that a RETIRED slot keeps as a record (R39) -/
  records : Tab (Option (Nat × Nat)) := []
  twins : List TwinHeld := []
  digests : List TwinDigest := []
  /-- gloves that stand still after a divergence (R125) -/
  still : Tab Bool := []
deriving DecidableEq, Repr

/-! ### Tiles (chapters 3 to 8) -/

/-- A loop-stack entry: first and last address of the body, and runs left (R67). -/
structure LoopEnt where
  first : BitVec 57
  last : BitVec 57
  left : Nat
deriving DecidableEq, Repr

/-- What a context waits for (R47). -/
inductive Wait where
  | none
  | kwait (knot : Nat) (deadline : Option Nat) (w : FmtB)
  | kat (v : Nat) (w : FmtB)
  | fence (mask : Nat) (order : Bool) (acks : Bool)
deriving DecidableEq, Repr

/-- An asynchronous move (R70, R71): its tag, and the descriptors it copies between, as records. -/
structure Move where
  tag : Nat
  store : Bool
  dst : List W64
  src : List W64
deriving DecidableEq, Repr

/-- The debug halt of a context (R381). -/
inductive DbgHalt where
  | none
  | halted (since : Nat)
  /-- a STEP lets it issue one instruction -/
  | stepping
  | steppedHalt (since : Nat)
deriving DecidableEq, Repr

/-- A task context (R50, R52). -/
structure Ctx where
  task : Option Nat := none
  glove : Nat := 0
  g : Tab W64 := []
  p : Tab Bool := []
  /-- word w of descriptor t at 8 t + w -/
  t : Tab W64 := []
  /-- lane j of register v at 128 v + j -/
  v : Tab W32 := []
  pc : BitVec 57 := 0
  loops : List LoopEnt := []
  loopsAside : Option (List LoopEnt) := none
  /-- the lace slot: the lace's steps (R137) -/
  lace : Option (List W64) := none
  csr : Tab W64 := []
  moves : List Move := []
  banks : List Nat := []
  wait : Wait := .none
  /-- a pod-range load or atomic not yet answered: its tag, the instruction, and whether it is an atomic (R283) -/
  podLoad : Option Nat := none
  /-- bytes of a move's pod-range source lines, by the source's glove-virtual address, until the move completes (R283) -/
  staged : Tab Byte := []
  issued : Nat := 0
  stall : Nat := 0
  dispatchedAt : Nat := 0
  /-- stopped by its glove's teardown, waiting for the scrub (R42) -/
  stopped : Bool := false
  halt : DbgHalt := .none
  /-- digests of the task in twin mode: ACC, PKT, KNOT, ENG (R122) -/
  digAcc : W64 := 0
  digPkt : W64 := 0
  digKnot : W64 := 0
  digEng : W64 := 0
  /-- the digests ACC, PKT, KNOT at the end of each window of 4,096 instructions, the last 64, newest first (R122) -/
  ring : List (W64 × W64 × W64) := []
deriving DecidableEq, Repr

/-- An exact cell: a 320-bit two's complement sum in units of its least bit, and its flags (R115). -/
structure Cell where
  value : BitVec 320 := 0
  nan : Bool := false
  pinf : Bool := false
  ninf : Bool := false
  wrap : Bool := false
deriving DecidableEq, Repr

/-- A part of a tile's storage that a queued instruction reads or writes. -/
inductive Region where
  | vreg (ctx v : Nat)
  | bank (b : Nat)
  | tls (lo hi : Nat)
  | cells (row : Nat)
  | lace (ctx : Nat)
  | greg (ctx r : Nat)
  /-- glove memory -/
  | mem
deriving DecidableEq, Repr

/-- A matrix, vector, sparse or sieve instruction waiting in its queue, with the operands it took at issue (R88, R127, R156, R168). -/
structure Queued where
  /-- which instruction: the CLASS and OP of R64 -/
  cls : Nat
  op : Nat
  ctx : Nat
  w : FmtB
  pc : BitVec 57
  /-- descriptor records, lace steps or scalars taken at issue -/
  a : List W64 := []
  b : List W64 := []
  d : List W64 := []
  count : Nat := 0
  /-- physical bank of a bank operand: destination, A, B -/
  bankD : Nat := 0
  bankA : Nat := 0
  bankB : Nat := 0
  /-- g-register operands and context registers taken at issue -/
  ga : W64 := 0
  gb : W64 := 0
  seed : W64 := 0
  stream : W64 := 0
  stoch : Bool := false
  stats : W64 := 0
  lace : List W64 := []
  reads : List Region := []
  writes : List Region := []
deriving DecidableEq, Repr

/-- A sieve record and the context that wrote it (R171, R172). -/
structure SieveRec where
  ctx : Nat
  token : Nat
  expert : Nat
  pos : Nat
  lenM1 : Nat
  part : Bool
  fn : Nat
  key : W32
  f : W32
deriving DecidableEq, Repr

/-- A tile. -/
structure Tile where
  ctxs : Tab Ctx := []
  tls : Tab Byte := []
  /-- the glove slot plus 1 that last wrote a byte of the TLS: the scrub of R42 clears its bytes -/
  tlsBy : Tab Nat := []
  /-- element (m, n) of physical bank b at 4096 b + 64 m + n -/
  banks : Tab W32 := []
  /-- the bank is written no further after a fault (R94) -/
  deadBanks : List Nat := []
  /-- the vector engine's exact cells: cell j of cell row r at 128 r + j (R135) -/
  cells : Tab Cell := []
  /-- contexts in the issue window, and those waiting to enter, longest first (R47) -/
  window : List Nat := []
  entry : List Nat := []
  lastIssued : Nat := 15
  /-- the event queue (R80): context and code -/
  evq : List (Nat × W64) := []
  mmaQ : List Queued := []
  vecQ : List Queued := []
  spmQ : List Queued := []
  sieveQ : List Queued := []
  sieve : List SieveRec := []
  arrayBusy : Nat := 0
  spmBusy : Nat := 0
deriving DecidableEq, Repr

/-! ### Memory tiers (chapter 10) -/

/-- Where a page of the local range is held (R214, R215, R228). -/
inductive Place where
  /-- an HBM4 frame: channel stack × 32 + channel, and frame within it -/
  | hbm (ch frame : Nat)
  /-- the resident partition of a die -/
  | resident (die : Nat)
  | discarded
deriving DecidableEq, Repr

/-- A page of the frame map (R214, R217, R218). -/
structure Page where
  place : Place
  age : Nat := 0
  pinned : Bool := false
deriving DecidableEq, Repr

/-- An entry of the candidate table (R216). -/
structure Cand where
  page : Nat
  count : Nat
  since : Nat
  die : Nat
deriving DecidableEq, Repr

/-- A block of a weight stream's list (R220). -/
structure StreamBlk where
  data : Nat
  dbytes : Nat
  die : Nat
  scale : Nat
  sbytes : Nat
deriving DecidableEq, Repr

/-- An open weight stream (R220 to R222). -/
structure StreamEnt where
  glove : Nat
  seq : Nat
  winPages : Nat
  loop : Bool
  knot : Nat
  blocks : List StreamBlk
  /-- pages the engine has made resident for the window -/
  filled : List Nat := []
deriving DecidableEq, Repr

/-- The migration engine, HBM4 controllers, pool engine and NVS beside their registers. -/
structure Memory where
  /-- the pages that are not as R214 places them -/
  pages : Tab Page := []
  /-- per channel, HBM4 frames that hold no page -/
  freeFrames : Tab (List Nat) := []
  cands : List Cand := []
  lastAge : Nat := 0
  /-- poisoned lines, by line number (R229) -/
  poison : Tab Bool := []
  streams : Tab (Option StreamEnt) := []
  streamSeq : Nat := 0
  /-- a channel being drained into TEST by VACATE -/
  vacating : Tab Bool := []
  /-- stacks at 95 degrees or more: halved read rate, doubled refresh -/
  hot : Tab Bool := []
  /-- head of each pool's free list; 0xFFFF_FFFF is none -/
  poolHead : Tab Nat := []
  /-- NAND dies marked failed, dies not used for their ID, and retries made -/
  dieFailed : Tab Bool := []
  dieRetries : Tab Nat := []
  /-- translations whose invalidation is in progress -/
  invBusy : Bool := false
deriving DecidableEq, Repr

/-! ### Pod memory and collectives (chapter 12) -/

/-- A remote access waiting for its answer (R283, R291). -/
structure PodReq where
  tag : Nat
  /-- the context that issued it, tile × 16 + context, while its task runs -/
  owner : Option Nat
  /-- 0 load, 1 store, 2 atomic with a returned value, 3 atomic without, 4 a move's line read, 5 a move's line write -/
  kind : Nat
  bytes : Nat
  w : FmtB
  dest : BitVec 24
  taddr : Nat
  deadline : Nat
  glove : Nat
  /-- for a move's source line: its glove-virtual address -/
  line : Nat := 0
deriving DecidableEq, Repr

/-- A transfer in flight (R294 to R296). -/
structure Transfer where
  xid : Nat
  put : Bool
  glove : Nat
  /-- the context that issued it, tile × 16 + context, while its task runs -/
  owner : Option Nat
  desc : List W64
  addr : Nat
  /-- offsets of the chunks sent and not yet answered -/
  waiting : List Nat
  /-- the status a NAK gave, once it stopped -/
  stopped : Option Nat := none
  deadline : Nat := 0
deriving DecidableEq, Repr

/-- A chunk landed in DST whose readback check has not been made (R305): address, ECRC, bytes. -/
structure Chunk where
  addr : Nat
  ecrc : Nat
  len : Nat
deriving DecidableEq, Repr

/-- A collective held by the engine (R297 to R308). -/
structure Coll where
  glove : Nat
  desc : List W64
  members : List (BitVec 24)
  gen : Nat
  started : Bool := false
  startedAt : Nat := 0
  released : Bool := false
  early : Bool := false
  checkSlot : Option Nat := none
  retries : Nat := 0
  fails : Nat := 0
  /-- when each member arrived, in that order (R304) -/
  arrivals : List (Nat × Nat) := []
  /-- first element of the home's window, its cells or values by element, and terms landed: member, first element, elements -/
  window : Nat := 0
  cells : Tab Cell := []
  vals : Tab (Option W32) := []
  got : List (Nat × Nat × Nat) := []
  /-- RESULT chunks landed, and blocks written: member, first element or byte, elements or bytes -/
  landed : List (Nat × Nat × Nat) := []
  checks : List Chunk := []
  /-- ALLTOALLV: bytes each member sends here, and members whose grant came -/
  counts : Tab (Option Nat) := []
  granted : List Nat := []
  /-- members whose ARRIVE came -/
  arrived : List Nat := []
  /-- its ENG digest, and whether its completion is held for the twin's -/
  eng : W64 := 0
  twinHeld : Bool := false
deriving DecidableEq, Repr

/-- A packet refused with NAK BUSY, to be sent again (R300, R302). -/
structure BusyRetry where
  pkt : Packet
  due : Nat
  limit : Nat
deriving DecidableEq, Repr

/-- An ownership exchange this device leads (R288, R290). -/
structure OwnXfer where
  entry : Nat
  newOwner : BitVec 24
  knot : Nat
  sent : Bool
  deadline : Nat
deriving DecidableEq, Repr

/-- The hub's pod memory and the collective engine beside their registers. -/
structure Hub where
  reqs : List PodReq := []
  nextTag : Nat := 0
  transfers : List Transfer := []
  nextXid : Nat := 0
  xfers : List OwnXfer := []
  colls : Tab (Option Coll) := []
  slots : Tab (Option Nat) := []
  /-- glove, CTAG and TIMEOUT's end of collectives that have completed here (R302) -/
  past : List (Nat × Nat × Nat) := []
  busy : List BusyRetry := []
  /-- COUNTS and COLL packets sent, with their SEQ, until their step or collective ends: a NAK BUSY names one by it -/
  sent : List Packet := []
  /-- batch-step boundaries waiting for open check slots: glove and STEP_ID (R309) -/
  boundaries : List (Nat × W64) := []
deriving DecidableEq, Repr

/-! ### Service complex (chapter 14) -/

/-- An event record (R341): lanyard, code word, two arguments. -/
structure EvRec where
  at' : W64 := 0
  word1 : W64 := 0
  word2 : W64 := 0
  word3 : W64 := 0
deriving DecidableEq, Repr

/-- A filled request slot of the control arbiter (R359, R360): register offset, low bit of the field, rank, source, value. -/
structure ArbSlot where
  off : Nat
  lo : Nat
  rank : Nat
  src : Nat
  val : Nat
deriving DecidableEq, Repr

/-- A write of the running arbitration round: register offset, source, and the value written. -/
structure ArbWrite where
  off : Nat
  src : Nat
  val : W64
deriving DecidableEq, Repr

/-- An Ethernet MAC beside its registers (R343 to R348). -/
structure Mac where
  /-- link-down events of the last second; hold-down end; start of the present negotiation; EV_ETH_LINK raised -/
  downs : List Nat := []
  holdUntil : Option Nat := none
  linkSince : Nat := 0
  linkEvent : Bool := false
  /-- per priority: paused since, paused until, and PFC ignored until -/
  pausedSince : Tab (Option Nat) := []
  pausedUntil : Tab Nat := []
  ignoreUntil : Tab (Option Nat) := []
deriving DecidableEq, Repr

/-- The service complex beside its registers. -/
structure Service where
  evlog : Tab EvRec := []
  /-- counters that have raised EV_CTR_SAT: offset × 64 + low bit (R357) -/
  satRaised : Tab Bool := []
  refreshed : Tab Nat := []
  wdog : Nat := 0
  mgmtConf : Nat := 0
  slots : List ArbSlot := []
  round : List ArbWrite := []
  macs : Tab Mac := []
  /-- rail telemetry: stale until; implausible readings in a row -/
  staleUntil : Tab (Option Nat) := []
  badReads : Tab Nat := []
  lastTelem : Nat := 0
  /-- ACLK per C-die in MHz, stretched on droop, and the duty limit in 1/64 -/
  aclk : Tab Nat := []
  stretched : Tab Bool := []
  duty : Tab Nat := []
  power : List (Nat × Nat) := []
  /-- the thermal request: the lanyard it was last made -/
  thermal : Option Nat := none
  hotwarn : Bool := false
  thermtrip : Bool := false
  /-- AVS: the voltage last written per rail, when, and the ACLK to raise to -/
  avsTarget : Tab Nat := []
  avsAt : Tab (Option Nat) := []
  aclkWant : Tab Nat := []
  /-- rail sequencing: enables and power-goods by rail, when enabled, power-good since, and retried once -/
  vrEn : Tab Bool := []
  pgood : Tab Bool := []
  enabledAt : Tab Nat := []
  goodSince : Tab Nat := []
  seqRetried : Bool := false
  alertMask : Option Nat := none
  busClears : Nat := 0
deriving DecidableEq, Repr

/-! ### Security (chapter 15) -/

/-- A journal entry (R376). -/
structure JEntry where
  seq : Nat
  lanyard : W64
  utc : W64
  ty : Nat
  payload : List Byte
  utcState : Nat
  src : Nat
  slot : Nat
  prev : BitVec 512
deriving DecidableEq, Repr

/-- An image slot of a KIND (R364, R365): header fields and body digest of what it holds. -/
structure Image where
  version : Nat := 0
  svn : Nat := 0
  compat : Nat := 0
  digest : BitVec 512 := 0
  accepted : Bool := true
  failed : Bool := false
  bytes : List Byte := []
deriving DecidableEq, Repr

/-- A configuration record (R369 to R371). -/
structure CfgRec where
  seq : Nat := 0
  bump : Bool := false
  items : List (Nat × List Byte) := []
  valid : Bool := true
deriving DecidableEq, Repr

/-- An activation in progress (R366): the KIND, and units that have not switched. -/
structure Activation where
  kind : Nat
  units : List Nat
  at' : Nat
deriving DecidableEq, Repr

/-- The security cores' state. -/
structure Security where
  journal : List JEntry := []
  lastHash : BitVec 512 := 0
  /-- entries below this SEQ are in the NVS ring -/
  inNvs : Nat := 0
  sinceCheck : Nat := 0
  firstOpen : Option Nat := none
  lowRaised : Bool := false
  reserveUsed : Bool := false
  nonceAt : Option Nat := none
  nonce : List Byte := []
  inject : Bool := false
  tokenHash : BitVec 512 := 0
  /-- a D2 open waiting for the gloves to go: the token's DURATION and INJECT -/
  d2Pending : Option (Nat × Bool) := none
  /-- gloves made during the D2 session, and whether it is ending, its gloves being torn down -/
  d2Gloves : List Nat := []
  d2Ending : Bool := false
  /-- image of slot 0 A or 1 B of a KIND, at 2 × KIND + slot; the slot a KIND runs from; the lanyard of its first run -/
  images : Tab Image := []
  running : Tab Nat := []
  firstRun : Tab (Option Nat) := []
  activation : Option Activation := none
  cfgA : CfgRec := {}
  cfgB : CfgRec := {}
  lastResumed : Nat := 0
  ownerKey : BitVec 256 := 0
  ownerHash : BitVec 512 := 0
  seedHeld : Bool := true
  uartBoot : Bool := false
  bootFail : Bool := false
  tapIr : Nat := 1
  tapDr : W64 := 0
  scratchErased : Bool := false
deriving DecidableEq, Repr

/-! ### Power, clocks and reset (chapter 16) -/

/-- A glove of a sag record (R407). -/
structure SagGlove where
  slot : Nat
  gid : Nat
  epoch : Nat
  state : Nat
  cls : Nat
  client : Nat
  lastStep : W64
deriving DecidableEq, Repr

/-- A sag slot's record (R407 to R409). -/
structure SagRec where
  seq : Nat
  cause : Nat
  lanyard : W64
  tail : List JEntry
  /-- control-space offset and value of each counter held -/
  counters : List (Nat × W64)
  gloves : List SagGlove
  valid : Bool
deriving DecidableEq, Repr

/-- Power, clocks, reset and the sag save beside their registers. -/
structure Power where
  /-- the state a transition in progress goes to, and whether it waits for gloves to go first -/
  goal : Option Nat := none
  waitGloves : Bool := false
  /-- the tiles' ACLK is gated -/
  gated : Bool := false
  /-- the records of sag slots A and B, the one being programmed, and the reset causes held until the save ends -/
  sagA : Option SagRec := none
  sagB : Option SagRec := none
  building : Option SagRec := none
  heldResets : List Nat := []
  /-- the bit of RST_CAUSE of the last reset taken, and the steps of R401 done since -/
  cause : Nat := 0
  released : Nat := 0
  /-- ETHREF_CLK is present; a FABREF_CLK input is lost -/
  etherRef : Bool := true
  fabLost : Tab Bool := []
  ppsOut : Bool := false
  /-- a PLL has lost lock and its domain's logic is held -/
  held : Tab Bool := []
deriving DecidableEq, Repr

/-! ### Time and launch (chapter 13) -/

/-- One child a head waits for (R326, R327): a branch of its hitch or a slot of its MASK. -/
structure Child where
  branch : Bool
  ix : Nat
  dev : BitVec 24
  hitch : Nat := 0
  held : Bool := false
  acked : Bool := false
  /-- re-sent once, to an alternate or to the slot -/
  resent : Bool := false
  gone : Bool := false
  since : Nat := 0
  count : Nat := 0
  refused : Nat := 0
  missing : Nat := 0
  firstMissing : Nat := 0xFFFFFF
deriving DecidableEq, Repr

/-- A launch entry (R323 to R329). -/
structure Launch where
  /-- 0 FREE, 1 PREPARED, 2 COMMITTED, 3 RELEASED, 4 CANCELLED, 5 ORPHANED -/
  state : Nat := 0
  root : Bool := false
  glove : Nat := 0
  lid : W32 := 0
  t : Nat := 0
  d : Nat := 0
  rootDev : BitVec 24 := 0
  knot : Nat := 0
  readyKnot : Nat := 0
  hitch : Nat := 0
  alts : Nat := 0
  ndev : Nat := 0
  reach : Nat := 0
  head : Bool := false
  parent : BitVec 24 := 0
  ready : Bool := false
  acked : Bool := false
  queried : Bool := false
  decided : Option Bool := none
  kids : List Child := []
deriving DecidableEq, Repr

/-- An alignment exchange under way with the master on a port (R317): TSEQ, t1, c1, t2, t3. -/
structure Exchange where
  port : Nat
  tseq : Nat
  t1 : W64
  c1 : W64
  t2 : W64
  t3 : W64
deriving DecidableEq, Repr

/-- The lanyard's alignment, UTC and the launch unit, beside their registers. -/
structure TimeUnit where
  lastSync : Nat := 0
  syncSeq : Nat := 0
  xchg : List Exchange := []
  offsets : List Int := []
  lastDone : Nat := 0
  /-- GM of the last SYNC accepted, and whether the first lock after reset has been made -/
  masterGm : Bool := false
  firstLock : Bool := false
  /-- nanoseconds still to be slewed, and the lanyard of the last slew -/
  slew : Int := 0
  lastSlew : Nat := 0
  /-- the lanyard of the last word from the UTC source -/
  lastUtc : Nat := 0
  /-- consecutive PTP measurements beyond 1 ms that agree, and their value -/
  jumpRun : Nat := 0
  jumpVal : Int := 0
  /-- UTC second of PPS_OUT's last rise -/
  ppsSecond : Nat := 0
  launches : Tab Launch := []
deriving DecidableEq, Repr

/-! ### Brimir and the splice engine (chapters 8 and 9) -/

/-- A choice record of the coil (R177), with the queue row that a sorted record was given (R185). -/
structure Choice where
  token : Nat
  expert : Nat
  /-- rank, or list position for a spare -/
  rank : Nat
  replica : Nat := 0
  /-- 0 CHOSEN, 1 SPARE, 2 ADMITTED, 3 REFUSED, 4 USED -/
  st : Nat
  round : Nat := 0
  weight : W32 := 0
  dest : BitVec 24 := 0
  row : Nat := 0
deriving DecidableEq, Repr

/-- A part of a counts or grant vector that is held (R178, R179): round, member, first entry, entries. -/
structure VecPart where
  round : Nat
  member : Nat
  first : Nat
  entries : List W64
deriving DecidableEq, Repr

/-- A send-list entry (R197), with the bytes already sent. -/
structure SendRow where
  token : Nat
  row : Nat
  q : Nat
  rank : Nat
  member : Nat
  qbase : Nat
  sent : Nat := 0
deriving DecidableEq, Repr

/-- A row to be returned (R205), with the bytes already sent. -/
structure RetRow where
  member : Nat
  q : Nat
  row : Nat
  token : Nat
  rank : Nat
  slot : Nat
  src : Nat
  taint : Bool
  sent : Nat := 0
deriving DecidableEq, Repr

/-- A queue of a step's layer, by the directory (R176, R178, R186). -/
structure QueueEnt where
  expert : Nat
  replica : Nat
  home : BitVec 24
  qbase : Nat
deriving DecidableEq, Repr

/-- A routing step of an engine: the present one, or the most recent once `ended` (R163, R188). -/
structure Step where
  glove : Nat
  seq : Nat
  desc : List W64
  members : List (BitVec 24)
  dirEpoch : Nat
  /-- every queue of the layer, in (expert, replica) order -/
  queues : List QueueEnt
  startAt : Nat
  /-- the phase of BRM_ENG_STAT -/
  phase : Nat := 1
  ended : Bool := false
  /-- STATUS and REASON of ROUTE.STAT -/
  status : Nat := 0xFFFF
  reason : Nat := 0
  /-- flushed records not yet taken in; lists and partials taken in -/
  flushed : List SieveRec := []
  lists : List (List SieveRec) := []
  partials : List SieveRec := []
  smxDone : Bool := false
  ranked : Bool := false
  choices : List Choice := []
  nans : Nat := 0
  nanRaised : Bool := false
  counts : List VecPart := []
  grants : List VecPart := []
  /-- admission rounds done as a home, and ADMIT of each, at (queue × k + rank) × NMEM + member -/
  homeRounds : Nat := 0
  admit0 : List Nat := []
  admit1 : List Nat := []
  landingAt : Option Nat := none
  rerouted : Bool := false
  routed : Bool := false
  sends : List SendRow := []
  rot : Nat := 0
  rets : List RetRow := []
  retRot : Nat := 0
  retAt : Option Nat := none
  /-- bytes landed per (queue × k + rank) × NMEM + member, and received per combine slot -/
  landed : Tab Nat := []
  got : Tab Nat := []
  /-- a RESULT that landed carried TAINT -/
  retTaint : Bool := false
  /-- first-round arrivals: when each member's counts were complete -/
  arrivals : List (Nat × Nat) := []
  eng : W64 := 0
  /-- its completion is held for the twin's digest -/
  twinHeld : Bool := false
deriving DecidableEq, Repr

/-- The routing engines, beside their registers. -/
structure Brimir where
  eng : Tab (Option Step) := []
  /-- STEP_TAG plus 1 of a glove's most recent step of an engine that holds another glove's step now, at 2 × slot + engine (R190) -/
  past : Tab Nat := []
deriving DecidableEq, Repr

/-- The T9. -/
structure State where
  /-- commands waiting, first in first out -/
  pending : List Instr
  /-- the model's own counter from which free values are drawn -/
  free : Nat
  lanyard : W64
  /-- the local range -/
  mem : Tab Byte
  /-- the control registers, by control-space offset -/
  ctl : Tab W64
  /-- the exact cells of the shared-cache slices, cell c of slice s at 1024 s + c -/
  slice : Tab Cell
  kn : KnotEngine
  tiles : Tab Tile
  ports : Tab Port
  rt : Router
  mm : Memory
  hub : Hub
  brm : Brimir
  time : TimeUnit
  svc : Service
  sec : Security
  pwr : Power
deriving DecidableEq, Repr

/-- Right after reset: every register at its table's value, every queue and table empty, memory unlisted, lanyard 0. -/
def State.reset : State where
  pending := []
  free := 0
  lanyard := 0
  mem := []
  ctl := []
  slice := []
  kn := {}
  tiles := []
  ports := []
  rt := {}
  mm := {}
  hub := {}
  brm := {}
  time := {}
  svc := {}
  sec := {}
  pwr := {}

end Sys2Proof.Machine
end

