-- ==== Sys2Proof/Machine/Flags.lean ====
section
/-! DEFINITION. Status values (R7), trap codes (R61), glove states and causes (R39, R45), NAK codes (R273), packet types
(R253) and event codes (R342). Ciqua has no flags (R68): an instruction's outcome is its status. -/

namespace Sys2Proof.Machine

def ST_OK : Nat := 0
def ST_POOL_EMPTY : Nat := 1
def ST_REF_SAT : Nat := 2
def ST_KNOT_OVF : Nat := 3
def ST_GLOVE_DEAD : Nat := 4
def ST_OWN : Nat := 5
def ST_RANGE : Nat := 6
def ST_FMT : Nat := 7
def ST_TAINT : Nat := 8
def ST_TIMEOUT : Nat := 9
def ST_BUSY : Nat := 10
def ST_DENIED : Nat := 11

def TR_ILLEGAL : Nat := 1
def TR_MISALIGN : Nat := 2
def TR_ACC : Nat := 3
def TR_STATUS : Nat := 4
def TR_SOFT : Nat := 5
def TR_LOOP : Nat := 6

def gFREE : Nat := 0
def gACTIVE : Nat := 1
def gTEARDOWN : Nat := 2
def gSCRUB : Nat := 3
def gRETIRED : Nat := 4

def causeTRAP : Nat := 1
def causeMEMORY : Nat := 2
def causeKNOT_OVF : Nat := 3
def causeWATCHDOG : Nat := 4
def causeADMIT_STALL : Nat := 5
def causeCOMMAND : Nat := 6
def causeDEBUG : Nat := 7
def causeSECURITY : Nat := 8

def nakMALFORMED : Nat := 0x01
def nakBAD_TYPE : Nat := 0x02
def nakSTALE_GLOVE : Nat := 0x03
def nakNOT_OWNER : Nat := 0x04
def nakRANGE : Nat := 0x05
def nakNO_CIRCUIT : Nat := 0x06
def nakCREDIT_OVERRUN : Nat := 0x07
def nakNO_QUEUE : Nat := 0x08
def nakPOISON : Nat := 0x09
def nakHCRC : Nat := 0x0A
def nakORDER : Nat := 0x0B
def nakBUSY : Nat := 0x0C
def nakDENIED : Nat := 0x0D

def tSTORE : Nat := 0x01
def tLOAD_REQ : Nat := 0x02
def tLOAD_RSP : Nat := 0x03
def tATOMIC : Nat := 0x04
def tPUT : Nat := 0x05
def tGET_REQ : Nat := 0x06
def tGET_RSP : Nat := 0x07
def tSPLICE : Nat := 0x08
def tRETURN : Nat := 0x09
def tKNOT_OP : Nat := 0x0A
def tCOLL : Nat := 0x0B
def tCOUNTS : Nat := 0x0C
def tCIRC_SETUP : Nat := 0x0D
def tCIRC_TEAR : Nat := 0x0E
def tHITCH_CAST : Nat := 0x0F
def tLAUNCH : Nat := 0x10
def tACK : Nat := 0x11
def tNAK : Nat := 0x12
def tCNP : Nat := 0x13
def tTIME : Nat := 0x14
def tMGMT : Nat := 0x15
def tPROBE : Nat := 0x16

/-- The journal type of an event code, where R342 gives one. -/
def eventJournal (code : Nat) : Option Nat :=
  if code = 0x0501 then some 0x0009 else if code = 0x0606 then some 0x0017
  else if code = 0x0804 then some 0x000A else if code = 0x0805 then some 0x0013
  else if code = 0x0D03 then some 0x0016 else if code = 0x1001 then some 0x0003
  else if code = 0x1002 ∨ code = 0x1006 ∨ code = 0x1101 ∨ code = 0x1102 ∨ code = 0x1202 ∨ code = 0x1203 then some 0x000A
  else if code = 0x1004 ∨ code = 0x1005 then some 0x0018
  else if code = 0x2201 then some 0x0014 else none

end Sys2Proof.Machine
end

