-- ==== Sys2Proof/Machine/Ops.lean ====
section
/-! DEFINITION. The named operations over the state: control-register fields, counters, events, the journal, memory,
translation, gloves and their teardown, tile contexts with status and trap, and knots. -/

namespace Sys2Proof.Machine

open Reg

/-- The answer of a step. -/
abbrev Out := Host.Outcome State Fault Refusal

/-- A command's effect t on state s, on everything but the queue of waiting commands. -/
def done (s t : State) : Out := .next { t with pending := s.pending }

/-! ### Registers -/

/-- Bits [hi:lo] of a word. -/
def bits (v : W64) (hi lo : Nat) : Nat := v.toNat / 2 ^ lo % 2 ^ (hi + 1 - lo)

/-- A word with bits [hi:lo] replaced by n, modulo the field's width. -/
def withBits (v : W64) (hi lo n : Nat) : W64 :=
  BitVec.ofNat 64 (v.toNat - bits v hi lo * 2 ^ lo + n % 2 ^ (hi + 1 - lo) * 2 ^ lo)

/-- A control register's value (R426). -/
def State.reg (s : State) (off : Nat) : W64 := Tab.look regReset s.ctl off

/-- Sets a control register. -/
def State.setReg (s : State) (off : Nat) (v : W64) : State := { s with ctl := Tab.store regReset s.ctl off v }

/-- A register field's value. -/
def State.fget (s : State) (off : Nat) (f : Fld) : Nat := bits (s.reg off) f.hi f.lo

/-- Sets a register field. -/
def State.fset (s : State) (off : Nat) (f : Fld) (n : Nat) : State :=
  s.setReg off (withBits (s.reg off) f.hi f.lo n)

/-! ### Events -/

/-- Appends a record to the event log: R341. A record overwritten before the reader passed it counts as lost. -/
def State.logRec (s : State) (r : EvRec) : State :=
  let head := s.fget SVC_EVLOG SVC_EVLOG_HEAD
  let tail := s.fget SVC_EVLOG SVC_EVLOG_TAIL
  let old := (head + 2 ^ 32 - 8192) % 2 ^ 32
  let full := Tab.look (fun _ => {}) s.svc.evlog (head % 8192) != ({} : EvRec)
  let lost := full && decide ((old + 2 ^ 32 - tail) % 2 ^ 32 < 2 ^ 31)
  let s := { s with svc := { s.svc with evlog := Tab.store (fun _ => {}) s.svc.evlog (head % 8192) r } }
  let s := s.fset SVC_EVLOG SVC_EVLOG_HEAD (head + 1)
  if lost then
    let n := s.fget SVC_EVLOG_LOST SVC_EVLOG_LOST_LOST
    if n < 2 ^ 48 - 1 then s.fset SVC_EVLOG_LOST SVC_EVLOG_LOST_LOST (n + 1)
    else s.fset SVC_EVLOG_LOST SVC_EVLOG_LOST_OVF 1
  else s

/-- UTC in nanoseconds under R321. -/
def State.utc (s : State) : W64 :=
  s.lanyard + s.reg TIME_UTC0 - BitVec.ofNat 64 (s.fget TIME_UTC1 TIME_UTC1_UTC_OFFSET * 1000000000)

/-- The bytes of a journal entry that its hash covers (R376): header, and payload padded to a multiple of 64. -/
def JEntry.bytes (e : JEntry) : List Byte :=
  leBytes 8 e.seq ++ leBytes 8 e.lanyard.toNat ++ leBytes 8 e.utc.toNat ++ leBytes 2 e.ty
    ++ leBytes 2 e.payload.length ++ leBytes 1 e.utcState ++ leBytes 1 e.src ++ leBytes 1 e.slot ++ [0]
    ++ leBytes 64 e.prev.toNat ++ List.replicate 32 0
    ++ e.payload ++ List.replicate ((64 - e.payload.length % 64) % 64) 0

/-- Appends an entry to the audit journal (R376), chained to the entry before it. -/
def State.journal (s : State) (ty src slot : Nat) (payload : List Byte) : State :=
  let e : JEntry := ⟨(s.reg SEC_JNL_HEAD).toNat, s.lanyard, s.utc, ty, payload,
    s.fget TIME_STAT TIME_STAT_UTC_STATE, src, slot, s.sec.lastHash⟩
  let s := { s with sec := { s.sec with
    journal := s.sec.journal ++ [e], lastHash := sha512v e.bytes, sinceCheck := s.sec.sinceCheck + 1,
    firstOpen := match s.sec.firstOpen with | none => some s.lanyard.toNat | some x => some x } }
  s.setReg SEC_JNL_HEAD (s.reg SEC_JNL_HEAD + 1)

/-- Raises an event (R341, R342), journalling it under its type where it has one; the journal payload is the record's
code and arguments (assumption 12). -/
def State.event (s : State) (code unit slot : Nat) (w2 w3 : Nat) : State :=
  let w1 := code % 65536 + code / 256 * 65536 + unit % 65536 * 2 ^ 24 + slot % 64 * 2 ^ 40
  let s := s.logRec ⟨s.lanyard, BitVec.ofNat 64 w1, BitVec.ofNat 64 w2, BitVec.ofNat 64 w3⟩
  match eventJournal code with
  | none => s
  | some ty => s.journal ty 0xFF slot (leBytes 8 w1 ++ leBytes 8 w2 ++ leBytes 8 w3)

/-! ### Counters (R357) -/

/-- The unit number of a block window: the tile or port, 0 for the others. -/
def windowUnit (off : Nat) : Nat :=
  let w := off / 0x100000
  if w < 0x100 then w else if w < 0x120 then w - 0x100 else 0

/-- Adds n to a statistics counter. At its largest value it stays, sets OVF where the register has one, and raises
EV_CTR_SAT once. -/
def State.bumpBy (s : State) (off : Nat) (f : Fld) (ovf : Bool) (n : Nat) : State :=
  let m := 2 ^ (f.hi + 1 - f.lo) - 1
  let c := s.fget off f
  if c + n ≤ m then s.fset off f (c + n)
  else
    let s := s.fset off f m
    let s := if ovf then s.fset off ⟨63, 63⟩ 1 else s
    let key := off * 64 + f.lo
    if Tab.look (fun _ => false) s.svc.satRaised key then s
    else
      let s := { s with svc := { s.svc with satRaised := Tab.store (fun _ => false) s.svc.satRaised key true } }
      s.event 0x2101 (windowUnit off) 0x3F (off % 0x100000) f.lo

/-- Adds n to a statistics counter of a register that has an OVF bit. -/
def State.bump (s : State) (off : Nat) (f : Fld) (n : Nat) : State := s.bumpBy off f true n

/-! ### Memory -/

/-- The byte at a local-range address; one that nothing has written reads 0 (assumption 5). -/
def State.byte (s : State) (a : Nat) : Byte := Tab.look (fun _ => 0) s.mem a

/-- Writes a byte of the local range. -/
def State.setByte (s : State) (a : Nat) (b : Byte) : State := { s with mem := Tab.store (fun _ => 0) s.mem a b }

/-- The memory's canonical form: addresses strictly rising, and no byte listed that reads 0. -/
def memWf (m : Tab Byte) : Bool := Tab.wf (fun _ => 0) m

/-- n bytes from a local-range address. -/
def State.bytes (s : State) : Nat → Nat → List Byte
  | _, 0 => []
  | a, n + 1 => s.byte a :: State.bytes s (a + 1) n

/-- Writes bytes from a local-range address on. -/
def State.setBytes (s : State) : Nat → List Byte → State
  | _, [] => s
  | a, b :: bs => State.setBytes (s.setByte a b) (a + 1) bs

/-- A little-endian value of n bytes. -/
def State.rd (s : State) (a n : Nat) : Nat := leNat (s.bytes a n)

/-- Stores the low n bytes of v, little-endian. -/
def State.wr (s : State) (a n v : Nat) : State := s.setBytes a (leBytes n v)

/-- n little-endian 64-bit words. -/
def State.words (s : State) : Nat → Nat → List W64
  | _, 0 => []
  | a, n + 1 => BitVec.ofNat 64 (s.rd a 8) :: State.words s (a + 8) n

/-- The words of a byte list, eight bytes each, n words. -/
def bytesWords : Nat → List Byte → List W64
  | 0, _ => []
  | n + 1, bs => BitVec.ofNat 64 (leNat (bs.take 8)) :: bytesWords n (bs.drop 8)

/-- The bytes of words, little-endian. -/
def wordsBytes (ws : List W64) : List Byte := ws.flatMap (fun w => leBytes 8 w.toNat)

/-- The size of the local range. -/
def localSize : Nat := 2 ^ 39
/-- The size of a page. -/
def pageSize : Nat := 65536

/-! ### Pages (R214 to R217, R228, R229) -/

/-- Where page p is at reset (R214). -/
def homePage (p : Nat) : Page := { place := .hbm (p % 8 * 32 + p / 8 % 32) (p / 256) }

/-- A page's entry in the frame map. -/
def State.page (s : State) (p : Nat) : Page := Tab.look homePage s.mm.pages p
/-- Sets a page's entry. -/
def State.setPage (s : State) (p : Nat) (v : Page) : State :=
  { s with mm := { s.mm with pages := Tab.store homePage s.mm.pages p v } }

/-- Frames of a channel that hold no page. -/
def State.freeIn (s : State) (ch : Nat) : List Nat := Tab.look (fun _ => []) s.mm.freeFrames ch
/-- Sets them. -/
def State.setFreeIn (s : State) (ch : Nat) (l : List Nat) : State :=
  { s with mm := { s.mm with freeFrames := Tab.store (fun _ => []) s.mm.freeFrames ch l } }

/-- Whether a channel takes new frames: ONLINE or DEGRADED (R227). -/
def State.chTakes (s : State) (ch : Nat) : Bool := decide (s.fget (HBM_CH_STAT ch) HBM_CH_STAT_STATE ≤ 1)

/-- The lowest channel that takes new frames and has one free, other than `no`. -/
def State.freeChan (s : State) (no : Nat) : Option Nat :=
  (List.range 256).find? (fun c => c != no && s.chTakes c && !(s.freeIn c).isEmpty)

/-- Puts a page into a free HBM4 frame outside channel `no`, if there is one. -/
def State.placeHbm (s : State) (p no : Nat) (age : Nat) : Option State :=
  match s.freeChan no with
  | none => none
  | some c =>
    match s.freeIn c with
    | [] => none
    | f :: fs => some ((s.setFreeIn c fs).setPage p { place := .hbm c f, age := age })

/-- Gives back the HBM4 frame that a page holds. -/
def State.releaseFrame (s : State) (p : Nat) : State :=
  match (s.page p).place with
  | .hbm c f => s.setFreeIn c (f :: s.freeIn c)
  | _ => s

/-- The one of two candidates that a new one replaces: the lower count, then the earlier (R216). -/
def Cand.lower (m : Option Cand) (c : Cand) : Option Cand :=
  match m with
  | none => some c
  | some x => if c.count < x.count ∨ (c.count = x.count ∧ c.since < x.since) then some c else some x

/-- Counts a miss on a page in the candidate table (R216). -/
def State.candMiss (s : State) (p die : Nat) : State :=
  let cs := s.mm.cands
  let now := s.lanyard.toNat
  let cs' :=
    if cs.any (fun c => c.page == p) then
      cs.map (fun c => if c.page = p then { c with count := min 15 (c.count + 1), die := die } else c)
    else if cs.length < 16384 then cs ++ [⟨p, 1, now, die⟩]
    else
      match cs.foldl Cand.lower none with
      | none => cs
      | some x => cs.filter (fun c => c.page != x.page) ++ [⟨p, 1, now, die⟩]
  { s with mm := { s.mm with cands := cs' } }

/-- An access to a page: a resident page's AGE becomes 0, a demand miss counts, and a discarded page takes a free
frame of zeros (R216, R217, R228). `none` where a discarded page finds no free frame. -/
def State.touch (s : State) (p die : Nat) (demand : Bool) : Option State :=
  match (s.page p).place with
  | .resident _ => some (s.setPage p { s.page p with age := 0 })
  | .discarded => s.placeHbm p 256 0
  | .hbm c _ =>
    if demand ∧ s.fget (HBM_CH_STAT c) HBM_CH_STAT_STATE ≠ 2 then
      let miss := Config.freeMiss s.free
      let s := { s with free := s.free + 1 }
      some (if miss then s.candMiss p die else s)
    else some s

/-- Whether the line of a local address is poisoned (R229). -/
def State.poisoned (s : State) (a : Nat) : Bool := Tab.look (fun _ => false) s.mm.poison (a / 64)

/-- Sets or clears a line's poison mark. -/
def State.setPoison (s : State) (line : Nat) (b : Bool) : State :=
  { s with mm := { s.mm with poison := Tab.store (fun _ => false) s.mm.poison line b } }

/-! ### Gloves (chapter 2) -/

/-- A slot's state (R39). -/
def State.gstate (s : State) (n : Nat) : Nat := s.fget (KNOT_GLOVE_CTL n) KNOT_GLOVE_CTL_STATE
/-- Its global id. -/
def State.gid (s : State) (n : Nat) : Nat := s.fget (KNOT_GLOVE_CFG0 n) KNOT_GLOVE_CFG0_GLOBAL_ID
/-- Its epoch. -/
def State.gepoch (s : State) (n : Nat) : Nat := s.fget (KNOT_GLOVE_CFG0 n) KNOT_GLOVE_CFG0_EPOCH
/-- Whether its class is URGENT. -/
def State.gurgent (s : State) (n : Nat) : Bool := s.fget (KNOT_GLOVE_CFG0 n) KNOT_GLOVE_CFG0_CLASS == 1
/-- First knot and number of knots of its range. -/
def State.kbase (s : State) (n : Nat) : Nat := s.fget (KNOT_GLOVE_CFG1 n) KNOT_GLOVE_CFG1_KNOT_BASE
def State.kcount (s : State) (n : Nat) : Nat := s.fget (KNOT_GLOVE_CFG1 n) KNOT_GLOVE_CFG1_KNOT_COUNT

/-- Whether knot k lies in the range of slot n (R17). -/
def State.ownsKnot (s : State) (n k : Nat) : Bool := decide (s.kbase n ≤ k ∧ k < s.kbase n + s.kcount n)

/-- Whether knot k is a service knot (R346). -/
def State.svcKnot (s : State) (k : Nat) : Bool :=
  let b := s.fget KNOT_SVC KNOT_SVC_BASE
  decide (b ≤ k ∧ k < b + s.fget KNOT_SVC KNOT_SVC_COUNT)

/-- The ACTIVE slot that holds exactly a global id and epoch (R41). -/
def State.activeSlot (s : State) (gid epoch : Nat) : Option Nat :=
  (List.range 64).find? (fun n => s.gstate n == gACTIVE && s.gid n == gid && s.gepoch n == epoch)

/-- Epoch a is newer than b (R38). -/
def newer (a b : Nat) : Bool :=
  let d := (a + 65536 - b % 65536) % 65536
  decide (1 ≤ d ∧ d ≤ 32767)

/-! ### Tiles and contexts -/

/-- A tile. -/
def State.tile (s : State) (t : Nat) : Tile := Tab.look (fun _ => {}) s.tiles t
/-- Sets a tile. -/
def State.setTile (s : State) (t : Nat) (v : Tile) : State := { s with tiles := Tab.store (fun _ => {}) s.tiles t v }
/-- A context of a tile. -/
def Tile.ctx (v : Tile) (c : Nat) : Ctx := Tab.look (fun _ => {}) v.ctxs c
/-- Sets a context of a tile. -/
def Tile.setCtx (v : Tile) (c : Nat) (x : Ctx) : Tile := { v with ctxs := Tab.store (fun _ => {}) v.ctxs c x }
/-- A context. -/
def State.ctx (s : State) (k : CtxId) : Ctx := (s.tile k.tile).ctx k.ctx
/-- Sets a context. -/
def State.setCtx (s : State) (k : CtxId) (x : Ctx) : State :=
  s.setTile k.tile ((s.tile k.tile).setCtx k.ctx x)

/-- Whether a tile is fenced. -/
def State.fenced (s : State) (t : Nat) : Bool := s.fget (TILE_CAP t) TILE_CAP_FENCED == 1

/-- The knot engine's task in a slot. -/
def State.task (s : State) (q : Nat) : Option Task := Tab.look (fun _ => none) s.kn.tasks q
/-- Sets a task slot. -/
def State.setTask (s : State) (q : Nat) (v : Option Task) : State :=
  { s with kn := { s.kn with tasks := Tab.store (fun _ => none) s.kn.tasks q v } }

/-! ### Teardown, step 1 and 2 (R42, R44) -/

/-- Drops what a context has waiting in its tile's queues. -/
def Tile.dropCtx (v : Tile) (c : Nat) : Tile :=
  { v with
    window := v.window.filter (· != c), entry := v.entry.filter (· != c),
    mmaQ := v.mmaQ.filter (fun q => q.ctx != c), vecQ := v.vecQ.filter (fun q => q.ctx != c),
    spmQ := v.spmQ.filter (fun q => q.ctx != c), sieveQ := v.sieveQ.filter (fun q => q.ctx != c) }

/-- Stops the contexts of glove n on one tile. -/
def Tile.stopGlove (v : Tile) (n : Nat) : Tile :=
  (List.range 16).foldl (fun v c =>
    let x := v.ctx c
    if x.task.isSome ∧ x.glove = n then
      (v.dropCtx c).setCtx c { x with stopped := true, wait := .none, moves := [], halt := .none }
    else v) v

/-- Applies f to every listed value of a table. -/
def Tab.mapVal {α : Type} [DecidableEq α] (d : Nat → α) (f : Nat → α → α) (t : Tab α) : Tab α :=
  t.foldl (fun acc kv => Tab.store d acc kv.1 (f kv.1 (Tab.look d t kv.1))) t

/-- Drops a glove's entry from a table of held work. -/
def dropOf {α : Type} (g : α → Nat) (n : Nat) (_ : Nat) : Option α → Option α
  | some x => if g x = n then none else some x
  | none => none

/-- Drops a glove's launch entry that is PREPARED or COMMITTED. -/
def dropLaunch (n : Nat) (_ : Nat) (l : Launch) : Launch :=
  if l.glove = n ∧ (l.state = 1 ∨ l.state = 2) then {} else l

/-- Discards the glove's work that has not reached a port's output: its routing steps, collectives, transfers,
remote accesses, held packets, ownership exchanges, open streams and launch entries (R42 step 2, R222, R290, R308, R329). -/
def State.dropWork (s : State) (n : Nat) : State :=
  let gid := s.gid n
  { s with
    brm := { s.brm with
      eng := Tab.mapVal (fun _ => none) (dropOf Step.glove n) s.brm.eng,
      past := Tab.dropIf (fun k => k / 2 == n) s.brm.past },
    hub := { s.hub with
      reqs := s.hub.reqs.filter (fun r => r.glove != n),
      transfers := s.hub.transfers.filter (fun t => t.glove != n),
      colls := Tab.mapVal (fun _ => none) (dropOf Coll.glove n) s.hub.colls,
      slots := Tab.mapVal (fun _ => none) (fun _ h => match h with
        | some c => (match Tab.look (fun _ => none) s.hub.colls c with
          | some x => if x.glove = n then none else some c
          | none => none)
        | none => none) s.hub.slots,
      past := s.hub.past.filter (fun c => c.1 != n),
      busy := s.hub.busy.filter (fun b => b.pkt.glove.toNat != gid),
      sent := s.hub.sent.filter (fun p => p.glove.toNat != gid),
      boundaries := s.hub.boundaries.filter (fun b => b.1 != n) },
    rt := { s.rt with heldPkts := s.rt.heldPkts.filter (fun p => !(p.gloved && p.glove.toNat == gid)) },
    mm := { s.mm with streams := Tab.mapVal (fun _ => none) (dropOf StreamEnt.glove n) s.mm.streams },
    time := { s.time with launches := Tab.mapVal (fun _ => {}) (dropLaunch n) s.time.launches },
    kn := { s.kn with holds := Tab.store (fun _ => none) s.kn.holds n none } }

/-- Engines that no longer hold a step read IDLE, and neither dispatch nor return. -/
def State.idleEngines (s : State) : State :=
  [0, 1].foldl (fun s e => match Tab.look (fun _ => none) s.brm.eng e with
    | some _ => s
    | none =>
      ((s.fset (BRM_ENG_STAT e) BRM_ENG_STAT_PHASE 0).fset SPL_STAT ⟨e, e⟩ 0).fset SPL_STAT ⟨2 + e, 2 + e⟩ 0) s

/-- Stops the contexts of glove n on every tile. -/
def State.stopTiles (s : State) (n : Nat) : State :=
  { s with tiles := Tab.mapVal (fun _ => {}) (fun _ (v : Tile) => v.stopGlove n) s.tiles }

/-- Steps 1 and 2 of the teardown of glove n: its cause and state, its contexts stopped, its outbound work gone (R42). -/
def State.goDown (s : State) (n cause : Nat) : State :=
  let s := (s.fset (KNOT_GLOVE_CTL n) KNOT_GLOVE_CTL_CAUSE cause).fset (KNOT_GLOVE_CTL n) KNOT_GLOVE_CTL_STATE gTEARDOWN
  let s := ((s.stopTiles n).dropWork n).idleEngines
  s.fset COLL_CNT1 COLL_CNT1_SLOTS s.hub.slots.length

/-- Keeps a further cause beside the first (R44). -/
def State.moreCause (s : State) (n cause : Nat) : State :=
  let cs := Tab.look (fun _ => []) s.kn.causes n ++ [cause]
  { s with kn := { s.kn with causes := Tab.store (fun _ => []) s.kn.causes n cs } }

/-- A fault of glove n, or a command to tear it down: step 1 stops its tasks and step 2 discards its outbound work (R42).
On a glove already going down the cause is kept beside the first; a slot that holds no glove is left alone (R44). -/
def State.faultGlove (s : State) (n cause : Nat) : State :=
  if s.gstate n = gACTIVE then s.goDown n cause
  else if s.gstate n = gTEARDOWN ∨ s.gstate n = gSCRUB then s.moreCause n cause
  else s

/-! ### Translation (R211, R212) -/

/-- The right an access needs. -/
inductive Right where
  | R | W | X
deriving DecidableEq, Repr

/-- Whether a page entry grants a right. -/
def entryGrants (e : W64) : Right → Bool
  | .R => e.getLsbD 2
  | .W => e.getLsbD 3
  | .X => e.getLsbD 4

/-- Whether an address lies in the pod range (R282). -/
def inPod (a : Nat) : Bool := decide (0x200000000000 ≤ a ∧ a ≤ 0x3FFFFFFFFFFF)
/-- Whether an address lies in the space of the slice cells (R117). -/
def inCells (a : Nat) : Bool := decide (0xF20000400000 ≤ a ∧ a < 0xF20000400000 + 64 * 0x10000)

/-- A TYPE 1 entry's table address, when it is well formed for a table of `align` bytes in the local range. -/
def tableOf (e : W64) (align : Nat) : Option Nat :=
  let a := bits e 56 8 * 256
  if bits e 1 0 = 1 ∧ bits e 63 57 = 0 ∧ bits e 7 5 = 0 ∧ bits e 4 2 = 0 ∧ a % align = 0 ∧ a < localSize then some a
  else none

/-- A TYPE 2 entry's page address, when it is well formed, grants the right and maps an allowed space. -/
def pageAddr (e : W64) (size : Nat) (r : Right) : Option Nat :=
  let a := bits e 56 8 * 256
  if bits e 1 0 = 2 ∧ bits e 63 57 = 0 ∧ bits e 7 5 = 0 ∧ a % size = 0 ∧ entryGrants e r
      ∧ (a < localSize ∨ inPod a ∨ (size = 65536 ∧ inCells a)) then some a
  else none

/-- The entry of a table at an index. -/
def State.pte (s : State) (table ix : Nat) : W64 := BitVec.ofNat 64 (s.rd (table + 8 * ix) 8)

/-- The walk of R211 from a root. -/
def State.walk (s : State) (root va : Nat) (r : Right) : Option Nat := do
  let t2 ← tableOf (s.pte root (va / 2 ^ 48 % 512)) 4096
  let t1 ← tableOf (s.pte t2 (va / 2 ^ 39 % 512)) 4096
  let t0 ← tableOf (s.pte t1 (va / 2 ^ 30 % 512)) 4096
  let e := s.pte t0 (va / 2 ^ 21 % 512)
  if bits e 1 0 = 2 then
    let a ← pageAddr e (2 ^ 21) r
    some (a + va % 2 ^ 21)
  else
    let tp ← tableOf e 256
    let a ← pageAddr (s.pte tp (va / 65536 % 32)) 65536 r
    some (a + va % 65536)

/-- The translation of a glove-virtual address of slot n. -/
def State.translate (s : State) (n va : Nat) (r : Right) : Option Nat :=
  let root := s.fget (KNOT_GLOVE_PT n) KNOT_GLOVE_PT_ROOT * 4096
  if va < 2 ^ 57 ∧ root < localSize then s.walk root va r else none

/-- The translations of each 64-byte line (or part of one) of a range all lie in the local range. -/
def State.localRange (s : State) (n : Nat) (r : Right) : Nat → Nat → Bool
  | _, 0 => true
  | va, k + 1 => (match s.translate n va r with
      | some a => decide (a < localSize)
      | none => false) && State.localRange s n r ((va / 65536 + 1) * 65536) k

/-- Pages of 64 KiB that a range of len bytes at va meets. -/
def pagesMet (va len : Nat) : Nat := if len = 0 then 0 else (va % 65536 + len + 65535) / 65536

/-- Whether len bytes at va translate into the local range with the right. -/
def State.mapped (s : State) (n va len : Nat) (r : Right) : Bool := s.localRange n r va (pagesMet va len)

/-- The local address a glove-virtual address reaches with either right. -/
def State.anyRight (s : State) (n va : Nat) : Option Nat :=
  match s.translate n va .R with
  | some a => some a
  | none => s.translate n va .W

/-- Touches the page of each 64 KiB of a glove-virtual range; none where a discarded page finds no frame. -/
def State.touchRange (s : State) (n die : Nat) (demand : Bool) : Nat → Nat → Option State
  | _, 0 => some s
  | va, k + 1 =>
    match s.anyRight n va with
    | some a =>
      if a < localSize then
        match s.touch (a / 65536) die demand with
        | some s' => State.touchRange s' n die demand ((va / 65536 + 1) * 65536) k
        | none => none
      else State.touchRange s n die demand ((va / 65536 + 1) * 65536) k
    | none => State.touchRange s n die demand ((va / 65536 + 1) * 65536) k

/-- The first discarded page that a glove-virtual range meets. -/
def State.discardedIn (s : State) (n : Nat) : Nat → Nat → Option Nat
  | _, 0 => none
  | va, k + 1 =>
    match s.anyRight n va with
    | some a =>
      if (s.page (a / 65536)).place = .discarded then some (a / 65536)
      else State.discardedIn s n ((va / 65536 + 1) * 65536) k
    | none => State.discardedIn s n ((va / 65536 + 1) * 65536) k

/-- A refused access to glove memory (R62). Where a discarded page found no free frame, EV_MIG_NO_FRAME is raised and
counted (R228). -/
def State.memFault (s : State) (n va len : Nat) : State :=
  let s := match s.discardedIn n va (pagesMet va len) with
    | some p => if (s.freeChan 256).isNone then
        (s.bumpBy MIG_CNT0 MIG_CNT0_NO_FRAME true 1).event 0x0B01 0 n p 0 else s
    | none => s
  s.faultGlove n causeMEMORY

/-- The bytes of a glove-virtual range, when all of it is mapped readable to the local range. -/
def State.vbytesGo (s : State) (n : Nat) : Nat → Nat → List Byte
  | _, 0 => []
  | va, k + 1 => (match s.translate n va .R with
      | some a => s.byte a
      | none => 0) :: State.vbytesGo s n (va + 1) k

/-- The bytes of a glove-virtual range. -/
def State.vbytes (s : State) (n va len : Nat) : Option (List Byte) :=
  if s.mapped n va len .R then some (s.vbytesGo n va len) else none

/-- A full-line write clears the line's poison mark (R229). -/
def State.clearPoison (s : State) (a len : Nat) : State :=
  if a % 64 = 0 ∧ len ≥ 64 then s.setPoison (a / 64) false else s

/-- Writes bytes at a glove-virtual address, each where it translates. -/
def State.setVbytesGo (s : State) (n : Nat) : Nat → List Byte → State
  | _, [] => s
  | va, b :: bs =>
    let s := match s.translate n va .W with
      | some a => (s.setByte a b).clearPoison a (bs.length + 1)
      | none => s
    State.setVbytesGo s n (va + 1) bs

/-- Writes bytes at a glove-virtual range mapped writable to the local range. -/
def State.setVbytes (s : State) (n va : Nat) (bs : List Byte) : Option State :=
  if s.mapped n va bs.length .W then
    match s.touchRange n 0 false va (pagesMet va bs.length) with
    | some t => some (t.setVbytesGo n va bs)
    | none => none
  else none

/-- An engine's read of a glove-virtual range: none where a page refuses it. -/
def State.engineRead (s : State) (n die va len : Nat) : Option (State × List Byte) :=
  match s.vbytes n va len with
  | some bs => (s.touchRange n die true va (pagesMet va len)).map (fun t => (t, bs))
  | none => none

/-- Words of a glove-virtual range. -/
def State.vwords (s : State) (n va k : Nat) : Option (List W64) := (s.vbytes n va (8 * k)).map (bytesWords k)

/-- Whether a glove-virtual range meets a poisoned line (R229). -/
def State.vpoisonGo (s : State) (n : Nat) : Nat → Nat → Bool
  | _, 0 => false
  | va, k + 1 => (match s.translate n va .R with
      | some a => s.poisoned a
      | none => false) || State.vpoisonGo s n ((va / 64 + 1) * 64) k

/-- Whether len bytes at va meet a poisoned line. -/
def State.vpoison (s : State) (n va len : Nat) : Bool := s.vpoisonGo n va ((va % 64 + len + 63) / 64)

end Sys2Proof.Machine
end

