-- ==== Sys2Proof/Machine/Seq.lean ====
section
/-! DEFINITION. The tile sequencer: registers of a context, the issue window, program flow, status and traps (chapter 3). -/

namespace Sys2Proof.Machine

open Reg

/-! ### Registers of a context (R50) -/

/-- A g-register; g0 reads 0. -/
def Ctx.gr (x : Ctx) (r : Nat) : W64 := if r = 0 then 0 else Tab.look (fun _ => 0) x.g r
/-- Writes a g-register; a write to g0 is discarded. -/
def Ctx.setG (x : Ctx) (r : Nat) (v : W64) : Ctx :=
  if r = 0 then x else { x with g := Tab.store (fun _ => 0) x.g r v }
/-- A predicate; p0 reads 1. -/
def Ctx.pr (x : Ctx) (r : Nat) : Bool := if r = 0 then true else Tab.look (fun _ => false) x.p r
/-- Writes a predicate; a write to p0 is discarded. -/
def Ctx.setP (x : Ctx) (r : Nat) (v : Bool) : Ctx :=
  if r = 0 then x else { x with p := Tab.store (fun _ => false) x.p r v }
/-- The eight words of a t-register. -/
def Ctx.desc (x : Ctx) (r : Nat) : List W64 := (List.range 8).map (fun w => Tab.look (fun _ => 0) x.t (8 * r + w))
/-- Writes words into a table from a key on. -/
def Tab.fill {α : Type} [DecidableEq α] (d : Nat → α) : Tab α → Nat → List α → Tab α
  | t, _, [] => t
  | t, k, v :: vs => Tab.fill d (Tab.store d t k v) (k + 1) vs
/-- Loads a t-register. -/
def Ctx.setDesc (x : Ctx) (r : Nat) (ws : List W64) : Ctx := { x with t := Tab.fill (fun _ => 0) x.t (8 * r) (ws.take 8) }
/-- A lane of a v-register. -/
def Ctx.lane (x : Ctx) (v j : Nat) : W32 := Tab.look (fun _ => 0) x.v (128 * v + j)
/-- A stored context control register. -/
def Ctx.cs (x : Ctx) (i : Nat) : W64 := Tab.look (fun _ => 0) x.csr i
/-- Sets one. -/
def Ctx.setCs (x : Ctx) (i : Nat) (v : W64) : Ctx := { x with csr := Tab.store (fun _ => 0) x.csr i v }

/-- Changes a context. -/
def State.mapCtx (s : State) (k : CtxId) (f : Ctx → Ctx) : State := s.setCtx k (f (s.ctx k))

/-- Sets a byte range of a tile's TLS for glove g. -/
def Tile.setTls (v : Tile) (g a : Nat) (bs : List Byte) : Tile :=
  { v with tls := Tab.fill (fun _ => 0) v.tls a bs, tlsBy := Tab.fill (fun _ => 0) v.tlsBy a (bs.map (fun _ => g + 1)) }
/-- Bytes of a tile's TLS. -/
def Tile.tlsBytes (v : Tile) (a n : Nat) : List Byte := (List.range n).map (fun i => Tab.look (fun _ => 0) v.tls (a + i))
/-- The size of the TLS. -/
def tlsSize : Nat := 2 ^ 21

/-! ### The issue window (R47) -/

/-- The context that has waited longest to enter, those of URGENT gloves first. -/
def State.nextIn (s : State) (t : Nat) : Option Nat :=
  let v := s.tile t
  match v.entry.find? (fun c => s.gurgent (v.ctx c).glove) with
  | some c => some c
  | none => v.entry.head?

/-- Fills one free place of the window. -/
def State.fillOne (s : State) (t : Nat) : State :=
  let v := s.tile t
  if v.window.length < 4 then
    match s.nextIn t with
    | some c => s.setTile t { v with window := v.window ++ [c], entry := v.entry.filter (· != c) }
    | none => s
  else s

/-- Fills the window. -/
def State.fillWindow (s : State) (t : Nat) : State :=
  (((s.fillOne t).fillOne t).fillOne t).fillOne t

/-- A context leaves the window, to wait outside it. -/
def State.leave (s : State) (k : CtxId) : State :=
  let v := s.tile k.tile
  (s.setTile k.tile { v with
    window := v.window.filter (· != k.ctx.val), entry := v.entry.filter (· != k.ctx.val) }).fillWindow k.tile

/-- Whether a debugger holds a context halted (R381). -/
def Ctx.held (x : Ctx) : Bool := x.halt != DbgHalt.none && x.halt != DbgHalt.stepping

/-- A context joins those waiting to enter the window, unless it is halted. -/
def State.join (s : State) (k : CtxId) : State :=
  let v := s.tile k.tile
  if (v.ctx k.ctx).held then s
  else (s.setTile k.tile { v with entry := v.entry.filter (· != k.ctx.val) ++ [k.ctx.val] }).fillWindow k.tile

/-- Whether a context may issue its next instruction. -/
def State.canIssue (s : State) (k : CtxId) : Bool :=
  let v := s.tile k.tile
  let x := v.ctx k.ctx
  x.task.isSome && !x.stopped && v.window.contains k.ctx.val && x.wait == Wait.none && x.podLoad.isNone
    && !x.held

/-! ### Interlocks with the queues (R48, R49) -/

/-- Whether two regions share storage. -/
def Region.meets : Region → Region → Bool
  | .vreg c v, .vreg d w => c == d && v == w
  | .bank b, .bank d => b == d
  | .tls l h, .tls m i => decide (l < i ∧ m < h)
  | .cells a, .cells b => a == b
  | .lace c, .lace d => c == d
  | .greg c r, .greg d q => c == d && r == q
  | .mem, .mem => true
  | _, _ => false

/-- Whether any of the regions meets any of the others. -/
def meetAny (a b : List Region) : Bool := a.any (fun x => b.any (fun y => x.meets y))

/-- The queues of a tile, by number: 0 M-array, 1 vector engine, 2 S-unit, 3 sieve. -/
def Tile.queue (v : Tile) : Nat → List Queued
  | 0 => v.mmaQ
  | 1 => v.vecQ
  | 2 => v.spmQ
  | _ => v.sieveQ

/-- Whether an instruction of context c with these reads and writes must wait for one queued elsewhere than in queue q. -/
def Tile.conflict (v : Tile) (c q : Nat) (reads writes : List Region) : Bool :=
  [0, 1, 2, 3].any (fun j => j != q && (v.queue j).any (fun e =>
    e.ctx == c && (meetAny e.writes (reads ++ writes) || meetAny e.reads writes)))

/-- Whether a synchronous instruction of the context must wait. -/
def State.locked (s : State) (k : CtxId) (reads writes : List Region) : Bool :=
  (s.tile k.tile).conflict k.ctx 4 reads writes

/-! ### Program flow -/

/-- The address after an instruction, and the loop stack: a body's last instruction goes back to its first (R67). -/
def loopNext (pc : BitVec 57) : List LoopEnt → BitVec 57 × List LoopEnt
  | [] => (pc + 8, [])
  | e :: r =>
    if e.last = pc then
      if e.left > 1 then (e.first, { e with left := e.left - 1 } :: r) else loopNext pc r
    else (pc + 8, e :: r)

/-- Goes on to the next instruction, from an instruction at pc. -/
def Ctx.onFrom (x : Ctx) (pc : BitVec 57) : Ctx :=
  { x with pc := (loopNext pc x.loops).1, loops := (loopNext pc x.loops).2 }

/-- Goes on to the next instruction. -/
def State.advance (s : State) (k : CtxId) : State := s.mapCtx k (fun x => x.onFrom x.pc)

/-- Branches to a target, popping the loops whose bodies do not contain it (R67). -/
def Ctx.branch (x : Ctx) (target : BitVec 57) : Ctx :=
  { x with pc := target, loops := x.loops.filter (fun e => decide (e.first ≤ target ∧ target ≤ e.last)) }

/-- A trap (R60): to the context's handler, or a fault of its glove. -/
def State.trap (s : State) (k : CtxId) (code info : Nat) : State :=
  let x := s.ctx k
  if x.cs 2 ≠ 0 ∧ x.cs 3 = 0 then
    let y := ((x.setCs 4 (x.pc.setWidth 64)).setCs 5 (BitVec.ofNat 64 info)).setCs 3 (BitVec.ofNat 64 code)
    s.setCtx k { y with pc := BitVec.ofNat 57 ((x.cs 2).toNat / 8 * 8), loopsAside := some x.loops, loops := [] }
  else s.faultGlove x.glove causeTRAP

/-- Completes a Format B instruction with a status (R58): writes it into gSD, then traps under TF or goes on. -/
def State.finish (s : State) (k : CtxId) (w : FmtB) (st : Nat) : State :=
  let s := s.mapCtx k (fun x => x.setG w.sd.toNat (BitVec.ofNat 64 st))
  if w.tf ∧ st ≠ ST_OK then s.trap k TR_STATUS st else s.advance k

/-- Completes a Format B instruction that writes a result (R58). -/
def State.result (s : State) (k : CtxId) (w : FmtB) (r : Nat) (v : W64) : State :=
  (s.mapCtx k (fun x => x.setG r v)).finish k w ST_OK

/-- The address of a context. -/
def ctxId (t c : Nat) : CtxId := ⟨Fin.ofNat 256 t, Fin.ofNat 16 c⟩

/-- Counts an instruction issued, and marks the context as the last to issue. A single step ends here (R381). -/
def State.count (s : State) (k : CtxId) : State :=
  let v := s.tile k.tile
  let x := v.ctx k.ctx
  s.setTile k.tile { v.setCtx k.ctx { x with
      issued := x.issued + 1,
      halt := if x.halt = DbgHalt.stepping then .steppedHalt s.lanyard.toNat else x.halt } with lastIssued := k.ctx }

/-- Whether the guard holds (R54). -/
def Ctx.guard (x : Ctx) (pg : BitVec 3) (pn : Bool) : Bool := x.pr pg.toNat != pn

/-- Whether a queued instruction of the context is to write one of these g-registers. -/
def State.gLocked (s : State) (k : CtxId) (rs : List Nat) : Bool :=
  s.locked k (rs.map (fun r => .greg k.ctx r)) []

/-- Whether twin mode is enabled for a glove slot. -/
def State.twin (s : State) (n : Nat) : Bool := s.fget (KNOT_GLOVE_TWIN n) KNOT_GLOVE_TWIN_ENABLE == 1

/-- Records the checkpoint of the digests at an instruction index that is a multiple of 4,096 (R122). -/
def State.checkpoint (s : State) (k : CtxId) : State :=
  let x := s.ctx k
  if s.twin x.glove ∧ x.task.isSome ∧ x.issued ≠ 0 ∧ x.issued % 4096 = 0 then
    s.setCtx k { x with ring := ((x.digAcc, x.digPkt, x.digKnot) :: x.ring).take 64 }
  else s

/-- An instruction has issued: its checkpoint, and after a single step the context leaves the window again (R381). -/
def State.issued (s : State) (k : CtxId) : State :=
  let s := s.checkpoint k
  if (s.ctx k).held then s.leave k else s

/-- Issues a Format A instruction: an illegal word traps before the guard (R57), and under a false guard nothing
happens but the next address (R54). -/
def State.issueA (s : State) (k : CtxId) (w : FmtA) (legal : Bool) (f : State → State) : State :=
  if s.canIssue k = true ∧ s.gLocked k [w.rd.toNat, w.ra.toNat, w.rb.toNat] = false then
    let t := s.count k
    let t := if legal then
        (if (t.ctx k).guard w.pg w.pn then f t else t.advance k)
      else t.trap k TR_ILLEGAL 0
    t.issued k
  else s

/-- Issues a Format B instruction; `f` answers none where an interlock holds the instruction back. -/
def State.issueB (s : State) (k : CtxId) (w : FmtB) (legal : Bool) (f : State → Option State) : State :=
  if s.canIssue k = true ∧
      s.gLocked k [w.rd.toNat, w.ra.toNat, w.rb.toNat, w.rc.toNat, w.sd.toNat] = false then
    let t := s.count k
    if legal then
      if (t.ctx k).guard w.pg w.pn then
        match f t with
        | some u => u.issued k
        | none => s
      else (t.advance k).issued k
    else (t.trap k TR_ILLEGAL 0).issued k
  else s

/-! ### Register fields of Format B words (R56, R57) -/

/-- What a register field of an instruction names. -/
inductive Use where
  /-- not used: must be 0 -/
  | no
  /-- a g-register or v-register -/
  | g
  | t
  | bank
deriving DecidableEq, Repr

/-- Whether a register field holds a code its file has. -/
def Use.ok : Use → BitVec 5 → Bool
  | .no, f => f == 0
  | .g, _ => true
  | .t, f => decide (f.toNat < 16)
  | .bank, f => decide (f.toNat < 4)

end Sys2Proof.Machine

namespace Sys2Proof

open Machine

/-- Whether the register fields of a word are legal, its OPX has no bit outside `mask`, and an instruction without
status has SD and TF 0. -/
def FmtB.legal (w : FmtB) (rd ra rb rc : Use) (mask : BitVec 26) (status : Bool := true) : Bool :=
  rd.ok w.rd && ra.ok w.ra && rb.ok w.rb && rc.ok w.rc && (w.opx &&& ~~~mask) == 0
    && (status || (w.sd == 0 && !w.tf))

/-- Bits [hi:lo] of OPX. -/
def FmtB.ox (w : FmtB) (hi lo : Nat) : Nat := w.opx.toNat / 2 ^ lo % 2 ^ (hi + 1 - lo)

end Sys2Proof

namespace Sys2Proof.Machine

open Reg

/-- The mask of OPX bits [hi:lo]. -/
def ox (hi lo : Nat) : BitVec 26 := BitVec.ofNat 26 ((2 ^ (hi + 1 - lo) - 1) * 2 ^ lo)

/-- The physical bank of a logical index, where the context claimed it (R51). -/
def Ctx.bank (x : Ctx) (i : Nat) : Option Nat := x.banks[i]?

/-- The number that n bits of a word give in two's complement. -/
def sext (n v : Nat) : Int := if v % 2 ^ n < 2 ^ (n - 1) then (v % 2 ^ n : Nat) else (v % 2 ^ n : Nat) - (2 ^ n : Nat)

/-- A 32-bit immediate sign-extended. -/
def immX (i : W32) : W64 := i.signExtend 64

/-- Whether the glove of a context has left ACTIVE (R63). -/
def State.dying (s : State) (k : CtxId) : Bool := s.gstate (s.ctx k).glove != gACTIVE

/-! ### Ends of waits -/

/-- A waiting context resumes: its wait ends and it joins those entering the window. -/
def State.resume (s : State) (k : CtxId) : State := (s.mapCtx k (fun x => { x with wait := .none })).join k

/-- Whether the context has a pod-range store or atomic whose answer has not come (R79, R284). -/
def State.storesOut (s : State) (k : CtxId) : Bool :=
  s.hub.reqs.any (fun r => r.owner == some (k.tile.val * 16 + k.ctx.val) && (r.kind == 1 || r.kind == 3))

/-- Whether a FENCE has nothing left to wait for (R79). -/
def State.fenceDone (s : State) (k : CtxId) (mask : Nat) (order acks : Bool) : Bool :=
  let x := s.ctx k
  !(x.moves.any (fun m => mask.testBit m.tag)) && (!(order || acks) || !(s.storesOut k))
    && (!order || !(s.hub.transfers.any (fun t => t.put && t.owner == some (k.tile.val * 16 + k.ctx.val))))

/-- A context stopped at a FENCE resumes once nothing it waits for is outstanding. -/
def State.recheck (s : State) (k : CtxId) : State :=
  match (s.ctx k).wait with
  | .fence mask order acks => if s.fenceDone k mask order acks then (s.resume k).advance k else s
  | _ => s

end Sys2Proof.Machine
end

