-- ==== Sys2Proof/Machine/Knots.lean ====
section
/-! DEFINITION. Knots, task retirement, graph completion, batch-step boundaries and the twin-mode records (chapters 2 and 5). -/

namespace Sys2Proof.Machine

open Reg

/-! ### Twin-mode digests (R122) -/

/-- The hash of a record. -/
def recHash (bs : List Byte) : W64 := BitVec.ofNat 64 (crc64 bs)

/-- Adds a record to digest stream 0 ACC, 1 PKT or 2 KNOT of the task in a context. -/
def State.dig (s : State) (k : CtxId) (stream : Nat) (bs : List Byte) : State :=
  let x := s.ctx k
  if s.twin x.glove then
    match stream with
    | 0 => s.setCtx k { x with digAcc := x.digAcc + recHash bs }
    | 1 => s.setCtx k { x with digPkt := x.digPkt + recHash bs }
    | 2 => s.setCtx k { x with digKnot := x.digKnot + recHash bs }
    | _ => s.setCtx k { x with digEng := x.digEng + recHash bs }
  else s

/-- The record of a knot's change: index, and the amount or the new count and target. -/
def knotRec (k : Nat) (vs : List Nat) : List Byte :=
  leBytes 2 k ++ List.replicate 6 0 ++ vs.flatMap (leBytes 8)

/-! ### Knots (R13 to R16) -/

/-- A knot. -/
def State.knot (s : State) (k : Nat) : Knot := Tab.look (fun _ => {}) s.kn.knots k
/-- Sets a knot. -/
def State.setKnot (s : State) (k : Nat) (v : Knot) : State :=
  { s with kn := { s.kn with knots := Tab.store (fun _ => {}) s.kn.knots k v } }
/-- Whether a knot is reached (R13). -/
def Knot.reached (v : Knot) : Bool := decide (v.target ≤ v.count)

/-- The slot, not FREE or RETIRED, whose knot range contains a knot (R17). -/
def State.knotOwner (s : State) (k : Nat) : Option Nat :=
  (List.range 64).find? (fun n => s.gstate n != gFREE && s.gstate n != gRETIRED && s.ownsKnot n k)

/-- Joins lists of check-slot numbers without repeats. -/
def joinMarks (a b : List Nat) : List Nat := a ++ b.filter (fun x => !(a.contains x))

/-- Marks a task tainted, and adds check-slot marks to it (R37, R307). -/
def State.taintTask (s : State) (q : Nat) (taint : Bool) (marks : List Nat) : State :=
  match s.task q with
  | some t => s.setTask q (some { t with taint := t.taint || taint, marks := joinMarks t.marks marks })
  | none => s

/-- A task becomes ready once every input is satisfied (R28). -/
def State.readyTask (s : State) (q : Nat) : State :=
  match s.task q with
  | some t =>
    if t.unsat.isEmpty ∧ t.ph = .waiting then
      let s := s.setTask q (some { t with ph := .ready, readyAt := s.kn.order })
      { s with kn := { s.kn with order := s.kn.order + 1 } }
    else s
  | none => s

/-- An event that counts as progress of the admissions held on a knot's waiters (R27). -/
def State.progressKnot (s : State) (k : Nat) : State :=
  let now := s.lanyard.toNat
  let f := fun (_ : Nat) (h : Option Hold) => h.map (fun h => if h.knots.contains k then { h with since := now } else h)
  { s with kn := { s.kn with holds := Tab.mapVal (fun _ => none) f s.kn.holds } }

/-- A context in KWAIT on a knot completes with a status. -/
def State.endKwait (s : State) (k : CtxId) (knot st : Nat) : State :=
  match (s.ctx k).wait with
  | .kwait j _ w => if j = knot then (s.resume k).finish k w st else s
  | _ => s

/-- Releases one waiter of a reached knot. -/
def State.releaseOne (s : State) (k : Nat) (v : Knot) (w : Waiter) : State :=
  let s := s.progressKnot k
  match w with
  | .task q =>
    match s.task q with
    | some t =>
      ((s.setTask q (some { t with unsat := t.unsat.filter (· != k) })).taintTask q v.taint v.marks).readyTask q
    | none => s
  | .ctx t c =>
    let id := ctxId t c
    let s := match (s.ctx id).task with
      | some q => s.taintTask q v.taint v.marks
      | none => s
    s.endKwait id k (if v.taint then ST_TAINT else ST_OK)

/-- Releases a reached knot's waiters in the order they joined (R16). -/
def State.release (s : State) (k : Nat) : State :=
  let v := s.knot k
  if v.reached then
    v.waiters.foldl (fun s w => s.releaseOne k v w) (s.setKnot k { v with waiters := [] })
  else s

/-- Whether an increment by n is refused (R15); a service knot wraps instead (R346). -/
def State.knotFull (s : State) (k n : Nat) : Bool := !(s.svcKnot k) && decide (2 ^ 48 ≤ (s.knot k).count + n)

/-- An increment that is not refused: the count, the taint and marks it brings, then the waiters. -/
def State.knotAdd (s : State) (k n : Nat) (taint : Bool) (marks : List Nat) (compare : Bool := false) : State :=
  let v := s.knot k
  if n = 0 then s
  else
    (s.setKnot k { v with count := (v.count + n) % 2 ^ 48, taint := v.taint || taint,
                          marks := joinMarks v.marks marks, compare := compare }).release k

/-- KSET and knot-initialisation records: count and target in one step, and no taint (R14, R37). -/
def State.knotSet (s : State) (k c t : Nat) : State :=
  (s.setKnot k { s.knot k with count := c, target := t, taint := false, marks := [] }).release k

/-- An increment by an engine (R14): refused on a glove's knot at its largest count, which faults the glove. -/
def State.engineAdd (s : State) (k n : Nat) (taint : Bool) (marks : List Nat) : State :=
  match s.knotOwner k with
  | some g =>
    if s.knotFull k n then (s.event 0x0602 k g n 2).faultGlove g causeKNOT_OVF
    else s.knotAdd k n taint marks
  | none => if s.svcKnot k then s.knotAdd k n taint marks else s

/-- Takes a waiter off a knot's list. -/
def State.dropWaiter (s : State) (k : Nat) (w : Waiter) : State :=
  let v := s.knot k
  (s.setKnot k { v with waiters := v.waiters.filter (· != w) }).progressKnot k

/-! ### Batch-step boundaries (R33, R187, R309) -/

/-- Installs an ARMED directory at a boundary of glove n (R187). -/
def State.installDir (s : State) (n : Nat) : State :=
  if s.fget (BRM_DIR_NEXTEP n) BRM_DIR_NEXTEP_ARMED = 1 then
    let cur := s.fget (BRM_DIR_CUREP n) BRM_DIR_CUREP_EPOCH
    let nxt := s.fget (BRM_DIR_NEXTEP n) BRM_DIR_NEXTEP_EPOCH
    let s := s.fset (BRM_DIR_NEXTEP n) BRM_DIR_NEXTEP_ARMED 0
    if s.fget (BRM_DIR_CUREP n) BRM_DIR_CUREP_VALID = 0 ∨ newer nxt cur then
      let s := s.setReg (BRM_DIR_CUR n) (s.reg (BRM_DIR_NEXT n))
      let s := s.fset (BRM_DIR_CUREP n) BRM_DIR_CUREP_EPOCH nxt
      s.fset (BRM_DIR_CUREP n) BRM_DIR_CUREP_VALID 1
    else s.event 0x0302 0 n nxt cur
  else s

/-- A boundary takes effect: the step is recorded as committed and an ARMED directory is installed. -/
def State.commitStep (s : State) (n : Nat) (id : W64) : State :=
  (s.setReg (KNOT_GLOVE_STEP n) id).installDir n

/-- Whether any task or knot of a glove holds TAINT. -/
def State.gloveTainted (s : State) (n : Nat) : Bool :=
  s.kn.tasks.any (fun e => match e.2 with
    | some t => t.glove == n && t.taint
    | none => false)
  || s.kn.knots.any (fun e => s.ownsKnot n e.1 && e.2.taint)

/-- Whether a check slot of the glove is open (R307). -/
def State.slotsOpen (s : State) (n : Nat) : Bool :=
  s.hub.slots.any (fun e => match e.2 with
    | some h => (match Tab.look (fun _ => none) s.hub.colls h with
      | some c => c.glove == n
      | none => false)
    | none => false)

/-- A graph with STEP_END completes: its boundary takes effect now, waits for the open check slots, or never comes (R309). -/
def State.stepBoundary (s : State) (n : Nat) (id : W64) : State :=
  if s.gloveTainted n then s
  else if s.slotsOpen n then { s with hub := { s.hub with boundaries := s.hub.boundaries ++ [(n, id)] } }
  else s.commitStep n id

/-! ### Retirement (R33) -/

/-- An increment by one that the knot engine makes for glove n: at a retirement (3 in its event) or as an engine (2). A
refused one faults the glove (R15, R37). -/
def State.retireAdd (s : State) (n k : Nat) (taint : Bool) (marks : List Nat) (compare : Bool) (by' : Nat := 3) : State :=
  if s.knotFull k 1 then (s.event 0x0602 k n 1 by').faultGlove n causeKNOT_OVF
  else s.knotAdd k 1 taint marks compare

/-- A graph. -/
def State.graph (s : State) (g : Nat) : Option Graph := Tab.look (fun _ => none) s.kn.graphs g
/-- Sets a graph. -/
def State.setGraph (s : State) (g : Nat) (v : Option Graph) : State :=
  { s with kn := { s.kn with graphs := Tab.store (fun _ => none) s.kn.graphs g v } }

/-- A task slot frees, which is progress of its glove's held admission (R27). -/
def State.freeSlot (s : State) (q n : Nat) : State :=
  let s := s.setTask q none
  let h := (Tab.look (fun _ => none) s.kn.holds n).map (fun h => { h with since := s.lanyard.toNat })
  { s with kn := { s.kn with holds := Tab.store (fun _ => none) s.kn.holds n h } }

/-- One task of graph g fewer is to retire; after the last, the graph completes. The step a boundary commits is recorded
before DONE_KNOT advances (R33). -/
def State.graphStep (s : State) (g : Nat) (taint : Bool) (marks : List Nat) : State :=
  match s.graph g with
  | some x =>
    let x := { x with remaining := x.remaining - 1, taint := x.taint || taint, marks := joinMarks x.marks marks }
    if x.remaining = 0 then
      let s := s.setGraph g none
      let s := if x.stepEnd ∧ x.taint = false then s.stepBoundary x.glove x.stepId else s
      s.retireAdd x.glove x.doneKnot x.taint x.marks false
    else s.setGraph g (some x)
  | none => s

/-- Bit fields of a descriptor's word 2 (R23). -/
def Task.nin (t : Task) : Nat := bits (t.desc.getD 2 0) 3 0
def Task.nout (t : Task) : Nat := bits (t.desc.getD 2 0) 7 4
def Task.accNeed (t : Task) : Nat := bits (t.desc.getD 2 0) 10 8
def Task.prio (t : Task) : Nat := bits (t.desc.getD 2 0) 12 11
def Task.restartable (t : Task) : Bool := (t.desc.getD 2 0).getLsbD 13
def Task.compare (t : Task) : Bool := (t.desc.getD 2 0).getLsbD 14
def Task.place (t : Task) : Nat := bits (t.desc.getD 2 0) 17 16
def Task.placeArg (t : Task) : Nat := bits (t.desc.getD 2 0) 25 18
def Task.naff (t : Task) : Nat := bits (t.desc.getD 2 0) 30 28
def Task.maxrun (t : Task) : Nat := bits (t.desc.getD 2 0) 39 32

/-- A 16-bit entry of the descriptor's knot lists, from word w on. -/
def knotOf (desc : List W64) (w j : Nat) : Nat := bits (desc.getD (w + j / 4) 0) (16 * (j % 4) + 15) (16 * (j % 4))
/-- Input knot j. -/
def Task.input (t : Task) (j : Nat) : Nat := knotOf t.desc 3 j
/-- Output knots in index order. -/
def Task.outs (t : Task) : List Nat := (List.range t.nout).map (knotOf t.desc 5)
/-- Affinity range j: base, length, keep. -/
def Task.aff (t : Task) (j : Nat) : KeptRange × Bool :=
  (⟨t.glove, bits (t.desc.getD (7 + 2 * j) 0) 56 0, bits (t.desc.getD (8 + 2 * j) 0) 31 0⟩,
    (t.desc.getD (8 + 2 * j) 0).getLsbD 32)
/-- The affinity ranges of a task. -/
def Task.affs (t : Task) : List (KeptRange × Bool) := (List.range t.naff).map t.aff

/-- The increments of a task's retirement, and the freeing of its slot (R33 steps 2 and 3). -/
def State.retireTask (s : State) (q : Nat) : State :=
  match s.task q with
  | some t =>
    let s := t.outs.foldl (fun s k => s.retireAdd t.glove k t.taint t.marks t.compare) s
    (s.freeSlot q t.glove).graphStep t.graph t.taint t.marks
  | none => s

/-- Cuts a context's ties to the accesses and transfers its task still has in flight. -/
def State.detach (s : State) (k : CtxId) : State :=
  let me := some (k.tile.val * 16 + k.ctx.val)
  { s with hub := { s.hub with
    reqs := s.hub.reqs.map (fun r => if r.owner = me then { r with owner := none } else r),
    transfers := s.hub.transfers.map (fun t => if t.owner = me then { t with owner := none } else t) } }

/-- Empties a context and frees its banks, its sieve records and its window place (R33 step 1, R171). -/
def State.clearCtx (s : State) (k : CtxId) : State :=
  let s := s.detach k
  let s := match (s.ctx k).wait with
    | .kwait j _ _ => s.dropWaiter j (.ctx k.tile k.ctx)
    | _ => s
  let v := (s.tile k.tile).dropCtx k.ctx
  (s.setTile k.tile { v.setCtx k.ctx {} with sieve := v.sieve.filter (fun r => r.ctx != k.ctx.val) }).fillWindow k.tile

/-- The ranges a retired task leaves in a tile's TLS, for the residency record of its last eight tasks (R31). -/
def State.keepRanges (s : State) (t : Nat) (x : Task) : State :=
  let rs := (x.affs.filter (fun a => a.2)).map (fun a => a.1)
  let old := Tab.look (fun _ => []) s.kn.kept t
  { s with kn := { s.kn with kept := Tab.store (fun _ => []) s.kn.kept t ((rs :: old).take 8) } }

end Sys2Proof.Machine
end

