-- ==== Sys2Proof/Machine/Net.lean ====
section
/-! DEFINITION. Packets and the router: headers and flits, routes, sequence numbers, marks and echoes, rate limiters,
circuits, refusals and violations (chapter 11). -/

namespace Sys2Proof.Machine

open Reg

/-! ### Headers and flits (R250 to R254) -/

/-- The types whose flit 0 carries a 32-byte control (R253). -/
def hasCtl (ty : Nat) : Bool :=
  ty == tPUT || ty == tGET_RSP || ty == tSPLICE || ty == tRETURN || ty == tCOLL || ty == tHITCH_CAST

/-- The flits of a packet of a type and length (R254). -/
def flitCount (ty len : Nat) : Nat :=
  if hasCtl ty then 1 + (len + 63) / 64 else if len ≤ 32 then 1 else 1 + (len - 32 + 63) / 64

/-- The flits of a packet. -/
def Packet.nflits (p : Packet) : Nat := flitCount p.ty p.len

/-- Word i of the control or of the payload. -/
def Packet.word (p : Packet) (i : Nat) : W64 :=
  if hasCtl p.ty then p.body.getD i 0 else BitVec.ofNat 64 (leNat ((p.data.drop (8 * i)).take 8))

/-- The bits of a Bool. -/
def b1 (b : Bool) : Nat := if b then 1 else 0

/-- The header without HCRC, as a number. -/
def Packet.headNat (p : Packet) : Nat :=
  p.ty % 64 + p.vc % 8 * 2 ^ 6 + p.dest.toNat * 2 ^ 9 + p.src.toNat * 2 ^ 33 + p.glove.toNat * 2 ^ 57
    + p.epoch.toNat * 2 ^ 73 + p.taddr.toNat * 2 ^ 89 + p.len % 8192 * 2 ^ 146 + p.fmt % 16 * 2 ^ 159
    + b1 p.cm * 2 ^ 163 + p.echo % 16 * 2 ^ 164 + p.seq.toNat * 2 ^ 168 + p.circ % 4096 * 2 ^ 184
    + p.hitch % 1024 * 2 ^ 196 + b1 p.adapt * 2 ^ 206 + b1 p.sync * 2 ^ 207 + b1 p.poison * 2 ^ 208
    + b1 p.gloved * 2 ^ 209 + b1 p.escaped * 2 ^ 210 + b1 p.reply * 2 ^ 211 + p.rsv % 2 ^ 28 * 2 ^ 212

/-- The 32 header bytes, HCRC last (R252). -/
def Packet.headBytes (p : Packet) : List Byte :=
  let h := leBytes 30 p.headNat
  h ++ leBytes 2 (crc16 h)

/-- Cuts a byte list into flits of 64 bytes. -/
def flitsOf : Nat → List Byte → List (BitVec 512)
  | 0, _ => []
  | n + 1, bs => BitVec.ofNat 512 (leNat (bs.take 64)) :: flitsOf n (bs.drop 64)

/-- The flits of a packet on a link. -/
def Packet.toFlits (p : Packet) : List (BitVec 512) :=
  let first := if hasCtl p.ty then wordsBytes ((p.body ++ List.replicate 4 0).take 4) else p.data.take 32
  let rest := if hasCtl p.ty then p.data else p.data.drop 32
  flitsOf p.nflits (p.headBytes ++ first ++ List.replicate (32 - first.length) 0 ++ rest)

/-- A bit field of a header number. -/
def hf (h hi lo : Nat) : Nat := h / 2 ^ lo % 2 ^ (hi + 1 - lo)

/-- The packet that flits spell. -/
def Packet.ofFlits (fs : List (BitVec 512)) : Packet :=
  let bytes := fs.flatMap (fun f => leBytes 64 f.toNat)
  let h := leNat (bytes.take 32)
  let ty := hf h 5 0
  let len := hf h 158 146
  let pay := bytes.drop 32
  let ctl := hasCtl ty
  { ty := ty, vc := hf h 8 6, dest := BitVec.ofNat 24 (hf h 32 9), src := BitVec.ofNat 24 (hf h 56 33),
    glove := BitVec.ofNat 16 (hf h 72 57), epoch := BitVec.ofNat 16 (hf h 88 73),
    taddr := BitVec.ofNat 57 (hf h 145 89), len := len, fmt := hf h 162 159, cm := hf h 163 163 == 1,
    echo := hf h 167 164, seq := BitVec.ofNat 16 (hf h 183 168), circ := hf h 195 184, hitch := hf h 205 196,
    adapt := hf h 206 206 == 1, sync := hf h 207 207 == 1, poison := hf h 208 208 == 1, gloved := hf h 209 209 == 1,
    escaped := hf h 210 210 == 1, reply := hf h 211 211 == 1, rsv := hf h 239 212,
    hcrcOk := hf h 255 240 == crc16 (bytes.take 30),
    body := if ctl then bytesWords 4 pay else [],
    data := (if ctl then pay.drop 32 else pay).take len,
    badLen := fs.length != flitCount ty len }

/-- The flits a packet has by its first flit. -/
def flitsDue (f : BitVec 512) : Nat := flitCount (hf f.toNat 5 0) (hf f.toNat 158 146)

/-! ### Devices -/

/-- This device's id. -/
def State.self (s : State) : BitVec 24 := BitVec.ofNat 24 (s.fget FAB_CFG FAB_CFG_SELF)
/-- Pod and slot of a device id. -/
def podOf (d : BitVec 24) : Nat := d.toNat / 64
def slotOf (d : BitVec 24) : Nat := d.toNat % 64
/-- Whether a device is in this device's pod. -/
def State.inMyPod (s : State) (d : BitVec 24) : Bool := podOf d == podOf s.self

/-- A port. -/
def State.port (s : State) (p : Nat) : Port := Tab.look (fun _ => {}) s.ports p
/-- Sets a port. -/
def State.setPort (s : State) (p : Nat) (v : Port) : State := { s with ports := Tab.store (fun _ => {}) s.ports p v }
/-- A port's state (R243). -/
def State.pstate (s : State) (p : Nat) : Nat := s.fget (PORT_STAT p) PORT_STAT_STATE
/-- Whether a port is UP. -/
def State.up (s : State) (p : Nat) : Bool := decide (p < 32) && s.pstate p == 2
/-- Whether a port is a PL port set in FAB_AMASK and UP. -/
def State.adaptPort (s : State) (p : Nat) : Bool := (s.reg FAB_AMASK).getLsbD p && s.up p

/-! ### Queues -/

/-- Packets waiting at an input. -/
def State.inq (s : State) (p v : Nat) : List Packet := Tab.look (fun _ => []) s.rt.inq (p * 8 + v)
/-- Sets them. -/
def State.setInq (s : State) (p v : Nat) (l : List Packet) : State :=
  { s with rt := { s.rt with inq := Tab.store (fun _ => []) s.rt.inq (p * 8 + v) l } }
/-- Packets waiting at an output. -/
def State.outq (s : State) (p v : Nat) : List Packet := Tab.look (fun _ => []) s.rt.outq (p * 8 + v)
/-- Sets them. -/
def State.setOutq (s : State) (p v : Nat) (l : List Packet) : State :=
  { s with rt := { s.rt with outq := Tab.store (fun _ => []) s.rt.outq (p * 8 + v) l } }
/-- Flits of a list of packets. -/
def flitSum (l : List Packet) : Nat := (l.map Packet.nflits).foldl (· + ·) 0

/-! ### Routes (R259) -/

/-- The output of an in-pod slot without ADAPT: PORT, or ALT while PORT is not UP; none when neither is. -/
def State.droute (s : State) (slot : Nat) : Option Nat :=
  let p := s.fget (FAB_DROUTE slot) FAB_DROUTE_PORT
  let a := s.fget (FAB_DROUTE slot) FAB_DROUTE_ALT
  if s.up p then some p else if s.up a then some a else none

/-- Credit held on a port for a VC: reserved and shared. -/
def Port.credit (v : Port) (vc : Nat) : Nat := Tab.look (fun _ => 0) v.held vc + v.heldShared

/-- The adaptive output: the most credit held for the VC, and the lowest number among equals. -/
def State.aroute (s : State) (vc : Nat) : Option Nat :=
  (List.range 24).foldl (fun (b : Option Nat) p =>
    if s.adaptPort p then
      match b with
      | none => some p
      | some q => if (s.port q).credit vc < (s.port p).credit vc then some p else some q
    else b) none

/-- The output of a packet that is not for this device and not on a circuit. -/
def State.route (s : State) (dest : BitVec 24) (vc : Nat) (adapt escaped : Bool) : Option Nat :=
  if s.inMyPod dest then
    if adapt && !escaped then s.aroute vc else s.droute (slotOf dest)
  else
    let i := podOf dest % 1024
    let tgt := s.fget (FAB_XROUTE i) FAB_XROUTE_TARGET
    if s.fget (FAB_XROUTE i) FAB_XROUTE_GW = 1 then
      if adapt && !escaped then s.aroute vc else s.droute tgt
    else
      let p := 24 + tgt % 8
      if s.up p then some p else none

/-! ### Port events (R273 to R276) -/

/-- Packets with a flit in a frame not acknowledged, and packets queued at the output, when a port goes DOWN. -/
def Port.reset1 (v : Port) : Port :=
  { v with txFlits := [], rxFlits := [], replay := [], inFlight := [], nakReq := false, badRun := 0, initSent := false,
           initRecv := false, held := [], heldShared := 0, returns := [] }

/-- Counts a violation on a port: its record, and quarantine beyond the threshold of a window (R273, R276). -/
def State.violate (s : State) (p code : Nat) : State :=
  if p < 32 then
    let s := s.bumpBy (PORT_VIOL p) PORT_VIOL_COUNT false 1
    let s := if s.fget (PORT_VIOL p) PORT_VIOL_VALID = 0 then
        (s.fset (PORT_VIOL p) PORT_VIOL_LAST code).fset (PORT_VIOL p) PORT_VIOL_VALID 1
      else s
    let v := s.port p
    let now := s.lanyard.toNat
    let win := max 1 (s.fget (PORT_VIOL_CFG p) PORT_VIOL_CFG_WINDOW_MS) * 1000000
    let v := if now < v.violStart + win ∧ v.violCount ≠ 0 then { v with violCount := v.violCount + 1 }
      else { v with violStart := now, violCount := 1 }
    let s := s.setPort p v
    let th := s.fget (PORT_VIOL_CFG p) PORT_VIOL_CFG_THRESH
    if th ≠ 0 ∧ th < v.violCount ∧ s.pstate p ≠ 4 ∧ s.pstate p ≠ 5 ∧ s.pstate p ≠ 0 then
      (s.fset (PORT_STAT p) PORT_STAT_STATE 4).event 0x0805 p 0x3F v.violCount code
    else s
  else s

/-! ### Rate limiters and circuit shares (R266, R269) -/

/-- Flits per ns of a port's flit rate, in 1/1,024 of 1/2^20 flit per unit of rate, by the lanes in use (R242). -/
def rateUnit (lanes : BitVec 4) : Nat :=
  let n := b1 (lanes.getLsbD 0) + b1 (lanes.getLsbD 1) + b1 (lanes.getLsbD 2) + b1 (lanes.getLsbD 3)
  if n = 4 then 1484 else if n = 3 then 1113 else 742

/-- The lanes a port uses. -/
def State.lanes (s : State) (p : Nat) : BitVec 4 := BitVec.ofNat 4 (s.fget (PORT_STAT p) PORT_STAT_LANES)

/-- A bucket of 65 flits, in 1/2^20 flit. -/
def bucketFull : Nat := 65 * 2 ^ 20

/-- A limiter. -/
def State.limiter (s : State) (d : BitVec 24) : Option Limiter := Tab.look (fun _ => none) s.rt.limits d.toNat
/-- Sets a limiter. -/
def State.setLimiter (s : State) (d : BitVec 24) (l : Option Limiter) : State :=
  { s with rt := { s.rt with limits := Tab.store (fun _ => none) s.rt.limits d.toNat l } }

/-- A limiter's bucket now, at the flit rate of port p. -/
def State.bucket (s : State) (l : Limiter) (p : Nat) : Nat :=
  min bucketFull (l.bucket + (s.lanyard.toNat - l.asOf) * l.rate * rateUnit (s.lanes p))

/-- Whether the limiter of a destination lets a number of flits of VC1 to VC5 leave by port p now. -/
def State.mayLeave (s : State) (d : BitVec 24) (vc flits p : Nat) : Bool :=
  if vc = 0 ∨ vc > 5 then true
  else match s.limiter d with
    | none => true
    | some l => decide (flits * 2 ^ 20 ≤ s.bucket l p)

/-- Meters flits that leave. -/
def State.meter (s : State) (d : BitVec 24) (vc flits p : Nat) : State :=
  if vc = 0 ∨ vc > 5 then s
  else match s.limiter d with
    | none => s
    | some l => s.setLimiter d (some { l with bucket := s.bucket l p - flits * 2 ^ 20, asOf := s.lanyard.toNat })

/-- The limiter a new one replaces when all 4,096 are in use: the highest rate, then the lowest device id. -/
def worstLimiter (t : Tab (Option Limiter)) : Option Nat :=
  (t.foldl (fun (b : Option (Nat × Nat)) e => match e.2 with
    | some l => (match b with
      | none => some (e.1, l.rate)
      | some x => if x.2 < l.rate then some (e.1, l.rate) else some x)
    | none => b) none).map (fun x => x.1)

/-- An echo from a destination: its limiter decreases, unless it did within HOLD_US (R266). -/
def State.echoFrom (s : State) (d : BitVec 24) : State :=
  let now := s.lanyard.toNat
  let dec := max 1 (s.fget FAB_RATE FAB_RATE_DEC)
  let low := max 1 (s.fget FAB_RATE FAB_RATE_MIN)
  let hold := s.fget FAB_RATE FAB_RATE_HOLD_US * 1000
  match s.limiter d with
  | some l =>
    if now < l.lastDec + hold then s.setLimiter d (some { l with lastEcho := now })
    else
      let r := max low (l.rate * (16 - dec) / 16)
      s.setLimiter d (some { l with rate := r, lastDec := now, lastEcho := now })
  | none =>
    let s := if s.rt.limits.length < 4096 then s
      else match worstLimiter s.rt.limits with
        | some k => s.setLimiter (BitVec.ofNat 24 k) none
        | none => s
    s.setLimiter d (some ⟨max low (1024 * (16 - dec) / 16), now, now, bucketFull, now⟩)

/-! ### Sending (R259 to R265) -/

/-- Takes up to 15 pending marks for a packet to a device (R265). -/
def State.takeEcho (s : State) (d : BitVec 24) : Nat × State :=
  let n := Tab.look (fun _ => 0) s.rt.marks d.toNat
  let e := min n 15
  (e, { s with rt := { s.rt with marks := Tab.store (fun _ => 0) s.rt.marks d.toNat (n - e) } })

/-- The place of a destination in the SEQ counters: its slot, or 64 beyond the pod. -/
def State.seqSlot (s : State) (d : BitVec 24) : Nat := if s.inMyPod d then slotOf d else 64

/-- Gives a packet its SEQ and, on the first packet without ADAPT after a break, SYNC (R261). -/
def State.stamp (s : State) (p : Packet) : Packet × State :=
  let n := s.seqSlot p.dest
  let k := n * 16 + p.vc * 2 + b1 p.adapt
  let q := (Tab.look (fun _ => 0) s.rt.txSeq k + 1) % 65536
  let y := n * 8 + p.vc
  let due := decide (n < 64) && !p.adapt && !(Tab.look (fun _ => false) s.rt.synced y)
  let rt := { s.rt with txSeq := Tab.store (fun _ => 0) s.rt.txSeq k q }
  let rt := if due then { rt with synced := Tab.store (fun _ => false) rt.synced y true } else rt
  ({ p with seq := BitVec.ofNat 16 q, sync := due }, { s with rt := rt })

/-- Puts a packet into an output queue, marking it when the queue holds more than THRESH flits (R264). -/
def State.toOutq (s : State) (p : Packet) (port : Nat) : State :=
  let q := s.outq port p.vc
  let mark := decide (1 ≤ p.vc ∧ p.vc ≤ 5 ∧ s.fget FAB_CM FAB_CM_THRESH < flitSum q)
  let s := if mark then s.bump (PORT_CNT4 port) PORT_CNT4_CM_SET 1 else s
  s.setOutq port p.vc (q ++ [{ p with cm := p.cm || mark, since := s.lanyard.toNat }])

/-- Puts a packet for this device into the crossbar's queue (R264). -/
def State.toLocal (s : State) (p : Packet) : State :=
  s.setInq 32 p.vc (s.inq 32 p.vc ++ [{ p with since := s.lanyard.toNat }])

/-- The NAK for a packet (R255), as a packet of this device. -/
def State.nakOf (s : State) (p : Packet) (code : Nat) (localBit : Bool) (w3 : W64) : Packet :=
  { ty := tNAK, vc := 0, dest := p.src, src := s.self, len := 32,
    data := wordsBytes [
      BitVec.ofNat 64 (code + p.ty % 64 * 2 ^ 8 + p.vc % 8 * 2 ^ 14 + b1 localBit * 2 ^ 17 + b1 p.adapt * 2 ^ 18
        + p.seq.toNat * 2 ^ 32),
      BitVec.ofNat 64 (p.glove.toNat + p.epoch.toNat * 2 ^ 16 + s.self.toNat * 2 ^ 32),
      BitVec.ofNat 64 p.taddr.toNat, w3] }

/-- Whether a type is one for which no device sends a NAK (R255). -/
def noNak (ty : Nat) : Bool := ty == tACK || ty == tNAK || ty == tCNP || ty == tPROBE

/-- A NAK with LOCAL = 1 to a packet's source when that is this device (R249, R259). -/
def State.localNak (s : State) (p : Packet) : State :=
  if noNak p.ty then s else
    let n := { s.nakOf p nakBUSY true (p.word 0) with lostTo := some p.dest }
    let (n, s) := s.stamp n
    s.toLocal n

/-- The local circuit slot a packet with CIRC names at its source: the lowest port whose slot the glove set up here. -/
def State.srcCirc (s : State) (p : Packet) : Option Nat :=
  (List.range 32).find? (fun o =>
    s.fget (PORT_CIRC o (p.circ - 1)) PORT_CIRC_VALID == 1 && s.fget (PORT_CIRC o (p.circ - 1)) PORT_CIRC_IN_PORT == 63
      && s.fget (PORT_CIRC o (p.circ - 1)) PORT_CIRC_GLOVE == p.glove.toNat
      && s.fget (PORT_CIRC o (p.circ - 1)) PORT_CIRC_EPOCH == p.epoch.toNat)

/-- Notes a use of a circuit slot (R270). -/
def State.useCirc (s : State) (port slot : Nat) : State :=
  let v := s.port port
  let u := Tab.look (fun _ => {}) v.circ slot
  s.setPort port { v with circ := Tab.store (fun _ => {}) v.circ slot { u with lastUse := s.lanyard.toNat } }

/-- Notes the port used to an in-pod slot; after a change, packets to it are held for DRAIN_US and SYNC is due (R261). -/
def State.notePort (s : State) (slot p : Nat) : State :=
  let old := Tab.look (fun _ => 0) s.rt.lastPort slot
  if old = p + 1 then s
  else
    let rt := { s.rt with lastPort := Tab.store (fun _ => 0) s.rt.lastPort slot (p + 1) }
    if old = 0 then { s with rt := rt }
    else
      let rt := { rt with
        synced := Tab.dropIf (fun k => k / 8 == slot) rt.synced,
        drain := Tab.store (fun _ => 0) rt.drain slot (s.lanyard.toNat + s.fget FAB_CFG FAB_CFG_DRAIN_US * 1000) }
      { s with rt := rt }

/-- After a change of a port's state or of a route: the ports of the in-pod destinations are noted again (R261). -/
def State.reroute (s : State) : State :=
  (List.range 64).foldl (fun s n =>
    if Tab.look (fun _ => 0) s.rt.lastPort n = 0 then s
    else match s.droute n with
      | some p => s.notePort n p
      | none => s) s

/-- Keeps a COUNTS or COLL packet that was sent, so that NAK BUSY can name it (R190, R302). -/
def State.keepSent (s : State) (p : Packet) : State :=
  if p.ty = tCOUNTS ∨ p.ty = tCOLL then
    let same := fun (q : Packet) => q.dest == p.dest && q.ty == p.ty && q.vc == p.vc && q.adapt == p.adapt && q.seq == p.seq
      && q.word 1 == p.word 1 && q.word 3 == p.word 3
    { s with hub := { s.hub with sent := s.hub.sent.filter (fun q => !(same q)) ++ [p] } }
  else s

/-- Sends a packet that is not held: it takes its echo and its SEQ, and joins its output's queue. Where no allowed port
is UP, its source gets NAK BUSY with LOCAL = 1 (R259). -/
def State.emit (s : State) (p : Packet) : State :=
  if p.dest = s.self then
    let (p, s) := s.stamp p
    (s.keepSent p).toLocal p
  else
    let out := if p.circ ≠ 0 then s.srcCirc p else s.route p.dest p.vc p.adapt false
    match out with
    | none => (s.keepSent p).localNak p
    | some o =>
      let (e, s) := s.takeEcho p.dest
      let (p, s) := s.stamp { p with echo := e }
      let s := if p.circ ≠ 0 then s.useCirc o (p.circ - 1) else s
      (s.keepSent p).toOutq p o

/-- Sends a packet: one without ADAPT to an in-pod slot whose route has changed waits out the drain hold (R261). -/
def State.send (s : State) (p : Packet) : State :=
  let p := { p with src := s.self }
  if p.dest ≠ s.self ∧ s.inMyPod p.dest ∧ p.adapt = false ∧ p.circ = 0 then
    let n := slotOf p.dest
    let s := match s.droute n with
      | some o => s.notePort n o
      | none => s
    if s.lanyard.toNat < Tab.look (fun _ => 0) s.rt.drain n ∨ s.rt.heldPkts.any (fun q => slotOf q.dest == n && q.vc == p.vc) then
      { s with rt := { s.rt with heldPkts := s.rt.heldPkts ++ [p] } }
    else s.emit p
  else s.emit p

/-- ADAPT as this device sets it on the types that allow it (R253). -/
def State.adaptBit (s : State) : Bool := s.fget FAB_CFG FAB_CFG_ADAPT == 1

/-- A glove-tagged packet of slot n. -/
def State.tagged (s : State) (n : Nat) (p : Packet) : Packet :=
  { p with gloved := true, glove := BitVec.ofNat 16 (s.gid n), epoch := BitVec.ofNat 16 (s.gepoch n) }

/-! ### Answers -/

/-- Refuses a packet with a NAK, at most one per 16 ns and port (R255, R277). -/
def State.nak (s : State) (p : Packet) (code : Nat) : State :=
  if noNak p.ty then s
  else
    let n := s.nakOf p code false (p.word 0)
    if p.src = s.self then s.send n
    else match s.route p.src 0 false false with
      | none => s.send n
      | some o =>
        let v := s.port o
        let now := s.lanyard.toNat
        let late := match v.lastNak with
          | some t => decide (now < t + 16)
          | none => false
        if late then s.bump (PORT_CNT3 o) PORT_CNT3_NAK_DROPPED 1
        else (s.setPort o { v with lastNak := some now }).send n

/-- The ACK for a packet (R255). -/
def State.ack (s : State) (p : Packet) (w2 w3 : W64) : State :=
  let words := [BitVec.ofNat 64 (p.ty % 64 + p.vc % 8 * 2 ^ 6 + p.seq.toNat * 2 ^ 16),
    BitVec.ofNat 64 (p.glove.toNat + p.epoch.toNat * 2 ^ 16), w2, w3]
  s.send { ty := tACK, vc := 0, dest := p.src, len := 32, reply := true, data := wordsBytes words }

/-! ### Taking a packet in (R257, R274) -/

/-- Returns the input credit of a packet that leaves (R257). -/
def State.freeIn' (s : State) (port : Nat) (p : Packet) : State :=
  if port < 32 then
    let v := s.port port
    let r := Tab.look (fun _ => 0) v.usedRsvd p.vc
    let ret := (if p.crR = 0 then [] else [(p.vc, p.crR)]) ++ (if p.crS = 0 then [] else [(8, p.crS)])
    s.setPort port { v with usedRsvd := Tab.store (fun _ => 0) v.usedRsvd p.vc (r - p.crR),
                            usedShared := v.usedShared - p.crS, returns := v.returns ++ ret }
  else s

/-- The packet at the head of an input queue. -/
def State.headOf (s : State) (x : Rx) : Option Packet := (s.inq x.port x.vc).head?

/-- Takes the head packet out of an input queue. -/
def State.popIn (s : State) (x : Rx) : State :=
  match s.inq x.port x.vc with
  | [] => s
  | p :: ps => (s.setInq x.port x.vc ps).freeIn' x.port p

/-- Notes a packet's mark and its echo at its destination (R264 to R266). -/
def State.noteMarks (s : State) (p : Packet) (cm : Bool) : State :=
  let s := if cm then s.bump FAB_CNT1 FAB_CNT1_MARKED 1 else s
  let s := if cm ∧ p.gloved ∧ 1 ≤ p.vc ∧ p.vc ≤ 5 then
      let n := Tab.look (fun _ => 0) s.rt.marks p.src.toNat
      let t0 := if n = 0 then s.lanyard.toNat else Tab.look (fun _ => 0) s.rt.marksAt p.src.toNat
      { s with rt := { s.rt with
          marks := Tab.store (fun _ => 0) s.rt.marks p.src.toNat (n + 1),
          marksAt := Tab.store (fun _ => 0) s.rt.marksAt p.src.toNat t0 } }
    else s
  if 0 < p.echo then s.echoFrom p.src else s

/-- Flits waiting at the crossbar input on a VC. -/
def State.waitingFlits (s : State) (vc : Nat) : Nat :=
  (List.range 33).foldl (fun a q => a + flitSum ((s.inq q vc).filter (fun p => p.dest == s.self))) 0

/-- The SEQ check of R261 on a packet without ADAPT from this pod: whether it is accepted, and the new base. -/
def State.seqCheck (s : State) (p : Packet) : Bool × State :=
  if p.adapt ∨ !(s.inMyPod p.src) then (true, s)
  else
    let k := slotOf p.src * 8 + p.vc
    let base := Tab.look (fun _ => 65536) s.rt.rxBase k
    if p.sync ∨ (base + 1) % 65536 = p.seq.toNat ∧ base ≠ 65536 then
      (true, { s with rt := { s.rt with rxBase := Tab.store (fun _ => 65536) s.rt.rxBase k p.seq.toNat } })
    else (false, s)

/-- Whether a MGMT or TIME packet is gated off on its port (R274). -/
def State.gatedOff (s : State) (x : Rx) (p : Packet) : Bool :=
  decide (x.port.val < 32) &&
    ((p.ty == tMGMT && s.fget (PORT_CFG x.port) PORT_CFG_MGMT_OK == 0)
      || (p.ty == tTIME && s.fget (PORT_CFG x.port) PORT_CFG_TIME_OK == 0))

/-- The destination's checks of R274 before the type's own: the port gate, R41, R261 and POISON. On success, the packet
and the glove's slot (64 for a packet that is not glove-tagged). A refused packet blocks nothing behind it: a SEQ in order
moves the base whichever row refuses its packet (assumption 53). -/
def State.screen (s : State) (x : Rx) (p : Packet) : State × Option (Packet × Nat) :=
  let cm := p.cm || decide (1 ≤ p.vc ∧ p.vc ≤ 5 ∧ s.fget FAB_CM FAB_CM_THRESH < s.waitingFlits p.vc)
  let (ok, s) := ((s.popIn x).noteMarks p cm).seqCheck p
  if s.gatedOff x p then ((s.nak p nakDENIED).violate x.port nakDENIED, none)
  else
    match (if p.gloved then s.activeSlot p.glove.toNat p.epoch.toNat else some 64) with
    | none =>
      ((s.event 0x0801 x.port 0x3F (p.glove.toNat + p.epoch.toNat * 65536) p.src.toNat).nak p nakSTALE_GLOVE, none)
    | some n =>
      if !ok then ((s.bump FAB_CNT1 FAB_CNT1_ORDER_NAK 1).nak p nakORDER, none)
      else if p.poison then (s.nak p nakPOISON, none)
      else (s, some (p, n))

/-- A packet of a type for this device at the head of an input queue, after the destination's checks. -/
def State.take (s : State) (x : Rx) (ty : Nat) : State × Option (Packet × Nat) :=
  match s.headOf x with
  | none => (s, none)
  | some p => if p.ty = ty ∧ p.dest = s.self then s.screen x p else (s, none)

/-- Refuses a packet as MALFORMED, which counts as a violation of the port's partner (R273). -/
def State.malformed (s : State) (x : Rx) (p : Packet) : State :=
  ((s.seqCheck p).2.nak p nakMALFORMED).violate x.port nakMALFORMED

/-- A packet's record in the twin-mode digests (R122). -/
def Packet.record (p : Packet) : List Byte :=
  [BitVec.ofNat 8 p.ty, BitVec.ofNat 8 p.fmt] ++ leBytes 2 p.len ++ [0, 0, 0, 0] ++ leBytes 4 p.dest.toNat
    ++ [0, 0, 0, 0] ++ leBytes 8 p.taddr.toNat ++ wordsBytes p.body ++ p.data

/-- Sends a packet for the task in a context, recording it in its PKT digest (R122). -/
def State.sendFor (s : State) (k : CtxId) (p : Packet) : State := (s.dig k 1 p.record).send p

end Sys2Proof.Machine
end

