-- ==== Sys2Proof/Machine/Fabric.lean ====
section
/-! DEFINITION. Fabric ports and the router's own commands: link layer, port states, output service, transit, probes,
circuits, hitches and fault injectors (chapter 11). -/

namespace Sys2Proof.Machine

open Reg

/-! ### Packet rules of R253 -/

/-- The VC of a type off circuits. -/
def vcOf (ty : Nat) : Nat :=
  if ty = tSTORE ∨ ty = tLOAD_REQ ∨ ty = tATOMIC ∨ ty = tPUT ∨ ty = tGET_REQ then 1
  else if ty = tLOAD_RSP ∨ ty = tGET_RSP then 2
  else if ty = tSPLICE ∨ ty = tRETURN then 3
  else if ty = tCOLL ∨ ty = tCOUNTS then 4
  else if ty = tMGMT ∨ ty = tPROBE then 6 else 0

/-- Whether a type may travel on a circuit. -/
def onCirc (ty : Nat) : Bool := ty == tPUT || ty == tGET_RSP || ty == tCOLL
/-- Whether a type may carry ADAPT. -/
def mayAdapt (ty : Nat) : Bool := onCirc ty || ty == tSPLICE || ty == tRETURN || ty == tCOUNTS
/-- Whether a type is glove-tagged; MGMT may be either. -/
def isTagged (ty : Nat) : Bool := decide (ty ≤ tCIRC_TEAR) || ty == tLAUNCH

/-- The type whose rules a packet follows: a hitch cast follows its inner type's. -/
def Packet.ruleTy (p : Packet) : Nat := if p.ty = tHITCH_CAST then bits (p.word 1) 5 0 else p.ty

/-- Whether an inner type may be cast (R272). -/
def mayCast (ty : Nat) : Bool :=
  ty == tPUT || ty == tKNOT_OP || ty == tCOLL || ty == tLAUNCH || ty == tTIME || ty == tMGMT

/-- Whether a packet is malformed at a router input (R273). -/
def Packet.bad (p : Packet) : Bool :=
  let r := p.ruleTy
  p.rsv != 0 || decide (4096 < p.len) || p.badLen || decide (7 ≤ p.fmt) || decide (64 < p.circ)
    || (p.ty == tHITCH_CAST && (!(mayCast r) || bits (p.word 1) 63 7 != 0 || p.word 2 != 0 || p.word 3 != 0))
    || (p.adapt && !(mayAdapt r))
    || (r != tMGMT && p.gloved != isTagged r)
    || !(if p.circ = 0 then
          (if p.escaped then p.vc == 7 && p.adapt
            else p.vc == vcOf r)
        else p.vc == 5 && onCirc r && !p.escaped || ((p.ty == tCIRC_SETUP || p.ty == tCIRC_TEAR) && p.vc == 0))

/-! ### Port states (R243, R249, R275) -/

/-- Retrains a port. -/
def State.retrain (s : State) (p : Nat) : State :=
  let s := s.bump (PORT_CNT2 p) PORT_CNT2_RETRAINS 1
  let s := s.fset (PORT_STAT p) PORT_STAT_STATE 3
  (s.setPort p { s.port p with retrainAt := s.lanyard.toNat, badRun := 0 }).reroute

/-- A LOCAL NAK for a packet whose delivery a port going DOWN left open (R249). -/
def State.lostPacket (s : State) (p : Packet) : State :=
  if noNak p.ty then s
  else if p.src = s.self then s.localNak p
  else s.send (s.nakOf p nakBUSY true (p.word 0))

/-- Sends the packets that wait at a port's output by their routes anew. -/
def State.resend (s : State) (p : Nat) : State :=
  let ps := (List.range 8).flatMap (fun v => s.outq p v)
  let s := (List.range 8).foldl (fun s v => s.setOutq p v []) s
  ps.foldl (fun s q =>
    if q.src = s.self then s.send { q with circ := 0, echo := q.echo }
    else match s.route q.dest q.vc q.adapt q.escaped with
      | some o => s.toOutq q o
      | none => s.lostPacket q) s

/-- A port goes DOWN with a link code (R249). -/
def State.portDown (s : State) (p code : Nat) : State :=
  let lost := (s.port p).inFlight.map (fun e => e.2)
  let s := s.fset (PORT_STAT p) PORT_STAT_STATE 0
  let s := s.event 0x0803 p 0x3F code (s.fget (PORT_STAT p) PORT_STAT_PARTNER)
  let s := (s.setPort p (s.port p).reset1).reroute
  (lost.foldl State.lostPacket s).resend p

/-- The lanes that have not failed. -/
def Port.goodLanes (v : Port) : BitVec 4 := ~~~v.failedLanes

/-- How many lanes of a set. -/
def laneCount (l : BitVec 4) : Nat :=
  b1 (l.getLsbD 0) + b1 (l.getLsbD 1) + b1 (l.getLsbD 2) + b1 (l.getLsbD 3)

/-- The least width a port may run at. -/
def State.minWidth (s : State) (p : Nat) : Nat := min 4 (max 2 (s.fget (PORT_CFG p) PORT_CFG_MIN_WIDTH))

/-- The width a set of good lanes gives: 4, 3 or 2 lanes (R242). -/
def State.setLanes (s : State) (p : Nat) : State :=
  s.fset (PORT_STAT p) PORT_STAT_LANES (s.port p).goodLanes.toNat

/-- Starts a port's training: the credit it will advertise is taken from PORT_CREDIT (R247, R280). -/
def State.train (s : State) (p : Nat) : State :=
  let r := min 192 (max 65 (s.fget (PORT_CREDIT p) PORT_CREDIT_RSVD))
  let s := s.fset (PORT_STAT p) PORT_STAT_STATE 1
  let s := s.fset (PORT_CREDIT p) PORT_CREDIT_SHARED (1536 - 8 * r)
  let s := s.setLanes p
  s.setPort p { (s.port p).reset1 with ownRsvd := r, initSent := true, usedRsvd := [], usedShared := 0,
                                       txSeq := 0, rxAck := 0, retrainAt := s.lanyard.toNat }

/-- ENABLE (R280). -/
def State.enablePort (s : State) (p : Nat) : State :=
  let s := s.setPort p { s.port p with enabled := true }
  let s := s.fset (PORT_STAT p) PORT_STAT_STATUS ST_OK
  if s.pstate p = 0 then
    (s.setPort p { s.port p with failedLanes := 0, initFails := 0 }).train p
  else s

/-- DISABLE: the port goes DOWN, and its failed lanes may be used again when next enabled (R243, R280). -/
def State.disablePort (s : State) (p : Nat) : State :=
  let s := s.fset (PORT_STAT p) PORT_STAT_STATUS ST_OK
  let s := if s.pstate p = 0 then s else s.portDown p 0
  s.setPort p { s.port p with enabled := false, failedLanes := 0 }

/-- FENCE: holds the port down. -/
def State.fencePort (s : State) (p : Nat) : State :=
  let s := s.fset (PORT_STAT p) PORT_STAT_STATUS ST_OK
  let s := if s.pstate p = 0 then s else s.portDown p 0
  s.fset (PORT_STAT p) PORT_STAT_STATE 5

/-- RELEASE: a QUARANTINED or FENCED port retrains (R276). -/
def State.releasePort (s : State) (p : Nat) : State :=
  let s := s.fset (PORT_STAT p) PORT_STAT_STATUS ST_OK
  if s.pstate p = 4 ∨ s.pstate p = 5 then
    let s := s.setPort p { s.port p with violCount := 0 }
    s.train p
  else s

/-- A command of PORT_CFG.CMD; a reserved one reports ST_RANGE (R280). -/
def State.portCmd (s : State) (p cmd : Nat) : State :=
  if cmd = 1 then s.enablePort p else if cmd = 2 then s.disablePort p else if cmd = 3 then s.fencePort p
  else if cmd = 4 then s.releasePort p else if cmd = 0 then s
  else s.fset (PORT_STAT p) PORT_STAT_STATUS ST_RANGE

/-- PORT_LANE_FAIL (R243): the port narrows, or goes DOWN below its least width. -/
def execPortLaneFail (p : Fin 32) (lane : Fin 4) (s : State) : Out :=
  if s.pstate p = 2 ∧ (s.lanes p).getLsbD lane then
    let v := s.port p
    let s1 := s.setPort p { v with failedLanes := v.failedLanes ||| BitVec.ofNat 4 (2 ^ lane.val) }
    if laneCount (s1.port p).goodLanes < s.minWidth p then done s (s1.portDown p 0)
    else done s (s1.retrain p)
  else done s s

/-- PORT_RETRAIN_DONE (R243): back UP at the new width. -/
def execPortRetrainDone (p : Fin 32) (s : State) : Out :=
  if s.pstate p = 3 then
    done s (((s.setLanes p).fset (PORT_STAT p) PORT_STAT_STATE 2).reroute)
  else done s s

/-- PORT_RETRAIN_TIMEOUT (R243): retraining took more than 1 ms. -/
def execPortRetrainTimeout (p : Fin 32) (s : State) : Out :=
  if s.pstate p = 3 ∧ (s.port p).retrainAt + 1000000 ≤ s.lanyard.toNat then done s (s.portDown p 0) else done s s

/-- PORT_RX_SILENCE (R275): no frame for 10 µs. -/
def execPortRxSilence (p : Fin 32) (s : State) : Out :=
  if s.pstate p = 2 ∧ (s.port p).lastRx + 10000 ≤ s.lanyard.toNat then done s (s.retrain p) else done s s

/-! ### The link layer (R244 to R248) -/

/-- The bytes of a control word. -/
def ctlBytes (c : BitVec 128) : List Byte := leBytes 16 c.toNat

/-- A field of a control word. -/
def cf (c : BitVec 128) (hi lo : Nat) : Nat := hf c.toNat hi lo

/-- The flit CRC of a slot (R246). -/
def slotCrc (flit : BitVec 512) (fseq i : Nat) : Nat :=
  crc32c (leBytes 64 flit.toNat ++ leBytes 2 fseq ++ leBytes 1 i)

/-- Whether a frame's control CRC is good (R245). -/
def frameCtlOk (f : LinkFrame) : Bool := cf f.ctl 127 112 == crc16 ((ctlBytes f.ctl).take 14)

/-- Whether the CRC of every slot that carries a flit is good (R246). -/
def frameFlitsOk (f : LinkFrame) : Bool :=
  (List.range 16).all (fun i =>
    if (BitVec.ofNat 16 (cf f.ctl 47 32)).getLsbD i then
      match f.slots[i]? with
      | some sl => sl.crc.toNat == slotCrc sl.flit (cf f.ctl 15 0) i
      | none => false
    else true)

/-- The flits of a frame in slot order. -/
def frameFlits (f : LinkFrame) : List (BitVec 512) :=
  (List.range 16).filterMap (fun i =>
    if (BitVec.ofNat 16 (cf f.ctl 47 32)).getLsbD i then (f.slots[i]?).map (fun sl => sl.flit) else none)

/-- Takes an ACK: the frames it covers leave the replay buffer; one that names a frame not sent is a violation (R275). -/
def State.takeAck (s : State) (p ack : Nat) : State :=
  let v := s.port p
  let d := (v.txSeq.toNat + 65536 - ack) % 65536
  if d ≤ v.replay.length then
    let keep := fun (q : Nat) => decide ((q + 65536 - ack) % 65536 ≠ 0 ∧ (q + 65536 - ack) % 65536 < 32768)
    s.setPort p { v with replay := v.replay.drop (v.replay.length - d),
                         inFlight := v.inFlight.filter (fun e => keep e.1.toNat) }
  else if d < 32768 then s
  else (s.violate p 0x41).retrain p

/-- Takes a NAKREQ: the frames after ACK are sent again, or the port goes DOWN when they are gone (R248, R275). -/
def State.takeNakReq (s : State) (p ack : Nat) : State :=
  let v := s.port p
  let d := (v.txSeq.toNat + 65536 - ack) % 65536
  if d ≤ v.replay.length then s.bump (PORT_CNT2 p) PORT_CNT2_REPLAYS d
  else if d < 32768 then (s.violate p 0x42).portDown p 0x42 else s

/-- Takes one credit return; what goes beyond the credit advertised is ignored and counts as a violation (R257, R275). -/
def State.takeCredit (s : State) (p cr : Nat) : State :=
  let pool := cr / 4096
  let n := cr % 4096
  let v := s.port p
  if n = 0 ∨ 8 < pool then s
  else if pool = 8 then
    if v.heldShared + n ≤ v.advShared then s.setPort p { v with heldShared := v.heldShared + n }
    else (s.setPort p { v with heldShared := v.advShared }).violate p 0x43
  else
    let h := Tab.look (fun _ => 0) v.held pool
    if h + n ≤ v.advRsvd then s.setPort p { v with held := Tab.store (fun _ => 0) v.held pool (h + n) }
    else (s.setPort p { v with held := Tab.store (fun _ => 0) v.held pool v.advRsvd }).violate p 0x43

/-- The port enters UP once it has sent and received an INIT frame (R247). -/
def State.maybeUp (s : State) (p : Nat) : State :=
  let v := s.port p
  if (s.pstate p = 1 ∨ s.pstate p = 3) ∧ v.initSent ∧ v.initRecv then
    ((s.setLanes p).fset (PORT_STAT p) PORT_STAT_STATE 2).reroute
  else s

/-- An INIT record that is malformed: three failures take the port DOWN (R275). -/
def State.badInit (s : State) (p : Nat) : State :=
  let s := s.violate p 0x45
  let v := s.port p
  if v.initFails ≥ 2 then (s.setPort p { v with initFails := 0 }).portDown p 0x45
  else (s.setPort p { v with initFails := v.initFails + 1 }).retrain p

/-- Takes an initialisation record (R247, R275). -/
def State.takeInit (s : State) (p : Nat) (r : BitVec 512) (fseq : Nat) : State :=
  let n := r.toNat
  let pid := hf n 23 0
  let dev := hf n 24 24
  let rsvd := hf n 47 32
  let shared := hf n 63 48
  let wrong := decide (hf n 31 25 ≠ 0 ∨ rsvd < 65 ∨ hf n 511 80 ≠ 0 ∨ (dev = 0 ∧ 64 ≤ pid))
  if wrong then s.badInit p
  else
    let old := s.fget (PORT_STAT p) PORT_STAT_PARTNER
    let oldDev := s.fget (PORT_STAT p) PORT_STAT_PDEV
    if s.pstate p = 3 ∧ (old ≠ pid ∨ oldDev ≠ dev) then
      ((s.violate p 0x44).event 0x0804 p 0x3F old pid).portDown p 0x44
    else
      let s := (s.fset (PORT_STAT p) PORT_STAT_PARTNER pid).fset (PORT_STAT p) PORT_STAT_PDEV dev
      let v := s.port p
      let v := if s.pstate p = 1 then
          { v with initRecv := true, initFails := 0, advRsvd := rsvd, advShared := shared, heldShared := shared,
                   held := (List.range 8).map (fun c => (c, rsvd)), rxAck := BitVec.ofNat 16 fseq }
        else { v with initRecv := true }
      (s.setPort p v).maybeUp p

/-- The NAK for a header whose CRC failed, to a partner that is a device (R274). -/
def State.nakHcrc (s : State) (port : Nat) (p : Packet) : State :=
  if s.fget (PORT_STAT port) PORT_STAT_PDEV = 1 then
    let partner := BitVec.ofNat 24 (s.fget (PORT_STAT port) PORT_STAT_PARTNER)
    let hb := p.headBytes
    let n := s.nakOf { p with src := partner } nakHCRC false 0
    s.send { n with data := n.data.take 16 ++ hb.take 16 }
  else s

/-- Whether a circuit slot of output o matches an input port and CIRC (R269). -/
def State.circSlot (s : State) (inp circ : Nat) : Option (Nat × Nat) :=
  (List.range 32).foldl (fun (b : Option (Nat × Nat)) o =>
    match b with
    | some x => some x
    | none => ((List.range 64).find? (fun c =>
        (s.reg (PORT_CIRC o c)).getLsbD 63 && s.fget (PORT_CIRC o c) PORT_CIRC_IN_PORT == inp
          && s.fget (PORT_CIRC o c) PORT_CIRC_IN_CIRC == circ)).map (fun c => (o, c))) none

/-- Whether a circuit slot belongs to a packet's glove and epoch. -/
def State.circOf (s : State) (o c : Nat) (p : Packet) : Bool :=
  s.fget (PORT_CIRC o c) PORT_CIRC_GLOVE == p.glove.toNat && s.fget (PORT_CIRC o c) PORT_CIRC_EPOCH == p.epoch.toNat

/-- The base of R261 after a packet that the router refuses at its destination's own input (assumption 53). -/
def State.pastRefused (s : State) (p : Packet) : State := if p.dest = s.self then (s.seqCheck p).2 else s

/-- A packet arrives at a port's input: the router's checks of R274, and its place in the input queue. A packet of a
reserved TYPE waits there to be refused by name. -/
def State.arrive (s : State) (port : Nat) (p : Packet) : State :=
  let v := s.port port
  let n := p.nflits
  let r := min n (v.ownRsvd - Tab.look (fun _ => 0) v.usedRsvd p.vc)
  let ovr := decide (1536 - 8 * v.ownRsvd < v.usedShared + (n - r))
  if ovr then ((s.pastRefused p).nak p nakCREDIT_OVERRUN).violate port nakCREDIT_OVERRUN
  else
    let p := { p with crR := r, crS := n - r, since := s.lanyard.toNat }
    let s := s.setPort port { v with
      usedRsvd := Tab.store (fun _ => 0) v.usedRsvd p.vc (Tab.look (fun _ => 0) v.usedRsvd p.vc + r),
      usedShared := v.usedShared + (n - r) }
    if s.pstate port = 4 then s.freeIn' port p
    else if !p.hcrcOk then ((s.freeIn' port p).nakHcrc port p).violate port nakHCRC
    else if p.ty = 0 ∨ 0x17 ≤ p.ty then s.setInq port p.vc (s.inq port p.vc ++ [p])
    else if p.bad then ((((s.freeIn' port p).pastRefused p).nak p nakMALFORMED)).violate port nakMALFORMED
    else if p.circ ≠ 0 ∧ p.dest ≠ s.self ∧ p.ty ≠ tCIRC_SETUP ∧ p.ty ≠ tCIRC_TEAR then
      match s.circSlot port p.circ with
      | some (o, c) =>
        if s.circOf o c p then s.setInq port p.vc (s.inq port p.vc ++ [p])
        else (s.freeIn' port p).nak p nakNO_CIRCUIT
      | none => (s.freeIn' port p).nak p nakNO_CIRCUIT
    else s.setInq port p.vc (s.inq port p.vc ++ [p])

/-- Assembles packets from flits received, leaving those of a packet not yet whole. -/
def State.assemble (s : State) (port : Nat) : Nat → List (BitVec 512) → State
  | 0, fs => s.setPort port { s.port port with rxFlits := fs }
  | k + 1, fs =>
    match fs with
    | [] => s.setPort port { s.port port with rxFlits := [] }
    | f :: _ =>
      if flitsDue f ≤ fs.length then
        State.assemble (s.arrive port (Packet.ofFlits (fs.take (flitsDue f)))) port k (fs.drop (flitsDue f))
      else s.setPort port { s.port port with rxFlits := fs }

/-- A frame with a bad CRC or out of order: it is discarded and a replay asked for; 64 in a row retrain the port (R275). -/
def State.badFrame (s : State) (p : Nat) : State :=
  let v := s.port p
  let s := s.setPort p { v with nakReq := true, badRun := v.badRun + 1 }
  if 64 ≤ v.badRun + 1 then s.retrain p else s

/-- The credit returns of a frame. -/
def State.takeCredits (s : State) (p : Nat) (f : LinkFrame) : State :=
  ((s.takeCredit p (cf f.ctl 71 56)).takeCredit p (cf f.ctl 87 72)).takeCredit p (cf f.ctl 103 88)

/-- An accepted frame: its credit returns, and its flits. -/
def State.goodFrame (s : State) (p : Nat) (f : LinkFrame) : State :=
  let s := s.setPort p { s.port p with rxAck := BitVec.ofNat 16 (cf f.ctl 15 0), nakReq := false, badRun := 0 }
  let s := s.takeCredits p f
  let fs := frameFlits f
  let s := s.bump (PORT_CNT1 p) PORT_CNT1_RX_FLITS fs.length
  let all := (s.port p).rxFlits ++ fs
  s.assemble p all.length all

/-- LINK_FRAME_RECEIVE (R244 to R248, R275). -/
def State.linkFrame (s : State) (p : Nat) (f : LinkFrame) : State :=
  let st := s.pstate p
  if st = 0 ∨ st = 5 then s
  else
    let s := s.setPort p { s.port p with lastRx := s.lanyard.toNat }
    if !(frameCtlOk f) then (s.bump (PORT_CNT3 p) PORT_CNT3_CRC_ERR 1).badFrame p
    else
      let fseq := cf f.ctl 15 0
      let ack := cf f.ctl 31 16
      let ok := frameFlitsOk f
      if cf f.ctl 50 50 = 1 then
        if ok then s.takeInit p ((frameFlits f).headD 0) fseq
        else (s.bump (PORT_CNT3 p) PORT_CNT3_CRC_ERR 1).badFrame p
      else
        let s := s.takeAck p ack
        let s := if cf f.ctl 48 48 = 1 then s.takeNakReq p ack else s
        let s := if cf f.ctl 49 49 = 1 ∧ s.pstate p = 2 then s.retrain p else s
        if !ok then (s.bump (PORT_CNT3 p) PORT_CNT3_CRC_ERR 1).badFrame p
        else
          let last := (s.port p).rxAck.toNat
          if fseq = (last + 1) % 65536 then s.goodFrame p f
          else
            let s := if fseq = last ∧ cf f.ctl 47 32 = 0 then s.takeCredits p f else s
            s.badFrame p

/-- LINK_FRAME_RECEIVE. -/
def execLinkFrameReceive (p : Fin 32) (f : LinkFrame) (s : State) : Out := done s (s.linkFrame p f)

/-! ### Fault injectors (R278, R279) -/

/-- Whether the injector may be armed: lifecycle MANUFACTURE or RETURNED, or D2 with the injection bit (R279). -/
def State.fiAllowed (s : State) : Bool :=
  let lc := s.fget SEC_STAT SEC_STAT_LIFECYCLE
  lc == 0 || lc == 3 || (s.fget SEC_STAT SEC_STAT_DEBUG == 2 && s.sec.inject)

/-- PORT_FI_ARM (R279): the write's fields are taken, and the injector is armed where that is permitted. -/
def State.fiArm (s : State) (p : Nat) (v : W64) : State :=
  let s := (s.fset (PORT_FI_CTL p) PORT_FI_CTL_BIT (bits v 56 48)).fset (PORT_FI_CTL p) PORT_FI_CTL_DELAY (bits v 47 32)
  let s := (s.fset (PORT_FI_CTL p) PORT_FI_CTL_VCMASK (bits v 31 24)).fset (PORT_FI_CTL p) PORT_FI_CTL_TYPE (bits v 23 18)
  let s := s.fset (PORT_FI_CTL p) PORT_FI_CTL_ACTION (bits v 15 14)
  if 2 ≤ bits v 17 16 ∨ bits v 13 12 = 3 then
    let s := if 2 ≤ bits v 17 16 then s else s.fset (PORT_FI_CTL p) PORT_FI_CTL_LEVEL (bits v 17 16)
    let s := if bits v 13 12 = 3 then s else s.fset (PORT_FI_CTL p) PORT_FI_CTL_TRIGGER (bits v 13 12)
    s.fset (PORT_FI_CTL p) PORT_FI_CTL_STATUS ST_RANGE
  else
    let s := (s.fset (PORT_FI_CTL p) PORT_FI_CTL_LEVEL (bits v 17 16)).fset (PORT_FI_CTL p) PORT_FI_CTL_TRIGGER (bits v 13 12)
    if bits v 0 0 = 0 then s
    else if s.fiAllowed then
      let s := (s.fset (PORT_FI_CTL p) PORT_FI_CTL_ARMED 1).fset (PORT_FI_CTL p) PORT_FI_CTL_STATUS ST_OK
      let w := s.port p
      let s := s.setPort p { w with inj := { w.inj with met := 0, fired := 0 } }
      s.journal 0x0011 0xFF 0x3F (leBytes 1 p ++ leBytes 1 (bits v 15 14) ++ leBytes 1 (bits v 13 12))
    else (s.fset (PORT_FI_CTL p) PORT_FI_CTL_ARMED 0).fset (PORT_FI_CTL p) PORT_FI_CTL_STATUS ST_DENIED

/-- PORT_FI_ARM. -/
def execPortFiArm (p : Fin 32) (v : W64) (s : State) : Out := done s (s.fiArm p (v ||| 1))

/-- PORT_FI_STOP (R278). -/
def execPortFiStop (p : Fin 32) (s : State) : Out := done s (s.fset (PORT_FI_CTL p) PORT_FI_CTL_ARMED 0)

/-- Leaving the state that permits injection disarms every injector (R279). -/
def State.fiLeave (s : State) : State :=
  if s.fiAllowed then s
  else (List.range 32).foldl (fun s p => s.fset (PORT_FI_CTL p) PORT_FI_CTL_ARMED 0) s

/-- Whether an armed injector matches a packet. -/
def State.fiMatches (s : State) (port : Nat) (p : Packet) : Bool :=
  s.fget (PORT_FI_CTL port) PORT_FI_CTL_ARMED == 1
    && (BitVec.ofNat 8 (s.fget (PORT_FI_CTL port) PORT_FI_CTL_VCMASK)).getLsbD p.vc
    && (s.fget (PORT_FI_CTL port) PORT_FI_CTL_TYPE == 0 || s.fget (PORT_FI_CTL port) PORT_FI_CTL_TYPE == p.ty)

/-- The injector's draw for its m-th matching packet since ARM: a free function of SEED and m. -/
def fiDraw (seed : W64) (m : Nat) : Nat := bits (Config.injectorDraw seed m) 31 0

/-- Whether the injector fires on a matching packet, the m-th since ARM (R278). -/
def State.fiFires (s : State) (port m : Nat) (p : Packet) : Bool :=
  let trig := s.fget (PORT_FI_CTL port) PORT_FI_CTL_TRIGGER
  let n := s.fget (PORT_FI_TRIG port) PORT_FI_TRIG_N
  if trig = 0 then m % (max 1 n) == 0
  else if trig = 1 then decide (fiDraw (s.reg (PORT_FI_SEED port)) m < n)
  else p.seq.toNat == s.fget (PORT_FI_TRIG port) PORT_FI_TRIG_SEQ

/-- Counts a firing, and disarms after LIMIT of them. -/
def State.fiCount (s : State) (port : Nat) : State :=
  let s := s.bump (PORT_FI_CNT port) PORT_FI_CNT_FIRED 1
  let v := s.port port
  let s := s.setPort port { v with inj := { v.inj with fired := v.inj.fired + 1 } }
  let lim := s.fget (PORT_FI_TRIG port) PORT_FI_TRIG_LIMIT
  if lim ≠ 0 ∧ lim ≤ v.inj.fired + 1 then s.fset (PORT_FI_CTL port) PORT_FI_CTL_ARMED 0 else s

/-! ### The output (R257, R258, R269) -/

/-- Whether a port holds credit for a whole packet. -/
def Port.hasCredit (v : Port) (p : Packet) : Bool := decide (p.nflits ≤ v.credit p.vc)

/-- Spends the VC's reserved credit first and shared credit after (R257). -/
def Port.spend (v : Port) (p : Packet) : Port :=
  let h := Tab.look (fun _ => 0) v.held p.vc
  let r := min h p.nflits
  { v with held := Tab.store (fun _ => 0) v.held p.vc (h - r), heldShared := v.heldShared - (p.nflits - r) }

/-- Whether a packet at an output may go now: credit, and for a packet of this device its rate limiter. -/
def State.mayGo (s : State) (port : Nat) (p : Packet) : Bool :=
  (s.port port).hasCredit p && (p.src != s.self || s.mayLeave p.dest p.vc p.nflits port)

/-- A circuit's bucket now, at its share of the port's flit rate (R269). -/
def State.circBucket (s : State) (port slot : Nat) : Nat :=
  let u := Tab.look (fun _ => {}) (s.port port).circ slot
  let share := s.fget (PORT_CIRC port slot) PORT_CIRC_SHARE
  min bucketFull (u.bucket + (s.lanyard.toNat - u.asOf) * share * (rateUnit (s.lanes port) * 16))

/-- The first packet of the VC5 queue that is on circuit slot c. -/
def State.circHead (s : State) (port c : Nat) : Option Packet := (s.outq port 5).find? (fun p => p.circ == c + 1)

/-- The circuit served next: round robin by slot, among those whose share allows a packet now. -/
def State.nextCirc (s : State) (port : Nat) : Option Packet :=
  let r := (s.port port).rrCirc
  (List.range 64).findSome? (fun i =>
    let c := (r + 1 + i) % 64
    match s.circHead port c with
    | some p => if s.mayGo port p && decide (p.nflits * 2 ^ 20 ≤ s.circBucket port c) then some p else none
    | none => none)

/-- The VC served next of VC1 to VC7: round robin, one packet per turn. -/
def State.nextVc (s : State) (port : Nat) : Option Packet :=
  let r := (s.port port).rrVc
  (List.range 7).findSome? (fun i =>
    let v := 1 + (r + i) % 7
    match s.outq port v with
    | p :: _ => if s.mayGo port p then some p else none
    | [] => none)

/-- The packet an output sends next, and whether as a circuit's share or as a turn of the VCs (R258). -/
def State.nextOut (s : State) (port : Nat) : Option (Packet × Nat) :=
  match s.outq port 0 with
  | p :: _ =>
    if (s.port port).hasCredit p then some (p, 0)
    else match s.nextCirc port with
      | some q => some (q, 1)
      | none => (s.nextVc port).map (fun q => (q, 2))
  | [] => match s.nextCirc port with
    | some q => some (q, 1)
    | none => (s.nextVc port).map (fun q => (q, 2))

/-- Removes the first occurrence of a packet. -/
def dropFirst (p : Packet) : List Packet → List Packet
  | [] => []
  | q :: qs => if q = p then qs else q :: dropFirst p qs

/-- A slot of a frame to be sent. -/
def mkSlot (fseq i : Nat) (f : Option (BitVec 512)) : LinkSlot :=
  match f with
  | some x => ⟨x, BitVec.ofNat 32 (slotCrc x fseq i)⟩
  | none => ⟨0, 0⟩

/-- A frame with up to 16 flits and up to three credit returns (R244, R245). -/
def mkFrame (v : Port) (fseq : Nat) (fs : List (BitVec 512)) (crs : List (Nat × Nat)) : LinkFrame :=
  let cr := fun i => match crs[i]? with
    | some (pool, n) => pool * 4096 + n
    | none => 0xF000
  let body := fseq + v.rxAck.toNat * 2 ^ 16 + (2 ^ fs.length - 1) * 2 ^ 32 + b1 v.nakReq * 2 ^ 48
    + cr 0 * 2 ^ 56 + cr 1 * 2 ^ 72 + cr 2 * 2 ^ 88
  { ctl := BitVec.ofNat 128 (body + crc16 (leBytes 14 body) * 2 ^ 112),
    slots := (List.range 16).map (fun i => mkSlot fseq i fs[i]?) }

/-- Frames a port's replay buffer holds: 64 on PL ports, 1,024 on XL ports (R248). -/
def replayDepth (port : Nat) : Nat := if port < 24 then 64 else 1024

/-- Sends the flits that wait, in frames, as far as the replay buffer has room. -/
def State.frames (s : State) (port : Nat) : Nat → State
  | 0 => s
  | k + 1 =>
    let v := s.port port
    if (v.txFlits.isEmpty ∧ v.returns.isEmpty) ∨ replayDepth port ≤ v.replay.length then s
    else
      let fseq := (v.txSeq.toNat + 1) % 65536
      let fr := mkFrame v fseq (v.txFlits.take 16) (v.returns.take 3)
      let s := s.bump (PORT_CNT0 port) PORT_CNT0_TX_FLITS (min 16 v.txFlits.length)
      let s := s.setPort port { s.port port with
        txSeq := BitVec.ofNat 16 fseq, replay := v.replay ++ [fr], txFlits := v.txFlits.drop 16,
        returns := v.returns.drop 3 }
      State.frames s port k

/-- Inverts a bit of a flit list's first flit. -/
def flipBit (b : Nat) : List (BitVec 512) → List (BitVec 512)
  | [] => []
  | f :: fs => (f ^^^ BitVec.ofNat 512 (2 ^ b)) :: fs

/-- Puts a packet's flits on the link. -/
def State.onLink (s : State) (port : Nat) (p : Packet) (flip : Option Nat) : State :=
  let v := s.port port
  let fs := match flip with
    | some b => flipBit b p.toFlits
    | none => p.toFlits
  let n := (fs.length + 15) / 16
  let last := BitVec.ofNat 16 (v.txSeq.toNat + n)
  let s := s.setPort port { v.spend p with txFlits := v.txFlits ++ fs, inFlight := v.inFlight ++ [(last, p)] }
  let s := if p.src = s.self then s.meter p.dest p.vc p.nflits port else s
  s.frames port (n + 1)

/-- A packet leaves through the injector (R278). -/
def State.leaveBy (s : State) (port : Nat) (p : Packet) : State :=
  if s.fiMatches port p then
    let v := s.port port
    let m := v.inj.met + 1
    let s := s.setPort port { v with inj := { v.inj with met := m } }
    if s.fiFires port m p then
      let s := s.fiCount port
      let act := s.fget (PORT_FI_CTL port) PORT_FI_CTL_ACTION
      let w := s.port port
      if act = 0 then s
      else if act = 1 then
        let b := s.fget (PORT_FI_CTL port) PORT_FI_CTL_BIT
        if s.fget (PORT_FI_CTL port) PORT_FI_CTL_LEVEL = 1 then s.onLink port p (some b) else s.onLink port p none
      else if act = 2 then s.setPort port { w with inj := { w.inj with reorder := w.inj.reorder ++ [p] } }
      else
        let due := s.lanyard.toNat + s.fget (PORT_FI_CTL port) PORT_FI_CTL_DELAY * 10
        s.setPort port { w with inj := { w.inj with delayed := w.inj.delayed ++ [(due, p)] } }
    else s.onLink port p none
  else s.onLink port p none

/-- After a packet of a VC, those the injector's REORDER holds on that VC follow. -/
def State.releaseReorder (s : State) (port vc : Nat) (before : List Packet) : State :=
  let out := before.filter (fun p => p.vc == vc)
  let v := s.port port
  let s := s.setPort port { v with inj := { v.inj with reorder := v.inj.reorder.filter (fun p => !(out.contains p)) } }
  out.foldl (fun s p => s.onLink port p none) s

/-- The port stamps a SYNC or REQ of this device as it leaves, and a REQ's exchange keeps the stamp (R316, R317). -/
def State.stampTime (s : State) (port : Nat) (p : Packet) : Packet × State :=
  if p.ty = tTIME ∧ p.src = s.self ∧ bits (p.word 0) 1 0 ≤ 1 then
    let q := { p with data := p.data.take 8 ++ leBytes 8 s.lanyard.toNat ++ p.data.drop 16 }
    let note := fun (e : Exchange) =>
      if e.port = port ∧ e.tseq = bits (p.word 0) 31 16 ∧ bits (p.word 0) 1 0 = 1 then { e with t3 := s.lanyard } else e
    (q, { s with time := { s.time with xchg := s.time.xchg.map note } })
  else (p, s)

/-- PORT_OUTPUT_SEND (R258): one packet at a packet boundary. -/
def State.outputSend (s : State) (port : Nat) : State :=
  if s.pstate port ≠ 2 then s
  else if !((s.port port).txFlits.isEmpty) then s.frames port 70
  else
    match s.nextOut port with
    | none => s.frames port 1
    | some (p, how) =>
      let s := s.setOutq port p.vc (dropFirst p (s.outq port p.vc))
      let (p, s) := s.stampTime port p
      let v := s.port port
      let v := if how = 1 then
          let c := p.circ - 1
          { v with rrCirc := c,
                   circ := Tab.store (fun _ => {}) v.circ c ⟨s.lanyard.toNat,
                     s.circBucket port c - p.nflits * 2 ^ 20, s.lanyard.toNat⟩ }
        else if how = 2 then { v with rrVc := p.vc % 7 } else v
      let held := v.inj.reorder
      ((s.setPort port v).leaveBy port p).releaseReorder port p.vc held

/-- FI_DELAY_EXPIRE (R278): a packet held by DELAY is released once its time has passed. -/
def execFiDelayExpire (p : Fin 32) (s : State) : Out :=
  let v := s.port p
  match v.inj.delayed with
  | (due, q) :: rest =>
    if due ≤ s.lanyard.toNat ∧ v.hasCredit q then
      done s ((s.setPort p { v with inj := { v.inj with delayed := rest } }).onLink p q none)
    else done s s
  | [] => done s s

/-! ### Transit, escape, drain (R260 to R262) -/

/-- Forwards a packet that is for another device (R262, R269). -/
def State.forward (s : State) (x : Rx) (p : Packet) : State :=
  if p.circ ≠ 0 then
    match s.circSlot (if x.port.val < 32 then x.port else 63) p.circ with
    | some (o, c) =>
      if s.circOf o c p then (s.useCirc o c).toOutq { p with circ := c + 1 } o else s.nak p nakNO_CIRCUIT
    | none => s.nak p nakNO_CIRCUIT
  else
    match s.route p.dest p.vc p.adapt p.escaped with
    | some o => s.toOutq p o
    | none => s.lostPacket p

/-- PACKET_TRANSIT (R262). -/
def execPacketTransit (x : Rx) (s : State) : Out :=
  match s.headOf x with
  | some p =>
    if p.dest ≠ s.self ∧ p.ty ≠ tCIRC_SETUP ∧ p.ty ≠ tCIRC_TEAR ∧ p.ty ≠ 0 ∧ p.ty < 0x17 then
      done s ((s.popIn x).forward x p)
    else done s s
  | none => done s s

/-- PACKET_ESCAPE (R260): the adaptive packet at the head of an output queue, in transit, has waited ESC_US for credit. -/
def execPacketEscape (p : Fin 32) (vc : Fin 8) (s : State) : Out :=
  let esc := max 1 (s.fget FAB_CFG FAB_CFG_ESC_US) * 1000
  match s.outq p vc with
  | q :: qs =>
    if q.adapt ∧ q.escaped = false ∧ q.src ≠ s.self ∧ !((s.port p).hasCredit q) ∧ q.since + esc ≤ s.lanyard.toNat then
      let s1 := (s.setOutq p vc qs).bump FAB_CNT0 FAB_CNT0_ESCAPED 1
      let q := { q with vc := 7, escaped := true, circ := 0 }
      match s1.route q.dest 7 q.adapt true with
      | some o => done s (s1.toOutq q o)
      | none => done s (s1.lostPacket q)
    else done s s
  | [] => done s s

/-- SYNC_DRAIN_EXPIRE (R261): the packets held for a slot go out in order, the first of each VC with SYNC. -/
def execSyncDrainExpire (slot : Fin 64) (s : State) : Out :=
  if Tab.look (fun _ => 0) s.rt.drain slot ≤ s.lanyard.toNat then
    let mine := s.rt.heldPkts.filter (fun p => slotOf p.dest == slot.val)
    let s1 := { s with rt := { s.rt with
      heldPkts := s.rt.heldPkts.filter (fun p => slotOf p.dest != slot.val),
      drain := Tab.store (fun _ => 0) s.rt.drain slot 0 } }
    done s (mine.foldl State.emit s1)
  else done s s

/-- PACKET_BAD_TYPE_RECEIVE (R274). -/
def execPacketBadTypeReceive (x : Rx) (s : State) : Out :=
  match s.headOf x with
  | some p =>
    if p.ty = 0 ∨ 0x17 ≤ p.ty then
      let s1 := ((s.popIn x).nak p nakBAD_TYPE).violate x.port nakBAD_TYPE
      done s (s1.event 0x0802 x.port 0x3F p.ty p.src.toNat)
    else done s s
  | none => done s s

/-! ### Congestion notices and limiters (R265, R266) -/

/-- CNP_RECEIVE (R266). -/
def execCnpReceive (x : Rx) (s : State) : Out :=
  match s.take x tCNP with
  | (t, some (p, _)) =>
    if bits (p.word 0) 63 16 ≠ 0 ∨ bits (p.word 0) 15 0 = 0 ∨ p.len ≠ 8 then done s (t.malformed x p)
    else done s (t.echoFrom p.src)
  | (t, none) => done s t

/-- CNP_SEND (R265): marks pending for CNP_GAP ns. -/
def execCnpSend (dev : BitVec 24) (s : State) : Out :=
  let n := Tab.look (fun _ => 0) s.rt.marks dev.toNat
  let gap := max 1 (s.fget FAB_CM FAB_CM_CNP_GAP)
  if 0 < n ∧ Tab.look (fun _ => 0) s.rt.marksAt dev.toNat + gap ≤ s.lanyard.toNat then
    let m := min n 65535
    let s1 := { s with rt := { s.rt with marks := Tab.store (fun _ => 0) s.rt.marks dev.toNat (n - m) } }
    let s1 := s1.bump FAB_CNT0 FAB_CNT0_CNP_SENT 1
    done s (s1.send { ty := tCNP, vc := 0, dest := dev, len := 8, data := leBytes 8 m })
  else done s s

/-- RATE_LIMIT_RECOVER (R266). -/
def execRateLimitRecover (dev : BitVec 24) (s : State) : Out :=
  let rec' := max 1 (s.fget FAB_RATE FAB_RATE_RECOV_US) * 1000
  match s.limiter dev with
  | some l =>
    if l.lastEcho + rec' ≤ s.lanyard.toNat then
      let r := l.rate + max 1 (s.fget FAB_RATE FAB_RATE_INC)
      if 1024 ≤ r then done s (s.setLimiter dev none)
      else done s (s.setLimiter dev (some { l with rate := r, lastEcho := s.lanyard.toNat }))
    else done s s
  | none => done s s

/-! ### Probes (R256) -/

/-- FAB_PROBE: sends a PROBE. -/
def execFabProbe (v : W64) (s : State) : Out :=
  let pid := bits v 31 0
  let s1 := { s with rt := { s.rt with lastPid := some (BitVec.ofNat 32 pid) } }
  let data := wordsBytes [BitVec.ofNat 64 pid, s.lanyard, 0, 0]
  done s (s1.send { ty := tPROBE, vc := 6, dest := BitVec.ofNat 24 (bits v 63 40), len := 32, data := data })

/-- A signed 64-bit difference held to 32 bits. -/
def sat32 (d : Int) : Nat :=
  if d < -2147483648 then 0x80000000 else if 2147483647 < d then 0x7FFFFFFF
  else (d % 4294967296).toNat

/-- A PROBE or reply that is discarded. -/
def State.probeDrop (s : State) : State := s.bumpBy FAB_PROBE_RES0 FAB_PROBE_RES0_DROPPED false 1

/-- PROBE_RECEIVE: a probe is answered, at most one per µs and input port; a reply to the last probe sent is taken. -/
def execProbeReceive (x : Rx) (s : State) : Out :=
  match s.take x tPROBE with
  | (t, some (p, _)) =>
    if p.len ≠ 32 ∨ bits (p.word 0) 63 38 ≠ 0 ∨ bits (p.word 3) 63 24 ≠ 0 then done s (t.violate x.port nakMALFORMED)
    else if p.reply then
      if t.rt.lastPid = some (BitVec.ofNat 32 (bits (p.word 0) 31 0)) then
        let rtt := t.lanyard.toNat - (p.word 1).toNat
        let out : Int := (p.word 2).toNat - (p.word 1).toNat
        let t := (t.fset FAB_PROBE_RES0 FAB_PROBE_RES0_VALID 1).fset FAB_PROBE_RES0 FAB_PROBE_RES0_IN_PORT (bits (p.word 0) 37 32)
        let t := t.fset FAB_PROBE_RES0 FAB_PROBE_RES0_PID (bits (p.word 0) 31 0)
        let t := (t.fset FAB_PROBE_RES1 FAB_PROBE_RES1_RTT_NS (min rtt 0xFFFFFFFF)).fset FAB_PROBE_RES1 FAB_PROBE_RES1_OUT_NS (sat32 out)
        done s t
      else done s t.probeDrop
    else
      let v := t.port x.port
      let soon := match v.lastProbe with
        | some a => decide (t.lanyard.toNat < a + 1000)
        | none => false
      if soon then done s t.probeDrop
      else
        let inp := if x.port.val < 32 then x.port.val else 63
        let t := t.setPort x.port { v with lastProbe := some t.lanyard.toNat }
        let data := wordsBytes [BitVec.ofNat 64 (bits (p.word 0) 31 0 + inp * 2 ^ 32), p.word 1, t.lanyard,
          BitVec.ofNat 64 t.self.toNat]
        done s (t.send { ty := tPROBE, vc := 6, dest := p.src, len := 32, reply := true, data := data })
  | (t, none) => done s t

/-! ### Circuits (R267 to R270) -/

/-- Frees a circuit slot. -/
def State.freeCirc (s : State) (port slot : Nat) : State :=
  let v := s.port port
  (s.setReg (PORT_CIRC port slot) 0).setPort port { v with circ := Tab.store (fun _ => {}) v.circ slot {} }

/-- The shares in use on a port. -/
def State.shares (s : State) (port : Nat) : Nat :=
  (List.range 64).foldl (fun a c =>
    if (s.reg (PORT_CIRC port c)).getLsbD 63 then a + s.fget (PORT_CIRC port c) PORT_CIRC_SHARE else a) 0

/-- The lowest free slot of a port that has room for a share. -/
def State.slotFor (s : State) (port share : Nat) : Option Nat :=
  if s.shares port + share ≤ min 64 (s.fget (PORT_CFG port) PORT_CFG_CIRC_MAX) then
    (List.range 64).find? (fun c => !((s.reg (PORT_CIRC port c)).getLsbD 63))
  else none

/-- Records a circuit in a slot (R267). -/
def State.setCirc (s : State) (port slot inPort inCirc share : Nat) (p : Packet) : State :=
  let w := 2 ^ 63 + inPort % 64 * 2 ^ 57 + inCirc % 128 * 2 ^ 50 + share % 128 * 2 ^ 43 + p.epoch.toNat * 2 ^ 16
    + p.glove.toNat
  let v := s.port port
  (s.setReg (PORT_CIRC port slot) (BitVec.ofNat 64 w)).setPort port
    { v with circ := Tab.store (fun _ => {}) v.circ slot ⟨s.lanyard.toNat, bucketFull, s.lanyard.toNat⟩ }

/-- CIRC_SETUP_RECEIVE (R268, R270): at the destination it is acknowledged; at a hop it takes a slot and goes on, or is
refused; a refresh renews the slots along the circuit. -/
def State.circSetup (s : State) (x : Rx) (p : Packet) : State :=
  let share := bits (p.word 0) 38 32
  let refresh := bits (p.word 0) 39 39 = 1
  let inp := if x.port.val < 32 then x.port.val else 63
  if p.len ≠ 16 ∨ bits (p.word 0) 63 40 ≠ 0 ∨ p.word 1 ≠ 0 ∨ (¬ refresh ∧ (share = 0 ∨ 64 < share)) then s.malformed x p
  else if p.dest = s.self then
    if refresh then s else s.ack p (BitVec.ofNat 64 (bits (p.word 0) 31 0)) 0
  else if refresh then
    match s.circSlot inp p.circ with
    | some (o, c) => if s.circOf o c p then (s.useCirc o c).toOutq { p with circ := c + 1 } o else s
    | none => s
  else
    match s.route p.dest 0 false false with
    | none => s.lostPacket p
    | some o =>
      match s.slotFor o share with
      | none =>
        s.send (s.nakOf p nakBUSY false (BitVec.ofNat 64 (bits (p.word 0) 31 0)))
      | some c =>
        let s := s.setCirc o c inp p.circ share p
        let s := if p.src = s.self then
            let me : OwnCirc := ⟨BitVec.ofNat 32 (bits (p.word 0) 31 0), p.dest,
              (s.activeSlot p.glove.toNat p.epoch.toNat).getD 63, share, o, c, false, s.lanyard.toNat, s.lanyard.toNat⟩
            { s with rt := { s.rt with circs := s.rt.circs ++ [me] } }
          else s
        s.toOutq { p with circ := c + 1 } o

/-- CIRC_SETUP_RECEIVE. -/
def execCircSetupReceive (x : Rx) (s : State) : Out :=
  match s.headOf x with
  | some p =>
    if p.ty = tCIRC_SETUP then
      if p.dest = s.self then
        match s.screen x p with
        | (t, some (q, _)) => done s (t.circSetup x q)
        | (t, none) => done s t
      else done s ((s.popIn x).circSetup x p)
    else done s s
  | none => done s s

/-- CIRC_TEAR along a circuit: frees the slot at this hop and goes on; without a slot it is discarded (R268, R270). -/
def State.circTear (s : State) (x : Rx) (p : Packet) : State :=
  if p.dest = s.self then s
  else match s.circSlot (if x.port.val < 32 then x.port.val else 63) p.circ with
    | some (o, c) => if s.circOf o c p then (s.freeCirc o c).toOutq { p with circ := c + 1 } o else s
    | none => s

/-- CIRC_TEAR_RECEIVE. -/
def execCircTearReceive (x : Rx) (s : State) : Out :=
  match s.headOf x with
  | some p =>
    if p.ty = tCIRC_TEAR then
      if p.dest = s.self then
        match s.screen x p with
        | (t, some (q, _)) => done s (t.circTear x q)
        | (t, none) => done s t
      else done s ((s.popIn x).circTear x p)
    else done s s
  | none => done s s

/-- The source tears a circuit of its own down: its slot is freed and CIRC_TEAR sent along it (R268, R270). -/
def State.tearOwn (s : State) (o : OwnCirc) : State :=
  let p := s.tagged o.glove { ty := tCIRC_TEAR, vc := 0, dest := o.dest, src := s.self, circ := o.slot + 1 }
  let s := (s.freeCirc o.port o.slot)
  let s := { s with rt := { s.rt with circs := s.rt.circs.filter (fun c => c.cid != o.cid) } }
  s.toOutq p o.port

/-- CIRC_SETUP_TIMEOUT (R268): no ACK within 100 µs. -/
def execCircSetupTimeout (cid : W32) (s : State) : Out :=
  match s.rt.circs.find? (fun c => c.cid == cid) with
  | some c => if c.usable = false ∧ c.sentAt + 100000 ≤ s.lanyard.toNat then done s (s.tearOwn c) else done s s
  | none => done s s

/-- CIRC_REFRESH (R270): a circuit idle for 25 µs. -/
def execCircRefresh (cid : W32) (s : State) : Out :=
  match s.rt.circs.find? (fun c => c.cid == cid) with
  | some c =>
    let u := Tab.look (fun _ => {}) (s.port c.port).circ c.slot
    if c.usable ∧ u.lastUse + 25000 ≤ s.lanyard.toNat then
      let w := c.cid.toNat + c.share * 2 ^ 32 + 2 ^ 39
      let p := s.tagged c.glove { ty := tCIRC_SETUP, vc := 0, dest := c.dest, src := s.self, circ := c.slot + 1,
                                  len := 16, data := leBytes 8 w ++ leBytes 8 0 }
      done s ((s.useCirc c.port c.slot).toOutq p c.port)
    else done s s
  | none => done s s

/-- CIRC_LEASE_EXPIRE (R270): neither a packet nor a refresh for 100 µs. -/
def execCircLeaseExpire (p : Fin 32) (c : Fin 64) (s : State) : Out :=
  let u := Tab.look (fun _ => {}) (s.port p).circ c
  if (s.reg (PORT_CIRC p c)).getLsbD 63 ∧ u.lastUse + 100000 ≤ s.lanyard.toNat then
    let s1 := (s.freeCirc p c).bump (PORT_CNT4 p) PORT_CNT4_FORCED 1
    let s1 := { s1 with rt := { s1.rt with circs := s1.rt.circs.filter (fun o => !(o.port == p.val && o.slot == c.val)) } }
    done s s1
  else done s s

/-! ### Hitches (R271, R272) -/

/-- Delivers a cast's inner packet here: it joins the crossbar's queue as a packet of its own type. Its SEQ was the
cast's and is not checked again. -/
def State.deliverInner (s : State) (p : Packet) : State :=
  let ty := bits (p.word 1) 5 0
  let data := if hasCtl ty then p.data.drop 32 else p.data
  let body := if hasCtl ty then bytesWords 4 p.data else []
  let q := { p with ty := ty, vc := vcOf ty, dest := s.self, adapt := true, sync := false, echo := 0, cm := false,
                    hitch := 0, body := body, data := data, len := data.length, crR := 0, crS := 0,
                    stage0 := if bits (p.word 1) 6 6 = 0 then some p.hitch else none }
  s.setInq 32 q.vc (s.inq 32 q.vc ++ [{ q with since := s.lanyard.toNat }])

/-- Casts from a hitch entry: the pod copy on the PL port that FAB_DROUTE names, and one copy per valid branch. -/
def State.castFrom (s : State) (h : Nat) (p : Packet) : State :=
  let mask := s.reg (FAB_HITCH_MASK h)
  let w1 := bits (p.word 1) 5 0
  let pod := { p with src := s.self, hitch := h, sync := false, echo := 0, circ := 0,
                      body := [mask, BitVec.ofNat 64 (w1 + 64), 0, 0] }
  let port := s.fget (FAB_DROUTE (h % 64)) FAB_DROUTE_PORT
  let s := if mask = 0 then s else s.toOutq { pod with dest := p.dest } port
  (List.range 8).foldl (fun s b =>
    if s.fget (FAB_HITCH_BR h b) FAB_HITCH_BR_VALID = 1 then
      let dev := BitVec.ofNat 24 (s.fget (FAB_HITCH_BR h b) FAB_HITCH_BR_DEVICE)
      let c := { p with dest := dev, hitch := s.fget (FAB_HITCH_BR h b) FAB_HITCH_BR_HITCH, adapt := p.adapt,
                        body := [0, BitVec.ofNat 64 w1, 0, 0] }
      s.send c
    else s) s

/-- The VALID hitch entry of a glove and epoch. -/
def State.hitchOk (s : State) (h glove epoch : Nat) : Bool :=
  s.fget (FAB_HITCH_CTL h) FAB_HITCH_CTL_VALID == 1 && s.fget (FAB_HITCH_CTL h) FAB_HITCH_CTL_GLOVE == glove
    && s.fget (FAB_HITCH_CTL h) FAB_HITCH_CTL_EPOCH == epoch

/-- A cast of an inner packet started here (R272): delivered here, and cast from the entry. -/
def State.cast (s : State) (h : Nat) (inner : Packet) : State :=
  let c := { inner with ty := tHITCH_CAST, src := s.self, hitch := h,
                        body := [0, BitVec.ofNat 64 inner.ty, 0, 0],
                        data := wordsBytes inner.body ++ inner.data }
  let c := { c with len := c.data.length }
  (s.deliverInner c).castFrom h c

/-- Whether a cast carries a LAUNCH PREPARE, which a head casts onward only once it has taken it (R325). -/
def isPrepare (p : Packet) : Bool := bits (p.word 1) 5 0 == tLAUNCH && leNat (p.data.take 1) % 16 == 0

/-- HITCH_CAST_RECEIVE (R272): a branch delivery goes on from this device's entry; a pod cast is delivered here. -/
def execHitchCastReceive (x : Rx) (s : State) : Out :=
  match s.headOf x with
  | some p =>
    if p.ty = tHITCH_CAST then
      let stage := bits (p.word 1) 6 6
      if stage = 1 then
        let t := (s.popIn x).noteMarks p p.cm
        if p.src = s.self then done s t else done s (t.deliverInner p)
      else if p.dest = s.self then
        let t := (s.popIn x).noteMarks p p.cm
        if p.gloved ∧ (t.activeSlot p.glove.toNat p.epoch.toNat).isNone then
          done s ((t.event 0x0801 x.port 0x3F (p.glove.toNat + p.epoch.toNat * 65536) p.src.toNat).nak p nakSTALE_GLOVE)
        else
          let (ok, t) := t.seqCheck p
          if !ok then done s ((t.bump FAB_CNT1 FAB_CNT1_ORDER_NAK 1).nak p nakORDER)
          else if p.poison then done s (t.nak p nakPOISON)
          else if t.hitchOk p.hitch p.glove.toNat p.epoch.toNat then
            if isPrepare p then done s (t.deliverInner p) else done s ((t.deliverInner p).castFrom p.hitch p)
          else done s (t.nak p nakNO_QUEUE)
      else done s s
    else done s s
  | none => done s s

end Sys2Proof.Machine
end

