-- ==== Sys2Proof/Machine/Gloves.lean ====
section
/-! DEFINITION. Graph admission, placement of tasks, watchdogs, gloves and their teardown, knot operations from outside
(chapter 2). -/

namespace Sys2Proof.Machine

open Reg

/-! ### Graph lists (R21 to R27) -/

/-- Words of a glove-virtual range that engines read: none where it is not mapped readable or is poisoned (R62, R229). -/
def State.readWords (s : State) (n va k : Nat) : Option (List W64) :=
  if s.vpoison n va (8 * k) then none else s.vwords n va k

/-- A graph list in hand: its address, header, descriptors and initialisation records. -/
structure GraphList where
  addr : Nat
  head : List W64
  tasks : List (List W64)
  inits : List (List W64)
deriving DecidableEq, Repr

def GraphList.ntask (g : GraphList) : Nat := bits (g.head.getD 1 0) 44 32
def GraphList.nkinit (g : GraphList) : Nat := bits (g.head.getD 1 0) 55 45
def GraphList.doneKnot (g : GraphList) : Nat := bits (g.head.getD 3 0) 13 0

/-- Cuts words into runs of k. -/
def chunks {α : Type} (k : Nat) : Nat → List α → List (List α)
  | 0, _ => []
  | n + 1, l => l.take k :: chunks k n (l.drop k)

/-- Whether the reserved fields of the header, MAGIC and VERSION are right. -/
def GraphList.headOk (g : GraphList) : Bool :=
  bits (g.head.getD 0 0) 31 0 == 0x544F4E4B && bits (g.head.getD 0 0) 39 32 == 1 && bits (g.head.getD 0 0) 63 40 == 0
    && bits (g.head.getD 1 0) 63 56 == 0 && bits (g.head.getD 3 0) 15 14 == 0 && bits (g.head.getD 3 0) 63 33 == 0
    && (g.head.drop 4).all (fun w => w == 0)

/-- Whether the reserved fields of a task descriptor are 0. -/
def taskFmtOk (d : List W64) : Bool :=
  let w2 := d.getD 2 0
  bits (d.getD 0 0) 63 57 == 0 && bits (d.getD 1 0) 63 57 == 0 && bits w2 15 15 == 0 && bits w2 27 26 == 0
    && bits w2 31 31 == 0 && bits w2 63 40 == 0 && bits (d.getD 15 0) 63 32 == 0
    && (List.range (min 8 (bits w2 3 0))).all (fun j => knotOf d 3 j < 16384)
    && (List.range (min 8 (bits w2 7 4))).all (fun j => knotOf d 5 j < 16384)
    && (List.range (min 4 (bits w2 30 28))).all (fun j =>
        bits (d.getD (7 + 2 * j) 0) 63 57 == 0 && bits (d.getD (8 + 2 * j) 0) 63 33 == 0)

/-- Whether the reserved fields of an initialisation record are 0 (R22). -/
def initFmtOk (d : List W64) : Bool := bits (d.getD 0 0) 63 62 == 0 && bits (d.getD 1 0) 63 48 == 0

/-- Whether the counts of a task descriptor lie in their ranges. -/
def taskRangeOk (d : List W64) : Bool :=
  let w2 := d.getD 2 0
  bits (d.getD 0 0) 2 0 == 0 && decide (bits w2 3 0 ≤ 8) && decide (bits w2 7 4 ≤ 8) && decide (bits w2 10 8 ≤ 4)
    && decide (bits w2 30 28 ≤ 4) && decide (1 ≤ bits w2 39 32) && decide (bits w2 39 32 ≤ 200) && bits w2 17 16 != 3

/-- Whether a descriptor's knots all lie in the range of slot n. -/
def State.taskKnotsOk (s : State) (n : Nat) (d : List W64) : Bool :=
  (List.range (bits (d.getD 2 0) 3 0)).all (fun j => s.ownsKnot n (knotOf d 3 j))
    && (List.range (bits (d.getD 2 0) 7 4)).all (fun j => s.ownsKnot n (knotOf d 5 j))

/-- The knot of an initialisation record. -/
def initKnot (d : List W64) : Nat := bits (d.getD 0 0) 61 48

/-- Whether PLACE names a fenced tile, or a die all of whose tiles are fenced. -/
def State.placeFenced (s : State) (d : List W64) : Bool :=
  let pl := bits (d.getD 2 0) 17 16
  let arg := bits (d.getD 2 0) 25 18
  if pl = 2 then s.fenced arg
  else if pl = 1 then (List.range 64).all (fun i => s.fenced (arg % 4 * 64 + i))
  else false

/-- The status of the admission checks of R26, from the third row on. -/
def State.graphCheck (s : State) (n : Nat) (g : GraphList) : Nat :=
  if !g.headOk || !(g.tasks.all taskFmtOk) || !(g.inits.all initFmtOk) then ST_FMT
  else if bits (g.head.getD 1 0) 15 0 ≠ s.gid n ∨ bits (g.head.getD 1 0) 31 16 ≠ s.gepoch n then ST_GLOVE_DEAD
  else if g.ntask = 0 ∨ s.fget (KNOT_GLOVE_CFG1 n) KNOT_GLOVE_CFG1_TASK_MAX < g.ntask ∨ 1024 < g.nkinit
      ∨ !(g.tasks.all taskRangeOk) then ST_RANGE
  else if !(s.ownsKnot n g.doneKnot) || !(g.tasks.all (s.taskKnotsOk n))
      || !(g.inits.all (fun d => s.ownsKnot n (initKnot d))) then ST_RANGE
  else if g.tasks.any s.placeFenced then ST_DENIED
  else ST_OK

/-- TAKEN of a slot, and the index of the ring entry it names. -/
def State.taken (s : State) (n : Nat) : Nat := s.fget (KNOT_GLOVE_ADM1 n) KNOT_GLOVE_ADM1_TAKEN
def State.ringIx (s : State) (n : Nat) : Nat :=
  s.taken n % 2 ^ (s.fget (KNOT_GLOVE_ADM0 n) KNOT_GLOVE_ADM0_RING_LOG2)

/-- Advances TAKEN and ends a hold. -/
def State.takenUp (s : State) (n : Nat) : State :=
  let s := { s with kn := { s.kn with holds := Tab.store (fun _ => none) s.kn.holds n none } }
  s.fset (KNOT_GLOVE_ADM1 n) KNOT_GLOVE_ADM1_TAKEN (s.taken n + 1)

/-- A ring entry or header that the engine cannot use: rows 1 and 2 of R26. -/
def State.ringFault (s : State) (n w2 : Nat) : State :=
  let ix := s.ringIx n
  ((s.takenUp n).event 0x0603 0 n w2 (ix + 0xFFFF * 2 ^ 32)).faultGlove n causeMEMORY

/-- Writes a graph's STATUS. -/
def State.graphStatus (s : State) (n addr st : Nat) : State := s.setVbytesGo n (addr + 0x1A) (leBytes 2 st)

/-- Rejects a graph (R25). -/
def State.rejectGraph (s : State) (n : Nat) (g : GraphList) (st : Nat) : State :=
  let ix := s.ringIx n
  let s := s.graphStatus n g.addr st
  let s := s.takenUp n
  let s := s.event 0x0603 0 n g.addr (ix + st * 2 ^ 32)
  if s.ownsKnot n g.doneKnot then s.retireAdd n g.doneKnot false [] false 2 else s

/-- Whether something holds a graph (R27): slots, or waiters on a knot it initialises. -/
def State.graphHeld (s : State) (n : Nat) (g : GraphList) : Bool :=
  let used := s.kn.tasks.countP (fun e => e.2.isSome)
  let mine := s.kn.tasks.countP (fun e => match e.2 with
    | some t => t.glove == n
    | none => false)
  decide (s.fget (KNOT_GLOVE_CFG1 n) KNOT_GLOVE_CFG1_TASK_MAX < mine + g.ntask) || decide (4096 < used + g.ntask)
    || g.inits.any (fun d => !((s.knot (initKnot d)).waiters.isEmpty))

/-- The lowest free task slots, k of them. -/
def State.freeSlots (s : State) (k : Nat) : List Nat :=
  ((List.range 4096).filter (fun q => (s.task q).isNone)).take k

/-- Drops repeats, keeping first occurrences. -/
def dedup (l : List Nat) : List Nat := l.foldl (fun a x => if a.contains x then a else a ++ [x]) []

/-- Registers one task (R25, R28): it joins the lists of the inputs not yet reached. -/
def State.register (s : State) (n gid : Nat) (q ix : Nat) (d : List W64) : State :=
  let ins := dedup ((List.range (bits (d.getD 2 0) 3 0)).map (knotOf d 3))
  let wait := ins.filter (fun k => !(s.knot k).reached)
  let met := ins.filter (fun k => (s.knot k).reached)
  let t : Task := { glove := n, graph := gid, index := ix, desc := d, unsat := wait,
                    taint := met.any (fun k => (s.knot k).taint),
                    marks := met.foldl (fun m k => joinMarks m (s.knot k).marks) [] }
  let s := s.setTask q (some t)
  let s := wait.foldl (fun s k => s.setKnot k { s.knot k with waiters := (s.knot k).waiters ++ [.task q] }) s
  s.readyTask q

/-- Admits a graph that has passed its checks and is not held (R25). -/
def State.admitNow (s : State) (n : Nat) (g : GraphList) : State :=
  let s := g.inits.foldl (fun s d => s.knotSet (initKnot d) (bits (d.getD 0 0) 47 0) (bits (d.getD 1 0) 47 0)) s
  let id := s.kn.order
  let s := { s with kn := { s.kn with order := id + 1 } }
  let gr : Graph := { glove := n, stepId := g.head.getD 2 0, doneKnot := g.doneKnot, stepEnd := (g.head.getD 3 0).getLsbD 32,
                      remaining := g.ntask, ordinal := s.taken n, order := id }
  let s := s.setGraph id (some gr)
  let slots := s.freeSlots g.ntask
  let s := ((slots.zip g.tasks).zipIdx).foldl (fun s e => s.register n id e.1.1 e.2 e.1.2) s
  (s.graphStatus n g.addr ST_OK).takenUp n

/-- ADMIT_GRAPH (R24 to R27): the next ring entry of a glove whose admission knot is ahead of TAKEN. -/
def State.admitGraph (s : State) (n : Nat) : State :=
  let adm := s.knot (s.fget (KNOT_GLOVE_ADM1 n) KNOT_GLOVE_ADM1_ADM_KNOT)
  if s.gstate n = gACTIVE ∧ s.taken n < adm.count then
    let ea := s.fget (KNOT_GLOVE_ADM0 n) KNOT_GLOVE_ADM0_RING_BASE + 8 * s.ringIx n
    match s.readWords n ea 1 with
    | none => s.ringFault n ea
    | some ws =>
      let a := (ws.getD 0 0).toNat
      if a = 0 ∨ a % 64 ≠ 0 then s.ringFault n a
      else
        match s.readWords n a 8 with
        | none => s.ringFault n a
        | some head =>
          if !(s.mapped n a 64 .W) then s.ringFault n a
          else
            let nt := bits (head.getD 1 0) 44 32
            let ni := bits (head.getD 1 0) 55 45
            match s.readWords n (a + 0x40) (16 * nt + 2 * ni) with
            | none => s.rejectGraph n ⟨a, head, [], []⟩ ST_RANGE
            | some ws =>
              let g : GraphList := ⟨a, head, chunks 16 nt ws, chunks 2 ni (ws.drop (16 * nt))⟩
              let st := s.graphCheck n g
              if st ≠ ST_OK then s.rejectGraph n g st
              else if s.graphHeld n g then
                match Tab.look (fun _ => none) s.kn.holds n with
                | some _ => s
                | none =>
                  let h : Hold := ⟨s.lanyard.toNat, g.inits.map initKnot⟩
                  { s with kn := { s.kn with holds := Tab.store (fun _ => none) s.kn.holds n (some h) } }
              else s.admitNow n g
  else s

/-- ADMIT_GRAPH. -/
def execAdmitGraph (n : Fin 64) (s : State) : Out := done s (s.admitGraph n)

/-- ADMIT_STALL (R27): 10 ms of a hold without progress. -/
def execAdmitStall (n : Fin 64) (s : State) : Out :=
  match Tab.look (fun _ => none) s.kn.holds n with
  | some h => if h.since + 10000000 ≤ s.lanyard.toNat then done s (s.faultGlove n causeADMIT_STALL) else done s s
  | none => done s s

/-! ### Placement (R29 to R32) -/

/-- Contexts of a tile that hold a task. -/
def Tile.occupied (v : Tile) : Nat := (List.range 16).countP (fun c => (v.ctx c).task.isSome)

/-- Accumulator banks that no context has claimed. -/
def Tile.freeBanks (v : Tile) : List Nat :=
  [0, 1, 2, 3].filter (fun b => !((List.range 16).any (fun c => (v.ctx c).banks.contains b)))

/-- Whether PLACE allows a tile (R23). -/
def Task.allows (t : Task) (tile : Nat) : Bool :=
  if t.place = 0 then true else if t.place = 1 then tile / 64 == t.placeArg % 4 else tile == t.placeArg

/-- Contexts of a tile reserved for other ready tasks than q (R30). -/
def State.reservedOthers (s : State) (tile q : Nat) : Nat :=
  (Tab.look (fun _ => []) s.kn.reserved tile).countP (fun r => r != q &&
    (match s.task r with
    | some t => t.ph == TaskPh.ready
    | none => false))

/-- Whether a tile is a candidate for a ready task (R31). -/
def State.candidate (s : State) (q : Nat) (t : Task) (tile : Nat) : Bool :=
  let v := s.tile tile
  !(s.fenced tile) && t.allows tile && decide (v.occupied + s.reservedOthers tile q < 16)
    && decide (t.accNeed ≤ v.freeBanks.length)

/-- Bytes of [lo, hi) that a list of ranges covers. -/
def cover (lo hi : Nat) : List (Nat × Nat) → Nat
  | [] => 0
  | (a, b) :: rs =>
    let l := max lo a
    let h := min hi b
    if l < h then (h - l) + cover lo l rs + cover h hi rs else cover lo hi rs

/-- Bytes of a range that lie in pages resident on a die. -/
def State.residentBytes (s : State) (n die : Nat) : Nat → Nat → Nat → Nat
  | _, _, 0 => 0
  | va, hi, k + 1 =>
    let nx := min hi ((va / 65536 + 1) * 65536)
    let here := match s.translate n va .R with
      | some a => if a < localSize ∧ (s.page (a / 65536)).place = .resident die then nx - va else 0
      | none => 0
    here + State.residentBytes s n die nx hi k

/-- The placement score of a tile (R31). -/
def State.score (s : State) (t : Task) (tile : Nat) : Nat :=
  let record := ((Tab.look (fun _ => []) s.kn.kept tile).flatten.filter (fun r => r.glove == t.glove)).map
    (fun r => (r.base, r.base + r.len))
  let tt := t.affs.foldl (fun a r => a + cover r.1.base (r.1.base + r.1.len) record) 0
  let d := t.affs.foldl (fun a r => a +
    s.residentBytes t.glove (tile / 64) r.1.base (r.1.base + r.1.len) (pagesMet r.1.base r.1.len)) 0
  4 * (tt / 1024) + d / 1024

/-- The candidate tile a task goes to: highest score, then fewest occupied contexts, then lowest number. -/
def State.bestTile (s : State) (q : Nat) (t : Task) : Option Nat :=
  (List.range 256).foldl (fun (b : Option Nat) i =>
    if s.candidate q t i then
      match b with
      | none => some i
      | some j =>
        if s.score t j < s.score t i ∨ (s.score t j = s.score t i ∧ (s.tile i).occupied < (s.tile j).occupied)
        then some i else some j
    else b) none

/-- Whether a task is ready and its glove may dispatch (R42, R125). -/
def State.mayDispatch (s : State) (t : Task) : Bool :=
  t.ph == TaskPh.ready && s.gstate t.glove == gACTIVE && !(Tab.look (fun _ => false) s.kn.still t.glove)

/-- The first ready task of a glove, in the order of R29, that has a candidate tile. -/
def State.pickIn (s : State) (n : Nat) : Option (Nat × Task) :=
  s.kn.tasks.foldl (fun (b : Option (Nat × Task)) e =>
    match e.2 with
    | some t =>
      if t.glove = n ∧ s.mayDispatch t ∧ (s.bestTile e.1 t).isSome then
        match b with
        | none => some (e.1, t)
        | some x => if x.2.prio < t.prio ∨ (x.2.prio = t.prio ∧ t.readyAt < x.2.readyAt) then some (e.1, t) else some x
      else b
    | none => b) none

/-- Gloves of a class, round robin from the slot served last. -/
def State.pickClass (s : State) (urgent : Bool) (last : Nat) : Option (Nat × Task) :=
  (List.range 64).findSome? (fun i =>
    let n := (last + 1 + i) % 64
    if s.gurgent n == urgent then s.pickIn n else none)

/-- The task the knot engine places next (R29). -/
def State.pick (s : State) : Option (Nat × Task) :=
  match s.pickClass true s.kn.lastUrgent with
  | some x => some x
  | none => s.pickClass false s.kn.lastBulk

/-- Places task q on a tile (R31, R32): registers set, banks claimed and read 0. -/
def State.place (s : State) (q : Nat) (t : Task) (tile : Nat) : State :=
  let v := s.tile tile
  match (List.range 16).find? (fun c => (v.ctx c).task.isNone) with
  | none => s
  | some c =>
    let banks := v.freeBanks.take t.accNeed
    let x : Ctx := { task := some q, glove := t.glove, banks := banks, pc := BitVec.ofNat 57 (bits (t.desc.getD 0 0) 56 0),
                     dispatchedAt := s.lanyard.toNat }
    let step := match s.graph t.graph with
      | some g => g.stepId
      | none => 0
    let x := ((x.setG 1 (t.desc.getD 1 0)).setG 2 (BitVec.ofNat 64 (bits (t.desc.getD 15 0) 31 0))).setG 3 step
    let v := { v with
      banks := Tab.dropIf (fun k => banks.contains (k / 4096)) v.banks,
      cells := Tab.dropIf (fun k => banks.contains (k / 256)) v.cells,
      deadBanks := v.deadBanks.filter (fun b => !(banks.contains b)) }
    let s := s.setTile tile (v.setCtx c x)
    let s := s.setTask q (some { t with ph := .running tile c, runStart := s.lanyard.toNat, paused := 0, longRaised := false })
    let kn := { s.kn with reserved := Tab.mapVal (fun _ => []) (fun _ l => l.filter (· != q)) s.kn.reserved }
    let kn := if s.gurgent t.glove then { kn with lastUrgent := t.glove } else { kn with lastBulk := t.glove }
    ({ s with kn := kn }).join (ctxId tile c)

/-- TASK_DISPATCH (R29 to R32); nothing is dispatched outside P0 or while the device leaves it (R394). -/
def execTaskDispatch (s : State) : Out :=
  if s.fget PWR_STATE PWR_STATE_STATE ≤ 1 ∧ s.pwr.goal = none then
    match s.pick with
    | some (q, t) =>
      match s.bestTile q t with
      | some tile => done s (s.place q t tile)
      | none => done s s
    | none => done s s
  else done s s

/-- A context has freed on a tile: it is reserved for the first ready URGENT task that could use the tile and had no free
context anywhere (R30). -/
def State.reserve (s : State) (tile : Nat) : State :=
  let free := fun (i : Nat) => 16 - (s.tile i).occupied
  let waits := fun (q : Nat) (t : Task) =>
    t.ph == TaskPh.ready && s.gurgent t.glove && t.allows tile
      && !(s.kn.reserved.any (fun e => e.2.contains q))
      && ((List.range 256).foldl (fun a i => if t.allows i && !(s.fenced i) then a + free i else a) 0) == 1
  let best := s.kn.tasks.foldl (fun (b : Option (Nat × Task)) e =>
    match e.2 with
    | some t =>
      if waits e.1 t then
        match b with
        | none => some (e.1, t)
        | some x => if x.2.prio < t.prio ∨ (x.2.prio = t.prio ∧ t.readyAt < x.2.readyAt) then some (e.1, t) else some x
      else b
    | none => b) none
  match best with
  | some (q, _) =>
    let l := Tab.look (fun _ => []) s.kn.reserved tile
    { s with kn := { s.kn with reserved := Tab.store (fun _ => []) s.kn.reserved tile (l ++ [q]) } }
  | none => s

/-- A task's run so far, in lanyard ns (R34); halted time does not count (R381). -/
def State.runOf (s : State) (t : Task) : Nat :=
  let now := s.lanyard.toNat
  let upTo := match t.ph with
    | .running tile c => (match (s.ctx (ctxId tile c)).halt with
      | .halted h => h
      | .steppedHalt h => h
      | .none => now
      | .stepping => now)
    | _ => now
  upTo - t.runStart - t.paused

/-- TASK_MAXRUN_EXCEEDED (R34): raised once. -/
def execTaskMaxrunExceeded (q : Fin 4096) (s : State) : Out :=
  match s.task q with
  | some t =>
    match t.ph with
    | .running tile _ =>
      if t.longRaised = false ∧ t.maxrun * 1000 < s.runOf t then
        done s ((s.setTask q (some { t with longRaised := true })).event 0x0604 tile t.glove q (s.runOf t / 1000))
      else done s s
    | _ => done s s
  | none => done s s

/-- TASK_WATCHDOG (R34): a run of 10 ms faults the glove. -/
def execTaskWatchdog (q : Fin 4096) (s : State) : Out :=
  match s.task q with
  | some t =>
    match t.ph with
    | .running _ _ => if 10000000 ≤ s.runOf t then done s (s.faultGlove t.glove causeWATCHDOG) else done s s
    | _ => done s s
  | none => done s s

/-! ### Knot operations from outside (R19, R340, R346, R427) -/

/-- Whether a KNOT_OP keeps to its layout (R427). -/
def knotOpOk (p : Packet) : Bool :=
  let w0 := p.word 0
  let w1 := p.word 1
  p.len == 16 && (bits w0 7 0 == 1 || bits w0 7 0 == 2) && bits w0 15 9 == 0 && bits w0 63 30 == 0 && bits w1 63 32 == 0
    && (bits w0 7 0 != 1 || w1 == 0)

/-- Applies a KNOT_OP to slot n (R19). -/
def State.knotOp (s : State) (p : Packet) (n : Nat) : State :=
  let k := bits (p.word 0) 29 16
  let v := if bits (p.word 0) 7 0 = 1 then 1 else (p.word 1).toNat
  if !(s.ownsKnot n k) then s.nak p nakRANGE
  else if s.knotFull k v then (s.nak p nakRANGE).event 0x0602 k n v 1
  else s.knotAdd k v ((p.word 0).getLsbD 8) []

/-- KNOT_OP_RECEIVE: the layout is checked before the checks of R19. -/
def execKnotOpReceive (x : Rx) (s : State) : Out :=
  match s.headOf x with
  | some p =>
    if p.ty = tKNOT_OP ∧ p.dest = s.self then
      if knotOpOk p then
        match s.screen x p with
        | (t, some (q, n)) => done s (t.knotOp q n)
        | (t, none) => done s t
      else done s ((s.popIn x).malformed x p)
    else done s s
  | none => done s s

/-- KNOT_REL (R340): a service core's increment. -/
def execKnotRel (i : Fin 16384) (v : W64) (core : Fin 18) (s : State) : Out :=
  let own := (List.range 64).find? (fun n => s.gstate n == gACTIVE && s.ownsKnot n i)
  if bits v 63 32 ≠ 0 ∨ (own = none ∧ s.svcKnot i = false) ∨ s.knotFull i v.toNat then
    done s (s.event 0x0607 i (own.getD 0x3F) v.toNat core)
  else done s (s.knotAdd i v.toNat false [])

/-- KNOT_SVC_WRITE (R346): no effect where the range would overlap a glove's, or changes while a ring or the telemetry
stream is enabled. -/
def execKnotSvcWrite (v : W64) (s : State) : Out :=
  let b := bits v 13 0
  let c := bits v 28 14
  let clash := (List.range 64).any (fun n => s.gstate n != gFREE && s.gstate n != gRETIRED
    && decide (0 < c ∧ 0 < s.kcount n ∧ b < s.kbase n + s.kcount n ∧ s.kbase n < b + c))
  let used := s.fget SNS_TELEM0 SNS_TELEM0_ENABLE == 1
    || [0, 1].any (fun m => [0, 1].any (fun d => (List.range 16).any (fun r =>
        s.fget (SVC_ETH_RING1 m d r) SVC_ETH_RING1_ENABLE == 1)))
  let same := decide (b = s.fget KNOT_SVC KNOT_SVC_BASE ∧ c = s.fget KNOT_SVC KNOT_SVC_COUNT)
  if clash || (used && !same) then done s s
  else done s ((s.fset KNOT_SVC KNOT_SVC_BASE b).fset KNOT_SVC KNOT_SVC_COUNT c)

/-! ### CREATE and job counts (R40, R46) -/

/-- Whether a slot's state counts as occupied. -/
def State.busySlot (s : State) (n : Nat) : Bool := s.gstate n == gACTIVE || s.gstate n == gTEARDOWN || s.gstate n == gSCRUB

/-- Whether two ranges of knots overlap. -/
def rangesMeet (a la b lb : Nat) : Bool := decide (0 < la ∧ 0 < lb ∧ a < b + lb ∧ b < a + la)

/-- The global id and epoch a RETIRED slot keeps as a record, whatever its CFG0 is set to for the next glove (R39). -/
def State.record (s : State) (n : Nat) : Option (Nat × Nat) := Tab.look (fun _ => none) s.kn.records n
/-- Sets it. -/
def State.setRecord (s : State) (n : Nat) (r : Option (Nat × Nat)) : State :=
  { s with kn := { s.kn with records := Tab.store (fun _ => none) s.kn.records n r } }

/-- The status of CREATE in slot n (R40). -/
def State.createStatus (s : State) (n : Nat) : Nat :=
  let gid := s.gid n
  let others := (List.range 64).filter (fun m => m != n)
  let same := (List.range 64).filter (fun m => s.gid m == gid)
  let dying := fun (m : Nat) => s.gstate m == gTEARDOWN || s.gstate m == gSCRUB
  if dying n || same.any dying then ST_BUSY
  else if s.gstate n = gACTIVE ∨ same.any (fun m => s.gstate m == gACTIVE)
      ∨ (List.range 64).any (fun m => s.gstate m == gRETIRED && (match s.record m with
        | some r => r.1 == gid && !(newer (s.gepoch n) r.2)
        | none => false)) then ST_DENIED
  else
    let b := s.kbase n
    let c := s.kcount n
    let bad4 := decide (16384 < b + c) || others.any (fun m => s.busySlot m && rangesMeet b c (s.kbase m) (s.kcount m))
      || rangesMeet b c (s.fget KNOT_SVC KNOT_SVC_BASE) (s.fget KNOT_SVC KNOT_SVC_COUNT)
    let tm := s.fget (KNOT_GLOVE_CFG1 n) KNOT_GLOVE_CFG1_TASK_MAX
    let sum := others.foldl (fun a m => if s.busySlot m then a + s.fget (KNOT_GLOVE_CFG1 m) KNOT_GLOVE_CFG1_TASK_MAX else a) tm
    let lg := s.fget (KNOT_GLOVE_ADM0 n) KNOT_GLOVE_ADM0_RING_LOG2
    if bad4 || decide (tm = 0 ∨ 4096 < sum ∨ lg < 4 ∨ 10 < lg) || !(s.ownsKnot n (s.fget (KNOT_GLOVE_ADM1 n) KNOT_GLOVE_ADM1_ADM_KNOT))
        || s.fget (KNOT_GLOVE_ADM0 n) KNOT_GLOVE_ADM0_RING_BASE % 64 != 0 then ST_RANGE
    else ST_OK

/-- Counts a job of a client (R46). -/
def State.countJob (s : State) (client : Nat) : State :=
  match (List.range 255).find? (fun m => s.fget (KNOT_JOBCLI m) KNOT_JOBCLI_VALID == 1 && s.fget (KNOT_JOBCLI m) KNOT_JOBCLI_CLIENT == client) with
  | some m => s.bump (KNOT_JOBCNT m) KNOT_JOBCNT_COUNT 1
  | none =>
    match (List.range 255).find? (fun m => s.fget (KNOT_JOBCLI m) KNOT_JOBCLI_VALID == 0) with
    | some m =>
      let s := (s.fset (KNOT_JOBCLI m) KNOT_JOBCLI_VALID 1).fset (KNOT_JOBCLI m) KNOT_JOBCLI_CLIENT client
      s.bump (KNOT_JOBCNT m) KNOT_JOBCNT_COUNT 1
    | none =>
      let s := s.bump (KNOT_JOBCNT 255) KNOT_JOBCNT_COUNT 1
      if s.kn.jobFull then s
      else ({ s with kn := { s.kn with jobFull := true } }).event 0x0605 0 0x3F client 0

/-- A range of knots is set to count 0 and target 0, with no waiters and no TAINT. -/
def State.clearKnots (s : State) (b c : Nat) : State :=
  { s with kn := { s.kn with knots := Tab.dropIf (fun k => decide (b ≤ k ∧ k < b + c)) s.kn.knots } }

/-- A glove's command status. -/
def State.gstatus (s : State) (n st : Nat) : State := s.fset (KNOT_GLOVE_CTL n) KNOT_GLOVE_CTL_STATUS st

/-- A glove made while D2 is open is counted and noted (R384). -/
def State.noteD2 (s : State) (n : Nat) : State :=
  if s.fget SEC_STAT SEC_STAT_DEBUG = 2 then
    let sec := { s.sec with d2Gloves := s.sec.d2Gloves.filter (fun m => m != n) ++ [n] }
    State.bumpBy { s with sec := sec } SEC_STAT SEC_STAT_DBG_GLOVES false 1
  else s

/-- A CREATE that succeeds (R40, R46, R375, R384). -/
def State.createNow (s : State) (n : Nat) : State :=
  let s := (s.clearKnots (s.kbase n) (s.kcount n)).setRecord n none
  let s := s.fset (KNOT_GLOVE_ADM1 n) KNOT_GLOVE_ADM1_TAKEN 0
  let s := (s.fset (KNOT_GLOVE_CTL n) KNOT_GLOVE_CTL_CAUSE 0).fset (KNOT_GLOVE_CTL n) KNOT_GLOVE_CTL_REMOTE_NAK 0
  let s := (s.gstatus n ST_OK).fset (KNOT_GLOVE_CTL n) KNOT_GLOVE_CTL_STATE gACTIVE
  let s := { s with kn := { s.kn with
    causes := Tab.store (fun _ => []) s.kn.causes n [], still := Tab.store (fun _ => false) s.kn.still n false,
    replay := Tab.store (fun _ => false) s.kn.replay n false } }
  let s := (List.range 8).foldl (fun s j => s.setReg (SEC_GLOVE_MEAS n j) 0) s
  let client := s.fget (KNOT_GLOVE_CFG0 n) KNOT_GLOVE_CFG0_CLIENT
  let s := s.countJob client
  let s := s.journal 0x0005 0xFF n (leBytes 2 client ++ leBytes 2 (s.gid n) ++ leBytes 2 (s.gepoch n))
  s.noteD2 n

/-- CREATE (R40). -/
def execCreate (n : Fin 64) (s : State) : Out :=
  let st := s.createStatus n
  if st = ST_OK then done s (s.createNow n) else done s (s.gstatus n st)

/-- KNOT_JOBCTL_CLEAR (R46). -/
def execKnotJobctlClear (s : State) : Out :=
  let s1 := (List.range 256).foldl (fun s m => (s.setReg (KNOT_JOBCLI m) 0).setReg (KNOT_JOBCNT m) 0) s
  let re := Tab.dropIf (fun k => decide (KNOT_JOBCNT 0 ≤ k / 64 ∧ k / 64 ≤ KNOT_JOBCNT 255)) s1.svc.satRaised
  done s { s1 with kn := { s1.kn with jobFull := false }, svc := { s1.svc with satRaised := re } }

/-! ### Teardown (R42, R44) -/

/-- TEARDOWN. -/
def execTeardown (n : Fin 64) (s : State) : Out :=
  if s.gstate n = gFREE ∨ s.gstate n = gRETIRED then done s (s.gstatus n ST_RANGE)
  else done s ((s.faultGlove n causeCOMMAND).gstatus n ST_OK)

/-- Whether packets of a glove still wait at a port's output (R42 step 2). -/
def State.outboundLeft (s : State) (gid epoch : Nat) : Bool :=
  s.rt.outq.any (fun e => e.2.any (fun p => p.gloved && p.glove.toNat == gid && p.epoch.toNat == epoch))

/-- Step 3: circuits, hitches, regions and the directory of a glove go. -/
def State.revoke (s : State) (n : Nat) : State :=
  let gid := s.gid n
  let ep := s.gepoch n
  let s := (s.rt.circs.filter (fun c => c.glove == n)).foldl State.tearOwn s
  let s := (List.range 1024).foldl (fun s h =>
    if s.hitchOk h gid ep then
      (List.range 8).foldl (fun s b => s.setReg (FAB_HITCH_BR h b) 0) ((s.setReg (FAB_HITCH_CTL h) 0).setReg (FAB_HITCH_MASK h) 0)
    else s) s
  let s := (List.range 1024).foldl (fun s i =>
    if s.fget (HUB_RGN1 i) HUB_RGN1_VALID = 1 ∧ s.fget (HUB_RGN2 i) HUB_RGN2_GLOVE = gid then
      ((s.setReg (HUB_RGN0 i) 0).setReg (HUB_RGN1 i) 0).setReg (HUB_RGN2 i) 0
    else s) s
  let open' := s.hub.xfers.filter (fun x => s.fget (HUB_RGN1 x.entry) HUB_RGN1_VALID == 1)
  let s := { s with hub := { s.hub with xfers := open' } }
  (s.fset (BRM_DIR_NEXTEP n) BRM_DIR_NEXTEP_ARMED 0).fset (BRM_DIR_CUREP n) BRM_DIR_CUREP_VALID 0

/-- GLOVE_DRAIN_DONE (R42): nothing of the glove waits at an output, its resources are revoked, and the scrub starts. -/
def execGloveDrainDone (n : Fin 64) (s : State) : Out :=
  if s.gstate n = gTEARDOWN ∧ s.outboundLeft (s.gid n) (s.gepoch n) = false then
    done s ((s.revoke n).fset (KNOT_GLOVE_CTL n) KNOT_GLOVE_CTL_STATE gSCRUB)
  else done s s

/-- The addresses that a page-table subtree maps: pairs of an address and a size. -/
def State.leaves (s : State) : Nat → Nat → List (Nat × Nat)
  | 0, table => (List.range 32).filterMap (fun i =>
      let e := s.pte table i
      if bits e 1 0 = 2 then some (bits e 56 8 * 256, 65536) else none)
  | l + 1, table => (List.range 512).flatMap (fun i =>
      let e := s.pte table i
      if l = 0 ∧ bits e 1 0 = 2 then [(bits e 56 8 * 256, 2 ^ 21)]
      else match tableOf e (if l = 0 then 256 else 4096) with
        | some t => State.leaves s l t
        | none => [])

/-- The pages of the local range that a glove's tables map. -/
def State.glovePages (s : State) (n : Nat) : List Nat :=
  let root := s.fget (KNOT_GLOVE_PT n) KNOT_GLOVE_PT_ROOT * 4096
  dedup ((s.leaves 4 root).flatMap (fun e =>
    if e.1 < localSize then (List.range (e.2 / 65536)).map (fun i => e.1 / 65536 + i) else []))

/-- The slices whose cells a glove's tables map. -/
def State.gloveSlices (s : State) (n : Nat) : List Nat :=
  let root := s.fget (KNOT_GLOVE_PT n) KNOT_GLOVE_PT_ROOT * 4096
  dedup ((s.leaves 4 root).filterMap (fun e => if inCells e.1 then some ((e.1 - 0xF20000400000) / 65536) else none))

/-- Writes zeros over a range of the local range, clearing poison marks. -/
def State.zeroMem (s : State) (a len : Nat) : State :=
  { s with mem := Tab.dropIf (fun k => decide (a ≤ k ∧ k < a + len)) s.mem,
           mm := { s.mm with poison := Tab.dropIf (fun l => decide (a ≤ 64 * l ∧ 64 * l < a + len)) s.mm.poison } }

/-- Writes zeros at each address a glove-virtual range translates to. -/
def State.zeroVirt (s : State) (n : Nat) : Nat → Nat → State
  | _, 0 => s
  | va, k + 1 =>
    let s := match s.translate n va .W with
      | some a => s.setByte a 0
      | none => s
    State.zeroVirt s n (va + 1) k

/-- Scrubs a pool of the glove and returns it to FREE (R231). -/
def State.scrubPool (s : State) (n c : Nat) : State :=
  if s.fget (POOL_CFG1 c) POOL_CFG1_SVC = 0 ∧ s.fget (POOL_CFG1 c) POOL_CFG1_SLOT = n ∧ s.fget (POOL_STAT c) POOL_STAT_STATE ≠ 0 then
    let nb := s.fget (POOL_CFG1 c) POOL_CFG1_NBUF
    let s := s.zeroVirt n (s.fget (POOL_CFG0 c) POOL_CFG0_BASE) (nb * 2 ^ (s.fget (POOL_CFG1 c) POOL_CFG1_SIZE_LOG2))
    let s := s.zeroVirt n (s.fget (POOL_CFG2 c) POOL_CFG2_COUNTS) (2 * nb)
    (s.fset (POOL_STAT c) POOL_STAT_STATE 0).fset (POOL_STAT c) POOL_STAT_FREE 0
  else s

/-- Scrubs a tile: the glove's contexts, banks and TLS bytes. -/
def Tile.scrub (n : Nat) (_ : Nat) (v : Tile) : Tile :=
  let cs := (List.range 16).filter (fun c => (v.ctx c).task.isSome && (v.ctx c).glove == n)
  let banks := cs.flatMap (fun c => (v.ctx c).banks)
  let mine := fun (a : Nat) => Tab.look (fun _ => 0) v.tlsBy a == n + 1
  let v := { v with
    banks := Tab.dropIf (fun k => banks.contains (k / 4096)) v.banks,
    cells := Tab.dropIf (fun k => banks.contains (k / 256)) v.cells,
    tls := Tab.dropIf mine v.tls, tlsBy := v.tlsBy.filter (fun e => e.2 != n + 1),
    sieve := v.sieve.filter (fun r => !(cs.contains r.ctx)) }
  cs.foldl (fun v c => (v.dropCtx c).setCtx c {}) v

/-- Step 4, the scrub: zeros over what was the glove's, and its slots and knots free. -/
def State.scrub (s : State) (n : Nat) : State :=
  let pages := (s.glovePages n).filter (fun p => match (s.page p).place with
    | .resident _ => true
    | _ => (s.page p).pinned)
  let slices := s.gloveSlices n
  let s := (List.range 256).foldl (fun s c => s.scrubPool n c) s
  let s := pages.foldl (fun s p => (s.zeroMem (p * 65536) 65536).setPage p { s.page p with pinned := false }) s
  let s := { s with
    tiles := Tab.mapVal (fun _ => {}) (Tile.scrub n) s.tiles,
    slice := Tab.dropIf (fun k => slices.contains (k / 1024)) s.slice }
  let s := s.clearKnots (s.kbase n) (s.kcount n)
  let keep := fun (_ : Nat) (l : List (List KeptRange)) => l.map (fun rs => rs.filter (fun r => r.glove != n))
  { s with kn := { s.kn with
    tasks := Tab.mapVal (fun _ => none) (dropOf Task.glove n) s.kn.tasks,
    graphs := Tab.mapVal (fun _ => none) (dropOf Graph.glove n) s.kn.graphs,
    kept := Tab.mapVal (fun _ => []) keep s.kn.kept,
    twins := s.kn.twins.filter (fun t => t.glove != n), digests := s.kn.digests.filter (fun t => t.glove != n),
    still := Tab.store (fun _ => false) s.kn.still n false, replay := Tab.store (fun _ => false) s.kn.replay n false } }

/-- GLOVE_SCRUB_DONE (R42 steps 4 to 6): scrub, epoch, teardown record. -/
def execGloveScrubDone (n : Fin 64) (s : State) : Out :=
  if s.gstate n = gSCRUB then
    let old := s.gepoch n
    let s1 := (s.scrub n).fset (KNOT_GLOVE_CFG0 n) KNOT_GLOVE_CFG0_EPOCH (old + 1)
    let causes := s1.fget (KNOT_GLOVE_CTL n) KNOT_GLOVE_CTL_CAUSE :: Tab.look (fun _ => []) s1.kn.causes n
    let s1 := s1.journal 0x0006 0xFF n (leBytes 2 (s1.gid n) ++ leBytes 2 old ++ leBytes 2 (old + 1)
      ++ causes.map (fun c => BitVec.ofNat 8 c))
    let s1 := { s1 with kn := { s1.kn with causes := Tab.store (fun _ => []) s1.kn.causes n [] } }
    done s ((s1.fset (KNOT_GLOVE_CTL n) KNOT_GLOVE_CTL_STATE gRETIRED).setRecord n (some (s1.gid n, s1.gepoch n)))
  else done s s

end Sys2Proof.Machine
end

