-- ==== Sys2Proof/Machine/Real.lean ====
section
/-! DEFINITION. The exact values of the transcendental operations of the vector engine, to 2^-200 and better, as fractions:
what the error bounds of R129 are measured against. Fixed-point numbers carry 256 bits after the point. -/

namespace Sys2Proof.Machine

/-- A value n × 2^e / d with a sign. -/
structure Frac where
  neg : Bool
  n : Nat
  d : Nat
  e : Int
deriving DecidableEq, Repr

/-- One in fixed point. -/
def fixOne : Nat := 2 ^ 256

/-- n × 2^e in fixed point, held below 2^9. -/
def toFix (n : Nat) (e : Int) : Nat :=
  if 9 ≤ (Nat.log2 n : Int) + e then 2 ^ 9 * fixOne
  else if 0 ≤ e + 256 then n * 2 ^ (e + 256).toNat else n / 2 ^ (-(e + 256)).toNat

/-- ln 2, 1 / √(2π) and 2 / √π in fixed point. -/
def fixLn2 : Nat := 0xb17217f7d1cf79abc9e3b39803f2f6af40f343267298b62d8a0d175b8baafa2b
def fixGauss : Nat := 0x662114cf50d942343f2cf1402eae38bfd3829f30512706d8c0471b4802639d2e
def fixErf : Nat := 0x120dd750429b6d11ae3a914fed7fd8688281341d7587cea2e7342b06199cc4161

/-- The sum of t × r^i × (n!) / (n + i)! for i below the fuel. -/
def expGo (r : Nat) : Nat → Nat → Nat → Nat
  | 0, _, _ => 0
  | k + 1, n, t => t + expGo r k (n + 1) (t * r / fixOne / n)

/-- e^r in fixed point, for r below ln 2. -/
def fixExp (r : Nat) : Nat := expGo r 64 1 fixOne

/-- e^x or e^-x, as (m, k) for m × 2^(k - 256). -/
def expParts (neg : Bool) (x : Nat) : Nat × Int :=
  if neg then
    let k := (x + fixLn2 - 1) / fixLn2
    (fixExp (k * fixLn2 - x), -(k : Int))
  else (fixExp (x % fixLn2), (x / fixLn2 : Nat))

/-- e^-x in fixed point. -/
def expNeg (x : Nat) : Nat :=
  let p := expParts true x
  p.1 / 2 ^ (-p.2).toNat

/-- The sum of z^(2i) / (n + 2i) for i below the fuel, by the running term t. -/
def atanhGo (z2 : Nat) : Nat → Nat → Nat → Nat
  | 0, _, _ => 0
  | k + 1, n, t => t / n + atanhGo z2 k (n + 2) (t * z2 / fixOne)

/-- ln (n × 2^e) in fixed point, for n > 0. -/
def lnFix (n : Nat) (e : Int) : Int :=
  let l := Nat.log2 n
  let y := n * fixOne / 2 ^ l
  let z := (y - fixOne) * fixOne / (y + fixOne)
  ((l : Int) + e) * (fixLn2 : Int) + ((2 * atanhGo (z * z / fixOne) 90 1 z : Nat) : Int)

/-- The sum of the terms t, t × c / m, t × c² / (m (m + 2)), … below the fuel. -/
def oddGo (c : Nat) : Nat → Nat → Nat → Nat
  | 0, _, _ => 0
  | k + 1, m, t => t + oddGo c k (m + 2) (t * c / fixOne / m)

/-- The distribution function of the normal law at x, less a half; from 16 on it is a half. -/
def gaussFix (x : Nat) : Nat :=
  if 16 * fixOne ≤ x then fixOne / 2
  else
    let c := x * x / fixOne
    let p := expParts true (c / 2)
    min (fixOne / 2) (oddGo c 640 3 x * fixGauss / fixOne * p.1 / fixOne / 2 ^ (-p.2).toNat)

/-- erf x; from 12 on it is one. -/
def erfFix (x : Nat) : Nat :=
  if 12 * fixOne ≤ x then fixOne
  else
    let c := x * x / fixOne
    let p := expParts true c
    min fixOne (oddGo (2 * c) 800 3 x * fixErf / fixOne * p.1 / fixOne / 2 ^ (-p.2).toNat)

/-- The value of a transcendental operation at ±n × 2^e. -/
def realFun (code : Nat) (neg : Bool) (n : Nat) (e : Int) : Frac :=
  let x := toFix n e
  let m := expNeg x
  if code = 0x10 then
    let p := expParts neg x
    ⟨false, p.1, 1, p.2 - 256⟩
  else if code = 0x11 then
    let f := x % fixOne
    let k := x / fixOne
    if neg ∧ f ≠ 0 then ⟨false, fixExp ((fixOne - f) * fixLn2 / fixOne), 1, -(k : Int) - 257⟩
    else ⟨false, fixExp (f * fixLn2 / fixOne), 1, (if neg then -(k : Int) else (k : Int)) - 256⟩
  else if code = 0x12 then
    let v := lnFix n e
    ⟨decide (v < 0), v.natAbs, 1, -256⟩
  else if code = 0x13 then
    let v := lnFix n e
    ⟨decide (v < 0), v.natAbs, fixLn2, 0⟩
  else if code = 0x14 then
    let q := expNeg (2 * x)
    ⟨neg, fixOne - q, fixOne + q, 0⟩
  else if code = 0x15 then ⟨false, if neg then m else fixOne, fixOne + m, 0⟩
  else if code = 0x16 then ⟨neg, n * (if neg then m else fixOne), fixOne + m, e⟩
  else if code = 0x17 then
    let h := gaussFix x
    ⟨neg, n * (if neg then fixOne / 2 - h else fixOne / 2 + h), 1, e - 256⟩
  else ⟨neg, erfFix x, 1, -256⟩

/-- The error bound of an operation, in units of the last place (R129). -/
def ulpBound (code : Nat) : Nat :=
  if code = 0x11 ∨ code = 0x13 then 1 else if code = 0x16 ∨ code = 0x17 then 3 else 2

end Sys2Proof.Machine
end

