-- ==== Sys2Proof/Machine/Num.lean ====
section
/-! DEFINITION. Numbers: element formats, exact values, rounding, scales, conversions with their counts, the generator,
exact cells, and the operations of the vector engine (chapters 5 and 6). -/

namespace Sys2Proof.Machine

/-! ### Exact values -/

/-- A number as the T9 computes with it before rounding: NaN, an infinity, or (-1)^neg × n × 2^e. -/
inductive Num where
  | nan
  | inf (neg : Bool)
  | fin (neg : Bool) (n : Nat) (e : Int)
deriving DecidableEq, Repr

/-- 2 to a power, 1 for a negative one. -/
def pow2 (k : Int) : Nat := 2 ^ k.toNat

/-- The exact product (R81, R104). -/
def Num.mul : Num → Num → Num
  | .nan, _ => .nan
  | _, .nan => .nan
  | .inf s, .inf t => .inf (s != t)
  | .inf s, .fin t n _ => if n = 0 then .nan else .inf (s != t)
  | .fin s n _, .inf t => if n = 0 then .nan else .inf (s != t)
  | .fin s n e, .fin t m f => .fin (s != t) (n * m) (e + f)

/-- The signed integer that n and its sign give at exponent g, for e at or above g. -/
def signedAt (s : Bool) (n : Nat) (e g : Int) : Int := (if s then -1 else 1) * ((n * pow2 (e - g) : Nat) : Int)

/-- The exact sum, with the sign of zero of IEEE 754 under round to nearest. -/
def Num.add : Num → Num → Num
  | .nan, _ => .nan
  | _, .nan => .nan
  | .inf s, .inf t => if s = t then .inf s else .nan
  | .inf s, .fin _ _ _ => .inf s
  | .fin _ _ _, .inf t => .inf t
  | .fin s n e, .fin t m f =>
    let g := min e f
    let v := signedAt s n e g + signedAt t m f g
    if v = 0 then .fin (s && t) 0 g else .fin (decide (v < 0)) v.natAbs g

/-- Negation. -/
def Num.neg : Num → Num
  | .nan => .nan
  | .inf s => .inf (!s)
  | .fin s n e => .fin (!s) n e

/-! ### Rounding -/

/-- The floor of log2 (n / d), for n and d not 0. -/
def log2Of (n d : Nat) : Int :=
  let l : Int := (Nat.log2 n : Int) - (Nat.log2 d : Int)
  if d * pow2 l ≤ n * pow2 (-l) then l else l - 1

/-- Rounds (n / d) × 2^e, once, to p bits with the least bit's weight at least 2^sub: the quotient, the weight of its
last bit, and whether a bit was lost. To nearest with ties to even, or stochastically by a 32-bit word (R110). -/
def roundTo (n d : Nat) (e : Int) (p : Nat) (sub : Int) (u : Option Nat) : Nat × Int × Bool :=
  if n = 0 then (0, sub, false)
  else
    let lo := max (log2Of n d + e - ((p : Int) - 1)) sub
    let a := n * pow2 (e - lo)
    let b := d * pow2 (lo - e)
    let q := a / b
    let r := a % b
    let up := match u with
      | none => decide (b < 2 * r) || (decide (2 * r = b) && decide (q % 2 = 1))
      | some w => decide (w < r * 2 ^ 32 / b)
    (if up then q + 1 else q, lo, decide (r ≠ 0))

/-- The magnitude bits of a rounded quotient (R119's encoding). -/
def magBits (p : Nat) (sub : Int) (q : Nat) (lo : Int) : Nat :=
  if q = 0 then 0 else (lo - sub).toNat * 2 ^ (p - 1) + q

/-! ### Formats (R101, R102) -/

/-- A format: width, precision with the hidden bit, weight of the least subnormal, the largest finite pattern, and its
kind: 0 with infinities and NaN, 1 with a NaN pattern alone, 2 with neither, 3 an integer. -/
structure Fmt where
  bits : Nat
  p : Nat
  sub : Int
  maxPat : Nat
  kind : Nat
deriving DecidableEq, Repr

/-- The formats by EFMT code (R66, R101). -/
def fmt : Nat → Fmt
  | 0 => ⟨32, 24, -149, 0x7F7FFFFF, 0⟩
  | 1 => ⟨16, 8, -133, 0x7F7F, 0⟩
  | 2 => ⟨16, 11, -24, 0x7BFF, 0⟩
  | 3 => ⟨8, 4, -9, 0x7E, 1⟩
  | 4 => ⟨8, 3, -16, 0x7B, 0⟩
  | 5 => ⟨8, 4, -9, 0x7E, 1⟩
  | 6 => ⟨8, 3, -16, 0x7B, 0⟩
  | 7 => ⟨6, 3, -4, 0x1F, 2⟩
  | 8 => ⟨6, 4, -3, 0x1F, 2⟩
  | 9 => ⟨4, 2, -1, 0x7, 2⟩
  | 10 => ⟨8, 400, 0, 127, 3⟩
  | 11 => ⟨4, 400, 0, 7, 3⟩
  | _ => ⟨32, 400, 0, 2 ^ 31 - 1, 3⟩

/-- The value of a floating-point magnitude pattern. -/
def magVal (f : Fmt) (m : Nat) : Nat × Int :=
  let ef := m / 2 ^ (f.p - 1)
  let mf := m % 2 ^ (f.p - 1)
  if ef = 0 then (mf, f.sub) else (2 ^ (f.p - 1) + mf, f.sub + ef - 1)

/-- The value of an element. -/
def decodeElem (efmt v : Nat) : Num :=
  let f := fmt efmt
  let v := v % 2 ^ f.bits
  if f.kind = 3 then
    if v < 2 ^ (f.bits - 1) then .fin false v 0 else .fin true (2 ^ f.bits - v) 0
  else
    let neg := decide (2 ^ (f.bits - 1) ≤ v)
    let m := v % 2 ^ (f.bits - 1)
    let ones := 2 ^ (f.bits - f.p) - 1
    if f.kind = 0 ∧ m / 2 ^ (f.p - 1) = ones then
      if m % 2 ^ (f.p - 1) = 0 then .inf neg else .nan
    else if f.kind = 1 ∧ m = 0x7F then .nan
    else .fin neg (magVal f m).1 (magVal f m).2

/-- The canonical NaN of a format with one. -/
def nanPat (efmt : Nat) : Nat :=
  match efmt with
  | 0 => 0x7FC00000
  | 1 => 0x7FC0
  | 2 => 0x7E00
  | 3 => 0x7F
  | 4 => 0x7E
  | 5 => 0x7F
  | 6 => 0x7E
  | _ => 0

/-- The canonical FP32 NaN. -/
def nan32 : W32 := 0x7FC00000

/-- The value of an FP32 word. -/
def f32 (w : W32) : Num := decodeElem 0 w.toNat

/-- An FP32 word from sign and magnitude bits. -/
def pack32 (neg : Bool) (m : Nat) : W32 := BitVec.ofNat 32 ((if neg then 2 ^ 31 else 0) + m)

/-- Rounds (n / d) × 2^e to FP32, to nearest with ties to even and overflow to infinity. -/
def round32 (neg : Bool) (n d : Nat) (e : Int) : W32 :=
  let r := roundTo n d e 24 (-149) none
  let m := magBits 24 (-149) r.1 r.2.1
  pack32 neg (min m 0x7F800000)

/-- Rounds a value to FP32; a NaN is canonical. -/
def Num.to32 : Num → W32
  | .nan => nan32
  | .inf s => pack32 s 0x7F800000
  | .fin s n e => round32 s n 1 e

/-- FP32 addition, multiplication and fused multiply-add, each rounded once. -/
def add32 (a b : W32) : W32 := ((f32 a).add (f32 b)).to32
def mul32 (a b : W32) : W32 := ((f32 a).mul (f32 b)).to32
def fma32 (a b c : W32) : W32 := (((f32 a).mul (f32 b)).add (f32 c)).to32
def neg32 (a : W32) : W32 := a ^^^ 0x80000000

/-- The exact sum of products of a block, rounded once to FP32; a zero sum is +0 (R81 step 3). -/
def blockSum (ps : List Num) : W32 :=
  let s := ps.foldl Num.add (.fin false 0 0)
  match s with
  | .fin _ 0 _ => 0
  | x => x.to32

/-! ### Scales (R104) -/

/-- The value of a scale byte: SFMT 1 E8M0, 2 FP8 E4M3. -/
def scaleVal (sfmt b : Nat) : Num :=
  if sfmt = 1 then (if b = 0xFF then .nan else .fin false 1 ((b : Int) - 127)) else decodeElem 3 b

/-- The NaN scale of a format. -/
def scaleNan (sfmt : Nat) : Nat := if sfmt = 1 then 0xFF else 0x7F

/-- The elements of a group of a GROUP code. -/
def groupSize (g : Nat) : Nat := if g = 1 then 32 else if g = 2 then 64 else 128

/-- The largest finite magnitude of a destination format, as n × 2^e. -/
def maxMag (efmt : Nat) : Nat × Int :=
  let f := fmt efmt
  if f.kind = 3 then (f.maxPat, 0) else magVal f f.maxPat

/-- Whether n × 2^e is at most m × 2^f. -/
def leAt (n : Nat) (e : Int) (m : Nat) (f : Int) : Bool :=
  let g := min e f
  decide (n * pow2 (e - g) ≤ m * pow2 (f - g))

/-- The largest finite magnitude among values, 0 where there is none. -/
def amax (xs : List Num) : Nat × Int :=
  xs.foldl (fun a x => match x with
    | .fin _ n e => if leAt n e a.1 a.2 then a else (n, e)
    | _ => a) (0, 0)

/-- emax of R109. -/
def scaleEmax (efmt : Nat) : Int :=
  if efmt = 3 ∨ efmt = 5 then 8 else if efmt = 4 ∨ efmt = 6 then 15 else if efmt = 7 then 4 else 2

/-- The scale byte chosen for a group (R109). -/
def chooseScale (sfmt efmt : Nat) (a : Nat × Int) : Nat :=
  if a.1 = 0 then (if sfmt = 1 then 127 else 0x38)
  else if sfmt = 1 then
    if (fmt efmt).kind = 3 then
      ((List.range 255).find? (fun (b : Nat) => leAt a.1 a.2 (fmt efmt).maxPat ((b : Int) - 127))).getD 254
    else
      let l := log2Of a.1 1 + a.2 - scaleEmax efmt
      if l < -127 then 0 else if 127 < l then 254 else (l + 127).toNat
  else
    let q := maxMag efmt
    ((List.range 0x7F).find? (fun b =>
      decide (1 ≤ b) && (match decodeElem 3 b with
        | .fin _ n e => leAt a.1 a.2 (n * q.1) (e + q.2)
        | _ => false))).getD 0x7E

/-! ### Conversion (R107 to R112) -/

/-- The counts of the statistics block's first five fields (R111). -/
structure Counts where
  converted : Nat := 0
  clipped : Nat := 0
  nan : Nat := 0
  zeroed : Nat := 0
  stoch : Nat := 0
deriving DecidableEq, Repr

/-- Adds counts. -/
def Counts.plus (a b : Counts) : Counts :=
  ⟨a.converted + b.converted, a.clipped + b.clipped, a.nan + b.nan, a.zeroed + b.zeroed, a.stoch + b.stoch⟩

/-- Sign and magnitude bits as an element pattern of a format. -/
def patOf (f : Fmt) (neg : Bool) (m : Nat) : Nat :=
  if f.kind = 3 then (if neg then (2 ^ f.bits - m) % 2 ^ f.bits else m)
  else (if neg then 2 ^ (f.bits - 1) else 0) + m

/-- Converts one value x / (sn × 2^se) to a format (R108): its pattern and what it counts. -/
def convertOne (efmt : Nat) (x : Num) (sn : Nat) (se : Int) (u : Option Nat) : Nat × Counts :=
  let f := fmt efmt
  match x with
  | .nan => (nanPat efmt, { converted := 1, nan := 1 })
  | .inf neg =>
    if f.kind = 0 then (patOf f neg (f.maxPat + 1), { converted := 1 })
    else (patOf f neg (if f.kind = 3 ∧ neg then f.maxPat + 1 else f.maxPat), { converted := 1, clipped := 1 })
  | .fin neg n e =>
    let big := maxMag efmt
    let top := if f.kind = 3 ∧ neg then big.1 + 1 else big.1
    if leAt n (e - se) (top * sn) big.2 then
      let r := roundTo n sn (e - se) f.p f.sub u
      let m := if f.kind = 3 then r.1 else magBits f.p f.sub r.1 r.2.1
      (patOf f neg m, { converted := 1, zeroed := if n ≠ 0 ∧ r.1 = 0 then 1 else 0,
                        stoch := if u.isSome ∧ r.2.2 then 1 else 0 })
    else (patOf f neg (if f.kind = 3 ∧ neg then f.maxPat + 1 else f.maxPat), { converted := 1, clipped := 1 })

/-- Joins the patterns and counts of converted elements. -/
def joinConv (l : List (Nat × Counts)) : List Nat × Counts :=
  (l.map (fun x => x.1), l.foldl (fun c x => c.plus x.2) {})

/-- Converts elements to a format without scales, with the word of each one where rounding is stochastic. -/
def convertPlain (efmt : Nat) (xs : List Num) (us : List (Option Nat)) : List Nat × Counts :=
  joinConv ((xs.zip us).map (fun x => convertOne efmt x.1 1 0 x.2))

/-- Whether a NaN spoils its whole group in a scaled format (R108). -/
def nanSpoils (efmt : Nat) : Bool := (fmt efmt).kind == 2 || (fmt efmt).kind == 3

/-- Converts one group to a scaled format: its scale byte, patterns and counts. -/
def convertGroup (efmt sfmt : Nat) (xs : List Num) (us : List (Option Nat)) : Nat × List Nat × Counts :=
  if nanSpoils efmt ∧ xs.any (fun x => x == Num.nan) then
    (scaleNan sfmt, xs.map (fun _ => 0), { converted := xs.length, nan := xs.length })
  else
    let b := chooseScale sfmt efmt (amax xs)
    let s := match scaleVal sfmt b with
      | .fin _ n e => (n, e)
      | _ => (1, 0)
    let r := joinConv ((xs.zip us).map (fun x => convertOne efmt x.1 s.1 s.2 x.2))
    (b, r.1, r.2)

/-! ### The generator (R113, R114) -/

/-- Ten rounds of Philox-4×32. -/
def philoxGo : Nat → Nat → Nat → Nat → Nat → Nat → Nat → List Nat
  | 0, c0, c1, c2, c3, _, _ => [c0, c1, c2, c3]
  | r + 1, c0, c1, c2, c3, k0, k1 =>
    let m0 := 0xD2511F53 * c0
    let m1 := 0xCD9E8D57 * c2
    philoxGo r (m1 / 2 ^ 32 ^^^ c1 ^^^ k0) (m1 % 2 ^ 32) (m0 / 2 ^ 32 ^^^ c3 ^^^ k1) (m0 % 2 ^ 32)
      ((k0 + 0x9E3779B9) % 2 ^ 32) ((k1 + 0xBB67AE85) % 2 ^ 32)

/-- Philox-4×32-10. -/
def philox (c0 c1 c2 c3 : Nat) (key : W64) : List Nat :=
  philoxGo 10 (c0 % 2 ^ 32) (c1 % 2 ^ 32) (c2 % 2 ^ 32) (c3 % 2 ^ 32) (key.toNat % 2 ^ 32) (key.toNat / 2 ^ 32)

/-- The word of the element at row r and column c of a block, with counter word c3. -/
def randWord (key stream : W64) (r c c3 : Nat) : Nat :=
  let e := stream.toNat / 4096 % 2 ^ 20 + c
  (philox (e / 4) (stream.toNat / 2 ^ 32 + r) (stream.toNat % 4096) c3 key).getD (e % 4) 0

/-! ### Exact cells (R115, R119, R136) -/

/-- Puts an exact integer into a cell, keeping the low 320 bits and setting WRAP outside the range. -/
def Cell.setInt (c : Cell) (v : Int) : Cell :=
  { c with value := BitVec.ofInt 320 v, wrap := c.wrap || !(decide (-(2 ^ 319) ≤ v ∧ v < 2 ^ 319)) }

/-- Adds a term. -/
def Cell.addNum (c : Cell) : Num → Cell
  | .nan => { c with nan := true }
  | .inf false => { c with pinf := true }
  | .inf true => { c with ninf := true }
  | .fin s n e => c.setInt (c.value.toInt + signedAt s n e (-149))

/-- Adds a cell to a cell. -/
def Cell.addCell (c d : Cell) : Cell :=
  let f := { c with nan := c.nan || d.nan, pinf := c.pinf || d.pinf, ninf := c.ninf || d.ninf, wrap := c.wrap || d.wrap }
  f.setInt (c.value.toInt + d.value.toInt)

/-- FLAGS of a cell. -/
def Cell.flags (c : Cell) : Nat :=
  (if c.nan then 1 else 0) + (if c.pinf then 2 else 0) + (if c.ninf then 4 else 0) + (if c.wrap then 8 else 0)

/-- Sets FLAGS. -/
def Cell.setFlags (c : Cell) (f : Nat) : Cell :=
  { c with nan := f.testBit 0, pinf := f.testBit 1, ninf := f.testBit 2, wrap := f.testBit 3 }

/-- The readout to FP32 (bf16 false) or BF16. -/
def Cell.readout (c : Cell) (bf16 : Bool) : Nat :=
  let p := if bf16 then 8 else 24
  let sub := if bf16 then 16 else 0
  let inf := 255 * 2 ^ (p - 1)
  let sign := 2 ^ (p + 7)
  if c.nan ∨ c.wrap ∨ (c.pinf ∧ c.ninf) then nanPat (if bf16 then 1 else 0)
  else if c.pinf then inf
  else if c.ninf then sign + inf
  else
    let v := c.value.toInt
    if v = 0 then 0
    else
      let m := v.natAbs
      let h := Nat.log2 m
      let lo := max (h - (p - 1)) sub
      let q := m / 2 ^ lo
      let r := m - q * 2 ^ lo
      let up := decide (0 < lo) && (decide (2 ^ (lo - 1) < r) || (decide (r = 2 ^ (lo - 1)) && decide (q % 2 = 1)))
      let q := if up then q + 1 else q
      let enc := (lo - sub) * 2 ^ (p - 1) + q
      (if v < 0 then sign else 0) + min enc inf

/-- A cell's record: VALUE, then FLAGS, in 48 bytes. -/
def Cell.record (c : Cell) : List Byte := leBytes 40 c.value.toNat ++ leBytes 8 c.flags

/-- The cell of a record. -/
def Cell.ofRecord (bs : List Byte) : Cell :=
  ({ value := BitVec.ofNat 320 (leNat (bs.take 40)) } : Cell).setFlags (leNat ((bs.drop 40).take 8))

/-- Whether a record's FLAGS word has no reserved bit set. -/
def recordOk (bs : List Byte) : Bool := decide (leNat ((bs.drop 40).take 8) < 16)

/-! ### Operations of the vector engine (R129, R130) -/

/-- The integer square root of n, by bits k-1 to 0 of the root. -/
def isqrtGo (n : Nat) : Nat → Nat → Nat
  | 0, r => r
  | k + 1, r => isqrtGo n k (if (r + 2 ^ k) * (r + 2 ^ k) ≤ n then r + 2 ^ k else r)

/-- The floor of a square root. -/
def isqrt (n : Nat) : Nat := isqrtGo n (Nat.log2 n / 2 + 1) 0

/-- The correctly rounded square root of n × 2^e. -/
def sqrt32 (n : Nat) (e : Int) : W32 :=
  if n = 0 then 0
  else
    let k : Int := 60 + (e % 2)
    let m := n * pow2 k
    let r := isqrt m
    let sticky := if r * r = m then 0 else 1
    round32 false (2 * r + sticky) 1 ((e - k) / 2 - 1)

/-- A key that orders FP32 words that are not NaN, with -0 below +0. -/
def ordKey (w : W32) : Int :=
  if 2 ^ 31 ≤ w.toNat then -((w.toNat - 2 ^ 31 : Nat) : Int) - 1 else (w.toNat : Int)

/-- Whether a word is NaN. -/
def isNan (w : W32) : Bool := f32 w == Num.nan

/-- Whether a > b and whether a = b as numbers; false with a NaN. -/
def gt32 (a b : W32) : Bool :=
  !(isNan a) && !(isNan b) && decide (ordKey b < ordKey a) && !(a.toNat % 2 ^ 31 == 0 && b.toNat % 2 ^ 31 == 0)
def eq32 (a b : W32) : Bool :=
  !(isNan a) && !(isNan b) && (a == b || (a.toNat % 2 ^ 31 == 0 && b.toNat % 2 ^ 31 == 0))

def max32 (a b : W32) : W32 := if isNan a || isNan b then nan32 else if ordKey a < ordKey b then b else a
def min32 (a b : W32) : W32 := if isNan a || isNan b then nan32 else if ordKey b < ordKey a then b else a
/-- A word with NaN made canonical. -/
def canon (a : W32) : W32 := if isNan a then nan32 else a
def abs32 (a : W32) : W32 := if isNan a then nan32 else BitVec.ofNat 32 (a.toNat % 2 ^ 31)
def negOp (a : W32) : W32 := if isNan a then nan32 else neg32 a
def one32 : W32 := 0x3F800000

/-- The weight of the last place of the binade of (n / d) × 2^e. -/
def ulpOf (n d : Nat) (e : Int) : Int := max (log2Of n d + e - 23) (-149)

/-- Whether an FP32 word of sign `neg` lies within b / c units in the last place of (n / d) × 2^e. -/
def within (b c : Nat) (r : W32) (neg : Bool) (n d : Nat) (e : Int) : Bool :=
  match f32 r with
  | .fin s m g =>
    let u := if n = 0 then -149 else ulpOf n d e
    let low := min (min g e) u
    let x : Int := signedAt s m g low * (d : Int)
    let y : Int := signedAt neg n e low
    let w : Nat := pow2 (u - low) * d
    decide ((s = neg ∨ m = 0) ∧ (x - y).natAbs * c ≤ w * b)
  | _ => false

/-- Whether an FP32 word of sign `neg` lies within one unit in the last place of (n / d) × 2^e. -/
def near (r : W32) (neg : Bool) (n d : Nat) (e : Int) : Bool := within 1 1 r neg n d e

/-- The quotient of R129: within 1 ulp, its last bit a fixed function that the manual leaves open. -/
def quot32 (a b : W32) (neg : Bool) (n d : Nat) (e : Int) : W32 :=
  let r := Config.divFun a b
  let c := round32 neg n d e
  if c.toNat % 2 ^ 31 < 0x7F800000 ∧ near r neg n d e then r else c

/-- a / b. -/
def div32 (a b : W32) : W32 :=
  match f32 a, f32 b with
  | .nan, _ => nan32
  | _, .nan => nan32
  | .inf _, .inf _ => nan32
  | .inf s, .fin t _ _ => pack32 (s != t) 0x7F800000
  | .fin s _ _, .inf t => pack32 (s != t) 0
  | .fin s n e, .fin t m f =>
    if m = 0 then (if n = 0 then nan32 else pack32 (s != t) 0x7F800000)
    else if n = 0 then pack32 (s != t) 0
    else quot32 a b (s != t) n m (e - f)

/-- 1 / √(n × 2^e), truncated: the integer root of 2^k / n at an even k + e. -/
def rsqrtTrunc (n : Nat) (e : Int) : W32 :=
  let k : Int := 2 * (Nat.log2 n : Int) + 120 + ((e % 2))
  round32 false (isqrt (pow2 k / n)) 1 (-((k + e) / 2))

/-- Whether a word lies within one unit in the last place of 1 / √(n × 2^e). -/
def nearRsqrt (r : W32) (n : Nat) (e : Int) : Bool :=
  match f32 r, f32 (rsqrtTrunc n e) with
  | .fin false m g, .fin _ q h =>
    let u := ulpOf (max q 1) 1 h
    let low := min g u
    let x := m * pow2 (g - low)
    let w := pow2 (u - low)
    let lo := x - w
    let hi := x + w
    -- lo² × n × 2^(2 low + e) ≤ 1 ≤ hi² × n × 2^(2 low + e)
    let t := 2 * low + e
    decide (lo * lo * n * pow2 t ≤ pow2 (-t)) && decide (pow2 (-t) ≤ hi * hi * n * pow2 t)
  | _, _ => false

/-- 1 / √a. -/
def rsqrt32 (a : W32) : W32 :=
  match f32 a with
  | .nan => nan32
  | .inf false => 0
  | .inf true => nan32
  | .fin s n e =>
    if n = 0 then pack32 s 0x7F800000
    else if s then nan32
    else
      let r := Config.vecFun 0x0F a
      if nearRsqrt r n e then r else rsqrtTrunc n e

/-- √a. -/
def sqrtOp (a : W32) : W32 :=
  match f32 a with
  | .nan => nan32
  | .inf false => pack32 false 0x7F800000
  | .inf true => nan32
  | .fin s n e => if n = 0 then pack32 s 0 else if s then nan32 else sqrt32 n e

/-- A transcendental operation at ±n × 2^e: within its bound of R129 (and 2^-16 ulp more, for the value's own error), and
open inside it; an overflow is +∞. -/
def boundFun (code : Nat) (a : W32) (neg : Bool) (n : Nat) (e : Int) : W32 :=
  let x := realFun code neg n e
  let r := Config.vecFun code a
  let c := round32 x.neg x.n x.d x.e
  if c.toNat % 2 ^ 31 < 0x7F800000 ∧ within (ulpBound code * 65536 + 1) 65536 r x.neg x.n x.d x.e then r else c

/-- A function whose values are open within its bound, with its special results at NaN, -∞ and +∞. -/
def openFun (code : Nat) (a minus plus : W32) : W32 :=
  match f32 a with
  | .nan => nan32
  | .inf true => minus
  | .inf false => plus
  | .fin neg n e => boundFun code a neg n e

/-- The logarithms: -∞ at zero, NaN below. -/
def logFun (code : Nat) (a : W32) : W32 :=
  match f32 a with
  | .fin _ 0 _ => pack32 true 0x7F800000
  | .fin true _ _ => nan32
  | _ => openFun code a nan32 0x7F800000

/-- The operation of a code on operands a, b, c (R129, R130). -/
def vecOp (code : Nat) (a b c : W32) : W32 :=
  match code with
  | 0x00 => add32 a b
  | 0x01 => add32 a (negOp b)
  | 0x02 => mul32 a b
  | 0x03 => fma32 a b c
  | 0x04 => max32 a b
  | 0x05 => min32 a b
  | 0x06 => abs32 a
  | 0x07 => negOp a
  | 0x08 => canon a
  | 0x09 => if gt32 c 0 then canon a else canon b
  | 0x0A => if gt32 a b then one32 else 0
  | 0x0B => if eq32 a b then one32 else 0
  | 0x0C => div32 one32 a
  | 0x0D => div32 a b
  | 0x0E => sqrtOp a
  | 0x0F => rsqrt32 a
  | 0x10 => openFun 0x10 a 0 0x7F800000
  | 0x11 => openFun 0x11 a 0 0x7F800000
  | 0x12 => logFun 0x12 a
  | 0x13 => logFun 0x13 a
  | 0x14 => openFun 0x14 a 0xBF800000 one32
  | 0x15 => openFun 0x15 a 0 one32
  | 0x16 => openFun 0x16 a 0x80000000 0x7F800000
  | 0x17 => openFun 0x17 a 0x80000000 0x7F800000
  | 0x18 => openFun 0x18 a 0xBF800000 one32
  | _ => 0

/-- Whether a code uses operand b, and operand c. -/
def usesB (code : Nat) : Bool :=
  decide (code ≤ 0x05) || code == 0x09 || code == 0x0A || code == 0x0B || code == 0x0D
def usesC (code : Nat) : Bool := code == 0x03 || code == 0x09

end Sys2Proof.Machine
end

