-- ==== Sys2Proof/Machine/Operands.lean ====
section
/-! DEFINITION. Operand forms: tensor descriptors and the blocks they name, element storage, compressed slots and rows,
v-registers, banks and scalars as operands, and the statistics block (chapters 3, 5, 6 and 7). -/

namespace Sys2Proof.Machine

open Reg

/-! ### Descriptors (R65, R66, R69) -/

/-- A tensor descriptor's fields. -/
structure TDesc where
  base : Nat
  ndim : Nat
  space : Nat
  dims : List Nat
  strides : List Int
  scale : Nat
  efmt : Nat
  sfmt : Nat
  group : Nat
  cfmt : Nat
deriving DecidableEq, Repr

/-- The fields of a record. -/
def TDesc.of (w : List W64) : TDesc :=
  let x := fun i => w.getD i 0
  { base := bits (x 0) 56 0, ndim := bits (x 0) 58 57, space := bits (x 0) 59 59,
    dims := [bits (x 1) 31 0, bits (x 1) 63 32, bits (x 2) 31 0, bits (x 2) 63 32],
    strides := [0, sext 40 (bits (x 3) 39 0), sext 40 (bits (x 4) 39 0), sext 40 (bits (x 5) 39 0)],
    scale := bits (x 6) 56 0, efmt := bits (x 7) 4 0, sfmt := bits (x 7) 6 5, group := bits (x 7) 8 7,
    cfmt := bits (x 7) 12 9 }

/-- A dimension and a stride. -/
def TDesc.dim (d : TDesc) (i : Nat) : Nat := d.dims.getD i 1
def TDesc.stride (d : TDesc) (i : Nat) : Int := d.strides.getD i 0
/-- The width of an element in bits. -/
def TDesc.ebits (d : TDesc) : Nat := (fmt d.efmt).bits
/-- Whether the descriptor carries scales. -/
def TDesc.scaled (d : TDesc) : Bool := d.sfmt != 0
/-- The group size. -/
def TDesc.g (d : TDesc) : Nat := groupSize d.group

/-- Whether EFMT, SFMT and GROUP go together (R66). -/
def comboOk (efmt sfmt group : Nat) : Bool :=
  if 5 ≤ efmt ∧ efmt ≤ 9 then sfmt == 1 && group == 1
  else if efmt ≤ 2 ∨ efmt = 12 then sfmt == 0 && group == 0
  else (sfmt == 0) == (group == 0)

/-- The status of TDSET on a record (R69). -/
def recordStatus (w : List W64) : Nat :=
  let d := TDesc.of w
  let x := fun i => w.getD i 0
  if bits (x 0) 63 60 ≠ 0 ∨ bits (x 3) 63 40 ≠ 0 ∨ bits (x 4) 63 40 ≠ 0 ∨ bits (x 5) 63 40 ≠ 0 ∨ bits (x 6) 63 57 ≠ 0
      ∨ bits (x 7) 63 13 ≠ 0 ∨ 12 < d.efmt ∨ d.sfmt = 3 ∨ 6 < d.cfmt ∨ comboOk d.efmt d.sfmt d.group = false
      ∨ (d.sfmt = 0 ∧ d.scale ≠ 0) then ST_FMT
  else if d.dims.contains 0 ∨ (List.range 4).any (fun i => decide (d.ndim < i) && d.dim i != 1)
      ∨ (d.space = 1 ∧ (tlsSize ≤ d.base ∨ (d.sfmt ≠ 0 ∧ tlsSize ≤ d.scale))) then ST_RANGE
  else ST_OK

/-- Whether rows of the block fill whole bytes as R103 requires. -/
def TDesc.packed (d : TDesc) : Bool :=
  if d.ebits = 4 then d.dim 0 % 2 == 0 else if d.ebits = 6 then d.dim 0 % 4 == 0 else true

/-- Whether data and scales agree in length (R105, R106, R148). -/
def TDesc.agrees (d : TDesc) : Bool :=
  comboOk d.efmt d.sfmt d.group
    && (if d.sfmt = 0 then true
      else decide (d.dim 0 % d.g = 0)
        && (d.cfmt == 6 || (List.range 4).all (fun i =>
            i == 0 || decide (d.ndim < i) || decide ((d.stride i * 8) % ((d.g * d.ebits : Nat) : Int) = 0))))

/-- Whether the code is of a variable form, a slot (R144). -/
def isSlot (c : Nat) : Bool := c == 1 || c == 3 || c == 4 || c == 5

/-- Element bytes for the formats of slots. -/
def TDesc.w (d : TDesc) : Nat := d.ebits / 8

/-- The capacity of a slot. -/
def TDesc.capacity (d : TDesc) : Nat := 16 + d.dim 0 * d.dim 1 * d.w

/-- Whether EFMT, SFMT and GROUP suit a slot (R144). -/
def TDesc.slotFmt (d : TDesc) : Bool :=
  (d.efmt == 1 || d.efmt == 2 || d.efmt == 3 || d.efmt == 4 || d.efmt == 10) && d.sfmt == 0 && d.group == 0

/-- Bytes of one dense row. -/
def TDesc.rowBytes (d : TDesc) : Nat := (d.dim 0 * d.ebits + 7) / 8

/-- Bytes of one NM24 row's values, of the values rounded up to 64, and of the row (R95). -/
def TDesc.nmVals (d : TDesc) (one : Bool) : Nat := (d.dim 0 / (if one then 4 else 2) * d.ebits + 7) / 8
def TDesc.nmIx (d : TDesc) (one : Bool) : Nat := (d.nmVals one + 63) / 64 * 64
def TDesc.nmRow (d : TDesc) (one : Bool) : Nat :=
  d.nmIx one + (if one then (d.dim 0 / 4 + 3) / 4 else (d.dim 0 / 4 + 1) / 2)

/-- Bytes of one row in the descriptor's form: of the whole slot for a variable form, and of the 2:4 layout for NM24. -/
def TDesc.span (d : TDesc) : Nat :=
  if d.cfmt = 2 then d.nmRow false
  else if d.cfmt = 6 then d.rowBytes + d.dim 0 / 32
  else if isSlot d.cfmt then d.capacity
  else d.rowBytes

/-- Scale bytes of a row, where they lie apart. -/
def TDesc.scaleSpan (d : TDesc) : Nat := if d.sfmt = 0 ∨ d.cfmt = 6 then 0 else d.dim 0 / d.g

/-- The stride of the scale rows (R105). -/
def TDesc.scaleStride (d : TDesc) (i : Nat) : Int :=
  if d.sfmt = 0 then 0 else d.stride i * 8 / ((d.g * d.ebits : Nat) : Int)

/-- The coordinates of the rows, dimension 1 fastest. -/
def TDesc.coords (d : TDesc) : List (Nat × Nat × Nat) :=
  if isSlot d.cfmt then [(0, 0, 0)]
  else (List.range (d.dim 3)).flatMap (fun k => (List.range (d.dim 2)).flatMap (fun j =>
    (List.range (d.dim 1)).map (fun i => (i, j, k))))

/-- The address of a row and of its scales (R105). -/
def TDesc.rowAt (d : TDesc) (c : Nat × Nat × Nat) : Int × Int :=
  ((d.base : Int) + c.1 * d.stride 1 + c.2.1 * d.stride 2 + c.2.2 * d.stride 3,
   (d.scale : Int) + c.1 * d.scaleStride 1 + c.2.1 * d.scaleStride 2 + c.2.2 * d.scaleStride 3)

/-- The rows of the block. -/
def TDesc.rows (d : TDesc) : List (Int × Int) := d.coords.map d.rowAt

/-- The byte ranges of data and scales that the block takes: start and length. -/
def TDesc.spans (d : TDesc) : List (Int × Nat) :=
  d.rows.flatMap (fun r => if d.scaleSpan = 0 then [(r.1, d.span)] else [(r.1, d.span), (r.2, d.scaleSpan)])

/-- Whether a block in the TLS lies within its 2 MiB. -/
def TDesc.inTls (d : TDesc) : Bool :=
  d.space == 0 || d.spans.all (fun r => decide (0 ≤ r.1 ∧ r.1 + r.2 ≤ (tlsSize : Int)))

/-- Whether two blocks share a byte. -/
def overlap (a b : TDesc) : Bool :=
  a.spans.any (fun x => b.spans.any (fun y => decide (x.1 < y.1 + y.2 ∧ y.1 < x.1 + x.2)))

/-- The TLS bytes of a block as regions. -/
def TDesc.regions (d : TDesc) : List Region :=
  if d.space = 1 then d.spans.map (fun r => .tls r.1.toNat (r.1.toNat + r.2)) else [.mem]

/-! ### Element storage (R103) -/

/-- The n elements of w bits that a row's bytes hold. -/
def unpack (w n : Nat) (bs : List Byte) : List Nat :=
  let v := leNat bs
  (List.range n).map (fun i => v / 2 ^ (w * i) % 2 ^ w)

/-- The bytes of elements of w bits. -/
def pack (w : Nat) (es : List Nat) : List Byte :=
  let v := es.zipIdx.foldl (fun a e => a + e.1 % 2 ^ w * 2 ^ (w * e.2)) 0
  leBytes ((es.length * w + 7) / 8) v

/-- Element i of a row times its group's scale (R104). -/
def scaleElems (d : TDesc) (es : List Nat) (scales : List Byte) : List Num :=
  es.zipIdx.map (fun e =>
    let x := decodeElem d.efmt e.1
    if d.sfmt = 0 then x else x.mul (scaleVal d.sfmt (scales.getD (e.2 / d.g) 0).toNat))

/-- The decoded rows of a dense TLS block. -/
def Tile.denseRows (v : Tile) (d : TDesc) : List (List Num) :=
  d.rows.map (fun r => scaleElems d (unpack d.ebits (d.dim 0) (v.tlsBytes r.1.toNat d.rowBytes))
    (if d.sfmt = 0 then [] else v.tlsBytes r.2.toNat (d.dim 0 / d.g)))

/-- The raw element patterns of a dense TLS block, row by row. -/
def Tile.rawRows (v : Tile) (d : TDesc) : List (List Nat) :=
  d.rows.map (fun r => unpack d.ebits (d.dim 0) (v.tlsBytes r.1.toNat d.rowBytes))

/-- The values of n elements of a dense TLS block in element order (R126). -/
def Tile.blockVals (v : Tile) (d : TDesc) (n : Nat) : List Num := (v.denseRows d).flatten.take n

/-- Groups of k elements of a row. -/
def cut {α : Type} (k : Nat) : Nat → List α → List (List α)
  | 0, _ => []
  | n + 1, l => if l.isEmpty then [] else l.take k :: cut k n (l.drop k)

/-- Converts a row for a destination: patterns, scale bytes and counts (R108, R109). -/
def convertRow (d : TDesc) (xs : List Num) (us : List (Option Nat)) : List Nat × List Byte × Counts :=
  if d.sfmt = 0 then
    let r := convertPlain d.efmt xs us
    (r.1, [], r.2)
  else
    let gs := (cut d.g xs.length xs).zip (cut d.g us.length us)
    let rs := gs.map (fun x => convertGroup d.efmt d.sfmt x.1 x.2)
    (rs.flatMap (fun r => r.2.1), rs.map (fun r => BitVec.ofNat 8 r.1), rs.foldl (fun c r => c.plus r.2.2) {})

/-- The words that stochastic rounding draws for row r of a block of n columns (R114). -/
def rowWords (on : Bool) (seed stream : W64) (r n : Nat) : List (Option Nat) :=
  (List.range n).map (fun c => if on then some (randWord seed stream r c 0) else none)

/-! ### Writing memory (R62, R229) -/

/-- Writes bytes at a glove-virtual address for a context, where all of it maps to the local range. -/
def State.put (s : State) (n va : Nat) (bs : List Byte) : Option State := s.setVbytes n va bs

/-- Writes byte ranges, each at its TLS offset or glove-virtual address; none where a page refuses one. -/
def State.putSpans (s : State) (k : CtxId) (space : Nat) : List (Int × List Byte) → Option State
  | [] => some s
  | (a, bs) :: r =>
    let n := (s.ctx k).glove
    if space = 1 then
      State.putSpans (s.setTile k.tile ((s.tile k.tile).setTls n a.toNat bs)) k space r
    else
      match s.put n (a % 2 ^ 57).toNat bs with
      | some t => State.putSpans t k space r
      | none => none

/-- A refused write of byte ranges (R62): the ranges before the refused one are written. -/
def State.putFault (s : State) (k : CtxId) (space : Nat) : List (Int × List Byte) → State
  | [] => s
  | (a, bs) :: r =>
    let n := (s.ctx k).glove
    if space = 1 then
      State.putFault (s.setTile k.tile ((s.tile k.tile).setTls n a.toNat bs)) k space r
    else
      match s.put n (a % 2 ^ 57).toNat bs with
      | some t => State.putFault t k space r
      | none => s.memFault n (a % 2 ^ 57).toNat bs.length

/-- The bytes of a converted block: its rows' data and scales with their addresses. -/
def blockSpans (d : TDesc) (rs : List (List Nat × List Byte)) : List (Int × List Byte) :=
  (d.rows.zip rs).flatMap (fun x =>
    if x.2.2.isEmpty then [(x.1.1, pack d.ebits x.2.1)] else [(x.1.1, pack d.ebits x.2.1), (x.1.2, x.2.2)])

/-! ### The statistics block (R111, R112) -/

/-- A saturating add to a 48-bit counter in memory with its OVF flag in bit 63. -/
def satAdd (w : W64) (n : Nat) : W64 :=
  let c := bits w 47 0
  if c + n ≤ 2 ^ 48 - 1 then withBits w 47 0 (c + n) else withBits (withBits w 47 0 (2 ^ 48 - 1)) 63 63 1

/-- Adds to a counter of the statistics block. -/
def State.statAdd (s : State) (n va amount : Nat) : State :=
  if amount = 0 then s
  else s.setVbytesGo n va (leBytes 8 (satAdd (BitVec.ofNat 64 (leNat (s.vbytesGo n va 8))) amount).toNat)

/-- The lowest-numbered slot of the block whose range contains the destination's first byte. -/
def State.statSlot (s : State) (n p space addr : Nat) : Option Nat :=
  (List.range 8).find? (fun j =>
    let b := BitVec.ofNat 64 (leNat (s.vbytesGo n (p + 0x40 + 32 * j) 8))
    let len := leNat (s.vbytesGo n (p + 0x48 + 32 * j) 4)
    bits b 63 63 == space && decide (bits b 56 0 ≤ addr ∧ addr < bits b 56 0 + len))

/-- Adds a converting instruction's counts to the statistics block at `ptr`. -/
def State.addStats (s : State) (k : CtxId) (n : Nat) (ptr : W64) (d : TDesc) (c : Counts) : State :=
  if ptr = 0 then s
  else
    let p := ptr.toNat / 64 * 64
    if s.mapped n p 320 .W ∧ s.mapped n p 320 .R then
      let s := s.statAdd n p c.converted
      let s := s.statAdd n (p + 0x08) c.clipped
      let s := s.statAdd n (p + 0x10) c.nan
      let s := s.statAdd n (p + 0x18) c.zeroed
      let s := s.statAdd n (p + 0x20) c.stoch
      match s.statSlot n p d.space d.base with
      | some j => (s.statAdd n (p + 0x50 + 32 * j) c.converted).statAdd n (p + 0x58 + 32 * j) c.clipped
      | none => s
    else s.event 0x0106 k.tile n ptr.toNat k.ctx

/-! ### Banks and v-registers -/

/-- An element of a physical bank. -/
def Tile.bankAt (v : Tile) (b m n : Nat) : W32 := Tab.look (fun _ => 0) v.banks (4096 * b + 64 * m + n)

/-- Writes the leading part of the rows of a physical bank from row m on; a bank dead after a fault takes no write (R94). -/
def Tile.setRows (v : Tile) (b : Nat) : Nat → List (List W32) → Tile
  | _, [] => v
  | m, r :: rs =>
    if v.deadBanks.contains b then v
    else Tile.setRows { v with banks := Tab.fill (fun _ => 0) v.banks (4096 * b + 64 * m) r } b (m + 1) rs

/-- The record of a bank write in the ACC digest (R122): instruction index, logical bank, M, N, the elements written. -/
def accRec (index bank m n : Nat) (es : List W32) : List Byte :=
  leBytes 8 index ++ [BitVec.ofNat 8 bank, BitVec.ofNat 8 m, BitVec.ofNat 8 n, 0, 0, 0, 0, 0]
    ++ es.flatMap (fun e => leBytes 4 e.toNat)

end Sys2Proof.Machine
end

