-- ==== Sys2Proof/Machine/Matrix.lean ====
section
/-! DEFINITION. The M-array and its banks, fencing a tile, and the tile self-test (chapter 4). -/

namespace Sys2Proof.Machine

open Reg

/-! ### Fencing a tile (R36) -/

/-- A task on a tile being fenced: placed again, or abandoned with its step to be replayed. A task that is not
restartable retires tainted, so that its step drains as a tainted step does (R36, R310). -/
def State.fenceTask (s : State) (k : CtxId) : State :=
  let x := s.ctx k
  match x.task with
  | none => s
  | some q =>
    if s.gstate x.glove ≠ gACTIVE then s
    else match s.task q with
      | none => s.clearCtx k
      | some t =>
        let s := s.clearCtx k
        if t.restartable then
          let s := s.setTask q (some { t with ph := .ready, readyAt := s.kn.order })
          { s with kn := { s.kn with order := s.kn.order + 1 } }
        else
          let s := { s with kn := { s.kn with replay := Tab.store (fun _ => false) s.kn.replay t.glove true } }
          (s.taintTask q true []).retireTask q

/-- Fences a tile: its units abandon their work, and R36 decides the fate of each task. -/
def State.fenceTile (s : State) (t : Nat) : State :=
  let s := (s.fset (TILE_CTL t) TILE_CTL_FENCE 1).fset (TILE_CAP t) TILE_CAP_FENCED 1
  let s := s.setTile t { s.tile t with mmaQ := [], vecQ := [], spmQ := [], sieveQ := [] }
  (List.range 16).foldl (fun s c => s.fenceTask (ctxId t c)) s

/-- Releases a tile's fence, once no self-test runs; a tile below grade stays fenced (R94, R100). -/
def State.unfenceTile (s : State) (t : Nat) : State :=
  let s := s.fset (TILE_CTL t) TILE_CTL_FENCE 0
  if s.fget (TILE_TEST t) TILE_TEST_RUNNING = 0 ∧ s.fget (TILE_TEST t) TILE_TEST_RESULT ≠ 3 then
    s.fset (TILE_CAP t) TILE_CAP_FENCED 0
  else s

/-- TILE_TEST_START (R94). -/
def execTileTestStart (t : Fin 256) (s : State) : Out :=
  if s.fenced t ∧ (s.tile t).occupied = 0 then
    done s (((s.fset (TILE_TEST t) TILE_TEST_RUNNING 1).fset (TILE_TEST t) TILE_TEST_RESULT 0).fset
      (TILE_TEST t) TILE_TEST_STATUS ST_OK)
  else done s (s.fset (TILE_TEST t) TILE_TEST_STATUS ST_BUSY)

/-- The number of set bits. -/
def popCount (w : W64) : Nat := (List.range 64).countP (fun i => w.getLsbD i)

/-- TILE_SELF_TEST_DONE (R94): `map` names the physical columns that failed. -/
def execTileSelfTestDone (t : Fin 256) (map : W64) (s : State) : Out :=
  if s.fget (TILE_TEST t) TILE_TEST_RUNNING = 1 then
    let s1 := (s.fset (TILE_TEST t) TILE_TEST_RUNNING 0).setReg (TILE_TESTMAP t) map
    let all := s1.reg (TILE_COLMAP t) ||| map
    let width := 64 - popCount all
    let s2 := if map = 0 then s1.fset (TILE_TEST t) TILE_TEST_RESULT 1
      else if 60 ≤ width then
        ((((s1.fset (TILE_TEST t) TILE_TEST_RESULT 2).setReg (TILE_COLMAP t) all).fset (TILE_CAP t) TILE_CAP_WIDTH
          width).event 0x0103 t 0x3F map.toNat width)
      else (s1.fset (TILE_TEST t) TILE_TEST_RESULT 3).event 0x0104 t 0x3F map.toNat 0
    if s2.fget (TILE_CTL t) TILE_CTL_FENCE = 0 then done s (s2.unfenceTile t) else done s s2
  else done s s

/-! ### Checks at issue (R72, R84, R85) -/

/-- The 8-bit set of R84. -/
def set8 (e : Nat) : Bool := decide (3 ≤ e ∧ e ≤ 8)

/-- The slab length kb of a pair, where the array takes it (R84). -/
def pairKb (a b : Nat) : Option Nat :=
  if set8 a && set8 b then some 64
  else if a = 9 ∧ b = 9 then some 128
  else if (a = 9 ∧ set8 b) ∨ (set8 a ∧ b = 9) then some 64
  else if a = 11 ∧ b = 11 then some 128
  else if (a = 10 ∨ a = 11) ∧ (b = 10 ∨ b = 11) then some 64
  else if (a = 1 ∨ a = 2) ∧ (b = 1 ∨ b = 2) then some 32
  else none

/-- The reduction block of an RBLK code. -/
def rblkOf (c : Nat) : Nat := if c = 0 then 16 else if c = 1 then 32 else if c = 2 then 64 else if c = 3 then 128 else 256

/-- The reduction length an instruction word declares. -/
def rblkW (w : FmtB) : Nat := rblkOf (w.ox 23 21)

/-- Whether the word's OPX is legal for MMA (nm false) or MMA.NM (R72, R99). -/
def mmaLegal (w : FmtB) (nm : Bool) : Bool :=
  w.legal .bank .t .t .no (ox 25 17) && w.ox 25 24 != 3 && decide (w.ox 23 21 ≤ 4)
    && (if nm then w.ox 19 18 == 1 || w.ox 19 18 == 2 else w.ox 19 18 == 0)

/-- The status of an MMA or MMA.NM at issue. -/
def mmaStatus (w : FmtB) (nm : Bool) (a b : TDesc) : Nat :=
  let one := w.ox 19 18 == 2
  if a.space ≠ 1 ∨ b.space ≠ 1 ∨ 1 < a.ndim ∨ 1 < b.ndim then ST_RANGE
  else if a.dim 1 < 1 ∨ 64 < a.dim 1 ∨ b.dim 1 < 1 ∨ 64 < b.dim 1 ∨ a.dim 0 ≠ b.dim 0 ∨ a.dim 0 % rblkW w ≠ 0
      ∨ a.dim 0 = 0 then ST_RANGE
  else if w.ox 17 17 = 0 ∧ a.dim 1 % 16 ≠ 0 then ST_RANGE
  else if nm ∧ b.cfmt = 2 ∧ b.stride 1 < (b.nmRow one : Int) then ST_RANGE
  else if a.packed = false ∨ (nm = false ∧ b.packed = false) ∨ a.inTls = false ∨ b.inTls = false then ST_RANGE
  else if (pairKb a.efmt b.efmt).isNone then ST_FMT
  else if a.agrees = false ∨ b.agrees = false then ST_FMT
  else if a.cfmt ≠ 0 ∨ b.cfmt ≠ (if nm then 2 else 0) then ST_FMT
  else if nm ∧ w.ox 25 24 = 1 then ST_FMT
  else ST_OK

/-- Puts an instruction into a queue of the tile of a context. -/
def State.enqueue (s : State) (k : CtxId) (q : Nat) (e : Queued) : State :=
  let v := s.tile k.tile
  s.setTile k.tile (match q with
    | 0 => { v with mmaQ := v.mmaQ ++ [e] }
    | 1 => { v with vecQ := v.vecQ ++ [e] }
    | 2 => { v with spmQ := v.spmQ ++ [e] }
    | _ => { v with sieveQ := v.sieveQ ++ [e] })

/-- Whether a queue is full, or an earlier instruction of the context in another queue stands in the way (R48, R88). -/
def State.waits (s : State) (k : CtxId) (q : Nat) (reads writes : List Region) : Bool :=
  decide (4 ≤ ((s.tile k.tile).queue q).length) || (s.tile k.tile).conflict k.ctx q reads writes

/-- What an instruction takes with it into a queue. -/
def State.queued (s : State) (k : CtxId) (cls op : Nat) (w : FmtB) : Queued :=
  let x := s.ctx k
  { cls := cls, op := op, ctx := k.ctx, w := w, pc := x.pc, seed := x.cs 7, stream := x.cs 8, stats := x.cs 9,
    count := x.issued - 1 }

/-- MMA and MMA.NM at issue. -/
def State.mmaIssue (s : State) (k : CtxId) (w : FmtB) (nm : Bool) : Option State :=
  let x := s.ctx k
  match x.bank w.rd.toNat with
  | none => some (s.trap k TR_ACC 0)
  | some b =>
    let da := x.desc w.ra.toNat
    let db := x.desc w.rb.toNat
    let a := TDesc.of da
    let d := TDesc.of db
    let st := mmaStatus w nm a d
    if st ≠ ST_OK then some (s.finish k w st)
    else
      let reads := a.regions ++ d.regions ++ [.bank b]
      if s.waits k 0 reads [.bank b] then none
      else
        let e := { s.queued k 4 (if nm then 1 else 0) w with a := da, b := db, bankD := b, reads := reads, writes := [.bank b] }
        some ((s.enqueue k 0 e).finish k w ST_OK)

/-- MMA (R81). -/
def execMma (k : CtxId) (w : FmtB) (s : State) : Out :=
  done s (s.issueB k w (mmaLegal w false) (fun s => s.mmaIssue k w false))

/-- MMA.NM (R96). -/
def execMmaNm (k : CtxId) (w : FmtB) (s : State) : Out :=
  done s (s.issueB k w (mmaLegal w true) (fun s => s.mmaIssue k w true))

/-! ### What the array computes (R81, R95, R96) -/

/-- The products of a row of A and a dense row of B. -/
def denseProducts (a b : List Num) : List Num := List.zipWith Num.mul a b

/-- The values of an NM24 row with their positions in k (R95). -/
def nmRowVals (v : Tile) (d : TDesc) (one : Bool) (r : Int × Int) : List (Nat × Num) :=
  let n := d.dim 0 / (if one then 4 else 2)
  let vals := unpack d.ebits n (v.tlsBytes r.1.toNat (d.nmVals one))
  let ixs := leNat (v.tlsBytes (r.1.toNat + d.nmIx one) (d.nmRow one - d.nmIx one))
  let scales := if d.sfmt = 0 then [] else v.tlsBytes r.2.toNat (d.dim 0 / d.g)
  vals.zipIdx.map (fun e =>
    let g := if one then e.2 else e.2 / 2
    let k := 4 * g + ixs / 2 ^ (2 * e.2) % 4
    let x := decodeElem d.efmt e.1
    (k, if d.sfmt = 0 then x else x.mul (scaleVal d.sfmt (scales.getD (k / d.g) 0).toNat)))

/-- The running value after the block sums, in ascending order (R81 steps 4 to 6). -/
def addBlocks (start : W32) (blocks : List (List Num)) : W32 := blocks.foldl (fun r b => add32 r (blockSum b)) start

/-- The elements an MMA writes, by rows. -/
def mmaRows (v : Tile) (e : Queued) : List (List W32) :=
  let a := TDesc.of e.a
  let b := TDesc.of e.b
  let rb := rblkW e.w
  let nb := a.dim 0 / rb
  let accum := e.w.ox 20 20 = 1
  let one := e.w.ox 19 18 == 2
  let rowsA := v.denseRows a
  let start := fun (m n : Nat) => if accum then v.bankAt e.bankD m n else 0
  if e.op = 0 then
    let rowsB := v.denseRows b
    rowsA.zipIdx.map (fun ra => rowsB.zipIdx.map (fun rbw =>
      addBlocks (start ra.2 rbw.2) (cut rb nb (denseProducts ra.1 rbw.1))))
  else
    let rowsB := b.rows.map (nmRowVals v b one)
    rowsA.zipIdx.map (fun ra => rowsB.zipIdx.map (fun rbw =>
      let ps := rbw.1.map (fun kv => (ra.1.getD kv.1 (.fin false 0 0)).mul kv.2)
      addBlocks (start ra.2 rbw.2) (cut (rb / (if one then 4 else 2)) nb ps)))

/-- Whether an MMA folds on a tile of a width (R93). -/
def mmaFolds (w : FmtB) (m n width : Nat) : Bool :=
  let mp := if w.ox 17 17 = 1 then (m + 15) / 16 * 16 else m
  decide (width < (if w.ox 25 24 = 2 then mp else n))

/-- Removes the head of a queue. -/
def State.popQueue (s : State) (t q : Nat) : State :=
  let v := s.tile t
  s.setTile t (match q with
    | 0 => { v with mmaQ := v.mmaQ.drop 1 }
    | 1 => { v with vecQ := v.vecQ.drop 1 }
    | 2 => { v with spmQ := v.spmQ.drop 1 }
    | _ => { v with sieveQ := v.sieveQ.drop 1 })

/-- Keeps what the array writes: an MMA, with its digest record. -/
def State.mmaWrite (s : State) (t : Nat) (e : Queued) : State :=
  let v := s.tile t
  let a := TDesc.of e.a
  let b := TDesc.of e.b
  let rows := mmaRows v e
  let s := s.setTile t (v.setRows e.bankD 0 rows)
  let s := s.dig (ctxId t e.ctx) 0 (accRec e.count e.w.rd.toNat (a.dim 1) (b.dim 1) rows.flatten)
  if mmaFolds e.w (a.dim 1) (b.dim 1) (s.fget (TILE_CAP t) TILE_CAP_WIDTH) then
    s.bump (TILE_ARRAY_CNT t) TILE_ARRAY_CNT_FOLDS 1
  else s

/-- A fault that the array's checkers found (R94): the bank takes no further write, and the tile is fenced. -/
def State.arrayFault (s : State) (t : Nat) (e : Queued) (f : ArrayFault) : State :=
  let v := s.tile t
  let g := (v.ctx e.ctx).glove
  let s := s.setTile t { v with deadBanks := v.deadBanks ++ [e.bankD] }
  match f with
  | .none => s
  | .residue col _ =>
    ((s.bump (TILE_ARRAY_CNT t) TILE_ARRAY_CNT_RESIDUE 1).event 0x0102 t g col e.ctx).fenceTile t
  | .accUe bank row => (s.event 0x0105 t g bank row).fenceTile t

/-- MMA_COMPLETE (R81, R90, R94): the array's oldest instruction ends. -/
def execMmaComplete (t : Fin 256) (f : ArrayFault) (s : State) : Out :=
  match (s.tile t).mmaQ with
  | [] => done s s
  | e :: _ =>
    let s1 := s.popQueue t 0
    if f = .none then done s (s1.mmaWrite t e) else done s (s1.arrayFault t e f)

/-! ### ACCZ and ACCMV (R72) -/

/-- ACCZ. -/
def execAccz (k : CtxId) (w : FmtB) (s : State) : Out :=
  done s (s.issueB k w (w.legal .bank .no .no .no 0) (fun s =>
    match (s.ctx k).bank w.rd.toNat with
    | none => some (s.trap k TR_ACC 0)
    | some b =>
      if s.locked k [] [.bank b] then none
      else
        let v := s.tile k.tile
        let zeros := List.replicate 64 (List.replicate 64 (0 : W32))
        let rec' := accRec ((s.ctx k).issued - 1) w.rd.toNat 64 64 zeros.flatten
        some (((s.setTile k.tile (v.setRows b 0 zeros)).dig k 0 rec').finish k w ST_OK)))

/-- The status of ACCMV. -/
def accmvStatus (d : TDesc) : Nat :=
  if 1 < d.ndim ∨ d.dim 0 < 1 ∨ 64 < d.dim 0 ∨ d.dim 1 < 1 ∨ 64 < d.dim 1 ∨ d.packed = false
      ∨ d.inTls = false then ST_RANGE
  else if d.cfmt ≠ 0 ∨ d.agrees = false then ST_FMT
  else ST_OK

/-- The rows of a bank part converted for a destination. -/
def accmvRows (v : Tile) (b : Nat) (d : TDesc) (stoch : Bool) (seed stream : W64) : List (List Nat × List Byte × Counts) :=
  (List.range (d.dim 1)).map (fun m =>
    convertRow d ((List.range (d.dim 0)).map (fun n => f32 (v.bankAt b m n))) (rowWords stoch seed stream m (d.dim 0)))

/-- Writes converted rows and their counts; a page that refuses the write faults the glove (R62). -/
def State.putConverted (s : State) (k : CtxId) (d : TDesc) (ptr : W64) (rs : List (List Nat × List Byte × Counts))
    (next : State → State) : State :=
  let n := (s.ctx k).glove
  let spans := blockSpans d (rs.map (fun r => (r.1, r.2.1)))
  match s.putSpans k d.space spans with
  | some t => next (t.addStats k n ptr d (rs.foldl (fun c r => c.plus r.2.2) {}))
  | none => s.putFault k d.space spans

/-- ACCMV. -/
def execAccmv (k : CtxId) (w : FmtB) (s : State) : Out :=
  done s (s.issueB k w (w.legal .t .bank .no .no (ox 0 0)) (fun s =>
    let x := s.ctx k
    match x.bank w.ra.toNat with
    | none => some (s.trap k TR_ACC 0)
    | some b =>
      let d := TDesc.of (x.desc w.rd.toNat)
      let st := accmvStatus d
      if st ≠ ST_OK then some (s.finish k w st)
      else if s.locked k [.bank b] d.regions then none
      else
        let stoch := w.ox 0 0 = 1 ∨ (x.cs 6).getLsbD 0
        let rs := accmvRows (s.tile k.tile) b d (decide stoch) (x.cs 7) (x.cs 8)
        some (s.putConverted k d (x.cs 9) rs (fun s => s.finish k w ST_OK))))

end Sys2Proof.Machine
end

