-- ==== Sys2Proof/Machine/Vector.lean ====
section
/-! DEFINITION. The vector engine, its exact cells, and laces (chapter 6). -/

namespace Sys2Proof.Machine

open Reg

/-! ### Operands (R73, R126) -/

/-- An operand of the vector engine as it stands in the queue. -/
inductive VOpnd where
  | v (r : Nat)
  | bank (b : Nat)
  | tls (d : TDesc)
  | scalar (w : W32)
deriving DecidableEq, Repr

/-- The space codes of RD, RA and RB. -/
def spD (w : FmtB) : Nat := w.ox 19 18
def spA (w : FmtB) : Nat := w.ox 17 16
def spB (w : FmtB) : Nat := w.ox 15 14

/-- What a register field names under a space code. -/
def useOf (sp : Nat) : Use := if sp = 1 then .bank else if sp = 2 then .t else .g

/-- The bank a space code and field name, where it is a claimed one; other spaces need none. -/
def Ctx.spBank (x : Ctx) (sp : Nat) (f : BitVec 5) : Option Nat := if sp = 1 then x.bank f.toNat else some 0

/-- The operand of a space code and field; `bank` is its physical bank. -/
def Ctx.opnd (x : Ctx) (sp : Nat) (f : BitVec 5) (bank : Nat) : VOpnd :=
  if sp = 0 then .v f.toNat
  else if sp = 1 then .bank bank
  else if sp = 2 then .tls (TDesc.of (x.desc f.toNat))
  else .scalar (BitVec.ofNat 32 (x.gr f.toNat).toNat)

/-- The number of elements of a block. -/
def TDesc.count (d : TDesc) : Nat := d.dim 0 * d.dim 1 * d.dim 2 * d.dim 3

/-- Whether a dense block of the TLS can be an operand of n elements; `scaled` allows scales. -/
def TDesc.operand (d : TDesc) (n : Nat) (scaled : Bool) : Bool :=
  d.space == 1 && d.cfmt == 0 && (scaled || d.sfmt == 0) && decide (n ≤ d.count) && d.packed && d.inTls

/-- Whether an operand holds n elements (R126). -/
def VOpnd.holds (o : VOpnd) (n : Nat) (scaled : Bool := false) : Bool :=
  match o with
  | .v r => decide (n ≤ (32 - r) * 128)
  | .bank _ => decide (n ≤ 4096)
  | .tls d => d.operand n scaled
  | .scalar _ => true

/-- Whether an operand is no TLS block, or one of a listed format. -/
def VOpnd.fmtIn (o : VOpnd) (fs : List Nat) : Bool :=
  match o with
  | .tls d => fs.contains d.efmt
  | _ => true

/-- The storage an operand of n elements takes. -/
def VOpnd.regions (o : VOpnd) (c n : Nat) : List Region :=
  match o with
  | .v r => (List.range ((n + 127) / 128)).map (fun i => .vreg c (r + i))
  | .bank b => [.bank b]
  | .tls d => d.regions
  | .scalar _ => []

/-! ### Element access -/

/-- Row coordinates and column of element i of a block. -/
def TDesc.place (d : TDesc) (i : Nat) : (Nat × Nat × Nat) × Nat :=
  let r := i / d.dim 0
  ((r % d.dim 1, r / d.dim 1 % d.dim 2, r / d.dim 1 / d.dim 2), i % d.dim 0)

/-- First byte, bit within it, and bytes of element i. -/
def TDesc.elemAt (d : TDesc) (i : Nat) : Nat × Nat × Nat :=
  let p := d.place i
  let b := p.2 * d.ebits
  ((d.rowAt p.1).1.toNat + b / 8, b % 8, (b % 8 + d.ebits + 7) / 8)

/-- The value of element i of a TLS block. -/
def Tile.elemNum (v : Tile) (d : TDesc) (i : Nat) : Num :=
  let a := d.elemAt i
  let x := decodeElem d.efmt (leNat (v.tlsBytes a.1 a.2.2) / 2 ^ a.2.1)
  if d.sfmt = 0 then x
  else
    let p := d.place i
    x.mul (scaleVal d.sfmt (leNat (v.tlsBytes ((d.rowAt p.1).2.toNat + p.2 / d.g) 1)))

/-- Writes the pattern of element i of a TLS block for glove g. -/
def Tile.setElem (v : Tile) (g : Nat) (d : TDesc) (i pat : Nat) : Tile :=
  let a := d.elemAt i
  let old := leNat (v.tlsBytes a.1 a.2.2)
  let was := old / 2 ^ a.2.1 % 2 ^ d.ebits
  v.setTls g a.1 (leBytes a.2.2 (old - was * 2 ^ a.2.1 + pat % 2 ^ d.ebits * 2 ^ a.2.1))

/-- The value of element e of an operand. -/
def Tile.opndNum (v : Tile) (c : Nat) (o : VOpnd) (e : Nat) : Num :=
  match o with
  | .v r => f32 ((v.ctx c).lane (r + e / 128) (e % 128))
  | .bank b => f32 (v.bankAt b (e / 64) (e % 64))
  | .tls d => v.elemNum d e
  | .scalar w => f32 w

/-- Element e of an operand as FP32. -/
def Tile.opnd32 (v : Tile) (c : Nat) (o : VOpnd) (e : Nat) : W32 :=
  match o with
  | .v r => (v.ctx c).lane (r + e / 128) (e % 128)
  | .bank b => v.bankAt b (e / 64) (e % 64)
  | .tls d => (v.elemNum d e).to32
  | .scalar w => w

/-- Writes element e of an operand in FP32. -/
def Tile.setOpnd (v : Tile) (c : Nat) (o : VOpnd) (e : Nat) (w : W32) : Tile :=
  match o with
  | .v r =>
    let x := v.ctx c
    v.setCtx c { x with v := Tab.store (fun _ => 0) x.v (128 * (r + e / 128) + e % 128) w }
  | .bank b => if v.deadBanks.contains b then v else { v with banks := Tab.store (fun _ => 0) v.banks (4096 * b + e) w }
  | .tls d => v.setElem (v.ctx c).glove d e w.toNat
  | .scalar _ => v

/-- Writes FP32 values to elements of an operand. -/
def Tile.setOpnds (v : Tile) (c : Nat) (o : VOpnd) (l : List (Nat × W32)) : Tile :=
  l.foldl (fun v x => v.setOpnd c o x.1 x.2) v

/-- The element indices of chunk j of n elements. -/
def chunkIx (n j : Nat) : List Nat := (List.range (min 128 (n - 128 * j))).map (fun i => 128 * j + i)

/-- Runs f over the chunks of n elements in ascending order. -/
def overChunks {α : Type} (n : Nat) (f : α → List Nat → α) (a : α) : α :=
  (List.range ((n + 127) / 128)).foldl (fun a j => f a (chunkIx n j)) a

/-! ### Issue -/

/-- The operands of a queued vector instruction. -/
def Queued.opD (e : Queued) : VOpnd :=
  if spD e.w = 0 then .v e.w.rd.toNat else if spD e.w = 1 then .bank e.bankD else .tls (TDesc.of e.d)
def Queued.opA (e : Queued) : VOpnd :=
  if spA e.w = 0 then .v e.w.ra.toNat else if spA e.w = 1 then .bank e.bankA
  else if spA e.w = 2 then .tls (TDesc.of e.a) else .scalar (BitVec.ofNat 32 e.ga.toNat)
def Queued.opB (e : Queued) : VOpnd :=
  if spB e.w = 0 then .v e.w.rb.toNat else if spB e.w = 1 then .bank e.bankB
  else if spB e.w = 2 then .tls (TDesc.of e.b) else .scalar (BitVec.ofNat 32 e.gb.toNat)

/-- FUNC of a VEC or LACE word. -/
def fnOf (w : FmtB) : Nat := w.ox 25 20

/-- The common form of a vector word: fields by space, RD no scalar, and RB with its space 0 where it is not used. -/
def vecLegal (w : FmtB) (useA useB : Bool) (extra : BitVec 26) : Bool :=
  w.legal (useOf (spD w)) (if useA then useOf (spA w) else .no) (if useB then useOf (spB w) else .no) .g
      (ox 25 14 ||| extra)
    && spD w != 3 && (useA || spA w == 0) && (useB || spB w == 0)

/-- A vector instruction as it goes into the queue, with operands taken at issue. -/
def State.vecQueued (s : State) (k : CtxId) (cls op : Nat) (w : FmtB) (d a b : Nat) : Queued :=
  let x := s.ctx k
  { s.queued k cls op w with
    a := if spA w = 2 then x.desc w.ra.toNat else [],
    b := if spB w = 2 then x.desc w.rb.toNat else [],
    d := if spD w = 2 then x.desc w.rd.toNat else [],
    bankD := d, bankA := a, bankB := b, ga := x.gr w.ra.toNat, gb := x.gr w.rb.toNat,
    seed := x.cs 7, stream := x.cs 8, stoch := w.ox 12 12 = 1 ∨ (x.cs 6).getLsbD 0,
    lace := if cls = 6 then x.lace.getD [] else [] }

/-- Issues a vector instruction: bank traps, then its status, then the wait for the queue and for earlier instructions. -/
def State.vecIssue (s : State) (k : CtxId) (cls op : Nat) (w : FmtB) (status : Queued → Nat → Nat)
    (regs : Queued → Nat → List Region × List Region) : Option State :=
  let x := s.ctx k
  match x.spBank (spD w) w.rd, x.spBank (spA w) w.ra, x.spBank (spB w) w.rb with
  | some d, some a, some b =>
    let n := (x.gr w.rc.toNat).toNat
    let e := s.vecQueued k cls op w d a b
    let st := status e n
    if st ≠ ST_OK then some (s.finish k w st)
    else
      let rw := regs e n
      if s.waits k 1 rw.1 rw.2 then none
      else
        let e := { e with d := e.d ++ [BitVec.ofNat 64 n], reads := rw.1, writes := rw.2 }
        some ((s.enqueue k 1 e).finish k w ST_OK)
  | _, _, _ => some (s.trap k TR_ACC 0)

/-- The element count a queued vector instruction took. -/
def Queued.n (e : Queued) : Nat := (e.d.getLastD 0).toNat

/-- Whether a count lies in 1 to 8,192. -/
def countOk (n : Nat) : Bool := decide (1 ≤ n ∧ n ≤ 8192)

/-- VOP's status. -/
def vopStatus (e : Queued) (n : Nat) : Nat :=
  if countOk n && e.opD.holds n && e.opA.holds n && (!(usesB (fnOf e.w)) || e.opB.holds n) && e.opD.fmtIn [0]
  then ST_OK else ST_RANGE

/-- The storage of an instruction with operands a, b and destination d. -/
def vecRegs (e : Queued) (n : Nat) : List Region × List Region :=
  let b := if usesB (fnOf e.w) then e.opB.regions e.ctx n else []
  (e.opA.regions e.ctx n ++ b ++ e.opD.regions e.ctx n, e.opD.regions e.ctx n)

/-- VOP (R131). -/
def execVop (k : CtxId) (w : FmtB) (s : State) : Out :=
  done s (s.issueB k w (vecLegal w true (usesB (fnOf w)) 0 && decide (fnOf w ≤ 0x18))
    (fun s => s.vecIssue k 5 0 w vopStatus vecRegs))

/-- The codes of VBC. -/
def vbcCode (c : Nat) : Bool := [0x00, 0x01, 0x02, 0x04, 0x05, 0x0A, 0x0B, 0x0D].contains c

/-- VBC's status. -/
def vbcStatus (e : Queued) (n : Nat) : Nat :=
  if countOk n && decide (n % 64 = 0 ∧ n ≤ 4096) && e.opD.holds n && e.opA.holds n && e.opB.holds 64 && e.opD.fmtIn [0]
  then ST_OK else ST_RANGE

/-- VBC (R132). -/
def execVbc (k : CtxId) (w : FmtB) (s : State) : Out :=
  done s (s.issueB k w (vecLegal w true true (ox 13 13) && vbcCode (fnOf w) && (spB w == 0 || spB w == 2))
    (fun s => s.vecIssue k 5 2 w vbcStatus (fun e n =>
      (e.opA.regions e.ctx n ++ e.opB.regions e.ctx 64 ++ e.opD.regions e.ctx n, e.opD.regions e.ctx n))))

/-- The results of VRED over n elements. -/
def vredCount (w : FmtB) (n : Nat) : Nat := if w.ox 13 13 = 1 then n / 64 else 1

/-- VRED's status. -/
def vredStatus (e : Queued) (n : Nat) : Nat :=
  if countOk n && (e.w.ox 13 13 == 0 || decide (n % 64 = 0)) && e.opD.holds (vredCount e.w n) && e.opA.holds n
      && e.opD.fmtIn [0]
  then ST_OK else ST_RANGE

/-- VRED (R134). -/
def execVred (k : CtxId) (w : FmtB) (s : State) : Out :=
  done s (s.issueB k w (vecLegal w true false (ox 13 13) && decide (fnOf w ≤ 4))
    (fun s => s.vecIssue k 5 1 w vredStatus (fun e n =>
      (e.opA.regions e.ctx n, e.opD.regions e.ctx (vredCount w n)))))

/-- Whether scales agree where an operand is a TLS block. -/
def VOpnd.agrees (o : VOpnd) : Bool :=
  match o with
  | .tls d => d.agrees
  | _ => true

/-- VCVT's status. -/
def vcvtStatus (e : Queued) (n : Nat) : Nat :=
  if countOk n && e.opD.holds n true && e.opA.holds n true then
    (if e.opD.agrees && e.opA.agrees then ST_OK else ST_FMT)
  else ST_RANGE

/-- VCVT (R133). -/
def execVcvt (k : CtxId) (w : FmtB) (s : State) : Out :=
  done s (s.issueB k w (vecLegal w true false (ox 12 12) && fnOf w == 0)
    (fun s => s.vecIssue k 5 3 w vcvtStatus (fun e n => (e.opA.regions e.ctx n, e.opD.regions e.ctx n))))

/-! ### VXA (R135, R136) -/

/-- Whether the spaces and fields of a VXA word suit its function. -/
def vxaLegal (w : FmtB) : Bool :=
  let fn := fnOf w
  if fn = 0 then vecLegal w true false (ox 13 13) && spD w == 1
  else if fn = 1 ∨ fn = 2 then vecLegal w false false (ox 13 13) && spD w == 1
  else if fn = 3 then vecLegal w true false (ox 13 13) && spA w == 1
  else if fn = 4 then vecLegal w true false (ox 13 13) && spA w == 1 && spD w == 2
  else if fn = 5 ∨ fn = 6 then vecLegal w true false (ox 13 13) && spD w == 1 && spA w == 2
  else false

/-- The cell row a queued VXA works on. -/
def Queued.cellRow (e : Queued) : Nat :=
  2 * (if fnOf e.w = 3 ∨ fnOf e.w = 4 then e.bankA else e.bankD) + e.w.ox 13 13

/-- The 48-byte records of a TLS block of INT32. -/
def Tile.records (v : Tile) (d : TDesc) (n : Nat) : List (List Byte) :=
  cut 48 n ((List.range (12 * n)).flatMap (fun i => v.tlsBytes (d.elemAt i).1 4))

/-- Whether a VXA's operands suit its function and count. -/
def vxaStatus (v : Tile) (e : Queued) (n : Nat) : Nat :=
  let fn := fnOf e.w
  let ok :=
    if fn = 0 then countOk n && e.opA.holds n && e.opA.fmtIn [0, 1]
    else if fn = 2 then decide (2 ≤ n ∧ n ≤ 128)
    else decide (1 ≤ n ∧ n ≤ 128) &&
      (if fn = 3 then e.opD.holds n && e.opD.fmtIn [0, 1]
        else if fn = 4 then e.opD.holds (12 * n) && e.opD.fmtIn [12]
        else if fn = 5 ∨ fn = 6 then
          e.opA.holds (12 * n) && e.opA.fmtIn [12]
            && (match e.opA with
              | .tls d => (v.records d n).all recordOk
              | _ => true)
        else true)
  if ok then ST_OK else ST_RANGE

/-- The storage of a VXA. -/
def vxaRegs (e : Queued) (n : Nat) : List Region × List Region :=
  let fn := fnOf e.w
  let cell : Region := .cells e.cellRow
  if fn = 0 then (cell :: e.opA.regions e.ctx n, [cell])
  else if fn = 3 then ([cell], e.opD.regions e.ctx n)
  else if fn = 4 then ([cell], e.opD.regions e.ctx (12 * n))
  else if fn = 5 ∨ fn = 6 then (cell :: e.opA.regions e.ctx (12 * n), [cell])
  else ([cell], [cell])

/-- VXA. Its check of records waits for earlier instructions that write them. -/
def execVxa (k : CtxId) (w : FmtB) (s : State) : Out :=
  done s (s.issueB k w (vxaLegal w) (fun s =>
    let src := if spA w = 2 then (TDesc.of ((s.ctx k).desc w.ra.toNat)).regions else []
    if (fnOf w = 5 ∨ fnOf w = 6) ∧ (s.tile k.tile).conflict k.ctx 4 src [] then none
    else s.vecIssue k 5 4 w (vxaStatus (s.tile k.tile)) vxaRegs))

/-! ### Laces (R137 to R139) -/

/-- The fields of a lace step. -/
def stOp (w : W64) : Nat := bits w 5 0
def stD (w : W64) : Nat := bits w 8 6
def stA (w : W64) : Nat := bits w 11 9
def stB (w : W64) : Nat := bits w 14 12
def stC (w : W64) : Nat := bits w 17 15
def stBK (w : W64) : Bool := w.getLsbD 18
def stK (w : W64) : W32 := BitVec.ofNat 32 (bits w 63 32)

/-- Whether a step is well formed. -/
def stepOk (w : W64) : Bool :=
  let op := stOp w
  decide (op ≤ 0x19) && bits w 31 19 == 0
    && (if usesB op then (if stBK w then stB w == 0 else stK w == 0) else !(stBK w) && stB w == 0 && stK w == 0)
    && (usesC op || stC w == 0) && (op != 0x19 || stA w == 0)

/-- LACE.LD (R138). -/
def execLaceLd (k : CtxId) (w : FmtB) (s : State) : Out :=
  done s (s.issueB k w (w.legal .no .g .g .no 0) (fun s =>
    let x := s.ctx k
    let a := (x.gr w.ra.toNat).toNat
    let n := (x.gr w.rb.toNat).toNat
    if a % 8 ≠ 0 ∨ tlsSize < a + 8 * n ∨ n < 1 ∨ 32 < n then some (s.finish k w ST_RANGE)
    else if s.locked k [.tls a (a + 8 * n)] [.lace k.ctx] then none
    else
      let steps := bytesWords n ((s.tile k.tile).tlsBytes a (8 * n))
      if steps.all stepOk then some ((s.mapCtx k (fun x => { x with lace := some steps })).finish k w ST_OK)
      else some (s.finish k w ST_FMT)))

/-- LACE.RUN's status. -/
def laceStatus (lace : Option (List W64)) (e : Queued) (n : Nat) : Nat :=
  if countOk n && e.opD.holds n && e.opA.holds n && (e.w.ox 13 13 == 0 || e.opB.holds n) then
    (if lace.isSome then ST_OK else ST_FMT)
  else ST_RANGE

/-- LACE.RUN (R138): the lace's steps go with it into the queue. -/
def execLaceRun (k : CtxId) (w : FmtB) (s : State) : Out :=
  done s (s.issueB k w (vecLegal w true (w.ox 13 13 == 1) (ox 13 12) && fnOf w == 0) (fun s =>
    let l := (s.ctx k).lace
    let regs := fun (e : Queued) (n : Nat) =>
      let b := if w.ox 13 13 = 1 then e.opB.regions e.ctx n else []
      (e.opA.regions e.ctx n ++ b, e.opD.regions e.ctx n)
    s.vecIssue k 6 1 w (laceStatus l) regs))

/-- Row and column of element e for the generator (R114, R139). -/
def VOpnd.coord (o : VOpnd) (e : Nat) : Nat × Nat :=
  match o with
  | .bank _ => (e / 64, e % 64)
  | .tls d => ((d.place e).1.1, (d.place e).2)
  | _ => (0, e)

/-- A uniform draw in [0, 1). -/
def randVal (u : Nat) : W32 := round32 false (u / 256) 1 (-24)

/-- One lace step on the lace registers, with its index and the element's coordinates. -/
def laceStep (seed stream : W64) (rc : Nat × Nat) (l : List W32) (w : W64 × Nat) : List W32 :=
  let r := fun i => l.getD i 0
  let b := if stBK w.1 then stK w.1 else r (stB w.1)
  let y := if stOp w.1 = 0x19 then randVal (randWord seed stream rc.1 rc.2 (1 + w.2))
    else vecOp (stOp w.1) (r (stA w.1)) b (r (stC w.1))
  l.set (stD w.1) y

/-- A lace over one element: l0 after the steps. -/
def laceRun (e : Queued) (rc : Nat × Nat) (a b : W32) : W32 :=
  (e.lace.zipIdx.foldl (laceStep e.seed e.stream rc) [a, b, 0, 0, 0, 0, 0, 0]).getD 0 0

/-! ### Completion -/

/-- Writes values to a destination: FP32, or converted to a narrower format with its counts. -/
def Tile.setConv (v : Tile) (e : Queued) (acc : Counts) (l : List (Nat × W32)) : Tile × Counts :=
  match e.opD with
  | .tls d =>
    if d.efmt = 0 then (v.setOpnds e.ctx e.opD l, acc)
    else
      l.foldl (fun va x =>
        let rc := e.opD.coord x.1
        let u := if e.stoch then some (randWord e.seed e.stream rc.1 rc.2 0) else none
        let r := convertOne d.efmt (f32 x.2) 1 0 u
        (va.1.setElem (v.ctx e.ctx).glove d x.1 r.1, va.2.plus r.2)) (v, acc)
  | o => (v.setOpnds e.ctx o l, acc)

/-- VCVT over the elements of one chunk. -/
def Tile.vcvtChunk (e : Queued) (va : Tile × Counts) (ix : List Nat) : Tile × Counts :=
  let v := va.1
  let xs := ix.map (fun i => v.opndNum e.ctx e.opA i)
  match e.opD with
  | .tls d =>
    let glove := (v.ctx e.ctx).glove
    if d.efmt = 0 then ((ix.zip xs).foldl (fun v x => v.setElem glove d x.1 x.2.to32.toNat) v, va.2)
    else
      let us := ix.map (fun i =>
        if e.stoch then some (randWord e.seed e.stream (e.opD.coord i).1 (e.opD.coord i).2 0) else none)
      if d.sfmt = 0 then
        let r := convertPlain d.efmt xs us
        ((ix.zip r.1).foldl (fun v x => v.setElem glove d x.1 x.2) v, va.2.plus r.2)
      else
        let gs := (cut d.g 128 ix).zip ((cut d.g 128 xs).zip (cut d.g 128 us))
        gs.foldl (fun va g =>
          let r := convertGroup d.efmt d.sfmt g.2.1 g.2.2
          let p := d.place (g.1.headD 0)
          let v := va.1.setTls glove ((d.rowAt p.1).2.toNat + p.2 / d.g) [BitVec.ofNat 8 r.1]
          ((g.1.zip r.2.1).foldl (fun v x => v.setElem glove d x.1 x.2) v, va.2.plus r.2.2)) va
  | o => (v.setOpnds e.ctx o (ix.zip (xs.map Num.to32)), va.2)

/-- The identity, step and combination of a VRED function (R134). -/
def vredId (fn : Nat) : W32 :=
  if fn = 0 ∨ fn = 4 then 0x80000000 else if fn = 1 then 0xFF800000 else if fn = 2 then 0x7F800000 else 0
def vredStep (fn : Nat) (p x : W32) : W32 :=
  if fn = 0 then add32 p x else if fn = 4 then fma32 x x p else if fn = 1 then max32 p x
  else if fn = 2 then min32 p x else max32 p (abs32 x)
def vredJoin (fn : Nat) (p q : W32) : W32 :=
  if fn = 0 ∨ fn = 4 then add32 p q else if fn = 2 then min32 p q else max32 p q

/-- The butterfly over the first 2 d values. -/
def butterfly (fn : Nat) : List Nat → List W32 → List W32
  | [], p => p
  | d :: ds, p => butterfly fn ds (List.zipWith (vredJoin fn) (p.take d) (p.drop d))

/-- Steps the lanes with the elements of a chunk. -/
def laneSteps (fn : Nat) : List W32 → List W32 → List W32
  | p :: ps, x :: xs => vredStep fn p x :: laneSteps fn ps xs
  | ps, [] => ps
  | [], _ => []

/-- VRED over chunks of elements. -/
def vred (fn lanes : Nat) (chunks : List (List W32)) : W32 :=
  let p := chunks.foldl (laneSteps fn) (List.replicate lanes (vredId fn))
  (butterfly fn (if lanes = 128 then [64, 32, 16, 8, 4, 2, 1] else [32, 16, 8, 4, 2, 1]) p).getD 0 0

/-- Runs VRED. -/
def Tile.vredRun (v : Tile) (e : Queued) : Tile :=
  let n := e.n
  let fn := fnOf e.w
  if e.w.ox 13 13 = 1 then
    overChunks n (fun v ix =>
      let rows := cut 64 2 ix
      let rs := rows.map (fun r => ((r.headD 0) / 64, vred fn 64 [r.map (v.opnd32 e.ctx e.opA)]))
      v.setOpnds e.ctx e.opD rs) v
  else
    let cs := (List.range ((n + 127) / 128)).map (fun j => (chunkIx n j).map (v.opnd32 e.ctx e.opA))
    v.setOpnd e.ctx e.opD 0 (vred fn 128 cs)

/-- A cell of the vector engine, and setting one. -/
def Tile.cell (v : Tile) (row j : Nat) : Cell := Tab.look (fun _ => {}) v.cells (128 * row + j)
def Tile.setCell (v : Tile) (row j : Nat) (c : Cell) : Tile :=
  { v with cells := Tab.store (fun _ => {}) v.cells (128 * row + j) c }

/-- Runs VXA. -/
def Tile.vxaRun (v : Tile) (e : Queued) : Tile :=
  let n := e.n
  let fn := fnOf e.w
  let row := e.cellRow
  let glove := (v.ctx e.ctx).glove
  if fn = 0 then
    (List.range n).foldl (fun v i => v.setCell row (i % 128) ((v.cell row (i % 128)).addNum (v.opndNum e.ctx e.opA i))) v
  else if fn = 1 then (List.range n).foldl (fun v i => v.setCell row i {}) v
  else if fn = 2 then
    let sum := (List.range n).foldl (fun c i => c.addCell (v.cell row i)) ({} : Cell)
    ((List.range n).foldl (fun v i => v.setCell row i {}) v).setCell row 0 sum
  else if fn = 3 then
    (List.range n).foldl (fun v i =>
      match e.opD with
      | .tls d => v.setElem glove d i ((v.cell row i).readout (d.efmt == 1))
      | o => v.setOpnd e.ctx o i (BitVec.ofNat 32 ((v.cell row i).readout false))) v
  else if fn = 4 then
    match e.opD with
    | .tls d => (List.range n).foldl (fun v i =>
        ((cut 4 12 (v.cell row i).record).zipIdx).foldl (fun v x => v.setElem glove d (12 * i + x.2) (leNat x.1)) v) v
    | _ => v
  else
    match e.opA with
    | .tls d =>
      ((v.records d n).zipIdx).foldl (fun v x =>
        let c := Cell.ofRecord x.1
        v.setCell row x.2 (if fn = 5 then c else (v.cell row x.2).addCell c)) v
    | _ => v

/-- Runs a queued vector or lace instruction: the tile after it, and its counts. -/
def Tile.vecRun (v : Tile) (e : Queued) : Tile × Counts :=
  let n := e.n
  let fn := fnOf e.w
  if e.cls = 6 then
    overChunks n (fun va ix =>
      let outs := ix.map (fun i => (i, laceRun e (e.opD.coord i) (va.1.opnd32 e.ctx e.opA i)
        (if e.w.ox 13 13 = 1 then va.1.opnd32 e.ctx e.opB i else 0)))
      va.1.setConv e va.2 outs) (v, {})
  else if e.op = 0 then
    (overChunks n (fun v ix => v.setOpnds e.ctx e.opD (ix.map (fun i =>
      (i, vecOp fn (v.opnd32 e.ctx e.opA i) (v.opnd32 e.ctx e.opB i) (v.opnd32 e.ctx e.opD i))))) v, {})
  else if e.op = 2 then
    (overChunks n (fun v ix => v.setOpnds e.ctx e.opD (ix.map (fun i =>
      (i, vecOp fn (v.opnd32 e.ctx e.opA i)
        (v.opnd32 e.ctx e.opB (if e.w.ox 13 13 = 1 then i / 64 else i % 64)) 0)))) v, {})
  else if e.op = 1 then (v.vredRun e, {})
  else if e.op = 3 then overChunks n (Tile.vcvtChunk e) (v, {})
  else (v.vxaRun e, {})

/-- Elements that a vector instruction writes into its destination. -/
def Queued.outs (e : Queued) : Nat := if e.cls = 5 ∧ e.op = 1 then vredCount e.w e.n else e.n

/-- The digest record of a vector instruction that wrote a bank (R122). -/
def State.vecDig (s : State) (t : Nat) (e : Queued) : State :=
  match e.opD with
  | .bank b =>
    if e.cls = 5 ∧ e.op = 4 ∧ fnOf e.w ≠ 3 then s
    else
      let m := e.outs
      let v := s.tile t
      s.dig (ctxId t e.ctx) 0 (accRec e.count e.w.rd.toNat ((m + 63) / 64) (min m 64)
        ((List.range m).map (fun i => v.bankAt b (i / 64) (i % 64))))
  | _ => s

/-- Ends a vector or lace instruction. -/
def State.vecEnd (s : State) (t : Nat) (e : Queued) : State :=
  let v := s.tile t
  let r := v.vecRun e
  let s := (s.setTile t r.1).vecDig t e
  let s := s.bump (TILE_VEC_CNT t) TILE_VEC_CNT_BUSY ((e.n + 127) / 128 + (if e.cls = 5 ∧ e.op = 1 then 7 else 0))
  match e.opD with
  | .tls d => if r.2.converted = 0 then s else s.addStats (ctxId t e.ctx) (v.ctx e.ctx).glove e.stats d r.2
  | _ => s

/-- VEC_INSTR_COMPLETE (R127, R140, R141): the oldest vector or lace instruction ends; `f` names an exact cell with an
uncorrectable error, which fences the tile instead. -/
def execVecInstrComplete (t : Fin 256) (f : Option (Fin 1024)) (s : State) : Out :=
  match (s.tile t).vecQ with
  | [] => done s s
  | e :: _ =>
    let s1 := s.popQueue t 1
    match f with
    | none => done s (s1.vecEnd t e)
    | some c =>
      let g := ((s.tile t).ctx e.ctx).glove
      done s (((s1.bump (TILE_VEC_CNT t) TILE_VEC_CNT_CELL_UE 1).event 0x0107 t g (c / 128) (c % 128)).fenceTile t)

end Sys2Proof.Machine
end

