-- ==== Sys2Proof/Machine/Sparse.lean ====
section
/-! DEFINITION. The S-unit: compressed forms, SPENC, SPDEC and SPMM (chapter 7). -/

namespace Sys2Proof.Machine

open Reg

/-- The stored elements of a row: column and pattern, columns ascending (R146). -/
abbrev SpRow := List (Nat × Nat)

/-- Whether an element pattern is not zero in value (R146). -/
def nonZero (efmt v : Nat) : Bool :=
  match decodeElem efmt v with
  | .fin _ n _ => n != 0
  | _ => true

/-! ### Reading a body (R147, R151) -/

/-- The next n bytes as a number, and the rest. -/
def takeNum (n : Nat) (bs : List Byte) : Option (Nat × List Byte) :=
  if n ≤ bs.length then some (leNat (bs.take n), bs.drop n) else none

/-- The next k numbers of n bytes each. -/
def takeNums (n : Nat) : Nat → List Byte → Option (List Nat × List Byte)
  | 0, bs => some ([], bs)
  | k + 1, bs =>
    match takeNum n bs with
    | some (v, r) => (takeNums n k r).map (fun x => (v :: x.1, x.2))
    | none => none

/-- The non-zero elements of a row of patterns. -/
def denseRow (efmt : Nat) (ps : List Nat) : SpRow := (ps.zipIdx.filter (fun p => nonZero efmt p.1)).map (fun p => (p.2, p.1))

/-- Rows of a DENSE body. -/
def readDense (efmt w cols : Nat) : Nat → List Byte → Option (List SpRow × List Byte)
  | 0, bs => some ([], bs)
  | r + 1, bs =>
    match takeNums w cols bs with
    | some (ps, rest) => (readDense efmt w cols r rest).map (fun x => (denseRow efmt ps :: x.1, x.2))
    | none => none

/-- The groups of a BMV64 row, from group g on. -/
def readBmvRow (w cols : Nat) : Nat → Nat → List Byte → Option (SpRow × List Byte)
  | 0, _, bs => some ([], bs)
  | k + 1, g, bs =>
    match takeNum 8 bs with
    | none => none
    | some (map, r1) =>
      let set := (List.range 64).filter (fun j => map.testBit j)
      if set.any (fun j => decide (cols ≤ 64 * g + j)) then none
      else match takeNums w set.length r1 with
        | none => none
        | some (vs, r2) =>
          (readBmvRow w cols k (g + 1) r2).map (fun x => ((set.map (fun j => 64 * g + j)).zip vs ++ x.1, x.2))

/-- Rows of a BMV64 body. -/
def readBmv (w cols : Nat) : Nat → List Byte → Option (List SpRow × List Byte)
  | 0, bs => some ([], bs)
  | r + 1, bs =>
    match readBmvRow w cols ((cols + 63) / 64) 0 bs with
    | some (row, rest) => (readBmv w cols r rest).map (fun x => (row :: x.1, x.2))
    | none => none

/-- Strictly ascending. -/
def ascending : List Nat → Bool
  | a :: b :: l => decide (a < b) && ascending (b :: l)
  | _ => true

/-- A CSRB body. -/
def readCsrb (w rows cols entries : Nat) (bs : List Byte) : Option (List SpRow × List Byte) :=
  let nb := (cols + 65535) / 65536
  match takeNums 4 (rows * nb + 1) bs with
  | none => none
  | some (ptr, r1) =>
    match takeNums 2 entries r1 with
    | none => none
    | some (ix, r2) =>
      match takeNums w entries r2 with
      | none => none
      | some (vs, r3) =>
        let steps := ptr.zip (ptr.drop 1)
        if ptr.headD 1 ≠ 0 ∨ ptr.getLastD 0 ≠ entries ∨ steps.any (fun p => decide (p.2 < p.1)) then none
        else
          let all := ix.zip vs
          let blocks := steps.zipIdx.map (fun s => (s.2 % (max nb 1), (all.drop s.1.1).take (s.1.2 - s.1.1)))
          if blocks.all (fun b => ascending (b.2.map (fun e => e.1)) && b.2.all (fun e => decide (b.1 * 65536 + e.1 < cols)))
          then
            let rowsOf := cut (max nb 1) rows blocks
            some (rowsOf.map (fun r => r.flatMap (fun b => b.2.map (fun e => (b.1 * 65536 + e.1, e.2)))), r3)
          else none

/-- A COO body. -/
def readCoo (w rows cols entries : Nat) (bs : List Byte) : Option (List SpRow × List Byte) :=
  match takeNums 4 entries bs with
  | none => none
  | some (rs, r1) =>
    match takeNums 4 entries r1 with
    | none => none
    | some (cs, r2) =>
      match takeNums w entries r2 with
      | none => none
      | some (vs, r3) =>
        let keys := (rs.zip cs).map (fun p => p.1 * 2 ^ 32 + p.2)
        if rs.any (fun r => decide (rows ≤ r)) ∨ cs.any (fun c => decide (cols ≤ c)) ∨ ascending keys = false then none
        else
          let es := rs.zip (cs.zip vs)
          some ((List.range rows).map (fun r => (es.filter (fun e => e.1 == r)).map (fun e => e.2)), r3)

/-- One row of an RLZ body, from column c on. -/
def readRlzRow (w cols : Nat) : Nat → Nat → List Byte → Option (SpRow × List Byte)
  | 0, _, _ => none
  | k + 1, c, bs =>
    match bs with
    | [] => none
    | b :: r =>
      if b = 0xFE then (if c ≤ cols then some ([], r) else none)
      else if b = 0xFF then (if c + 254 ≤ cols then readRlzRow w cols k (c + 254) r else none)
      else
        let col := c + b.toNat
        if cols ≤ col then none
        else match takeNum w r with
          | none => none
          | some (v, r2) => (readRlzRow w cols k (col + 1) r2).map (fun x => ((col, v) :: x.1, x.2))

/-- Rows of an RLZ body. -/
def readRlz (w cols : Nat) : Nat → List Byte → Option (List SpRow × List Byte)
  | 0, bs => some ([], bs)
  | r + 1, bs =>
    match readRlzRow w cols (bs.length + 1) 0 bs with
    | some (row, rest) => (readRlz w cols r rest).map (fun x => (row :: x.1, x.2))
    | none => none

/-- The rows of a slot's block, where it is not malformed (R145, R151). -/
def readSlot (d : TDesc) (bs : List Byte) : Option (List SpRow) :=
  let h := BitVec.ofNat 64 (leNat (bs.take 8))
  let body := leNat ((bs.drop 12).take 4)
  let entries := leNat ((bs.drop 8).take 4)
  let f := bits h 3 0
  let rows := d.dim 1
  let cols := d.dim 0
  if bits h 15 13 ≠ 0 ∨ bits h 7 5 ≠ 0 ∨ !(f == 0 || isSlot f) ∨ (h.getLsbD 4 ∧ f ≠ 0) ∨ bits h 12 8 ≠ d.efmt
      ∨ bits h 31 16 ≠ rows ∨ bits h 63 32 ≠ cols ∨ d.capacity < 16 + body then none
  else
    let b := (bs.drop 16).take body
    let r := if f = 0 then readDense d.efmt d.w cols rows b
      else if f = 1 then readBmv d.w cols rows b
      else if f = 3 then readCsrb d.w rows cols entries b
      else if f = 4 then readCoo d.w rows cols entries b
      else readRlz d.w cols rows b
    match r with
    | some (rs, []) => if (rs.map List.length).foldl (· + ·) 0 = entries then some rs else none
    | _ => none

/-- Metadata bytes are of no consequence to results; the slot of a descriptor in a tile's TLS. -/
def Tile.slot (v : Tile) (d : TDesc) : Option (List SpRow) := readSlot d (v.tlsBytes d.base d.capacity)

/-! ### Writing a body (R147, R150) -/

/-- The dense patterns of a row. -/
def fillRow (cols : Nat) (row : SpRow) : List Nat :=
  (List.range cols).map (fun c => ((row.find? (fun e => e.1 == c)).map (fun e => e.2)).getD 0)

/-- A BMV64 row. -/
def writeBmvRow (w cols : Nat) (row : SpRow) : List Byte :=
  (List.range ((cols + 63) / 64)).flatMap (fun g =>
    let es := row.filter (fun e => e.1 / 64 == g)
    leBytes 8 (es.foldl (fun m e => m + 2 ^ (e.1 % 64)) 0) ++ es.flatMap (fun e => leBytes w e.2))

/-- A CSRB body. -/
def writeCsrb (w cols : Nat) (rows : List SpRow) : List Byte :=
  let nb := (cols + 65535) / 65536
  let blocks := rows.flatMap (fun r => (List.range nb).map (fun b => r.filter (fun e => e.1 / 65536 == b)))
  let ptr := blocks.foldl (fun (a : List Nat × Nat) b => (a.1 ++ [a.2], a.2 + b.length)) ([], 0)
  let es := blocks.flatten
  (ptr.1 ++ [ptr.2]).flatMap (leBytes 4) ++ es.flatMap (fun e => leBytes 2 (e.1 % 65536)) ++ es.flatMap (fun e => leBytes w e.2)

/-- A COO body. -/
def writeCoo (w : Nat) (rows : List SpRow) : List Byte :=
  let es := rows.zipIdx.flatMap (fun r => r.1.map (fun e => (r.2, e)))
  es.flatMap (fun e => leBytes 4 e.1) ++ es.flatMap (fun e => leBytes 4 e.2.1) ++ es.flatMap (fun e => leBytes w e.2.2)

/-- The codes of a run of zeros before a value. -/
def rlzGap (gap : Nat) : List Byte := List.replicate (gap / 254) 0xFF ++ [BitVec.ofNat 8 (gap % 254)]

/-- An RLZ row, from column c on. -/
def writeRlzRow (w : Nat) : Nat → SpRow → List Byte
  | _, [] => [0xFE]
  | c, e :: r => rlzGap (e.1 - c) ++ leBytes w e.2 ++ writeRlzRow w (e.1 + 1) r

/-- The body of a form. -/
def writeBody (f w cols : Nat) (rows : List SpRow) : List Byte :=
  if f = 1 then rows.flatMap (writeBmvRow w cols)
  else if f = 3 then writeCsrb w cols rows
  else if f = 4 then writeCoo w rows
  else rows.flatMap (writeRlzRow w 0)

/-- The form that a request gets among the variable forms: the smallest, and among equals the lowest code (R150). -/
def pickForm (req w cols : Nat) (rows : List SpRow) : Nat × List Byte :=
  if req ≠ 0 then (req, writeBody req w cols rows)
  else
    let all := [1, 3, 4, 5].map (fun f => (f, writeBody f w cols rows))
    all.foldl (fun a b => if b.2.length < a.2.length then b else a) (1, writeBody 1 w cols rows)

/-- The block that SPENC writes for a request: form, block bytes, and whether DENSE replaced a form. -/
def encodeBlock (req : Nat) (d : TDesc) (raw : List (List Nat)) : Nat × List Byte × Bool :=
  let rows := raw.map (denseRow d.efmt)
  let p := pickForm req d.w (d.dim 0) rows
  let dense := d.dim 0 * d.dim 1 * d.w
  let avoided := decide (dense ≤ p.2.length)
  let body := if avoided then raw.flatMap (fun r => r.flatMap (leBytes d.w)) else p.2
  let f := if avoided then 0 else p.1
  let entries := (rows.map List.length).foldl (· + ·) 0
  let h := f + (if avoided then 16 else 0) + d.efmt * 2 ^ 8 + d.dim 1 % 65536 * 2 ^ 16 + d.dim 0 * 2 ^ 32
  (f, leBytes 8 h ++ leBytes 4 entries ++ leBytes 4 body.length ++ body, avoided)

/-! ### SPENC (R149, R150) -/

/-- Whether two blocks have one extent and EFMT. -/
def sameExtent (a b : TDesc) : Bool := a.dim 0 == b.dim 0 && a.dim 1 == b.dim 1

/-- SPENC's status. -/
def spencStatus (req : Nat) (d a : TDesc) : Nat :=
  let slotReq := req == 0 || isSlot req
  if !(slotReq || req == 6) then ST_FMT
  else if a.cfmt ≠ 0 ∨ a.efmt ≠ d.efmt then ST_FMT
  else if slotReq ∧ (a.slotFmt = false ∨ isSlot d.cfmt = false ∨ d.slotFmt = false) then ST_FMT
  else if req = 6 ∧ (!(decide (5 ≤ a.efmt ∧ a.efmt ≤ 9)) ∨ a.agrees = false ∨ d.cfmt ≠ 6 ∨ d.agrees = false ∨ d.scale ≠ 0)
  then ST_FMT
  else if a.space ≠ 1 ∨ d.space ≠ 1 ∨ 1 < a.ndim ∨ 1 < d.ndim ∨ sameExtent a d = false ∨ a.packed = false
      ∨ a.dim 0 = 0 ∨ (slotReq ∧ 65535 < a.dim 1) ∨ (req = 6 ∧ d.stride 1 < (d.span : Int)) ∨ a.inTls = false
      ∨ d.inTls = false ∨ overlap a d then ST_RANGE
  else ST_OK

/-- SPENC. Its result register is held until the encoding ends. -/
def execSpenc (k : CtxId) (w : FmtB) (s : State) : Out :=
  done s (s.issueB k w (w.legal .t .t .no .g (ox 3 0)) (fun s =>
    let x := s.ctx k
    let d := TDesc.of (x.desc w.rd.toNat)
    let a := TDesc.of (x.desc w.ra.toNat)
    let st := spencStatus (w.ox 3 0) d a
    if st ≠ ST_OK then some (s.finish k w st)
    else
      let writes := Region.greg k.ctx w.rc.toNat :: d.regions
      if s.waits k 2 a.regions writes then none
      else
        let e := { s.queued k 7 1 w with
                   d := x.desc w.rd.toNat, a := x.desc w.ra.toNat, reads := a.regions, writes := writes }
        some ((s.enqueue k 2 e).finish k w ST_OK)))

/-- Writes SPENC's result; where SD names the same register, the status written at issue stays (R58). -/
def State.spencResult (s : State) (t : Nat) (e : Queued) (f n : Nat) : State :=
  if e.w.rc = e.w.sd then s
  else s.mapCtx (ctxId t e.ctx) (fun x => x.setG e.w.rc.toNat (BitVec.ofNat 64 (f + n * 16)))

/-- SPENC's writes. -/
def State.spencRun (s : State) (t : Nat) (e : Queued) : State :=
  let v := s.tile t
  let d := TDesc.of e.d
  let a := TDesc.of e.a
  let g := (v.ctx e.ctx).glove
  if e.w.ox 3 0 = 6 then
    let rows := (a.rows.zip d.rows).map (fun r =>
      (r.2.1.toNat, v.tlsBytes r.1.1.toNat a.rowBytes ++ v.tlsBytes r.1.2.toNat (a.dim 0 / 32)))
    let s := s.setTile t (rows.foldl (fun v r => v.setTls g r.1 r.2) v)
    s.spencResult t e 6 (a.dim 1 * d.span)
  else
    let r := encodeBlock (e.w.ox 3 0) a (v.rawRows a)
    let s := s.setTile t (v.setTls g d.base r.2.1)
    let s := if r.2.2 then s.bump (TILE_SPM_CNT0 t) TILE_SPM_CNT0_AVOIDED 1 else s
    s.spencResult t e r.1 r.2.1.length

/-! ### SPDEC (R152) -/

/-- SPDEC's status, on the tile that holds the block. -/
def spdecStatus (v : Tile) (d a : TDesc) : Nat :=
  let slot := isSlot a.cfmt
  let range := a.space ≠ 1 ∨ d.space ≠ 1 ∨ 1 < a.ndim ∨ 1 < d.ndim ∨ sameExtent a d = false ∨ d.packed = false
    ∨ (slot ∧ 65535 < a.dim 1) ∨ (a.cfmt = 2 ∧ (a.dim 0 % 4 ≠ 0 ∨ a.stride 1 < (a.span : Int)))
    ∨ (a.cfmt = 6 ∧ a.stride 1 < (a.span : Int)) ∨ a.inTls = false ∨ d.inTls = false ∨ overlap a d
  if d.cfmt ≠ 0 ∨ d.efmt ≠ a.efmt ∨ !(slot || a.cfmt == 2 || a.cfmt == 6) then ST_FMT
  else if slot ∧ (a.slotFmt = false ∨ d.sfmt ≠ 0) then ST_FMT
  else if a.cfmt = 6 ∧ (a.agrees = false ∨ a.scale ≠ 0 ∨ d.sfmt ≠ 1 ∨ d.group ≠ 1 ∨ d.agrees = false) then ST_FMT
  else if slot ∧ a.space = 1 ∧ a.inTls ∧ (v.slot a).isNone then ST_FMT
  else if range then ST_RANGE
  else ST_OK

/-- SPDEC. Its check of the block waits for earlier instructions that write it. -/
def execSpdec (k : CtxId) (w : FmtB) (s : State) : Out :=
  done s (s.issueB k w (w.legal .t .t .no .no 0) (fun s =>
    let x := s.ctx k
    let d := TDesc.of (x.desc w.rd.toNat)
    let a := TDesc.of (x.desc w.ra.toNat)
    if s.locked k a.regions [] then none
    else
      let st := spdecStatus (s.tile k.tile) d a
      if st ≠ ST_OK then some (s.finish k w st)
      else if s.waits k 2 a.regions d.regions then none
      else
        let e := { s.queued k 7 2 w with
                   d := x.desc w.rd.toNat, a := x.desc w.ra.toNat, reads := a.regions, writes := d.regions }
        some ((s.enqueue k 2 e).finish k w ST_OK)))

/-- The raw patterns of a 2:4 row: +0 where the form stores nothing (R95). -/
def nmRawRow (v : Tile) (d : TDesc) (r : Int × Int) : List Nat :=
  let n := d.dim 0 / 2
  let vals := unpack d.ebits n (v.tlsBytes r.1.toNat (d.nmVals false))
  let ixs := leNat (v.tlsBytes (r.1.toNat + d.nmIx false) (d.nmRow false - d.nmIx false))
  vals.zipIdx.foldl (fun row e => row.set (4 * (e.2 / 2) + ixs / 2 ^ (2 * e.2) % 4) e.1) (List.replicate (d.dim 0) 0)

/-- SPDEC's writes. -/
def State.spdecRun (s : State) (t : Nat) (e : Queued) : State :=
  let v := s.tile t
  let d := TDesc.of e.d
  let a := TDesc.of e.a
  let g := (v.ctx e.ctx).glove
  if a.cfmt = 6 then
    s.setTile t ((a.rows.zip d.rows).foldl (fun v r =>
      let b := v.tlsBytes r.1.1.toNat a.span
      (v.setTls g r.2.1.toNat (b.take a.rowBytes)).setTls g r.2.2.toNat (b.drop a.rowBytes)) v)
  else
    let raw := if a.cfmt = 2 then a.rows.map (nmRawRow v a) else ((v.slot a).getD []).map (fillRow (a.dim 0))
    s.setTile t ((d.rows.zip raw).foldl (fun v r => v.setTls g r.1.1.toNat (pack d.ebits r.2)) v)

/-! ### SPMM (R153 to R158) -/

/-- The formats of one kind that SPMM takes. -/
def spmmPair (a b : Nat) : Bool :=
  let f := fun (e : Nat) => decide (1 ≤ e ∧ e ≤ 4)
  (f a && f b) || (a == 10 && b == 10)

/-- SPMM's status. -/
def spmmStatus (v : Tile) (tls : Bool) (d a b : TDesc) : Nat :=
  let range := a.space ≠ 1 ∨ b.space ≠ 1 ∨ 1 < a.ndim ∨ 1 < b.ndim ∨ a.dim 0 ≠ b.dim 1 ∨ b.dim 0 < 1 ∨ 64 < b.dim 0
    ∨ (tls = false ∧ 64 < a.dim 1) ∨ 65535 < a.dim 1 ∨ a.inTls = false ∨ b.inTls = false
    ∨ (tls ∧ (d.space ≠ 1 ∨ 1 < d.ndim ∨ d.dim 0 ≠ b.dim 0 ∨ d.dim 1 ≠ a.dim 1 ∨ d.inTls = false))
  if !(isSlot a.cfmt) then ST_FMT
  else if spmmPair a.efmt b.efmt = false ∨ a.slotFmt = false then ST_FMT
  else if b.sfmt ≠ 0 ∨ b.cfmt ≠ 0 then ST_FMT
  else if tls ∧ (d.efmt ≠ 0 ∨ d.cfmt ≠ 0) then ST_FMT
  else if a.space = 1 ∧ a.inTls ∧ (v.slot a).isNone then ST_FMT
  else if range then ST_RANGE
  else ST_OK

/-- SPMM at issue. -/
def State.spmmIssue (s : State) (k : CtxId) (w : FmtB) : Option State :=
  let x := s.ctx k
  let tls := w.ox 0 0 == 1
  match (if tls then some 0 else x.bank w.rd.toNat) with
  | none => some (s.trap k TR_ACC 0)
  | some bank =>
    let d := TDesc.of (x.desc w.rd.toNat)
    let a := TDesc.of (x.desc w.ra.toNat)
    let b := TDesc.of (x.desc w.rb.toNat)
    if s.locked k a.regions [] then none
    else
      let st := spmmStatus (s.tile k.tile) tls d a b
      if st ≠ ST_OK then some (s.finish k w st)
      else
        let dst := if tls then d.regions else [Region.bank bank]
        if s.waits k 2 (a.regions ++ b.regions ++ dst) dst then none
        else
          let e := { s.queued k 7 0 w with
                     d := x.desc w.rd.toNat, a := x.desc w.ra.toNat, b := x.desc w.rb.toNat, bankD := bank,
                     reads := a.regions ++ b.regions ++ dst, writes := dst }
          some ((s.enqueue k 2 e).finish k w ST_OK)

/-- SPMM. -/
def execSpmm (k : CtxId) (w : FmtB) (s : State) : Out :=
  done s (s.issueB k w (w.legal (if w.ox 0 0 = 1 then .t else .bank) .t .t .no (ox 0 0)) (fun s => s.spmmIssue k w))

/-- An output element of SPMM: segments of 1,024 entries, each summed exactly and rounded, then added in order (R154). -/
def spmmElem (efmt : Nat) (row : SpRow) (b : List (List Num)) (n : Nat) (start : W32) : W32 :=
  let ps := row.map (fun e => (decodeElem efmt e.2).mul ((b.getD e.1 []).getD n (.fin false 0 0)))
  addBlocks start (cut 1024 (ps.length / 1024 + 1) ps)

/-- SPMM's writes. -/
def State.spmmRun (s : State) (t : Nat) (e : Queued) : State :=
  let v := s.tile t
  let a := TDesc.of e.a
  let b := TDesc.of e.b
  let d := TDesc.of e.d
  let rows := (v.slot a).getD []
  let rowsB := v.denseRows b
  let n := b.dim 0
  let tls := e.w.ox 0 0 = 1
  let at0 := fun (m c : Nat) => if tls then (v.elemNum d (m * n + c)).to32 else v.bankAt e.bankD m c
  let out := rows.zipIdx.map (fun r =>
    (List.range n).map (fun c => if r.1.isEmpty then at0 r.2 c else spmmElem a.efmt r.1 rowsB c (at0 r.2 c)))
  let g := (v.ctx e.ctx).glove
  let v := if tls then (d.rows.zip out).foldl (fun v r => v.setTls g r.1.1.toNat (r.2.flatMap (fun w => leBytes 4 w.toNat))) v
    else v.setRows e.bankD 0 out
  let s := s.setTile t v
  let s := if tls then s else s.dig (ctxId t e.ctx) 0 (accRec e.count e.w.rd.toNat rows.length n out.flatten)
  let heavy := min 65536 (max 1024 (s.fget (TILE_SPM_CFG t) TILE_SPM_CFG_HEAVY))
  let s := s.bump (TILE_SPM_CNT1 t) TILE_SPM_CNT1_HEAVY_ROWS (rows.countP (fun r => decide (heavy < r.length)))
  -- the ACLK that streams lose to full conflict queues are not fixed by the manual's rules: a free value
  let lost := (Config.freeWord s.free).toNat % 2 ^ 32
  State.bump { s with free := s.free + 1 } (TILE_SPM_CNT2 t) TILE_SPM_CNT2_CONFLICT lost

/-- SPM_INSTR_COMPLETE (R156, R157, R161): the oldest S-unit instruction ends; `f` names a buffer bank and slot with an
uncorrectable error, which fences the tile instead. -/
def execSpmInstrComplete (t : Fin 256) (f : Option (Fin 256 × Fin 256)) (s : State) : Out :=
  match (s.tile t).spmQ with
  | [] => done s s
  | e :: _ =>
    let s1 := s.popQueue t 2
    match f with
    | none =>
      if e.op = 0 then done s (s1.spmmRun t e) else if e.op = 1 then done s (s1.spencRun t e) else done s (s1.spdecRun t e)
    | some x =>
      let g := ((s.tile t).ctx e.ctx).glove
      done s (((s1.bump (TILE_SPM_CNT1 t) TILE_SPM_CNT1_BUF_UE 1).event 0x0108 t g x.1 x.2).fenceTile t)

end Sys2Proof.Machine
end

