-- ==== Sys2Proof/Machine/Scalar.lean ====
section
/-! DEFINITION. Control flow, scalar arithmetic, descriptors and the system class (chapter 3). -/

namespace Sys2Proof.Machine

open Reg

/-! ### Control (R67) -/

/-- Goes to a branch target; one that is not a multiple of 8 traps (R61). -/
def State.goto (s : State) (k : CtxId) (a : Nat) : State :=
  if a % 8 = 0 then s.mapCtx k (fun x => x.branch (BitVec.ofNat 57 a)) else s.trap k TR_MISALIGN 0

/-- The target of a relative branch: PC + 8 × IMM32. -/
def relTarget (pc : BitVec 57) (imm : W32) : Nat := (pc + imm.signExtend 57 * 8).toNat

/-- BR. -/
def execBr (k : CtxId) (w : FmtA) (s : State) : Out :=
  let legal := w.rd == 0 && w.rb == 0 && w.fn == 0 && (if w.i then w.ra == 0 else w.imm == 0)
  done s (s.issueA k w legal (fun s =>
    let x := s.ctx k
    if w.i then s.goto k (relTarget x.pc w.imm) else s.goto k (x.gr w.ra.toNat).toNat))

/-- The condition of BRC. -/
def brcCond (fn : BitVec 4) (v : W64) : Bool :=
  if fn = 0 then v == 0 else if fn = 1 then v != 0 else if fn = 2 then decide (v.toInt < 0) else decide (0 ≤ v.toInt)

/-- BRC. -/
def execBrc (k : CtxId) (w : FmtA) (s : State) : Out :=
  let legal := w.rd == 0 && w.rb == 0 && w.i && decide (w.fn.toNat ≤ 3)
  done s (s.issueA k w legal (fun s =>
    let x := s.ctx k
    if brcCond w.fn (x.gr w.ra.toNat) then s.goto k (relTarget x.pc w.imm) else s.advance k))

/-- LOOP: the next N instructions run gRA[31:0] times. -/
def execLoop (k : CtxId) (w : FmtA) (s : State) : Out :=
  let legal := w.rd == 0 && w.rb == 0 && !w.i && w.fn == 0 && w.imm != 0 && decide (w.imm.toNat < 65536)
  done s (s.issueA k w legal (fun s =>
    let x := s.ctx k
    let n := (x.gr w.ra.toNat).toNat % 2 ^ 32
    let last := x.pc + BitVec.ofNat 57 (8 * w.imm.toNat)
    if 4 ≤ x.loops.length then s.trap k TR_LOOP 0
    else if n = 0 then s.mapCtx k (fun x => x.onFrom last)
    else s.mapCtx k (fun x => { x with pc := x.pc + 8, loops := ⟨x.pc + 8, last, n⟩ :: x.loops })))

/-- YIELD: the context leaves the issue window and joins those waiting to enter (R47). -/
def execYield (k : CtxId) (w : FmtA) (s : State) : Out :=
  let legal := w.rd == 0 && w.ra == 0 && w.rb == 0 && !w.i && w.fn == 0 && w.imm == 0
  done s (s.issueA k w legal (fun s => ((s.advance k).leave k).join k))

/-- TRAP. -/
def execTrap (k : CtxId) (w : FmtA) (s : State) : Out :=
  let legal := w.rd == 0 && w.ra == 0 && w.rb == 0 && !w.i && w.fn == 0 && decide (w.imm.toNat < 256)
  done s (s.issueA k w legal (fun s => s.trap k TR_SOFT w.imm.toNat))

/-! ### Scalar arithmetic (R68) -/

/-- The second operand of an ALU instruction. -/
def Ctx.second (x : Ctx) (w : FmtA) : W64 := if w.i then immX w.imm else x.gr w.rb.toNat

/-- Whether the operand fields of an ALU word are legal: RB unused with I = 1, IMM32 with I = 0. -/
def aluFields (w : FmtA) : Bool := if w.i then w.rb == 0 else w.imm == 0

/-- An ALU instruction that writes f of its operands to gRD. -/
def State.alu (s : State) (k : CtxId) (w : FmtA) (legal : Bool) (f : W64 → W64 → W64) : State :=
  s.issueA k w (aluFields w && legal) (fun s =>
    (s.mapCtx k (fun x => x.setG w.rd.toNat (f (x.gr w.ra.toNat) (x.second w)))).advance k)

/-- ADD. -/
def execAdd (k : CtxId) (w : FmtA) (s : State) : Out := done s (s.alu k w (w.fn == 0) (fun a b => a + b))
/-- SUB. -/
def execSub (k : CtxId) (w : FmtA) (s : State) : Out := done s (s.alu k w (w.fn == 0) (fun a b => a - b))
/-- MUL. -/
def execMul (k : CtxId) (w : FmtA) (s : State) : Out := done s (s.alu k w (w.fn == 0) (fun a b => a * b))
/-- AND. -/
def execAnd (k : CtxId) (w : FmtA) (s : State) : Out := done s (s.alu k w (w.fn == 0) (fun a b => a &&& b))
/-- OR. -/
def execOr (k : CtxId) (w : FmtA) (s : State) : Out := done s (s.alu k w (w.fn == 0) (fun a b => a ||| b))
/-- XOR. -/
def execXor (k : CtxId) (w : FmtA) (s : State) : Out := done s (s.alu k w (w.fn == 0) (fun a b => a ^^^ b))
/-- SHL: by B[5:0]. -/
def execShl (k : CtxId) (w : FmtA) (s : State) : Out :=
  done s (s.alu k w (w.fn == 0) (fun a b => a <<< (b.toNat % 64)))
/-- SHR: by B[5:0], arithmetically when FN[0] = 1. -/
def execShr (k : CtxId) (w : FmtA) (s : State) : Out :=
  done s (s.alu k w (decide (w.fn.toNat ≤ 1)) (fun a b =>
    if w.fn = 1 then a.sshiftRight (b.toNat % 64) else a >>> (b.toNat % 64)))

/-- The comparison of CMP. -/
def cmpOp (fn : BitVec 4) (a b : W64) : Bool :=
  if fn = 0 then a == b else if fn = 1 then a != b else if fn = 2 then decide (a.toInt < b.toInt)
  else if fn = 3 then decide (b.toInt ≤ a.toInt) else if fn = 4 then decide (a.toNat < b.toNat)
  else decide (b.toNat ≤ a.toNat)

/-- CMP. -/
def execCmp (k : CtxId) (w : FmtA) (s : State) : Out :=
  let legal := aluFields w && decide (w.rd.toNat < 8) && decide (w.fn.toNat ≤ 5)
  done s (s.issueA k w legal (fun s =>
    (s.mapCtx k (fun x => x.setP w.rd.toNat (cmpOp w.fn (x.gr w.ra.toNat) (x.second w)))).advance k))

/-- MOVI. -/
def execMovi (k : CtxId) (w : FmtA) (s : State) : Out :=
  let legal := w.ra == 0 && w.rb == 0 && !w.i && decide (w.fn.toNat ≤ 1)
  done s (s.issueA k w legal (fun s =>
    (s.mapCtx k (fun x => x.setG w.rd.toNat
      (if w.fn = 1 then withBits (x.gr w.rd.toNat) 63 32 w.imm.toNat else immX w.imm))).advance k))

/-! ### Descriptors (R69) -/

/-- The bytes of a synchronous read of glove memory: none where a page refuses it or a poisoned line is met. -/
def State.syncBytes (s : State) (n va len : Nat) : Option (List Byte) :=
  if s.vpoison n va len then none else s.vbytes n va len

/-- TDSET. -/
def execTdset (k : CtxId) (w : FmtB) (s : State) : Out :=
  done s (s.issueB k w (w.legal .t .g .no .no (ox 0 0)) (fun s =>
    let x := s.ctx k
    let a := (x.gr w.ra.toNat).toNat
    let use := fun (s : State) (bs : List Byte) =>
      let ws := bytesWords 8 bs
      let st := recordStatus ws
      if st = ST_OK then (s.mapCtx k (fun x => x.setDesc w.rd.toNat ws)).finish k w ST_OK else s.finish k w st
    if w.ox 0 0 = 1 then
      -- the record must lie in the TLS (listed after ST_FMT, which no record outside it can show)
      if tlsSize < a + 64 then some (s.finish k w ST_RANGE)
      else if s.locked k [.tls a (a + 64)] [] then none
      else some (use s ((s.tile k.tile).tlsBytes a 64))
    else
      if s.locked k [.mem] [] then none
      else match s.syncBytes x.glove a 64 with
      | some bs =>
        match s.touchRange x.glove (k.tile / 64) true a (pagesMet a 64) with
        | some t => some (use t bs)
        | none => some (s.memFault x.glove a 64)
      | none => some (s.memFault x.glove a 64)))

/-- A signed number as a 57-bit address. -/
def addr57 (a : Int) : Nat := (a % 2 ^ 57).toNat

/-- TDADV's effect on a descriptor: BASE and SCALE moved n steps along dimension d, or none where R69 refuses it. -/
def advanceDesc (ws : List W64) (d : Nat) (n : Int) : Option (List W64) :=
  let t := TDesc.of ws
  if t.ndim < d then none
  else
    let put := fun (adv sadv : Int) =>
      (ws.set 0 (withBits (ws.getD 0 0) 56 0 (addr57 (t.base + adv)))).set 6
        (withBits (ws.getD 6 0) 56 0 (addr57 (t.scale + sadv)))
    if d = 0 then
      if (n * t.ebits) % 8 ≠ 0 ∨ (t.scaled ∧ n % (t.g : Int) ≠ 0) then none
      else some (put (n * t.ebits / 8) (if t.scaled then n / (t.g : Int) else 0))
    else
      let adv := n * t.stride d
      let sadv := if t.scaled ∧ (adv * 8) % ((t.g * t.ebits : Nat) : Int) = 0 then adv * 8 / ((t.g * t.ebits : Nat) : Int) else 0
      some (put adv sadv)

/-- TDADV. -/
def execTdadv (k : CtxId) (w : FmtB) (s : State) : Out :=
  let reg := w.ox 23 23 == 1
  let legal := w.legal .t (if reg then .g else .no) .no .no (ox 25 23 ||| (if reg then 0 else ox 22 0))
  done s (s.issueB k w legal (fun s =>
    let x := s.ctx k
    let n := if reg then (x.gr w.ra.toNat).toInt else sext 23 (w.ox 22 0)
    match advanceDesc (x.desc w.rd.toNat) (w.ox 25 24) n with
    | some ws => some ((s.mapCtx k (fun x => x.setDesc w.rd.toNat ws)).finish k w ST_OK)
    | none => some (s.finish k w ST_RANGE)))

/-! ### System (R52, R53, R80) -/

/-- Whether an index names a context control register. -/
def csrKnown (i : Nat) : Bool := decide (i ≤ 0x00C) || decide (0x100 ≤ i ∧ i ≤ 0x108)
/-- Whether it is writable. -/
def csrWritable (i : Nat) : Bool := [2, 3, 6, 7, 8, 9].contains i

/-- The capability registers of the T9 (R53). -/
def capReg (i : Nat) : W64 :=
  match i with
  | 0x100 => 256
  | 0x101 => 0x0108
  | 0x102 => 32
  | 0x103 => 0x0002
  | 0x104 => 16384
  | 0x105 => 4096
  | 0x106 => 65536
  | 0x107 => 1500
  | _ => 16

/-- Whether the task in a context is tainted. -/
def State.ctxTaint (s : State) (k : CtxId) : Bool :=
  match (s.ctx k).task with
  | some q => (match s.task q with
    | some t => t.taint
    | none => false)
  | none => false

/-- A context control register's value. -/
def State.csr (s : State) (k : CtxId) (i : Nat) : W64 :=
  let x := s.ctx k
  match i with
  | 0 => BitVec.ofNat 64 (k.tile + k.ctx * 2 ^ 8 + x.glove * 2 ^ 12)
  | 1 => s.lanyard
  | 10 => s.reg (TILE_CAP k.tile)
  | 11 => BitVec.ofNat 64 x.loops.length
  | 12 => BitVec.ofNat 64 (b1 (s.ctxTaint k))
  | i => if 0x100 ≤ i then capReg i else x.cs i

/-- CSRR. -/
def execCsrr (k : CtxId) (w : FmtB) (s : State) : Out :=
  done s (s.issueB k w (w.legal .g .no .no .no (ox 11 0) && csrKnown (w.ox 11 0))
    (fun s => some (s.result k w w.rd.toNat (s.csr k (w.ox 11 0)))))

/-- A write of a context control register. Writing 0 to TRAP_CAUSE ends the handler state and restores the loop stack
set aside (R52, R60). -/
def Ctx.setCsr (x : Ctx) (i : Nat) (v : W64) : Ctx :=
  if i = 3 then
    if v = 0 then
      match x.loopsAside with
      | some l => { x.setCs 3 0 with loops := l, loopsAside := none }
      | none => x.setCs 3 0
    else x
  else if i = 6 then x.setCs 6 (v &&& 1)
  else x.setCs i v

/-- CSRW. -/
def execCsrw (k : CtxId) (w : FmtB) (s : State) : Out :=
  done s (s.issueB k w (w.legal .no .g .no .no (ox 11 0) && csrKnown (w.ox 11 0)) (fun s =>
    let i := w.ox 11 0
    if csrWritable i then some ((s.mapCtx k (fun x => x.setCsr i (x.gr w.ra.toNat))).finish k w ST_OK)
    else some (s.finish k w ST_DENIED)))

/-- EVT: an event into the tile's queue of 16, from which the service complex's log takes it. -/
def execEvt (k : CtxId) (w : FmtB) (s : State) : Out :=
  done s (s.issueB k w (w.legal .no .g .no .no 0) (fun s =>
    let v := s.tile k.tile
    let x := v.ctx k.ctx
    let code := bits (x.gr w.ra.toNat) 15 0
    if 16 ≤ v.evq.length then some (s.finish k w ST_BUSY)
    else
      let s := s.setTile k.tile { v with evq := v.evq ++ [(k.ctx.val, BitVec.ofNat 64 (code + k.ctx * 65536 + x.glove * 2 ^ 32))] }
      some (s.finish k w ST_OK)))

/-- Takes the events of a tile's queue into the log. -/
def State.drainEvents (s : State) (t : Nat) : State :=
  let v := s.tile t
  let s := s.setTile t { v with evq := [] }
  v.evq.foldl (fun s e => s.event 0x0101 t (bits e.2 37 32) (bits e.2 31 0) 0) s

/-- PERF: the instructions issued by the context; the counts of ACLK are free values (R80). -/
def execPerf (k : CtxId) (w : FmtB) (s : State) : Out :=
  done s (s.issueB k w (w.legal .g .no .no .no (ox 11 0) && decide (w.ox 11 0 ≤ 4)) (fun s =>
    if w.ox 11 0 = 0 then
      let n := (s.ctx k).issued
      let v := if n < 2 ^ 48 then n else 2 ^ 63 + 2 ^ 48 - 1
      some (s.result k w w.rd.toNat (BitVec.ofNat 64 v))
    else
      let f := Config.freeWord s.free &&& 0x8000FFFFFFFFFFFF
      some (State.result { s with free := s.free + 1 } k w w.rd.toNat f)))

end Sys2Proof.Machine
end

