-- ==== Sys2Proof/Machine/Pod.lean ====
section
/-! DEFINITION. Loads, stores, atomics and asynchronous moves, at home and in the pod range; regions and their ownership;
fences (chapters 3, 5, 10 and 12). -/

namespace Sys2Proof.Machine

open Reg

/-- A packet of type ty for this device at the head of an input queue: refused as MALFORMED where its own layout is not
`ok`, else put through the destination's checks and handed on with the glove's slot (R273, R274). -/
def State.receive (s : State) (x : Rx) (ty : Nat) (mine : Packet → Bool) (ok : Packet → Bool)
    (f : State → Packet → Nat → State) : State :=
  match s.headOf x with
  | some p =>
    if p.ty = ty ∧ p.dest = s.self ∧ mine p then
      if ok p then
        match s.screen x p with
        | (t, some (q, n)) => f t q n
        | (t, none) => t
      else (s.popIn x).malformed x p
    else s
  | none => s

/-! ### Exact cells of the slices (R117, R118) -/

/-- The first address of slice-cell space. -/
def cellBase : Nat := 0xF20000400000
/-- The cell at an address. -/
def State.cell (s : State) (a : Nat) : Cell := Tab.look (fun _ => {}) s.slice ((a - cellBase) / 64)
/-- Sets the cell at an address. -/
def State.setCell (s : State) (a : Nat) (c : Cell) : State :=
  { s with slice := Tab.store (fun _ => {}) s.slice ((a - cellBase) / 64) c }

/-- The word at word offset i of a cell's line. -/
def Cell.load (c : Cell) (i : Nat) : W64 :=
  if i < 5 then BitVec.ofNat 64 (c.value.toNat / 2 ^ (64 * i))
  else if i = 5 then BitVec.ofNat 64 c.flags
  else if i = 6 then BitVec.ofNat 64 (c.readout false + c.readout true * 2 ^ 32)
  else 0

/-- The cell after a store to word offset i; none where R118 refuses the store. -/
def Cell.put (c : Cell) (i : Nat) (v : W64) : Option Cell :=
  if i < 5 then
    let old := c.value.toNat / 2 ^ (64 * i) % 2 ^ 64
    some { c with value := BitVec.ofNat 320 (c.value.toNat - old * 2 ^ (64 * i) + v.toNat * 2 ^ (64 * i)) }
  else if i = 5 then (if v.toNat < 16 then some (c.setFlags v.toNat) else none)
  else if i = 6 then none
  else some {}

/-- Whether an access of n bytes at an address of cell space has the one size and alignment allowed. -/
def cellOk (a n : Nat) : Bool := n == 8 && a % 8 == 0

/-! ### Atomics (R223) -/

/-- The value an atomic other than xadd leaves: operation, signed, bytes, old value, operand, compare value. -/
def atomVal (op : Nat) (signed : Bool) (n m b c : Nat) : Nat :=
  let b := b % 2 ^ (8 * n)
  let less := if signed then decide (sext (8 * n) m < sext (8 * n) b) else decide (m < b)
  if op = 0 then (m + b) % 2 ^ (8 * n)
  else if op = 1 then (if less then m else b)
  else if op = 2 then (if less then b else m)
  else if op = 3 then b
  else if m = c % 2 ^ (8 * n) then b else m

/-- The term of an xadd: a FP32 or BF16 operand. -/
def xaddTerm (bf16 : Bool) (b : Nat) : Num := decodeElem (if bf16 then 1 else 0) b

/-! ### Regions (R285 to R287) -/

/-- First address and length in bytes of region entry i. -/
def State.rgnBase (s : State) (i : Nat) : Nat := s.fget (HUB_RGN0 i) HUB_RGN0_BASE * 65536
def State.rgnLen (s : State) (i : Nat) : Nat :=
  let n := s.fget (HUB_RGN2 i) HUB_RGN2_PAGES
  (if n = 0 then 8388608 else n) * 65536

/-- The home device of entry i. -/
def State.rgnHome (s : State) (i : Nat) : BitVec 24 := BitVec.ofNat 24 (s.fget (HUB_RGN1 i) HUB_RGN1_HOME)
/-- The owner of entry i. -/
def State.rgnOwner (s : State) (i : Nat) : BitVec 24 := BitVec.ofNat 24 (s.fget (HUB_RGN1 i) HUB_RGN1_OWNER)

/-- Whether entry i is valid, of a glove and a home, and covers an access. -/
def State.rgnCovers (s : State) (i gid : Nat) (home : BitVec 24) (a len : Nat) : Bool :=
  s.fget (HUB_RGN1 i) HUB_RGN1_VALID == 1 && s.fget (HUB_RGN2 i) HUB_RGN2_GLOVE == gid && s.rgnHome i == home
    && decide (s.rgnBase i ≤ a ∧ a + len ≤ s.rgnBase i + s.rgnLen i)

/-- Whether entry i lets device d write. -/
def State.rgnWrites (s : State) (i : Nat) (d : BitVec 24) : Bool :=
  s.fget (HUB_RGN1 i) HUB_RGN1_W == 1 && (s.fget (HUB_RGN1 i) HUB_RGN1_MODE == 1 || s.rgnOwner i == d)

/-- The check at issue (R286). -/
def State.issueRight (s : State) (n : Nat) (target : BitVec 24) (a len : Nat) (write : Bool) : Bool :=
  (List.range 1024).any (fun i => s.rgnCovers i (s.gid n) target a len &&
    (if write then s.rgnWrites i s.self
        && (s.fget (HUB_RGN1 i) HUB_RGN1_MODE == 1 || s.fget (HUB_RGN1 i) HUB_RGN1_XSTATE == 0)
      else s.fget (HUB_RGN1 i) HUB_RGN1_R == 1))

/-- The check at the target (R287). -/
def State.homeRight (s : State) (n : Nat) (src : BitVec 24) (a len : Nat) (write : Bool) : Bool :=
  (List.range 1024).any (fun i => s.rgnCovers i (s.gid n) s.self a len &&
    (if write then s.rgnWrites i src else s.fget (HUB_RGN1 i) HUB_RGN1_R == 1))

/-- The device and the address there that a pod-range address names (R282). -/
def State.podDev (s : State) (a : Nat) : BitVec 24 := BitVec.ofNat 24 (podOf s.self * 64 + a / 2 ^ 39 % 64)
def podAddr (a : Nat) : Nat := a % 2 ^ 39

/-! ### Requests to other devices (R283, R291) -/

/-- A context as the hub names it. -/
def ctxNum (k : CtxId) : Nat := k.tile.val * 16 + k.ctx.val

/-- The lanyard by which an answer is due. -/
def State.rspDue (s : State) : Nat := s.lanyard.toNat + max 1 (s.fget HUB_POD_CFG HUB_POD_CFG_RSP_US) * 1000

/-- Enters a request; its TAG is the next number of the hub's count. -/
def State.newReq (s : State) (k : CtxId) (w : FmtB) (kind bytes : Nat) (dest : BitVec 24) (taddr line : Nat) : Nat × State :=
  let tag := s.hub.nextTag % 65536
  let r : PodReq := { tag := tag, owner := some (ctxNum k), kind := kind, bytes := bytes, w := w, dest := dest,
                      taddr := taddr, deadline := s.rspDue, glove := (s.ctx k).glove, line := line }
  (tag, { s with hub := { s.hub with reqs := s.hub.reqs ++ [r], nextTag := tag + 1 } })

/-- Sends a LOAD_REQ. -/
def State.sendLoad (s : State) (k : CtxId) (w : FmtB) (kind bytes : Nat) (dest : BitVec 24) (taddr line : Nat) : State :=
  let (tag, s) := s.newReq k w kind bytes dest taddr line
  let s := if kind = 0 then s.mapCtx k (fun x => { x with podLoad := some tag }) else s
  s.sendFor k (s.tagged (s.ctx k).glove
    { ty := tLOAD_REQ, vc := 1, dest := dest, taddr := BitVec.ofNat 57 taddr, len := 8,
      data := leBytes 8 (bytes + tag * 65536) })

/-- Sends a STORE. -/
def State.sendStore (s : State) (k : CtxId) (w : FmtB) (kind : Nat) (dest : BitVec 24) (taddr : Nat) (bs : List Byte) : State :=
  let (_, s) := s.newReq k w kind bs.length dest taddr 0
  s.sendFor k (s.tagged (s.ctx k).glove
    { ty := tSTORE, vc := 1, dest := dest, taddr := BitVec.ofNat 57 taddr, len := bs.length, data := bs })

/-- Whether a request is the one at hand: the first that satisfies p. -/
def State.findReq (s : State) (p : PodReq → Bool) : Option PodReq := s.hub.reqs.find? p

/-- Drops the first request that satisfies p. -/
def dropReq (p : PodReq → Bool) : List PodReq → List PodReq
  | [] => []
  | r :: rs => if p r then rs else r :: dropReq p rs

/-- A request is answered: it is dropped, and a fence of its context may end. -/
def State.answered (s : State) (p : PodReq → Bool) (o : Option Nat) : State :=
  let s := { s with hub := { s.hub with reqs := dropReq p s.hub.reqs } }
  match o with
  | some c => s.recheck (ctxId (c / 16) (c % 16))
  | none => s

/-- A pod load or atomic of a context completes with a status. -/
def State.endLoad (s : State) (r : PodReq) (f : State → CtxId → State) : State :=
  match r.owner with
  | some c =>
    let k := ctxId (c / 16) (c % 16)
    if (s.ctx k).podLoad = some r.tag then f (s.mapCtx k (fun x => { x with podLoad := none })) k else s
  | none => s

/-- Records a refusal in HUB_POD_ERR (R291). -/
def State.podErr (s : State) (n taddr : Nat) (src : BitVec 24) (code : Nat) : State :=
  if s.fget HUB_POD_ERR HUB_POD_ERR_VALID = 1 then s
  else
    let s := s.fset HUB_POD_ERR HUB_POD_ERR_VALID 1
    let s := s.fset HUB_POD_ERR HUB_POD_ERR_SLOT n
    let s := s.fset HUB_POD_ERR HUB_POD_ERR_TADDR taddr
    let s := s.fset HUB_POD_ERR1 HUB_POD_ERR1_SRC src.toNat
    s.fset HUB_POD_ERR1 HUB_POD_ERR1_NAK code

/-- A refusal of a request after issue, or its missing answer (R291): a load or atomic gives a status where one is
stated, else the glove faults. -/
def State.refusedReq (s : State) (r : PodReq) (code : Nat) (src : BitVec 24) : State :=
  let s := s.answered (fun q => q == r) r.owner
  let st := if code = nakNOT_OWNER then ST_OWN else if code = nakSTALE_GLOVE then ST_GLOVE_DEAD else ST_OK
  if (r.kind = 0 ∨ r.kind = 2 ∨ r.kind = 3) ∧ st ≠ ST_OK then s.endLoad r (fun s k => s.finish k r.w st)
  else (s.podErr r.glove r.taddr src code).faultGlove r.glove causeMEMORY

/-! ### LD, ST and ATOM (R78, R283, R286) -/

/-- A value of n bytes, zero- or sign-extended. -/
def extendLd (n : Nat) (sign : Bool) (v : Nat) : W64 := if sign then BitVec.ofInt 64 (sext (8 * n) v) else BitVec.ofNat 64 v

/-- The address of LD and ST: gRA + the signed byte offset. -/
def Ctx.ea (x : Ctx) (w : FmtB) : Nat := (x.gr w.ra.toNat + BitVec.ofInt 64 (sext 20 (w.ox 19 0))).toNat

/-- The status at issue of an access into the pod range. -/
def State.podStatus (s : State) (k : CtxId) (a n : Nat) (write range : Bool) : Nat :=
  if s.issueRight (s.ctx k).glove (s.podDev a) (podAddr a) n write = false then ST_OWN
  else if range then ST_RANGE
  else if s.dying k then ST_GLOVE_DEAD
  else ST_OK

/-- LD. -/
def execLd (k : CtxId) (w : FmtB) (s : State) : Out :=
  done s (s.issueB k w (w.legal .g .g .no .no (ox 25 22 ||| ox 19 0)) (fun s =>
    let x := s.ctx k
    let a := x.ea w
    let n := 2 ^ w.ox 25 24
    let give := fun (s : State) (v : Nat) => s.result k w w.rd.toNat (extendLd n (w.ox 23 23 == 1) v)
    if a % n ≠ 0 then some (s.trap k TR_MISALIGN 0)
    else if w.ox 22 22 = 1 then
      if tlsSize < a + n then some (s.finish k w ST_RANGE)
      else if s.locked k [.tls a (a + n)] [] then none
      else some (give s (leNat ((s.tile k.tile).tlsBytes a n)))
    else if s.locked k [.mem] [] then none
    else
      match s.translate x.glove a .R with
      | none => some (s.memFault x.glove a n)
      | some b =>
        if inPod b then
          let st := s.podStatus k b n false false
          if st = ST_OK then some (s.sendLoad k w 0 n (s.podDev b) (podAddr b) 0) else some (s.finish k w st)
        else if inCells b then
          if cellOk b n then some (give s ((s.cell b).load (b % 64 / 8)).toNat) else some (s.finish k w ST_RANGE)
        else if s.poisoned b then some (s.memFault x.glove a n)
        else
          match s.touch (b / 65536) (k.tile / 64) true with
          | some t => some (give t (t.rd b n))
          | none => some (s.memFault x.glove a n)))

/-- ST. -/
def execSt (k : CtxId) (w : FmtB) (s : State) : Out :=
  done s (s.issueB k w (w.legal .no .g .g .no (ox 25 24 ||| ox 22 22 ||| ox 19 0)) (fun s =>
    let x := s.ctx k
    let a := x.ea w
    let n := 2 ^ w.ox 25 24
    let v := x.gr w.rb.toNat
    let bs := leBytes n v.toNat
    if a % n ≠ 0 then some (s.trap k TR_MISALIGN 0)
    else if w.ox 22 22 = 1 then
      if tlsSize < a + n then some (s.finish k w ST_RANGE)
      else if s.locked k [] [.tls a (a + n)] then none
      else some ((s.setTile k.tile ((s.tile k.tile).setTls x.glove a bs)).finish k w ST_OK)
    else if s.locked k [] [.mem] then none
    else
      match s.translate x.glove a .W with
      | none => some (s.memFault x.glove a n)
      | some b =>
        if inPod b then
          let st := s.podStatus k b n true false
          if st = ST_OK then some ((s.sendStore k w 1 (s.podDev b) (podAddr b) bs).finish k w ST_OK)
          else some (s.finish k w st)
        else if inCells b then
          match (if cellOk b n then (s.cell b).put (b % 64 / 8) v else none) with
          | some c => some ((s.setCell b c).finish k w ST_OK)
          | none => some (s.finish k w ST_RANGE)
        else
          match s.touch (b / 65536) (k.tile / 64) true with
          | some t => some ((t.setBytes b bs).finish k w ST_OK)
          | none => some (s.memFault x.glove a n)))

/-- Whether the fields of an ATOM go together (R78). -/
def atomLegal (w : FmtB) : Bool :=
  let op := w.ox 25 23
  w.legal .g .g .g .g (ox 25 19) && decide (op ≤ 5) && decide (2 ≤ w.ox 21 20)
    && (op == 4 || w.rc == 0) && (op == 1 || op == 2 || w.ox 22 22 == 0) && (op == 5 || w.ox 19 19 == 0)
    && (op != 5 || w.rd == 0)

/-- The address of an atomic, which needs both rights. -/
def State.atomAddr (s : State) (n a : Nat) : Option Nat :=
  match s.translate n a .R, s.translate n a .W with
  | some b, some _ => some b
  | _, _ => none

/-- An atomic at a home slice: the old value and the state after it, or a refusal with ST_RANGE; none of both where the
glove faults. -/
inductive AtomRes where
  | ok (s : State) (old : Nat)
  | range
  | fault

/-- Applies an atomic at a local-range or cell address (R118, R223). -/
def State.atomHere (s : State) (b op n : Nat) (signed bf16 : Bool) (v c die : Nat) : AtomRes :=
  if inCells b then
    if op = 5 ∧ n = 8 ∧ b % 64 = 0 then .ok (s.setCell b ((s.cell b).addNum (xaddTerm bf16 v))) 0 else .range
  else if op = 5 then .range
  else if s.poisoned b then .fault
  else
    match s.touch (b / 65536) die true with
    | some t => let m := t.rd b n
      .ok (t.setBytes b (leBytes n (atomVal op signed n m v c))) m
    | none => .fault

/-- ATOM. -/
def execAtom (k : CtxId) (w : FmtB) (s : State) : Out :=
  done s (s.issueB k w (atomLegal w) (fun s =>
    let x := s.ctx k
    let a := (x.gr w.ra.toNat).toNat
    let op := w.ox 25 23
    let n := 2 ^ w.ox 21 20
    let sg := w.ox 22 22
    let bf := w.ox 19 19
    let v := x.gr w.rb.toNat
    let c := x.gr w.rc.toNat
    if a % n ≠ 0 then some (s.trap k TR_MISALIGN 0)
    else if s.locked k [] [.mem] then none
    else
      match s.atomAddr x.glove a with
      | none => some (s.memFault x.glove a n)
      | some b =>
        if inPod b then
          let st := s.podStatus k b n true (op == 5 && n != 8)
          if st ≠ ST_OK then some (s.finish k w st)
          else
            let ret := w.rd != 0
            let d := s.podDev b
            let (tag, s) := s.newReq k w (if ret then 2 else 3) n d (podAddr b) 0
            let s := s.mapCtx k (fun x => { x with podLoad := some tag })
            let w0 := op + sg * 8 + w.ox 21 20 * 16 + bf * 64 + tag * 65536 + b1 ret * 2 ^ 32
            some (s.sendFor k (s.tagged x.glove
              { ty := tATOMIC, vc := 1, dest := d, taddr := BitVec.ofNat 57 (podAddr b), len := 24,
                data := wordsBytes [BitVec.ofNat 64 w0, v, c] }))
        else
          match s.atomHere b op n (sg == 1) (bf == 1) v.toNat c.toNat (k.tile / 64) with
          | .ok t m => some (t.result k w w.rd.toNat (BitVec.ofNat 64 m))
          | .range => some (s.finish k w ST_RANGE)
          | .fault => some (s.memFault x.glove a n)))

/-! ### Fences (R79) -/

/-- FENCE: goes on at once, or leaves the issue window until nothing it waits for is outstanding. -/
def execFence (k : CtxId) (w : FmtB) (s : State) : Out :=
  done s (s.issueB k w (w.legal .no .no .no .no (ox 9 0) false) (fun s =>
    let mask := w.ox 7 0
    let order := w.ox 8 8 == 1
    let acks := w.ox 9 9 == 1
    if s.fenceDone k mask order acks then some (s.advance k)
    else some ((s.mapCtx k (fun x => { x with wait := .fence mask order acks })).leave k)))

/-! ### Asynchronous moves (R70, R71) -/

/-- A byte range cut at the lines of 64 bytes: start and length of each piece. -/
def linePieces (a len : Nat) : List (Nat × Nat) :=
  (List.range ((a % 64 + len + 63) / 64)).map (fun i =>
    let l := a / 64 * 64 + 64 * i
    (max a l, min (a + len) (l + 64) - max a l))

/-- The status of a move's descriptors: destination d, source a. -/
def moveStatus (store : Bool) (d a : TDesc) : Nat :=
  if (if store then d.space ≠ 0 ∨ a.space ≠ 1 else d.space ≠ 1) ∨ d.dims ≠ a.dims ∨ d.packed = false
      ∨ d.inTls = false ∨ a.inTls = false ∨ (a.space = d.space ∧ overlap d a) then ST_RANGE
  else if d.efmt ≠ a.efmt ∨ d.sfmt ≠ a.sfmt ∨ d.group ≠ a.group ∨ d.cfmt ≠ a.cfmt
      ∨ (if isSlot d.cfmt then d.slotFmt = false else d.agrees = false ∨ a.agrees = false) then ST_FMT
  else ST_OK

/-- The line pieces of a block in glove memory that a page of the pod range holds: glove-virtual address, pod-range
address, bytes. -/
def State.podPieces (s : State) (n : Nat) (d : TDesc) (r : Right) : List (Nat × Nat × Nat) :=
  if d.space = 1 then []
  else d.spans.flatMap (fun sp => (linePieces (sp.1 % 2 ^ 57).toNat sp.2).filterMap (fun p =>
    match s.translate n p.1 r with
    | some b => if inPod b then some (p.1, b, p.2) else none
    | none => none))

/-- Bytes of the source of a move: TLS, local range, or lines fetched from the pod range; none where a page refuses
them or a line is poisoned. -/
def State.moveRead (s : State) (k : CtxId) (space a len : Nat) : Option (List Byte) :=
  let x := s.ctx k
  if space = 1 then some ((s.tile k.tile).tlsBytes a len)
  else (linePieces a len).foldl (fun acc p =>
    match acc, s.translate x.glove p.1 .R with
    | some bs, some b =>
      if inPod b then some (bs ++ (List.range p.2).map (fun i => Tab.look (fun _ => 0) x.staged (p.1 + i)))
      else if b < localSize ∧ s.poisoned b = false then some (bs ++ s.bytes b p.2)
      else none
    | _, _ => none) (some [])

/-- Writes bytes at the destination of a move; pieces in the pod range were sent as STORE packets at issue. -/
def State.moveWrite (s : State) (k : CtxId) (space a : Nat) (bs : List Byte) : Option State :=
  let n := (s.ctx k).glove
  if space = 1 then some (s.setTile k.tile ((s.tile k.tile).setTls n a bs))
  else (linePieces a bs.length).foldl (fun acc p =>
    match acc with
    | some t =>
      match t.translate n p.1 .W with
      | some b => if inPod b then some t else t.setVbytes n p.1 ((bs.drop (p.1 - a)).take p.2)
      | none => none
    | none => none) (some s)

/-- The address of a span: a TLS offset, or a glove-virtual address. -/
def spanAddr (space : Nat) (a : Int) : Nat := if space = 1 then a.toNat else (a % 2 ^ 57).toNat

/-- The spans a move copies: destination, source, bytes. A slot gives the 16 + BODY bytes its header names (R144). -/
def State.moveSpans (s : State) (k : CtxId) (d a : TDesc) : List (Nat × Nat × Nat) :=
  (d.spans.zip a.spans).map (fun x =>
    let src := spanAddr a.space x.2.1
    let len := if isSlot a.cfmt then
        match s.moveRead k a.space src 16 with
        | some h => min (16 + leNat ((h.drop 12).take 4)) a.capacity
        | none => a.capacity
      else x.1.2
    (spanAddr d.space x.1.1, src, len))

/-- Copies spans; the first one refused faults the glove (R62). -/
def State.copySpans (s : State) (k : CtxId) (d a : TDesc) : List (Nat × Nat × Nat) → State
  | [] => s
  | (da, sa, len) :: r =>
    let n := (s.ctx k).glove
    match s.touchRange n (k.tile / 64) true sa (if a.space = 1 then 0 else pagesMet sa len) with
    | none => s.memFault n sa len
    | some s =>
      match s.moveRead k a.space sa len with
      | none => s.memFault n sa len
      | some bs =>
        match s.moveWrite k d.space da bs with
        | some t => State.copySpans t k d a r
        | none => s.memFault n da len

/-- Sends the pod-range line reads of a move. -/
def State.fetchLines (s : State) (k : CtxId) (w : FmtB) (ps : List (Nat × Nat × Nat)) : State :=
  ps.foldl (fun s p =>
    let line := p.1 / 64 * 64
    let taddr := podAddr p.2.1 / 64 * 64
    if s.hub.reqs.any (fun r => r.kind == 4 && r.owner == some (ctxNum k) && r.line == line) then s
    else s.sendLoad k w 4 64 (s.podDev p.2.1) taddr line) s

/-- Sends the pod-range pieces of a store's destination. -/
def State.storeLines (s : State) (k : CtxId) (w : FmtB) (d a : TDesc) : State :=
  (s.moveSpans k d a).foldl (fun s sp =>
    match s.moveRead k a.space sp.2.1 sp.2.2 with
    | none => s
    | some bs =>
      (linePieces sp.1 sp.2.2).foldl (fun s p =>
        match s.translate (s.ctx k).glove p.1 .W with
        | some b => if inPod b then
            s.sendStore k w 5 (s.podDev b) (podAddr b) ((bs.drop (p.1 - sp.1)).take p.2) else s
        | none => s) s) s

/-- Issues LDT or STT: the checks at issue, the packets of its pod-range lines, and the move under its tag. -/
def State.startMove (s : State) (k : CtxId) (w : FmtB) (store : Bool) : Option State :=
  let x := s.ctx k
  let dw := x.desc w.rd.toNat
  let aw := x.desc w.ra.toNat
  let d := TDesc.of dw
  let a := TDesc.of aw
  let st := moveStatus store d a
  if st ≠ ST_OK then some (s.finish k w st)
  else if s.locked k a.regions d.regions then none
  else
    let src := s.podPieces x.glove a .R
    let dst := s.podPieces x.glove d .W
    if (src ++ dst).isEmpty = false ∧ s.dying k then some (s.finish k w ST_GLOVE_DEAD)
    else if src.any (fun p => !(s.issueRight x.glove (s.podDev p.2.1) (podAddr p.2.1) p.2.2 false))
        || dst.any (fun p => !(s.issueRight x.glove (s.podDev p.2.1) (podAddr p.2.1) p.2.2 true)) then
      some (s.faultGlove x.glove causeMEMORY)
    else
      let s := s.fetchLines k w src
      let s := if dst.isEmpty then s else s.storeLines k w d a
      let s := s.mapCtx k (fun x => { x with moves := x.moves ++ [⟨w.ox 2 0, store, dw, aw⟩] })
      some (s.finish k w ST_OK)

/-- LDT. -/
def execLdt (k : CtxId) (w : FmtB) (s : State) : Out :=
  done s (s.issueB k w (w.legal .t .t .no .no (ox 2 0)) (fun s => s.startMove k w false))

/-- STT. -/
def execStt (k : CtxId) (w : FmtB) (s : State) : Out :=
  done s (s.issueB k w (w.legal .t .t .no .no (ox 2 0)) (fun s => s.startMove k w true))

/-- PREF: a hint with no effect on any value. -/
def execPref (k : CtxId) (w : FmtB) (s : State) : Out :=
  done s (s.issueB k w (w.legal .no .t .no .no 0 false) (fun s => some (s.advance k)))

/-- MOVE_COMPLETE (R71): move j of a context has all its bytes written, once the answers for its pod-range lines are in. -/
def execMoveComplete (k : CtxId) (j : Nat) (s : State) : Out :=
  let x := s.ctx k
  match x.moves[j]? with
  | some m =>
    if x.stopped ∨ s.hub.reqs.any (fun r => (r.kind == 4 || r.kind == 5) && r.owner == some (ctxNum k)) then done s s
    else
      let d := TDesc.of m.dst
      let a := TDesc.of m.src
      let t := s.copySpans k d a (s.moveSpans k d a)
      let t := t.mapCtx k (fun x =>
        { x with moves := x.moves.eraseIdx j, staged := if x.moves.length ≤ 1 then [] else x.staged })
      done s (t.recheck k)
  | none => done s s

/-! ### Remote accesses at their target (R284, R287) -/

/-- Whether an access to the local range or a cell of this device is in order: NAK code, or 0. -/
def State.targetCode (s : State) (n : Nat) (src : BitVec 24) (a len : Nat) (read write : Bool) : Nat :=
  let b := s.translate n a (if write then .W else .R)
  match b with
  | none => nakRANGE
  | some b =>
    if inPod b ∨ (read ∧ (s.translate n a .R).isNone) ∨ (inCells b ∧ cellOk b len = false) then nakRANGE
    else if s.homeRight n src a len write = false then nakNOT_OWNER
    else 0

/-- The address at home of an access that targetCode passed. -/
def State.targetAddr (s : State) (n a : Nat) : Nat := (s.anyRight n a).getD 0

/-- STORE_RECEIVE: 1 to 64 bytes within one line; the ACK's TAG is the sender's to know and open here. -/
def execStoreReceive (x : Rx) (s : State) : Out :=
  done s (s.receive x tSTORE (fun _ => true)
    (fun p => decide (1 ≤ p.len ∧ p.taddr.toNat % 64 + p.len ≤ 64)) (fun s p n =>
      let a := p.taddr.toNat
      let code := s.targetCode n p.src a p.len false true
      let b := s.targetAddr n a
      let tag := (Config.freeWord s.free).toNat % 65536
      let reply := fun (t : State) => ({ t with free := t.free + 1 } : State).ack p (BitVec.ofNat 64 tag) 0
      if code ≠ 0 then s.nak p code
      else if inCells b then
        match (s.cell b).put (b % 64 / 8) (BitVec.ofNat 64 (leNat p.data)) with
        | some c => reply (s.setCell b c)
        | none => s.nak p nakRANGE
      else
        match s.setVbytes n a p.data with
        | some t => reply t
        | none => s.memFault n a p.len))

/-- The layout of a LOAD_REQ's payload. -/
def loadReqOk (p : Packet) : Bool :=
  let v := p.word 0
  let n := bits v 6 0
  p.len == 8 && bits v 15 7 == 0 && bits v 63 32 == 0 && (n == 1 || n == 2 || n == 4 || n == 8 || n == 64)
    && p.taddr.toNat % n == 0

/-- LOAD_REQ_RECEIVE: a poisoned line makes the answer carry POISON. -/
def execLoadReqReceive (x : Rx) (s : State) : Out :=
  done s (s.receive x tLOAD_REQ (fun _ => true) loadReqOk (fun s p n =>
    let a := p.taddr.toNat
    let len := bits (p.word 0) 6 0
    let tag := bits (p.word 0) 31 16
    let code := s.targetCode n p.src a len true false
    let b := s.targetAddr n a
    let reply := fun (t : State) (poison : Bool) (bs : List Byte) =>
      t.send (t.tagged n { ty := tLOAD_RSP, vc := 2, dest := p.src, len := 8 + len, poison := poison,
                           data := leBytes 8 tag ++ bs })
    if code ≠ 0 then s.nak p code
    else if inCells b then reply s false (leBytes 8 ((s.cell b).load (b % 64 / 8)).toNat)
    else
      match s.touch (b / 65536) 0 true with
      | some t => reply t (t.poisoned b) (t.bytes b len)
      | none => s.memFault n a len))

/-- The layout of an ATOMIC's payload. -/
def atomicOk (p : Packet) : Bool :=
  let v := p.word 0
  let op := bits v 2 0
  let size := bits v 5 4
  p.len == 24 && decide (op ≤ 5) && decide (2 ≤ size) && bits v 15 7 == 0 && bits v 63 33 == 0
    && (op == 1 || op == 2 || bits v 3 3 == 0) && (op == 5 || bits v 6 6 == 0) && (op != 5 || bits v 32 32 == 0)
    && p.taddr.toNat % 2 ^ size == 0

/-- ATOMIC_RECEIVE. -/
def execAtomicReceive (x : Rx) (s : State) : Out :=
  done s (s.receive x tATOMIC (fun _ => true) atomicOk (fun s p n =>
    let a := p.taddr.toNat
    let v := p.word 0
    let len := 2 ^ bits v 5 4
    let tag := bits v 31 16
    let code := s.targetCode n p.src a len true true
    let b := s.targetAddr n a
    if code ≠ 0 then s.nak p code
    else
      match s.atomHere b (bits v 2 0) len (bits v 3 3 == 1) (bits v 6 6 == 1) (p.word 1).toNat (p.word 2).toNat 0 with
      | .ok t m =>
        if bits v 32 32 = 1 then
          t.send (t.tagged n { ty := tLOAD_RSP, vc := 2, dest := p.src, len := 8 + len,
                               data := leBytes 8 tag ++ leBytes len m })
        else t.ack p (BitVec.ofNat 64 tag) 0
      | .range => s.nak p nakRANGE
      | .fault => s.memFault n a len))

/-- LOAD_RSP_RECEIVE: completes the load or atomic, or fills the line of the move, that its TAG names. -/
def execLoadRspReceive (x : Rx) (s : State) : Out :=
  done s (s.receive x tLOAD_RSP (fun _ => true) (fun p => decide (9 ≤ p.len) && bits (p.word 0) 63 16 == 0) (fun s p n =>
    let tag := bits (p.word 0) 15 0
    let mine := fun (r : PodReq) => r.tag == tag && (r.kind == 0 || r.kind == 2 || r.kind == 4) && r.glove == n
      && r.dest == p.src && p.len == 8 + r.bytes
    match s.findReq mine with
    | none => s
    | some r =>
      let bs := p.data.drop 8
      if r.kind = 4 then
        let s := match r.owner with
          | some c => s.mapCtx (ctxId (c / 16) (c % 16)) (fun x => { x with staged := Tab.fill (fun _ => 0) x.staged r.line bs })
          | none => s
        s.answered mine r.owner
      else
        let v := extendLd r.bytes (r.kind == 0 && r.w.ox 23 23 == 1) (leNat bs)
        (s.answered mine r.owner).endLoad r (fun s k => s.result k r.w r.w.rd.toNat v)))

/-- An ACK for a STORE, in the order they were sent to the device, or for an ATOMIC by its TAG (R284). -/
def State.podAck (s : State) (p : Packet) (n ty : Nat) : State :=
  if ty = tSTORE then
    let mine := fun (r : PodReq) => (r.kind == 1 || r.kind == 5) && r.dest == p.src && r.glove == n
    match s.findReq mine with
    | some r => s.answered mine r.owner
    | none => s
  else
    let mine := fun (r : PodReq) => r.kind == 3 && r.dest == p.src && r.glove == n && r.tag == bits (p.word 2) 15 0
    match s.findReq mine with
    | some r => (s.answered mine r.owner).endLoad r (fun s k => s.finish k r.w ST_OK)
    | none => s

/-- A NAK for a STORE, LOAD_REQ or ATOMIC (R291). -/
def State.podNak (s : State) (p : Packet) (n ty : Nat) : State :=
  let code := bits (p.word 0) 7 0
  let near := bits (p.word 0) 17 17 == 1
  let src := BitVec.ofNat 24 (bits (p.word 1) 55 32)
  let mine := fun (r : PodReq) => r.glove == n && (near || r.dest == src) && r.taddr == bits (p.word 2) 56 0
    && (if ty = tSTORE then r.kind == 1 || r.kind == 5
      else r.tag == bits (p.word 3) 31 16
        && (if ty = tLOAD_REQ then r.kind == 0 || r.kind == 4 else r.kind == 2 || r.kind == 3))
  match s.findReq mine with
  | some r => s.refusedReq r code src
  | none => s

/-- POD_RSP_TIMEOUT (R291): no answer within RSP_US. -/
def execPodRspTimeout (tag : Nat) (s : State) : Out :=
  match s.findReq (fun r => r.tag == tag && decide (r.deadline ≤ s.lanyard.toNat)) with
  | some r => done s (s.refusedReq r 0xFF r.dest)
  | none => done s s

/-! ### Region commands and the transfer of ownership (R285, R288 to R290) -/

/-- The command fields and STATUS of HUB_RGN_CMD after a command on entry i. -/
def State.rgnStatus (s : State) (i st : Nat) : State :=
  (s.fset HUB_RGN_CMD HUB_RGN_CMD_ENTRY i).fset HUB_RGN_CMD HUB_RGN_CMD_STATUS st

/-- RGN_COMMIT: refused where the entry would overlap a valid one of its glove and home. -/
def execRgnCommit (i : Fin 1024) (s : State) : Out :=
  let gl := s.fget (HUB_RGN2 i) HUB_RGN2_GLOVE
  let bad := (List.range 1024).any (fun j => j != i.val && s.fget (HUB_RGN1 j) HUB_RGN1_VALID == 1
    && s.fget (HUB_RGN2 j) HUB_RGN2_GLOVE == gl && s.rgnHome j == s.rgnHome i
    && decide (s.rgnBase j < s.rgnBase i + s.rgnLen i ∧ s.rgnBase i < s.rgnBase j + s.rgnLen j))
  if bad then done s (s.rgnStatus i ST_RANGE)
  else done s ((s.fset (HUB_RGN1 i) HUB_RGN1_VALID 1).rgnStatus i ST_OK)

/-- RGN_CLEAR: the entry is no longer valid, and an exchange on it ends. -/
def execRgnClear (i : Fin 1024) (s : State) : Out :=
  let s' := (s.fset (HUB_RGN1 i) HUB_RGN1_VALID 0).fset (HUB_RGN1 i) HUB_RGN1_XSTATE 0
  let s' := { s' with hub := { s'.hub with xfers := s'.hub.xfers.filter (fun x => x.entry != i.val) } }
  done s (s'.rgnStatus i ST_OK)

/-- RGN_TRANSFER: step 1 of R288. -/
def execRgnTransfer (i : Fin 1024) (owner : BitVec 24) (knot : BitVec 14) (s : State) : Out :=
  let t := (s.fset HUB_RGN_CMD HUB_RGN_CMD_NEW_OWNER owner.toNat).fset HUB_RGN_CMD HUB_RGN_CMD_KNOT knot.toNat
  let t := t.fset HUB_RGN_CMD HUB_RGN_CMD_ENTRY i
  if s.fget (HUB_RGN1 i) HUB_RGN1_VALID = 1 ∧ s.fget (HUB_RGN1 i) HUB_RGN1_MODE = 0 ∧ s.rgnOwner i = s.self
      ∧ s.fget (HUB_RGN1 i) HUB_RGN1_XSTATE = 0 then
    let t := t.fset (HUB_RGN1 i) HUB_RGN1_XSTATE 1
    done s { t with hub := { t.hub with xfers := t.hub.xfers ++ [⟨i, owner, knot.toNat, false, 0⟩] } }
  else done s (t.fset HUB_RGN_CMD HUB_RGN_CMD_STATUS ST_DENIED)

/-- Whether a write of this device into entry i's region has not been answered (R288 step 2). -/
def State.rgnWriteOut (s : State) (n i : Nat) : Bool :=
  let b := s.rgnBase i
  let e := b + s.rgnLen i
  s.hub.reqs.any (fun r => (r.kind == 1 || r.kind == 2 || r.kind == 3 || r.kind == 5) && r.glove == n
      && r.dest == s.rgnHome i && decide (b ≤ r.taddr ∧ r.taddr < e))
    || s.hub.transfers.any (fun t => t.put && t.glove == n && !t.waiting.isEmpty
      && BitVec.ofNat 24 (bits (t.desc.getD 2 0) 55 32) == s.rgnHome i
      && decide (bits (t.desc.getD 1 0) 56 0 < e ∧ b < bits (t.desc.getD 1 0) 56 0 + bits (t.desc.getD 2 0) 31 0))

/-- The ACTIVE slot of a global glove id. -/
def State.slotOfGid (s : State) (gid : Nat) : Option Nat :=
  (List.range 64).find? (fun n => s.gstate n == gACTIVE && s.gid n == gid)

/-- An ownership message (R289). -/
def ownMsg (kind oseq : Nat) (owner : BitVec 24) (base knot : Nat) (dest : BitVec 24) : Packet :=
  { ty := tMGMT, vc := 6, dest := dest, len := 32,
    data := wordsBytes [BitVec.ofNat 64 (kind + oseq % 65536 * 2 ^ 16 + owner.toNat * 2 ^ 40), BitVec.ofNat 64 base,
                        BitVec.ofNat 64 knot, 0] }

/-- An exchange whose OWN_XFER has been sent. -/
def OwnXfer.asked (y : OwnXfer) (due : Nat) : OwnXfer := { y with sent := true, deadline := due }

/-- RGN_TRANSFER_FLUSHED: step 3 of R288. -/
def execRgnTransferFlushed (i : Fin 1024) (s : State) : Out :=
  match s.hub.xfers.find? (fun x => x.entry == i.val && !x.sent), s.slotOfGid (s.fget (HUB_RGN2 i) HUB_RGN2_GLOVE) with
  | some x, some n =>
    if s.rgnWriteOut n i then done s s
    else
      let xs := s.hub.xfers.map (fun y => if y.entry = i.val then y.asked s.rspDue else y)
      let t := { s with hub := { s.hub with xfers := xs } }
      done s (t.send (t.tagged n (ownMsg 0x10 (s.fget (HUB_RGN2 i) HUB_RGN2_OSEQ) x.newOwner (s.rgnBase i) x.knot
        (s.rgnHome i))))
  | _, _ => done s s

/-- Whether a MGMT packet is an ownership message of a kind, and its layout. -/
def isOwn (kind : Nat) (p : Packet) : Bool := bits (p.word 0) 7 0 == kind
def ownOk (p : Packet) : Bool :=
  p.len == 32 && p.gloved && bits (p.word 0) 15 8 == 0 && bits (p.word 0) 39 32 == 0 && bits (p.word 1) 63 57 == 0
    && bits (p.word 2) 63 14 == 0 && p.word 3 == 0
def Packet.ownOseq (p : Packet) : Nat := bits (p.word 0) 31 16
def Packet.ownNew (p : Packet) : BitVec 24 := BitVec.ofNat 24 (bits (p.word 0) 63 40)

/-- The valid entry of a glove with a home and base. -/
def State.rgnFind (s : State) (gid : Nat) (home : BitVec 24) (base : Nat) : Option Nat :=
  (List.range 1024).find? (fun i => s.fget (HUB_RGN1 i) HUB_RGN1_VALID == 1 && s.fget (HUB_RGN2 i) HUB_RGN2_GLOVE == gid
    && s.rgnHome i == home && s.rgnBase i == base)

/-- Sets the owner of entry i. -/
def State.setOwner (s : State) (i : Nat) (d : BitVec 24) : State := s.fset (HUB_RGN1 i) HUB_RGN1_OWNER d.toNat

/-- OWN_XFER_RECEIVE: step 4 of R288. -/
def execOwnXferReceive (x : Rx) (s : State) : Out :=
  done s (s.receive x tMGMT (isOwn 0x10) ownOk (fun s p n =>
    let base := (p.word 1).toNat
    match s.rgnFind p.glove.toNat s.self base with
    | some i =>
      if s.rgnOwner i = p.src ∧ s.fget (HUB_RGN2 i) HUB_RGN2_OSEQ = p.ownOseq then
        let q := (p.ownOseq + 1) % 65536
        let s := (s.setOwner i p.ownNew).fset (HUB_RGN2 i) HUB_RGN2_OSEQ q
        let s := s.send (s.tagged n (ownMsg 0x11 q p.ownNew base (p.word 2).toNat p.ownNew))
        s.send (s.tagged n (ownMsg 0x12 q p.ownNew base (p.word 2).toNat p.src))
      else s.nak p nakNOT_OWNER
    | none => s.nak p nakNOT_OWNER))

/-- OWN_GRANT_RECEIVE: step 5 of R288. -/
def execOwnGrantReceive (x : Rx) (s : State) : Out :=
  done s (s.receive x tMGMT (isOwn 0x11) ownOk (fun s p n =>
    let base := (p.word 1).toNat
    match s.rgnFind p.glove.toNat p.src base with
    | some i =>
      let s := (s.setOwner i p.ownNew).fset (HUB_RGN2 i) HUB_RGN2_OSEQ p.ownOseq
      let k := (p.word 2).toNat
      if s.ownsKnot n k then s.engineAdd k 1 false [] else s
    | none => s.event 0x0201 0 n base p.ownOseq))

/-- The exchange this device leads on a region of a glove. -/
def State.xferOf (s : State) (gid base : Nat) : Option OwnXfer :=
  s.hub.xfers.find? (fun x => x.sent && s.rgnBase x.entry == base && s.fget (HUB_RGN2 x.entry) HUB_RGN2_GLOVE == gid)

/-- Ends an exchange with a status. -/
def State.endXfer (s : State) (i st : Nat) : State :=
  let s := { s with hub := { s.hub with xfers := s.hub.xfers.filter (fun x => x.entry != i) } }
  s.fset HUB_RGN_CMD HUB_RGN_CMD_STATUS st

/-- OWN_DONE_RECEIVE: step 6 of R288. One that matches no exchange is discarded (R290). -/
def execOwnDoneReceive (x : Rx) (s : State) : Out :=
  done s (s.receive x tMGMT (isOwn 0x12) ownOk (fun s p _ =>
    match s.xferOf p.glove.toNat (p.word 1).toNat with
    | some y => ((s.setOwner y.entry p.ownNew).fset (HUB_RGN1 y.entry) HUB_RGN1_XSTATE 0).endXfer y.entry ST_OK
    | none => s))

/-- NAK NOT_OWNER for an OWN_XFER: the entry is STABLE again (R288 step 6). -/
def State.ownNak (s : State) (gid base code : Nat) : State :=
  match s.xferOf gid base with
  | some y => if code = nakNOT_OWNER then (s.fset (HUB_RGN1 y.entry) HUB_RGN1_XSTATE 0).endXfer y.entry ST_OWN else s
  | none => s

/-- OWN_XFER_TIMEOUT (R290): the entry stays LEAVING. -/
def execOwnXferTimeout (i : Fin 1024) (s : State) : Out :=
  match s.hub.xfers.find? (fun x => x.entry == i.val && x.sent) with
  | some x => if x.deadline ≤ s.lanyard.toNat then done s (s.endXfer i ST_TIMEOUT) else done s s
  | none => done s s

end Sys2Proof.Machine
end

