-- ==== Sys2Proof/Machine/Transfer.lean ====
section
/-! DEFINITION. PUT and GET, and what a port's output completes (R294 to R296). -/

namespace Sys2Proof.Machine

open Reg

/-! ### The transfer descriptor (R294) -/

def Transfer.local (t : List W64) : Nat := bits (t.getD 0 0) 56 0
def Transfer.remote (t : List W64) : Nat := bits (t.getD 1 0) 56 0
def Transfer.bytes (t : List W64) : Nat := bits (t.getD 2 0) 31 0
def Transfer.device (t : List W64) : BitVec 24 := BitVec.ofNat 24 (bits (t.getD 2 0) 55 32)
def Transfer.knot (t : List W64) : Nat := bits (t.getD 3 0) 13 0
def Transfer.rknot (t : List W64) : Nat := bits (t.getD 3 0) 27 14
def Transfer.rk (t : List W64) : Nat := bits (t.getD 3 0) 28 28
def Transfer.circ (t : List W64) : Nat := bits (t.getD 3 0) 35 29
def Transfer.hitch (t : List W64) : Nat := bits (t.getD 3 0) 45 36
def Transfer.cast (t : List W64) : Bool := (t.getD 3 0).getLsbD 46

/-- Whether every reserved bit of a descriptor is 0. -/
def transferFmtOk (t : List W64) : Bool :=
  bits (t.getD 0 0) 63 57 == 0 && bits (t.getD 1 0) 63 57 == 0 && bits (t.getD 2 0) 63 56 == 0
    && bits (t.getD 3 0) 63 47 == 0 && bits (t.getD 4 0) 63 16 == 0
    && t.getD 5 0 == 0 && t.getD 6 0 == 0 && t.getD 7 0 == 0

/-- The status of PUT or GET on a descriptor at an address. -/
def State.transferStatus (s : State) (k : CtxId) (put : Bool) (t : List W64) : Nat :=
  let n := (s.ctx k).glove
  let cast := Transfer.cast t
  if transferFmtOk t = false ∨ (cast ∧ put = false) then ST_FMT
  else if s.ownsKnot n (Transfer.knot t) = false ∨ Transfer.bytes t = 0
      ∨ (cast ∧ s.hitchOk (Transfer.hitch t) (s.gid n) (s.gepoch n) = false) then ST_RANGE
  else if cast = false ∧ s.issueRight n (Transfer.device t) (Transfer.remote t) (Transfer.bytes t) put = false then ST_OWN
  else if s.dying k then ST_GLOVE_DEAD
  else ST_OK

/-- The offsets of the chunks of at most 4,096 bytes. -/
def chunkOffs (bytes : Nat) : List Nat := (List.range ((bytes + 4095) / 4096)).map (fun i => 4096 * i)
/-- The bytes of the chunk at an offset. -/
def chunkLen (bytes off : Nat) : Nat := min 4096 (bytes - off)

/-! ### Completion (R296) -/

/-- A transfer completes: STATUS, then 1 to KNOT, with TAINT where it failed. -/
def State.endTransfer (s : State) (t : Transfer) (st : Nat) : State :=
  let s := { s with hub := { s.hub with transfers := s.hub.transfers.filter (fun u => u.xid != t.xid) } }
  let s := s.setVbytesGo t.glove (t.addr + 0x20) (leBytes 2 st)
  let s := s.engineAdd (Transfer.knot t.desc) 1 (st != ST_OK) []
  match t.owner with
  | some c => s.recheck (ctxId (c / 16) (c % 16))
  | none => s

/-- Replaces a transfer. -/
def State.setTransfer (s : State) (t : Transfer) : State :=
  { s with hub := { s.hub with transfers := s.hub.transfers.map (fun u => if u.xid = t.xid then t else u) } }

/-- A chunk of a transfer is answered. -/
def State.chunkDone (s : State) (t : Transfer) (off : Nat) : State :=
  let t := { t with waiting := t.waiting.filter (· != off) }
  if t.waiting.isEmpty then s.endTransfer t (t.stopped.getD ST_OK) else s.setTransfer t

/-- The STATUS a NAK gives a transfer. -/
def transferNakStatus (code : Nat) : Nat :=
  if code = nakNOT_OWNER then ST_OWN else if code = nakSTALE_GLOVE then ST_GLOVE_DEAD
  else if code = nakRANGE then ST_RANGE else ST_TAINT

/-- A chunk of a transfer is refused: the transfer stops, and waits for its other answers. -/
def State.chunkRefused (s : State) (t : Transfer) (off code : Nat) : State :=
  let st := match t.stopped with
    | some x => x
    | none => transferNakStatus code
  let due := if t.stopped.isNone then s.rspDue else t.deadline
  s.chunkDone { t with stopped := some st, deadline := due } off

/-- TRANSFER_RSP_TIMEOUT: a stopped transfer's outstanding answers are missing RSP_US after the NAK. -/
def execTransferRspTimeout (xid : Nat) (s : State) : Out :=
  match s.hub.transfers.find? (fun t => t.xid == xid) with
  | some t =>
    if t.stopped.isSome ∧ t.deadline ≤ s.lanyard.toNat then done s (s.endTransfer t ST_TIMEOUT) else done s s
  | none => done s s

/-! ### Sending (R295) -/

/-- The PUT packet of the chunk at an offset; a poisoned source line makes it carry POISON. -/
def State.putPacket (s : State) (n xid off : Nat) (t : List W64) : Packet :=
  let len := chunkLen (Transfer.bytes t) off
  let a := (Transfer.local t + off) % 2 ^ 57
  let w0 := xid % 2 ^ 32 + Transfer.rknot t * 2 ^ 32 + Transfer.rk t * 2 ^ 46
  let circ := if Transfer.cast t then 0 else Transfer.circ t
  s.tagged n
    { ty := tPUT, vc := if circ = 0 then 1 else 5, dest := if Transfer.cast t then 0 else Transfer.device t,
      taddr := BitVec.ofNat 57 (Transfer.remote t + off), len := len, circ := circ, adapt := s.adaptBit,
      poison := s.vpoison n a len, body := [BitVec.ofNat 64 w0, BitVec.ofNat 64 off, 0, 0],
      data := s.vbytesGo n a len }

/-- The GET_REQ of the chunk at an offset. -/
def State.getPacket (s : State) (n xid off : Nat) (t : List W64) : Packet :=
  s.tagged n
    { ty := tGET_REQ, vc := 1, dest := Transfer.device t, taddr := BitVec.ofNat 57 (Transfer.remote t + off), len := 16,
      data := wordsBytes [BitVec.ofNat 64 ((Transfer.local t + off) % 2 ^ 57),
        BitVec.ofNat 64 (chunkLen (Transfer.bytes t) off + xid % 2 ^ 32 * 2 ^ 32)] }

/-- Sends one chunk. -/
def State.sendChunk (s : State) (k : CtxId) (put : Bool) (xid : Nat) (t : List W64) (off : Nat) : State :=
  let n := (s.ctx k).glove
  if put then
    let p := s.putPacket n xid off t
    if Transfer.cast t then (s.dig k 1 p.record).cast (Transfer.hitch t) p else s.sendFor k p
  else s.sendFor k (s.getPacket n xid off t)

/-- Starts a transfer: its chunks are handed to the fabric in ascending offset. -/
def State.startTransfer (s : State) (k : CtxId) (put : Bool) (addr : Nat) (t : List W64) : State :=
  let xid := s.hub.nextXid % 2 ^ 32
  let offs := chunkOffs (Transfer.bytes t)
  let x : Transfer := { xid := xid, put := put, glove := (s.ctx k).glove, owner := some (ctxNum k), desc := t, addr := addr,
                        waiting := if Transfer.cast t then [] else offs }
  let s := { s with hub := { s.hub with nextXid := xid + 1, transfers := s.hub.transfers ++ [x] } }
  offs.foldl (fun s off => s.sendChunk k put xid t off) s

/-- PUT and GET. -/
def State.transfer (s : State) (k : CtxId) (w : FmtB) (put : Bool) : State :=
  s.issueB k w (w.legal .no .g .no .no 0) (fun s =>
    let n := (s.ctx k).glove
    let a := ((s.ctx k).gr w.ra.toNat).toNat
    if s.locked k [.mem] [.mem] then none
    else if a % 64 ≠ 0 then some (s.finish k w ST_RANGE)
    else
      match s.syncBytes n a 64 with
      | none => some (s.memFault n a 64)
      | some bs =>
        let t := bytesWords 8 bs
        let st := s.transferStatus k put t
        if st ≠ ST_OK then some (s.finish k w st)
        else if 256 ≤ s.hub.transfers.length then none
        else if s.mapped n (Transfer.local t) (Transfer.bytes t) (if put then .R else .W) = false then
          some (s.memFault n (Transfer.local t) (Transfer.bytes t))
        else
          match s.touchRange n (k.tile / 64) true (Transfer.local t) (pagesMet (Transfer.local t) (Transfer.bytes t)) with
          | some u => some ((u.startTransfer k put a t).finish k w ST_OK)
          | none => some (s.memFault n (Transfer.local t) (Transfer.bytes t)))

/-- PUT. -/
def execPut (k : CtxId) (w : FmtB) (s : State) : Out := done s (s.transfer k w true)
/-- GET. -/
def execGet (k : CtxId) (w : FmtB) (s : State) : Out := done s (s.transfer k w false)

/-! ### Receiving -/

/-- The control of PUT and GET_RSP. -/
def putCtlOk (p : Packet) : Bool :=
  decide (1 ≤ p.len ∧ p.len ≤ 4096) && bits (p.word 0) 63 47 == 0 && bits (p.word 1) 63 32 == 0
    && p.word 2 == 0 && p.word 3 == 0

/-- The NAK code for an access of a range of this device's memory from another, or 0 (R287). -/
def State.rangeCode (s : State) (n : Nat) (src : BitVec 24) (a len : Nat) (write : Bool) : Nat :=
  if s.mapped n a len (if write then .W else .R) = false then nakRANGE
  else if s.homeRight n src a len write = false then nakNOT_OWNER
  else 0

/-- PUT_RECEIVE: lands the data, adds LEN to RKNOT, and answers. -/
def execPutReceive (x : Rx) (s : State) : Out :=
  done s (s.receive x tPUT (fun _ => true) putCtlOk (fun s p n =>
    let a := p.taddr.toNat
    let code := s.rangeCode n p.src a p.len true
    let rk := bits (p.word 0) 46 46 == 1
    let rknot := bits (p.word 0) 45 32
    if code ≠ 0 then s.nak p code
    else if rk ∧ s.ownsKnot n rknot = false then s.nak p nakRANGE
    else
      match s.setVbytes n a p.data with
      | none => s.memFault n a p.len
      | some s =>
        let s := if rk then s.engineAdd rknot p.len false [] else s
        s.ack p (BitVec.ofNat 64 (bits (p.word 0) 31 0)) (BitVec.ofNat 64 (bits (p.word 1) 31 0))))

/-- GET_REQ_RECEIVE: answers with the chunk; the offset within the requester's transfer is not in the request, and open. -/
def execGetReqReceive (x : Rx) (s : State) : Out :=
  done s (s.receive x tGET_REQ (fun _ => true)
    (fun p => p.len == 16 && bits (p.word 0) 63 57 == 0 && bits (p.word 1) 31 13 == 0
      && decide (1 ≤ bits (p.word 1) 12 0 ∧ bits (p.word 1) 12 0 ≤ 4096)) (fun s p n =>
    let a := p.taddr.toNat
    let len := bits (p.word 1) 12 0
    let code := s.rangeCode n p.src a len false
    if code ≠ 0 then s.nak p code
    else
      match s.touchRange n 0 true a (pagesMet a len) with
      | none => s.memFault n a len
      | some s =>
        let off := (Config.freeWord s.free).toNat % 2 ^ 32
        let s := { s with free := s.free + 1 }
        s.send (s.tagged n
          { ty := tGET_RSP, vc := 2, dest := p.src, taddr := BitVec.ofNat 57 (bits (p.word 0) 56 0), len := len,
            adapt := s.adaptBit, poison := s.vpoison n a len,
            body := [BitVec.ofNat 64 (bits (p.word 1) 63 32), BitVec.ofNat 64 off, 0, 0],
            data := s.vbytesGo n a len })))

/-- GET_RSP_RECEIVE: lands the chunk of the transfer that XID and TADDR name. -/
def execGetRspReceive (x : Rx) (s : State) : Out :=
  done s (s.receive x tGET_RSP (fun _ => true) putCtlOk (fun s p n =>
    let xid := bits (p.word 0) 31 0
    let offOf := fun (t : Transfer) => t.waiting.find? (fun off =>
      (Transfer.local t.desc + off) % 2 ^ 57 == p.taddr.toNat && chunkLen (Transfer.bytes t.desc) off == p.len)
    match s.hub.transfers.find? (fun t => t.xid == xid && !t.put && t.glove == n && Transfer.device t.desc == p.src) with
    | some t =>
      match offOf t with
      | some off =>
        match s.setVbytes n p.taddr.toNat p.data with
        | some u => u.chunkDone t off
        | none => s.memFault n p.taddr.toNat p.len
      | none => s.nak p nakRANGE
    | none => s.nak p nakRANGE))

/-- An ACK for a PUT packet: XID and offset. -/
def State.putAck (s : State) (p : Packet) (n : Nat) : State :=
  match s.hub.transfers.find? (fun t => t.xid == bits (p.word 2) 31 0 && t.put && t.glove == n) with
  | some t => if t.waiting.contains (bits (p.word 3) 31 0) then s.chunkDone t (bits (p.word 3) 31 0) else s
  | none => s

/-- A NAK for a PUT or GET_REQ. One for a cast PUT, or for one already complete, is recorded (R296). -/
def State.transferNak (s : State) (p : Packet) (n ty : Nat) : State :=
  let code := bits (p.word 0) 7 0
  let src := BitVec.ofNat 24 (bits (p.word 1) 55 32)
  let taddr := bits (p.word 2) 56 0
  let mine := fun (t : Transfer) => t.glove == n && (if ty = tPUT then t.put && t.xid == bits (p.word 3) 31 0 else !t.put)
  let offOf := fun (t : Transfer) => t.waiting.find? (fun off =>
    (Transfer.remote t.desc + off) % 2 ^ 57 == taddr
      && (ty == tPUT || (Transfer.local t.desc + off) % 2 ^ 57 == bits (p.word 3) 56 0))
  match s.hub.transfers.find? (fun t => mine t && (offOf t).isSome) with
  | some t => s.chunkRefused t ((offOf t).getD 0) code
  | none => if ty = tPUT then (s.podErr n taddr src code).event 0x0202 0 n code src.toNat else s

/-! ### PORT_OUTPUT_SEND -/

/-- Whether a packet of the cast PUT xid still waits here. -/
def State.castWaits (s : State) (xid : Nat) : Bool :=
  let mine := fun (p : Packet) => p.ty == tHITCH_CAST && p.src == s.self && bits (p.word 1) 5 0 == tPUT
    && leNat (p.data.take 4) == xid
  s.rt.outq.any (fun e => e.2.any mine) || s.rt.heldPkts.any mine

/-- Completes each cast PUT whose last packet has left. -/
def State.castsDone (s : State) : State :=
  s.hub.transfers.foldl (fun s t =>
    if t.put && Transfer.cast t.desc && !(s.castWaits t.xid) then s.endTransfer t ST_OK else s) s

/-- PORT_OUTPUT_SEND (R258, R296). -/
def execPortOutputSend (p : Fin 32) (s : State) : Out := done s ((s.outputSend p).castsDone)

end Sys2Proof.Machine
end

