-- ==== Sys2Proof/Machine/Tasks.lean ====
section
/-! DEFINITION. The knot instructions, KAT, and the buffer pools (chapters 2, 3, 10 and 13). -/

namespace Sys2Proof.Machine

open Reg

/-! ### Knot instructions (R13 to R19, R76) -/

/-- A knot handle: local bit, device, index; none where a reserved bit is set (R17, R18). -/
def handle (h : W64) : Option (Bool × BitVec 24 × Nat) :=
  if bits h 63 39 ≠ 0 then none
  else some (h.getLsbD 38, BitVec.ofNat 24 (bits h 37 14), bits h 13 0)

/-- Whether nothing of a context waits in its tile's queues: a knot instruction takes effect as if every earlier
instruction had completed (R48). -/
def State.quiet (s : State) (k : CtxId) : Bool :=
  let v := s.tile k.tile
  [0, 1, 2, 3].all (fun q => !((v.queue q).any (fun e => e.ctx == k.ctx.val)))

/-- Check-slot marks of the task in a context. -/
def State.ctxMarks (s : State) (k : CtxId) : List Nat :=
  match (s.ctx k).task with
  | some q => (match s.task q with
    | some t => t.marks
    | none => [])
  | none => []

/-- An increment of a local knot by a task: refused on a knot the glove does not own, and at the largest count. -/
def State.taskAdd (s : State) (k : CtxId) (w : FmtB) (i v : Nat) : State :=
  let n := (s.ctx k).glove
  if s.ownsKnot n i = false then s.finish k w ST_RANGE
  else if s.knotFull i v then (s.event 0x0602 i n v 0).finish k w ST_KNOT_OVF
  else ((s.dig k 2 (knotRec i [v])).knotAdd i v (s.ctxTaint k) (s.ctxMarks k)).finish k w ST_OK

/-- Sends a KNOT_OP: OP 1 ARRIVE, 2 ADD (R427). -/
def State.sendKnotOp (s : State) (k : CtxId) (op i v : Nat) (dest : BitVec 24) : State :=
  let w0 := op + b1 (s.ctxTaint k) * 2 ^ 8 + i * 2 ^ 16
  s.sendFor k (s.tagged (s.ctx k).glove
    { ty := tKNOT_OP, vc := 0, dest := dest, len := 16,
      data := wordsBytes [BitVec.ofNat 64 w0, BitVec.ofNat 64 (if op = 1 then 0 else v)] })

/-- KARRIVE and KADD by v. -/
def State.increment (s : State) (k : CtxId) (w : FmtB) (op v : Nat) : State :=
  match handle ((s.ctx k).gr w.ra.toNat) with
  | none => s.finish k w ST_RANGE
  | some (loc, dest, i) =>
    if loc then s.taskAdd k w i v else (s.sendKnotOp k op i v dest).finish k w ST_OK

/-- KARRIVE. -/
def execKarrive (k : CtxId) (w : FmtB) (s : State) : Out :=
  done s (s.issueB k w (w.legal .no .g .no .no 0) (fun s =>
    if s.quiet k then some (s.increment k w 1 1) else none))

/-- KADD. -/
def execKadd (k : CtxId) (w : FmtB) (s : State) : Out :=
  done s (s.issueB k w (w.legal .no .g .g .no 0) (fun s =>
    if s.quiet k then
      let v := ((s.ctx k).gr w.rb.toNat).toNat
      if 2 ^ 32 ≤ v then some (s.finish k w ST_RANGE) else some (s.increment k w 2 v)
    else none))

/-- KSET. -/
def execKset (k : CtxId) (w : FmtB) (s : State) : Out :=
  done s (s.issueB k w (w.legal .no .g .g .g 0) (fun s =>
    if s.quiet k then
      let x := s.ctx k
      let c := (x.gr w.rb.toNat).toNat
      let t := (x.gr w.rc.toNat).toNat
      match handle (x.gr w.ra.toNat) with
      | some (true, _, i) =>
        if 2 ^ 48 ≤ c ∨ 2 ^ 48 ≤ t ∨ s.ownsKnot x.glove i = false then some (s.finish k w ST_RANGE)
        else some (((s.dig k 2 (knotRec i [c, t])).knotSet i c t).finish k w ST_OK)
      | _ => some (s.finish k w ST_RANGE)
    else none))

/-- KWAIT: a knot already reached completes the wait at once (R16, R37). -/
def execKwait (k : CtxId) (w : FmtB) (s : State) : Out :=
  done s (s.issueB k w (w.legal .no .g .g .no 0) (fun s =>
    if s.quiet k then
      let x := s.ctx k
      let t := (x.gr w.rb.toNat).toNat
      match handle (x.gr w.ra.toNat) with
      | some (true, _, i) =>
        if s.ownsKnot x.glove i = false then some (s.finish k w ST_RANGE)
        else
          let v := s.knot i
          if v.reached then
            let s := match x.task with
              | some q => s.taintTask q v.taint v.marks
              | none => s
            some (s.finish k w (if v.taint then ST_TAINT else ST_OK))
          else
            let s := s.setKnot i { v with waiters := v.waiters ++ [.ctx k.tile k.ctx] }
            let due := if t = 0 then none else some (s.lanyard.toNat + t)
            some ((s.mapCtx k (fun x => { x with wait := .kwait i due w })).leave k)
      | _ => some (s.finish k w ST_RANGE)
    else none))

/-- KWAIT_TIMEOUT: the timeout passes, and the context leaves the waiter list. -/
def execKwaitTimeout (k : CtxId) (s : State) : Out :=
  match (s.ctx k).wait with
  | .kwait i (some due) w =>
    if due ≤ s.lanyard.toNat then
      done s (((s.dropWaiter i (.ctx k.tile k.ctx)).resume k).finish k w ST_TIMEOUT)
    else done s s
  | _ => done s s

/-! ### KAT (R322) -/

/-- KAT. -/
def execKat (k : CtxId) (w : FmtB) (s : State) : Out :=
  done s (s.issueB k w (w.legal .no .g .g .no 0) (fun s =>
    let x := s.ctx k
    let v := (x.gr w.ra.toNat).toNat
    let r := (x.gr w.rb.toNat).toNat
    let longest := if r = 0 then 10000000 else r
    let now := s.lanyard.toNat
    if v ≤ now then some (s.finish k w ST_OK)
    else if longest < v - now then some (s.finish k w ST_TIMEOUT)
    else some ((s.mapCtx k (fun x => { x with wait := .kat v w })).leave k)))

/-- KAT_WAKE. -/
def execKatWake (k : CtxId) (s : State) : Out :=
  match (s.ctx k).wait with
  | .kat v w => if v ≤ s.lanyard.toNat then done s ((s.resume k).finish k w ST_OK) else done s s
  | _ => done s s

/-! ### Buffer pools (R77, R231, R232, R238) -/

/-- Fields of a pool's configuration. -/
def State.poolSvc (s : State) (p : Nat) : Bool := s.fget (POOL_CFG1 p) POOL_CFG1_SVC == 1
def State.poolSlot (s : State) (p : Nat) : Nat := s.fget (POOL_CFG1 p) POOL_CFG1_SLOT
def State.poolSize (s : State) (p : Nat) : Nat := 2 ^ s.fget (POOL_CFG1 p) POOL_CFG1_SIZE_LOG2
def State.poolBufs (s : State) (p : Nat) : Nat := s.fget (POOL_CFG1 p) POOL_CFG1_NBUF
def State.poolBase (s : State) (p : Nat) : Nat := s.fget (POOL_CFG0 p) POOL_CFG0_BASE
def State.poolCounts (s : State) (p : Nat) : Nat := s.fget (POOL_CFG2 p) POOL_CFG2_COUNTS / 64 * 64
/-- A pool's state: 0 FREE, 1 INIT, 2 READY, 3 BROKEN. -/
def State.poolState (s : State) (p : Nat) : Nat := s.fget (POOL_STAT p) POOL_STAT_STATE

/-- The bytes at an address of a pool's memory: glove-virtual, or local for a service pool. -/
def State.poolRead (s : State) (p a n : Nat) : Nat :=
  if s.poolSvc p then s.rd a n else leNat (s.vbytesGo (s.poolSlot p) a n)
/-- Writes a value there. -/
def State.poolWrite (s : State) (p a n v : Nat) : State :=
  if s.poolSvc p then s.wr a n v else s.setVbytesGo (s.poolSlot p) a (leBytes n v)

/-- The address of a buffer, and of its reference count. -/
def State.bufAddr (s : State) (p i : Nat) : Nat := s.poolBase p + i * s.poolSize p
def State.bufCount (s : State) (p i : Nat) : Nat := s.poolRead p (s.poolCounts p + 2 * i) 2

/-- The end of a free list. -/
def poolEnd : Nat := 0xFFFFFFFF
/-- The head of a pool's free list. -/
def State.poolHead (s : State) (p : Nat) : Nat := Tab.look (fun _ => poolEnd) s.mm.poolHead p
/-- Sets it. -/
def State.setPoolHead (s : State) (p h : Nat) : State :=
  { s with mm := { s.mm with poolHead := Tab.store (fun _ => poolEnd) s.mm.poolHead p h } }

/-- What taking a buffer gives: the pool is empty, broken by a damaged list, or the buffer's index. -/
inductive Taken where
  | empty
  | broken (s : State)
  | buf (i : Nat) (s : State)

/-- Takes the head buffer of a READY pool with the checks of R232. -/
def State.poolTake (s : State) (p : Nat) : Taken :=
  let h := s.poolHead p
  if h = poolEnd then .empty
  else
    let next := s.poolRead p (s.bufAddr p h) 8
    if s.bufCount p h ≠ 0 ∨ (s.poolBufs p ≤ next ∧ next ≠ poolEnd) then
      .broken ((s.fset (POOL_STAT p) POOL_STAT_STATE 3).event 0x0C01 p (if s.poolSvc p then 0x3F else s.poolSlot p) h next)
    else
      let s := s.poolWrite p (s.poolCounts p + 2 * h) 2 1
      let s := s.setPoolHead p next
      .buf h (s.fset (POOL_STAT p) POOL_STAT_FREE (s.fget (POOL_STAT p) POOL_STAT_FREE - 1))

/-- Subtracts 1 from an allocated buffer's count, returning it to the free list at 0. -/
def State.poolGive (s : State) (p i : Nat) : State :=
  let c := s.bufCount p i - 1
  let s := s.poolWrite p (s.poolCounts p + 2 * i) 2 c
  if c = 0 then
    let s := s.poolWrite p (s.bufAddr p i) 8 (s.poolHead p)
    let s := s.setPoolHead p i
    s.fset (POOL_STAT p) POOL_STAT_FREE (s.fget (POOL_STAT p) POOL_STAT_FREE + 1)
  else s

/-- The index of an allocated buffer of pool p that starts at an address. -/
def State.bufAt (s : State) (p a : Nat) : Option Nat :=
  let i := (a - s.poolBase p) / s.poolSize p
  if s.poolState p = 2 ∧ s.poolBase p ≤ a ∧ (a - s.poolBase p) % s.poolSize p = 0 ∧ i < s.poolBufs p
      ∧ s.bufCount p i ≠ 0 then some i
  else none

/-- The READY pool of a glove, and the buffer in it, that an address names. -/
def State.bufOf (s : State) (n a : Nat) : Option (Nat × Nat) :=
  ((List.range 256).find? (fun p => !(s.poolSvc p) && s.poolSlot p == n && (s.bufAt p a).isSome)).map
    (fun p => (p, (s.bufAt p a).getD 0))

/-- Whether a pool's memory is mapped to the glove for the engine: the head buffer's word and the counts (R62). -/
def State.poolMapped (s : State) (p i : Nat) : Bool :=
  s.poolSvc p || (s.mapped (s.poolSlot p) (s.poolCounts p + 2 * i) 2 .W && s.mapped (s.poolSlot p) (s.poolCounts p + 2 * i) 2 .R
    && s.mapped (s.poolSlot p) (s.bufAddr p i) 8 .W && s.mapped (s.poolSlot p) (s.bufAddr p i) 8 .R
    && !(s.vpoison (s.poolSlot p) (s.bufAddr p i) 8) && !(s.vpoison (s.poolSlot p) (s.poolCounts p + 2 * i) 2))

/-- PALLOC. -/
def execPalloc (k : CtxId) (w : FmtB) (s : State) : Out :=
  done s (s.issueB k w (w.legal .g .g .no .no 0) (fun s =>
    let x := s.ctx k
    let p := (x.gr w.ra.toNat).toNat
    if 256 ≤ p then some (s.finish k w ST_RANGE)
    else if s.poolState p ≠ 2 ∨ s.poolSvc p ∨ s.poolSlot p ≠ x.glove then some (s.finish k w ST_RANGE)
    else if s.poolHead p ≠ poolEnd ∧ s.poolMapped p (s.poolHead p) = false then some (s.faultGlove x.glove causeMEMORY)
    else
      match s.poolTake p with
      | .empty => some (s.finish k w ST_POOL_EMPTY)
      | .broken t => some (t.finish k w ST_POOL_EMPTY)
      | .buf i t => some (t.result k w w.rd.toNat (BitVec.ofNat 64 (s.bufAddr p i)))))

/-- PHOLD. -/
def execPhold (k : CtxId) (w : FmtB) (s : State) : Out :=
  done s (s.issueB k w (w.legal .no .g .no .no 0) (fun s =>
    let x := s.ctx k
    match s.bufOf x.glove (x.gr w.ra.toNat).toNat with
    | none => some (s.finish k w ST_RANGE)
    | some (p, i) =>
      let c := s.bufCount p i
      if c = 65535 then some (s.finish k w ST_REF_SAT)
      else some ((s.poolWrite p (s.poolCounts p + 2 * i) 2 (c + 1)).finish k w ST_OK)))

/-- PFREE: held until the context's queued instructions have taken their operands from the buffer. -/
def execPfree (k : CtxId) (w : FmtB) (s : State) : Out :=
  done s (s.issueB k w (w.legal .no .g .no .no 0) (fun s =>
    let x := s.ctx k
    if s.quiet k then
      match s.bufOf x.glove (x.gr w.ra.toNat).toNat with
      | none => some (s.finish k w ST_RANGE)
      | some (p, i) => some ((s.poolGive p i).finish k w ST_OK)
    else none))

/-- Sets a pool's STATUS. -/
def State.poolStatus (s : State) (p st : Nat) : State := s.fset (POOL_STAT p) POOL_STAT_STATUS st

/-- Whether two ranges of bytes meet. -/
def meets (a la b lb : Nat) : Bool := decide (a < b + lb ∧ b < a + la)

/-- Whether a buffer or the counts of pool p overlap those of another pool of its glove, or of the service pools. -/
def State.poolOverlap (s : State) (p : Nat) : Bool :=
  let size := fun q => s.poolBufs q * s.poolSize q
  (List.range 256).any (fun q => q != p && s.poolState q != 0 && s.poolSvc q == s.poolSvc p
    && (s.poolSvc p || s.poolSlot q == s.poolSlot p)
    && (meets (s.poolBase p) (size p) (s.poolBase q) (size q) || meets (s.poolBase p) (size p) (s.poolCounts q) (2 * s.poolBufs q)
      || meets (s.poolCounts p) (2 * s.poolBufs p) (s.poolBase q) (size q)
      || meets (s.poolCounts p) (2 * s.poolBufs p) (s.poolCounts q) (2 * s.poolBufs q)))

/-- POOL_INIT (R231). INIT of a pool that is not FREE completes with ST_BUSY (assumption 14). -/
def execPoolInit (p : Fin 256) (s : State) : Out :=
  let lg := s.fget (POOL_CFG1 p) POOL_CFG1_SIZE_LOG2
  if s.poolState p ≠ 0 then done s (s.poolStatus p ST_BUSY)
  else if lg < 8 ∨ 26 < lg ∨ s.poolBufs p = 0 ∨ s.poolBase p % 2 ^ lg ≠ 0 ∨ s.poolOverlap p
      ∨ (s.poolSvc p = false ∧ s.gstate (s.poolSlot p) ≠ gACTIVE) then done s (s.poolStatus p ST_RANGE)
  else done s ((s.fset (POOL_STAT p) POOL_STAT_STATE 1).poolStatus p ST_OK)

/-- Writes every count as 0 and links buffer i to i + 1. -/
def State.poolLink (s : State) (p : Nat) : Nat → State
  | 0 => s
  | i + 1 =>
    let next := if i + 1 = s.poolBufs p then poolEnd else i + 1
    State.poolLink ((s.poolWrite p (s.poolCounts p + 2 * i) 2 0).poolWrite p (s.bufAddr p i) 8 next) p i

/-- Whether the engine can write a whole pool: a glove's pages may refuse it (R62). -/
def State.poolWritable (s : State) (p : Nat) : Bool :=
  s.poolSvc p || (s.mapped (s.poolSlot p) (s.poolCounts p) (2 * s.poolBufs p) .W
    && s.mapped (s.poolSlot p) (s.poolBase p) (s.poolBufs p * s.poolSize p) .W)

/-- POOL_INIT_DONE. -/
def execPoolInitDone (p : Fin 256) (s : State) : Out :=
  if s.poolState p ≠ 1 then done s s
  else if s.poolWritable p = false then done s (s.faultGlove (s.poolSlot p) causeMEMORY)
  else
    let t := (s.poolLink p (s.poolBufs p)).setPoolHead p 0
    done s ((t.fset (POOL_STAT p) POOL_STAT_STATE 2).fset (POOL_STAT p) POOL_STAT_FREE (s.poolBufs p))

/-- POOL_RELEASE. -/
def execPoolRelease (p : Fin 256) (s : State) : Out :=
  if s.poolState p = 2 ∧ s.fget (POOL_STAT p) POOL_STAT_FREE = s.poolBufs p then
    let t := (s.fset (POOL_STAT p) POOL_STAT_STATE 0).fset (POOL_STAT p) POOL_STAT_FREE 0
    done s ((t.setPoolHead p poolEnd).poolStatus p ST_OK)
  else done s (s.poolStatus p ST_BUSY)

/-- POOL_RESET: a BROKEN pool becomes FREE; of another pool it completes with ST_BUSY (assumption 14). -/
def execPoolReset (p : Fin 256) (s : State) : Out :=
  if s.poolState p = 3 then
    let t := (s.fset (POOL_STAT p) POOL_STAT_STATE 0).fset (POOL_STAT p) POOL_STAT_FREE 0
    done s ((t.setPoolHead p poolEnd).poolStatus p ST_OK)
  else done s (s.poolStatus p ST_BUSY)

/-- POOL_SVC_FREE (R238): a service core's PFREE on a service pool. -/
def execPoolSvcFree (p : Fin 256) (v : W64) (s : State) : Out :=
  match (if s.poolSvc p then s.bufAt p (bits v 56 0) else none) with
  | some i => done s (s.poolGive p i)
  | none => done s (s.poolStatus p ST_RANGE)

end Sys2Proof.Machine
end

