-- ==== Sys2Proof/Machine/Tiers.lean ====
section
/-! DEFINITION. The migration engine, weight streams, HBM4 channels and the NVS (chapter 10). -/

namespace Sys2Proof.Machine

open Reg

/-! ### The resident partition (R215, R217, R218) -/

/-- Resident ways per slice; larger values act as 10. -/
def State.resWays (s : State) : Nat := min 10 (s.fget MIG_CFG MIG_CFG_RES_WAYS)
/-- Pages that a die's partition holds: 16 slices of ways of 512 KiB. -/
def dieCapacity (ways : Nat) : Nat := 128 * ways

/-- The resident pages of a die. -/
def State.residents (s : State) (die : Nat) : List (Nat × Page) :=
  s.mm.pages.filter (fun e => e.2.place == .resident die)

/-- Whether a page lies in a stream's window (R221). -/
def State.inWindow (s : State) (p : Nat) : Bool :=
  s.mm.streams.any (fun e => match e.2 with
    | some st => st.filled.contains p
    | none => false)

/-- The later of two eviction candidates goes first: the greater AGE, then the lower page number. -/
def older (b : Option (Nat × Page)) (e : Nat × Page) : Option (Nat × Page) :=
  match b with
  | none => some e
  | some x => if x.2.age < e.2.age then some e else some x

/-- The page a die's partition evicts next. -/
def State.victim (s : State) (die : Nat) : Option Nat :=
  ((s.residents die).foldl (fun b e => if e.2.pinned || s.inWindow e.1 then b else older b e) none).map (fun e => e.1)

/-- Evicts a page into a free HBM4 frame; none where there is none. -/
def State.evict (s : State) (p : Nat) : Option State := s.placeHbm p 256 0

/-- Makes a page resident on a die, evicting another where the partition is full (R216, R217). -/
def State.makeResident (s : State) (p die : Nat) : Option State :=
  let v := s.page p
  if v.place = .resident die then some s
  else
    let room := if (s.residents die).length < dieCapacity s.resWays then some s
      else match s.victim die with
        | some q => s.evict q
        | none => none
    match room with
    | some t => some ((t.releaseFrame p).setPage p { v with place := .resident die, age := 0 })
    | none => none

/-! ### Migration commands (R216 to R218, R227, R228, R236) -/

/-- Sets the status of a migration command with its fields. -/
def State.migStatus (s : State) (arg st : Nat) : State :=
  (s.fset MIG_CMD MIG_CMD_ARG arg).fset MIG_CMD MIG_CMD_STATUS st

/-- Whether the engine is still carrying out a command: the vacating of a channel. -/
def State.migBusy (s : State) : Bool := s.mm.vacating.any (fun e => e.2)

/-- MIG_PROMOTE: a candidate at the threshold. -/
def execMigPromote (page : Fin 8388608) (s : State) : Out :=
  let th := s.fget MIG_CFG MIG_CFG_PROMOTE
  match s.mm.cands.find? (fun c => c.page == page.val), (s.page page).place with
  | some c, .hbm ch _ =>
    if th = 0 ∨ c.count < th ∨ s.fget (HBM_CH_STAT ch) HBM_CH_STAT_STATE = 2 then done s s
    else
      match s.makeResident page c.die with
      | some t =>
        let t := { t with mm := { t.mm with cands := t.mm.cands.filter (fun c => c.page != page.val) } }
        done s (t.bump MIG_CNT0 MIG_CNT0_PROMOTED 1)
      | none => done s s
  | _, _ => done s s

/-- A page one age older. -/
def ageUp (_ : Nat) (v : Page) : Page :=
  match v.place with
  | .resident _ => { v with age := min 255 (v.age + 1) }
  | _ => v

/-- MIG_AGE_TICK: every AGE_US. -/
def execMigAgeTick (s : State) : Out :=
  if s.mm.lastAge + max 1 (s.fget MIG_CFG MIG_CFG_AGE_US) * 1000 ≤ s.lanyard.toNat then
    let cs := s.mm.cands.map (fun c => { c with count := c.count / 2 })
    done s { s with mm := { s.mm with cands := cs, pages := Tab.mapVal homePage ageUp s.mm.pages, lastAge := s.lanyard.toNat } }
  else done s s

/-- PIN. -/
def execPin (die : Fin 4) (page : Fin 8388608) (s : State) : Out :=
  let t := s.fset MIG_CMD MIG_CMD_DIE die
  let v := s.page page
  let pins := ((s.residents die).filter (fun e => e.2.pinned)).length
  if s.migBusy then done s (t.migStatus page ST_BUSY)
  else if (v.pinned ∧ v.place ≠ .resident die) ∨ (v.pinned = false ∧ dieCapacity s.resWays / 4 < pins + 1) then
    done s (t.migStatus page ST_DENIED)
  else
    match t.makeResident page die with
    | some u => done s ((u.setPage page { u.page page with pinned := true }).migStatus page ST_OK)
    | none => done s (t.migStatus page ST_BUSY)

/-- UNPIN: the page becomes evictable with AGE 255. -/
def execUnpin (page : Fin 8388608) (s : State) : Out :=
  if s.migBusy then done s (s.migStatus page ST_BUSY)
  else
    let v := s.page page
    let t := if v.pinned then s.setPage page { v with pinned := false, age := 255 } else s
    done s (t.migStatus page ST_OK)

/-- DISCARD: the page's frame is released and its content lost. -/
def execDiscard (page : Fin 8388608) (s : State) : Out :=
  if s.migBusy then done s (s.migStatus page ST_BUSY)
  else
    let t := ((s.releaseFrame page).zeroMem (page * 65536) 65536).setPage page { place := .discarded }
    done s (t.migStatus page ST_OK)

/-- VACATE: drains a channel in service into TEST. -/
def execVacate (c : Fin 256) (s : State) : Out :=
  if s.migBusy then done s (s.migStatus c ST_BUSY)
  else if 1 < s.fget (HBM_CH_STAT c) HBM_CH_STAT_STATE then done s (s.migStatus c ST_RANGE)
  else
    let t := s.fset (HBM_CH_STAT c) HBM_CH_STAT_STATE 2
    let t := { t with mm := { t.mm with vacating := Tab.store (fun _ => false) t.mm.vacating c true } }
    done s (t.migStatus c ST_OK)

/-- RESUME: retrains a channel out of TEST; a traffic-generator run on it ends. -/
def execResume (c : Fin 256) (s : State) : Out :=
  if s.migBusy then done s (s.migStatus c ST_BUSY)
  else if s.fget (HBM_CH_STAT c) HBM_CH_STAT_STATE ≠ 4 then done s (s.migStatus c ST_RANGE)
  else done s (((s.fset (HBM_CH_STAT c) HBM_CH_STAT_STATE 3).fset (HBM_TG_RES c) HBM_TG_RES_RUNNING 0).migStatus c ST_OK)

/-- Evicts from a die until its pages fit, those of stream windows last. -/
def State.shrink (s : State) (die : Nat) : Nat → State
  | 0 => s
  | k + 1 =>
    if (s.residents die).length ≤ dieCapacity s.resWays then s
    else
      let last := ((s.residents die).foldl (fun b e => if e.2.pinned then b else older b e) none).map (fun e => e.1)
      match (match s.victim die with
        | some q => some q
        | none => last) with
      | some q => (match s.evict q with
        | some t => State.shrink t die k
        | none => s)
      | none => s

/-- MIG_CFG_WRITE: a lower RES_WAYS evicts pages until they fit; refused where the pinned pages would not fit. -/
def execMigCfgWrite (v : W64) (s : State) : Out :=
  let ways := min 10 (bits v 19 16)
  let fits := [0, 1, 2, 3].all (fun d => decide (((s.residents d).filter (fun e => e.2.pinned)).length ≤ dieCapacity ways))
  if fits then
    let t := s.fset MIG_CFG MIG_CFG_STREAM_PAGES (bits v 44 32)
    let t := t.fset MIG_CFG MIG_CFG_AGE_US (bits v 31 24)
    let t := t.fset MIG_CFG MIG_CFG_PROMOTE (bits v 23 20)
    let t := t.fset MIG_CFG MIG_CFG_RES_WAYS (bits v 19 16)
    done s ([0, 1, 2, 3].foldl (fun t d => t.shrink d 2000) t)
  else done s (s.fset MIG_CMD MIG_CMD_STATUS ST_DENIED)

/-- MIG_TLBINV_GO (R213). -/
def execMigTlbinvGo (v : W64) (s : State) : Out :=
  let t := s.fset MIG_TLBINV MIG_TLBINV_SLOT (bits v 62 57)
  let t := t.fset MIG_TLBINV MIG_TLBINV_VPAGE (bits v 56 16)
  let t := t.fset MIG_TLBINV MIG_TLBINV_COUNT_M1 (bits v 15 8)
  let t := t.fset MIG_TLBINV MIG_TLBINV_ALL (bits v 1 1)
  let t := t.fset MIG_TLBINV MIG_TLBINV_DONE 0
  done s { t with mm := { t.mm with invBusy := true } }

/-- MIG_TLBINV_DONE. -/
def execMigTlbinvDone (s : State) : Out :=
  if s.mm.invBusy then
    let t := s.fset MIG_TLBINV MIG_TLBINV_DONE 1
    done s { t with mm := { t.mm with invBusy := false } }
  else done s s

/-! ### Weight streams (R220 to R222) -/

/-- The status of a stream record's fields, before its list. -/
def State.streamStatus (s : State) (n : Nat) (w : List W64) : Nat :=
  let x := fun i => w.getD i 0
  let nblk := bits (x 1) 16 0
  let win := bits (x 1) 44 32
  if bits (x 0) 63 57 ≠ 0 ∨ bits (x 1) 31 17 ≠ 0 ∨ bits (x 1) 63 46 ≠ 0 ∨ bits (x 2) 63 9 ≠ 0 ∨ bits (x 3) 63 14 ≠ 0
      ∨ x 5 ≠ 0 ∨ x 6 ≠ 0 ∨ x 7 ≠ 0 ∨ 12 < bits (x 2) 4 0 ∨ bits (x 2) 6 5 = 3
      ∨ comboOk (bits (x 2) 4 0) (bits (x 2) 6 5) (bits (x 2) 8 7) = false ∨ (nblk ≠ 0 ∧ x 4 ≠ 0) then ST_FMT
  else if 65536 < nblk ∨ (nblk ≠ 0 ∧ (win = 0 ∨ s.ownsKnot n (bits (x 3) 13 0) = false ∨ bits (x 0) 56 0 % 64 ≠ 0)) then ST_RANGE
  else ST_OK

/-- A block of a list entry. -/
def StreamBlk.of (w : List W64) : StreamBlk :=
  ⟨bits (w.getD 0 0) 56 0, bits (w.getD 1 0) 31 0, bits (w.getD 1 0) 34 32, bits (w.getD 2 0) 56 0, bits (w.getD 3 0) 31 0⟩

/-- Whether an entry's fields are in order for a format (R106, R220). -/
def streamBlkOk (efmt sfmt group : Nat) (w : List W64) : Bool :=
  let b := StreamBlk.of w
  let e := (fmt efmt).bits
  bits (w.getD 0 0) 63 57 == 0 && bits (w.getD 1 0) 63 35 == 0 && bits (w.getD 2 0) 63 57 == 0 && bits (w.getD 3 0) 63 32 == 0
    && decide (1 ≤ b.dbytes ∧ b.die ≤ 4 ∧ b.dbytes * 8 % e = 0)
    && (if sfmt = 0 then b.scale == 0 && b.sbytes == 0
      else decide ((b.dbytes * 8 / e) % groupSize group = 0 ∧ b.sbytes = b.dbytes * 8 / e / groupSize group))

/-- The glove-virtual pages of a byte range. -/
def pagesOf (va len : Nat) : List Nat := (List.range (pagesMet va len)).map (fun i => va / 65536 + i)

/-- The glove-virtual pages of a block, each once. -/
def StreamBlk.pages (b : StreamBlk) : List Nat :=
  let d := pagesOf b.data b.dbytes
  d ++ (pagesOf b.scale b.sbytes).filter (fun p => !(d.contains p))

/-- The handle of a stream entry. -/
def streamHandle (entry slot seq : Nat) : W64 := BitVec.ofNat 64 (entry + slot * 2 ^ 6 + seq % 2 ^ 32 * 2 ^ 12)

/-- A stream entry. -/
def State.stream (s : State) (e : Nat) : Option StreamEnt := Tab.look (fun _ => none) s.mm.streams e
/-- Sets one. -/
def State.setStream (s : State) (e : Nat) (v : Option StreamEnt) : State :=
  { s with mm := { s.mm with streams := Tab.store (fun _ => none) s.mm.streams e v } }

/-- A page that leaves a window becomes evictable with AGE 255, unless another window holds it. -/
def State.leaveWindow (s : State) (p : Nat) : State :=
  match (s.page p).place with
  | .resident _ => if s.inWindow p then s else s.setPage p { s.page p with age := 255 }
  | _ => s

/-- Closes a stream. -/
def State.closeStream (s : State) (e : Nat) : State :=
  match s.stream e with
  | some st => st.filled.foldl State.leaveWindow (s.setStream e none)
  | none => s

/-- STREAM with a record whose fields are in order. -/
def State.declareStream (s : State) (k : CtxId) (w : FmtB) (x : List W64) : State :=
  let n := (s.ctx k).glove
  let nblk := bits (x.getD 1 0) 16 0
  let fm := x.getD 2 0
  if nblk = 0 then
    let h := x.getD 4 0
    let e := bits h 5 0
    match s.stream e with
    | some st =>
      if st.glove = n ∧ h = streamHandle e n st.seq then (s.closeStream e).result k w w.rd.toNat h else s.finish k w ST_RANGE
    | none => s.finish k w ST_RANGE
  else
    match s.syncBytes n (bits (x.getD 0 0) 56 0) (32 * nblk) with
    | none => s.memFault n (bits (x.getD 0 0) 56 0) (32 * nblk)
    | some bs =>
      let es := cut 4 nblk (bytesWords (4 * nblk) bs)
      let win := bits (x.getD 1 0) 44 32
      if es.all (streamBlkOk (bits fm 4 0) (bits fm 6 5) (bits fm 8 7)) = false then s.finish k w ST_FMT
      else if es.any (fun e => decide (win < (StreamBlk.of e).pages.length)) then s.finish k w ST_RANGE
      else
        match (List.range 64).find? (fun e => (s.stream e).isNone) with
        | none => s.finish k w ST_BUSY
        | some e =>
          if s.dying k then s.finish k w ST_GLOVE_DEAD
          else
            let seq := (s.mm.streamSeq + 1) % 2 ^ 32
            let st : StreamEnt := { glove := n, seq := seq, winPages := win, loop := (x.getD 1 0).getLsbD 45,
                                    knot := bits (x.getD 3 0) 13 0, blocks := es.map StreamBlk.of }
            let s := { s with mm := { s.mm with streamSeq := seq } }
            (s.setStream e (some st)).result k w w.rd.toNat (streamHandle e n seq)

/-- STREAM. -/
def execStream (k : CtxId) (w : FmtB) (s : State) : Out :=
  done s (s.issueB k w (w.legal .g .g .no .no 0) (fun s =>
    let n := (s.ctx k).glove
    let a := ((s.ctx k).gr w.ra.toNat).toNat
    if s.locked k [.mem] [] then none
    else if a % 64 ≠ 0 then some (s.finish k w ST_RANGE)
    else
      match s.syncBytes n a 64 with
      | none => some (s.memFault n a 64)
      | some bs =>
        let x := bytesWords 8 bs
        let st := s.streamStatus n x
        if st ≠ ST_OK then some (s.finish k w st) else some (s.declareStream k w x)))

/-- The blocks from the current one on, in order: to the list's end, or once round it. -/
def StreamEnt.ahead (st : StreamEnt) (pos : Nat) : List StreamBlk :=
  let b := pos % st.blocks.length
  if st.loop then st.blocks.drop b ++ st.blocks.take b else st.blocks.drop pos

/-- The window: the longest run of blocks whose pages, each counted once, total at most WIN_PAGES. -/
def windowGo (win : Nat) : List Nat → List StreamBlk → List (Nat × Nat)
  | _, [] => []
  | have', b :: bs =>
    let new := b.pages.filter (fun p => !(have'.contains p))
    if have'.length + new.length ≤ win then new.map (fun p => (p, b.die)) ++ windowGo win (have' ++ new) bs else []

/-- The local pages of a window with the die each is for, in block order. -/
def State.windowPages (s : State) (st : StreamEnt) : List (Nat × Nat) :=
  (windowGo st.winPages [] (st.ahead (s.knot st.knot).count)).filterMap (fun e =>
    match s.translate st.glove (e.1 * 65536) .R with
    | some a => if a < localSize then some (a / 65536, e.2) else none
    | none => none)

/-- The die a page of a block is made resident on: the block's, or that of the page's HBM4 frame. -/
def State.dieFor (s : State) (p die : Nat) : Nat :=
  if die < 4 then die
  else match (s.page p).place with
    | .hbm c _ => c / 64
    | .resident d => d
    | .discarded => p % 8 / 2

/-- Fills a window in block order, until a fill has to wait. -/
def State.fillGo (s : State) (e : Nat) : List (Nat × Nat) → State
  | [] => s
  | (p, die) :: r =>
    match s.stream e with
    | none => s
    | some st =>
      if st.filled.contains p then State.fillGo s e r
      else
        let total := s.mm.streams.foldl (fun a x => a + (match x.2 with
          | some y => y.filled.length
          | none => 0)) 0
        let d := s.dieFor p die
        let next := if s.fget MIG_CFG MIG_CFG_STREAM_PAGES < total + 1 then none
          else if (s.page p).pinned then some s else s.makeResident p d
        match next with
        | some t => State.fillGo (t.setStream e (some { st with filled := st.filled ++ [p] })) e r
        | none => s.bump MIG_CNT1 MIG_CNT1_FILL_WAIT 1

/-- STREAM_FILL (R221): the window follows the position, and the engine fills it. -/
def execStreamFill (n : Fin 64) (s : State) : Out :=
  match s.stream n with
  | none => done s s
  | some st =>
    if st.loop = false ∧ st.blocks.length ≤ (s.knot st.knot).count then done s (s.closeStream n)
    else
      let win := s.windowPages st
      let gone := st.filled.filter (fun p => !(win.any (fun e => e.1 == p)))
      let t := s.setStream n (some { st with filled := st.filled.filter (fun p => !(gone.contains p)) })
      let t := gone.foldl State.leaveWindow t
      done s (t.fillGo n win)

/-! ### HBM4 channels (R227 to R230) -/

/-- The pages whose frames lie in channel c. -/
def State.pagesIn (s : State) (c : Nat) : List Nat :=
  let home := (List.range 32768).map (fun f => f * 256 + c % 32 * 8 + c / 32)
  let here := fun (p : Nat) => match (s.page p).place with
    | .hbm d _ => d == c
    | _ => false
  home.filter here ++ (s.mm.pages.filter (fun e => !(home.contains e.1) && here e.1)).map (fun e => e.1)

/-- Free frames in channels other than c that take new frames. -/
def State.freeElsewhere (s : State) (c : Nat) : Nat :=
  (List.range 256).foldl (fun a d => if d ≠ c ∧ s.chTakes d then a + (s.freeIn d).length else a) 0

/-- Moves a page out of channel c. -/
def State.movePage (s : State) (c : Nat) (p : Nat) : State :=
  match (s.releaseFrame p).placeHbm p c 0 with
  | some t => t
  | none => s

/-- HBM_CHANNEL_DRAIN: with enough free frames elsewhere, every page moves out. A vacated channel enters TEST, a DEGRADED
one is retrained. -/
def execHbmChannelDrain (c : Fin 256) (s : State) : Out :=
  let st := s.fget (HBM_CH_STAT c) HBM_CH_STAT_STATE
  let ps := s.pagesIn c
  let vac := Tab.look (fun _ => false) s.mm.vacating c
  if (st = 1 ∨ st = 2) ∧ ps.length < s.freeElsewhere c then
    let t := ps.foldl (fun s p => s.movePage c p) s
    let t := t.fset (HBM_CH_STAT c) HBM_CH_STAT_STATE (if vac then 4 else 3)
    done s { t with mm := { t.mm with vacating := Tab.store (fun _ => false) t.mm.vacating c false } }
  else done s s

/-- HBM_CHANNEL_RETRAIN_DONE: ONLINE with a spare in place of a failed lane, or RETIRED. -/
def execHbmChannelRetrainDone (c : Fin 256) (ok : Bool) (s : State) : Out :=
  let sp := s.fget (HBM_CH_STAT c) HBM_CH_STAT_SPARES
  let failed := s.fget (HBM_CH_STAT c) HBM_CH_STAT_FAILED_LANE != 0xFF
  if s.fget (HBM_CH_STAT c) HBM_CH_STAT_STATE ≠ 3 then done s s
  else if ok = false ∨ (failed ∧ sp = 0) then
    done s ((s.fset (HBM_CH_STAT c) HBM_CH_STAT_STATE 5).event 0x0904 c 0x3F (if failed ∧ sp = 0 then 2 else 1) 0)
  else
    let t := if failed then (s.fset (HBM_CH_STAT c) HBM_CH_STAT_SPARES (sp - 1)).fset (HBM_CH_STAT c) HBM_CH_STAT_FAILED_LANE 0xFF
      else s
    done s (t.fset (HBM_CH_STAT c) HBM_CH_STAT_STATE 0)

/-- HBM_PARITY_ERROR: three retries used up leave an ONLINE channel DEGRADED. -/
def execHbmParityError (c : Fin 256) (retries : Fin 4) (s : State) : Out :=
  let t := s.event 0x0903 c 0x3F retries 0
  if retries.val = 3 ∧ s.fget (HBM_CH_STAT c) HBM_CH_STAT_STATE = 0 then done s (t.fset (HBM_CH_STAT c) HBM_CH_STAT_STATE 1)
  else done s t

/-- HBM_TG_START (R230). -/
def execHbmTgStart (c : Fin 256) (s : State) : Out :=
  let status := fun (st : Nat) => s.fset (HBM_TG_CTL c) HBM_TG_CTL_STATUS st
  if s.fget (HBM_CH_STAT c) HBM_CH_STAT_STATE ≠ 4 ∨ s.fget (HBM_TG_RES c) HBM_TG_RES_RUNNING = 1 then done s (status ST_BUSY)
  else if s.fiAllowed = false then done s (status ST_DENIED)
  else if 3 < s.fget (HBM_TG_CTL c) HBM_TG_CTL_PATTERN then done s (status ST_RANGE)
  else
    let t := (status ST_OK).setReg (HBM_TG_RES c) (1 <<< 63)
    let t := t.setReg (HBM_TG_LANES c) 0
    done s (t.journal 0x0012 5 0x3F (leBytes 8 c ++ leBytes 8 (t.reg (HBM_TG_CTL c)).toNat))

/-- HBM_TG_STOP: the run ends after the current line; what it has found by then is open. -/
def execHbmTgStop (c : Fin 256) (s : State) : Out :=
  if s.fget (HBM_TG_RES c) HBM_TG_RES_RUNNING = 1 then
    let t := (s.fset (HBM_TG_RES c) HBM_TG_RES_RUNNING 0).fset (HBM_TG_RES c) HBM_TG_RES_ERRORS (Config.freeWord s.free).toNat
    let t := t.setReg (HBM_TG_LANES c) (Config.freeWord (s.free + 1))
    done s { t with free := s.free + 2 }
  else done s s

/-- HBM_TG_RUN_DONE: the run's passes end with what it found. -/
def execHbmTgRunDone (c : Fin 256) (errors : BitVec 48) (lanes : W64) (s : State) : Out :=
  if s.fget (HBM_TG_RES c) HBM_TG_RES_RUNNING = 1 then
    let t := (s.fset (HBM_TG_RES c) HBM_TG_RES_RUNNING 0).fset (HBM_TG_RES c) HBM_TG_RES_ERRORS errors.toNat
    done s (t.setReg (HBM_TG_LANES c) lanes)
  else done s s

/-! ### The NVS (R235) -/

/-- What lay on a NAND die that has failed: its copies of the images, of the configuration record and of the sag record. -/
def State.loseDie (s : State) (die : Nat) : State :=
  let imgs := (List.range 5).foldl (fun t k =>
    let ix := 2 * (k + 1) + die
    Tab.store (fun _ => {}) t ix { Tab.look (fun _ => {}) t ix with accepted := false }) s.sec.images
  let sec := { s.sec with images := imgs }
  let sec := if die = 0 then { sec with cfgA := { sec.cfgA with valid := false } }
    else { sec with cfgB := { sec.cfgB with valid := false } }
  let pwr := if die = 0 then { s.pwr with sagA := Option.none } else { s.pwr with sagB := Option.none }
  { s with sec := sec, pwr := pwr }

/-- NVS_DIE_TIMEOUT: a reset and two retries, then the die is marked failed. -/
def execNvsDieTimeout (die : Fin 2) (cmd : W64) (s : State) : Out :=
  let n := Tab.look (fun _ => 0) s.mm.dieRetries die
  if Tab.look (fun _ => false) s.mm.dieFailed die then done s s
  else if n < 2 then
    done s { s with mm := { s.mm with dieRetries := Tab.store (fun _ => 0) s.mm.dieRetries die (n + 1) } }
  else
    let t := { s with mm := { s.mm with dieRetries := Tab.store (fun _ => 0) s.mm.dieRetries die 0,
                                        dieFailed := Tab.store (fun _ => false) s.mm.dieFailed die true } }
    done s (((t.loseDie die).fset NVS_STAT NVS_STAT_DIE_FAIL 1).event 0x1202 die 0x3F cmd.toNat 0)

end Sys2Proof.Machine
end

