-- ==== Sys2Proof/Machine/Sieve.lean ====
section
/-! DEFINITION. The sieve: scoring gate logits into candidate lists (R168 to R172), and the total order of candidates (R170). -/

namespace Sys2Proof.Machine

open Reg

/-! ### Fixed-function operations of R129 -/

def opAdd (a b : W32) : W32 := vecOp 0x00 a b 0
def opSub (a b : W32) : W32 := vecOp 0x01 a b 0
def opMul (a b : W32) : W32 := vecOp 0x02 a b 0
def opMax (a b : W32) : W32 := vecOp 0x04 a b 0
def opDiv (a b : W32) : W32 := vecOp 0x0D a b 0
def opExp (a : W32) : W32 := vecOp 0x10 a 0 0
def opSig (a : W32) : W32 := vecOp 0x15 a 0 0

/-! ### The total order (R170) -/

/-- Whether candidate (key, id) comes before another: numbers before NaN, the greater key, the lower id. −0 counts as +0. -/
def before (k1 : W32) (i1 : Nat) (k2 : W32) (i2 : Nat) : Bool :=
  match isNan k1, isNan k2 with
  | false, true => true
  | true, false => false
  | true, true => decide (i1 < i2)
  | false, false => if gt32 k1 k2 then true else if gt32 k2 k1 then false else decide (i1 < i2)

/-- Inserts into a list in the order that p gives. -/
def insertBy {α : Type} (p : α → α → Bool) (x : α) : List α → List α
  | [] => [x]
  | y :: ys => if p x y then x :: y :: ys else y :: insertBy p x ys

/-- Sorts by p, keeping the order of equals. -/
def sortBy {α : Type} (p : α → α → Bool) (l : List α) : List α := l.foldl (fun acc x => insertBy p x acc) []

/-! ### SIEVE -/

/-- Fields of a SIEVE word. -/
def svFn (w : FmtB) : Nat := w.ox 25 24
def svL (w : FmtB) : Nat := w.ox 23 19 + 1
def svPass (w : FmtB) : Nat := w.ox 18 18
/-- First expert, valid columns, first token, valid rows: from gRB and gRC. -/
def svExpert (b : W64) : Nat := bits b 15 0
def svCols (b : W64) : Nat := bits b 22 16
def svToken (c : W64) : Nat := bits c 31 0
def svRows (c : W64) : Nat := bits c 38 32

/-- Whether a SIEVE makes partials: pass 0 of SOFTMAX_ALL. -/
def svPartial (w : FmtB) : Bool := svFn w == 0 && svPass w == 0

/-- Records a SIEVE needs (R171). -/
def svNeed (w : FmtB) (b c : W64) : Nat := svRows c * (if svPartial w then 1 else min (svL w) (svCols b))

/-- The status of a SIEVE's operands (R168). -/
def sieveStatus (w : FmtB) (b c : W64) : Nat :=
  if svExpert b % 64 ≠ 0 ∨ svCols b = 0 ∨ 64 < svCols b ∨ bits b 63 23 ≠ 0 ∨ svRows c = 0 ∨ 64 < svRows c ∨ bits c 63 39 ≠ 0
      ∨ (svPass w = 1 ∧ svFn w ≠ 0) then ST_RANGE
  else ST_OK

/-- The records that SIEVE instructions in the queue will write. -/
def Tile.sieveDue (v : Tile) : Nat := v.sieveQ.foldl (fun a e => a + svNeed e.w e.ga e.gb) 0

/-- SIEVE. -/
def execSieve (k : CtxId) (w : FmtB) (s : State) : Out :=
  done s (s.issueB k w (w.legal .no .bank .g .g (ox 25 18) && svFn w != 3) (fun s =>
    let x := s.ctx k
    match x.bank w.ra.toNat with
    | none => some (s.trap k TR_ACC 0)
    | some b =>
      let gb := x.gr w.rb.toNat
      let gc := x.gr w.rc.toNat
      let reads := [Region.bank b, .vreg k.ctx 31] ++ (if svPass w = 1 then [.vreg k.ctx 30] else [])
      let st := sieveStatus w gb gc
      if st ≠ ST_OK then some (s.finish k w st)
      else if s.waits k 3 reads [] then none
      else
        let v := s.tile k.tile
        if 4096 < v.sieve.length + v.sieveDue + svNeed w gb gc then some (s.finish k w ST_RANGE)
        else
          let e := { s.queued k 0x8 0 w with bankA := b, ga := gb, gb := gc, reads := reads }
          some ((s.enqueue k 3 e).finish k w ST_OK)))

/-- The partial of a row's logits: m and S (R169). -/
def sievePartial (zs : List W32) : W32 × W32 :=
  match zs with
  | [] => (0, 0)
  | z :: r =>
    let m := r.foldl opMax (canon z)
    (m, r.foldl (fun a y => opAdd a (opExp (opSub y m))) (opExp (opSub z m)))

/-- Score F of a logit, with the row's m and S. -/
def sieveScore (fn : Nat) (m s z : W32) : W32 :=
  if fn = 0 then opDiv (opExp (opSub z m)) s else if fn = 1 then opSig z else z

/-- A row's list: expert, key and score of its first L candidates. -/
def sieveList (fn l first : Nat) (m s : W32) (zs bias : List W32) : List (Nat × W32 × W32) :=
  let cs := (zs.zip bias).zipIdx.map (fun e =>
    let f := sieveScore fn m s e.1.1
    (first + e.2, opAdd f e.1.2, f))
  (sortBy (fun a b => before a.2.1 a.1 b.2.1 b.1) cs).take l

/-- The records that a SIEVE writes (R172). -/
def sieveRecords (v : Tile) (e : Queued) : List SieveRec :=
  let x := v.ctx e.ctx
  let c := svCols e.ga
  let fn := svFn e.w
  (List.range (svRows e.gb)).flatMap (fun i =>
    let zs := (List.range c).map (fun j => v.bankAt e.bankA i j)
    let tok := (svToken e.gb + i) % 2 ^ 32
    if svPartial e.w then
      let p := sievePartial zs
      [⟨e.ctx, tok, svExpert e.ga, 0, svL e.w - 1, true, fn, p.1, p.2⟩]
    else
      let bias := (List.range c).map (fun j => x.lane 31 j)
      (sieveList fn (svL e.w) (svExpert e.ga) (x.lane 30 i) (x.lane 30 (64 + i)) zs bias).zipIdx.map (fun r =>
        ⟨e.ctx, tok, r.1.1, r.2, svL e.w - 1, false, fn, r.1.2.1, r.1.2.2⟩))

/-- SIEVE_COMPLETE: the SIEVE at the head of the queue reads its rows and writes its records. -/
def execSieveComplete (t : Fin 256) (s : State) : Out :=
  let v := s.tile t
  match v.sieveQ with
  | e :: _ =>
    let u := s.popQueue t 3
    done s (u.setTile t { u.tile t with sieve := v.sieve ++ sieveRecords v e })
  | [] => done s s

end Sys2Proof.Machine
end

