-- ==== Sys2Proof/Machine/Brimir.lean ====
section
/-! DEFINITION. The Brimir routing engines: the routing step, its merge and ranks, counts and grants, admission, the
sort, and the ends of a step (chapter 8; R192 to R197 for a home's queues; R208). -/

namespace Sys2Proof.Machine

open Reg

/-! ### Twin mode: a subject at its comparison (R123, R124) -/

/-- A twin-mode MGMT packet to the partner of a glove's twin. -/
def State.twinPacket (s : State) (n : Nat) (ws : List W64) : Packet :=
  { ty := tMGMT, vc := 6, dest := BitVec.ofNat 24 (s.fget (KNOT_GLOVE_TWIN n) KNOT_GLOVE_TWIN_PARTNER_DEV),
    gloved := true, glove := BitVec.ofNat 16 (s.fget (KNOT_GLOVE_TWIN n) KNOT_GLOVE_TWIN_PARTNER_GLOVE),
    epoch := BitVec.ofNat 16 (s.gepoch n), len := 8 * ws.length, data := wordsBytes ws }

/-- Words 0 to 2 of a DIGEST or RING packet. -/
def TwinHeld.head (h : TwinHeld) (kind : Nat) : List W64 :=
  [BitVec.ofNat 64 (kind + h.subject * 2 ^ 8 + h.task * 2 ^ 10), h.id, BitVec.ofNat 64 h.graph]

/-- A subject of twin mode is held, and its digests go to the twin. -/
def State.holdTwin (s : State) (h : TwinHeld) : State :=
  let s := { s with kn := { s.kn with twins := s.kn.twins ++ [h] } }
  s.send (s.twinPacket h.glove (h.head 0x20 ++ h.digs ++ [0]))

/-! ### The routing-step descriptor (R164) -/

def Step.w (t : Step) (i : Nat) : W64 := t.desc.getD i 0

/-- Fields of a descriptor's words. -/
def dLayer (d : List W64) : Nat := bits (d.getD 0 0) 7 0
def dNexp (d : List W64) : Nat := bits (d.getD 0 0) 23 8 + 1
def dK (d : List W64) : Nat := bits (d.getD 0 0) 28 24 + 1
def dKeep (d : List W64) : Nat := bits (d.getD 0 0) 33 29 + 1
def dScore (d : List W64) : Nat := bits (d.getD 0 0) 35 34
def dNorm (d : List W64) : Bool := (d.getD 0 0).getLsbD 36
def dPolicy (d : List W64) : Nat := bits (d.getD 0 0) 38 37
def dGrp (d : List W64) : Nat := bits (d.getD 0 0) 46 39
def dTopg (d : List W64) : Nat := bits (d.getD 0 0) 50 47 + 1
def dCap (d : List W64) : Nat := bits (d.getD 1 0) 23 0
def dWscale (d : List W64) : W32 := BitVec.ofNat 32 (bits (d.getD 1 0) 63 32)
def dNtok (d : List W64) : Nat := bits (d.getD 2 0) 16 0
def dToken0 (d : List W64) : Nat := bits (d.getD 2 0) 63 32
def dTag (d : List W64) : Nat := bits (d.getD 3 0) 31 0
def dNmem (d : List W64) : Nat := bits (d.getD 3 0) 43 32 + 1
def dSelf (d : List W64) : Nat := bits (d.getD 3 0) 55 44
def dMembers (d : List W64) : Nat := bits (d.getD 4 0) 56 0
def dWeights (d : List W64) : Nat := bits (d.getD 5 0) 56 0
def dHstat (d : List W64) : Nat := bits (d.getD 6 0) 56 0
def dSmx (d : List W64) : Nat := bits (d.getD 7 0) 56 0
def dSmxKnot (d : List W64) : Nat := bits (d.getD 8 0) 13 0
def dRouted (d : List W64) : Nat := bits (d.getD 8 0) 29 16
def dDone (d : List W64) : Nat := bits (d.getD 8 0) 45 32
def dTimeout (d : List W64) : Nat := bits (d.getD 9 0) 39 0
def dAct (d : List W64) : Nat := bits (d.getD 10 0) 56 0
def dRow (d : List W64) : Nat := bits (d.getD 11 0) 23 0
def dRet (d : List W64) : Nat := bits (d.getD 11 0) 47 24
def dCombine (d : List W64) : Nat := bits (d.getD 12 0) 56 0

/-- Whether every reserved field and code of a descriptor is 0, and SOFTMAX_TOPK normalises. -/
def stepFmtOk (d : List W64) : Bool :=
  bits (d.getD 0 0) 63 51 == 0 && bits (d.getD 1 0) 31 24 == 0 && bits (d.getD 2 0) 31 17 == 0 && bits (d.getD 3 0) 63 56 == 0
    && [4, 5, 6, 7, 10, 12].all (fun i => bits (d.getD i 0) 63 57 == 0)
    && bits (d.getD 8 0) 15 14 == 0 && bits (d.getD 8 0) 31 30 == 0 && bits (d.getD 8 0) 63 46 == 0
    && bits (d.getD 9 0) 63 40 == 0 && bits (d.getD 11 0) 63 48 == 0 && [13, 14, 15].all (fun i => d.getD i 0 == 0)
    && dScore d != 3 && dPolicy d != 3 && (dScore d != 2 || dNorm d)

/-- Whether a descriptor's numbers are in their ranges, and its address aligned (R165). -/
def State.stepRangeOk (s : State) (n a : Nat) (d : List W64) : Bool :=
  decide (dK d ≤ dKeep d ∧ dKeep d ≤ dNexp d ∧ dSelf d < dNmem d)
    && (dGrp d == 0 || (dNexp d % (64 * (dGrp d + 1)) == 0
        && decide (dTopg d ≤ dGrp d + 1 ∧ dKeep d ≤ dTopg d * dNexp d / (dGrp d + 1))))
    && decide (dNtok d ≤ 65536 ∧ dNtok d * dKeep d ≤ 2097152)
    && s.ownsKnot n (dRouted d) && s.ownsKnot n (dDone d) && (dScore d != 0 || s.ownsKnot n (dSmxKnot d))
    && a % 64 == 0 && decide (1000 ≤ dTimeout d)

/-- The rounds of a step's policy (R181). -/
def Step.rounds (t : Step) : Nat := if dPolicy t.desc = 2 then 2 else 1
/-- Ranges of 64 experts (R173). -/
def Step.nrange (t : Step) : Nat := (dNexp t.desc + 63) / 64
/-- A step's parameters, as counts headers carry them (R178). -/
def Step.params (t : Step) : Nat := crc32c ((wordsBytes t.desc).take 16)
/-- The index of a device in the member table. -/
def Step.memberIx (t : Step) (dev : BitVec 24) : Option Nat := t.members.findIdx? (· == dev)
/-- The members in the rotation of R200. -/
def Step.rotation (t : Step) : List Nat := (List.range (dNmem t.desc)).map (fun i => (dSelf t.desc + 1 + i) % dNmem t.desc)
/-- A home's queue list. -/
def Step.homeQ (t : Step) (dev : BitVec 24) : List QueueEnt := t.queues.filter (fun q => q.home == dev)
/-- The tokens of the device. -/
def Step.tokens (t : Step) : List Nat := (List.range (dNtok t.desc)).map (fun i => dToken0 t.desc + i)

/-! ### The directory (R186) -/

/-- The replicas of an expert's entry: none where its memory is not mapped, empty where the entry is refused. -/
def State.dirEntry (s : State) (n ptr x : Nat) (members : List (BitVec 24)) : Option (List (BitVec 24 × Nat)) :=
  match s.vwords n ((ptr + 16 * x) % 2 ^ 57) 2 with
  | none => none
  | some ws =>
    let w0 := ws.getD 0 0
    let w1 := ws.getD 1 0
    let m := bits w0 26 24 + 1
    if w0.getLsbD 29 = false ∨ bits w0 63 30 ≠ 0 ∨ bits w1 63 57 ≠ 0 then some []
    else
      let pairs := if m = 1 then some [BitVec.ofNat 64 (bits w0 23 0), w1] else s.vwords n (bits w1 56 0) (2 * m)
      match pairs with
      | none => none
      | some ps =>
        let homes := (List.range m).map (fun i => BitVec.ofNat 24 (bits (ps.getD (2 * i) 0) 23 0))
        let clean := (List.range m).all (fun i => bits (ps.getD (2 * i) 0) 63 24 == 0 && bits (ps.getD (2 * i + 1) 0) 63 57 == 0)
        if clean ∧ homes.eraseDups.length = m ∧ homes.all (fun h => members.contains h) then
          some ((List.range m).map (fun i => (homes.getD i 0, bits (ps.getD (2 * i + 1) 0) 56 0)))
        else some []

/-- Queues of experts x to x + k − 1. -/
def State.dirQueues (s : State) (n ptr : Nat) (members : List (BitVec 24)) : Nat → Nat → Option (List QueueEnt)
  | _, 0 => some []
  | x, k + 1 =>
    match s.dirEntry n ptr x members with
    | none => none
    | some rs =>
      (State.dirQueues s n ptr members (x + 1) k).map (fun l => rs.zipIdx.map (fun r => ⟨x, r.2, r.1.1, r.1.2⟩) ++ l)

/-- Every queue of a layer in the glove's current directory: none where its memory is not mapped. -/
def State.layerQueues (s : State) (n layer nexp : Nat) (members : List (BitVec 24)) : Option (List QueueEnt) :=
  match s.vwords n ((s.reg (BRM_DIR_CUR n)).toNat + 8 * layer) 1 with
  | none => none
  | some ws =>
    let p := ws.getD 0 0
    if p = 0 ∨ bits p 63 57 ≠ 0 then some [] else s.dirQueues n (bits p 56 0) members 0 nexp

/-! ### Steps of the engines -/

/-- The present or most recent step of an engine. -/
def State.route' (s : State) (e : Nat) : Option Step := Tab.look (fun _ => none) s.brm.eng e

/-- Sets an engine's step and what its registers show of it; the step of a glove that is going down is discarded. -/
def State.putStep (s : State) (e : Nat) (t : Step) : State :=
  if s.gstate t.glove = gACTIVE then
    let s := { s with brm := { s.brm with eng := Tab.store (fun _ => none) s.brm.eng e (some t) } }
    let s := s.fset (BRM_ENG_STAT e) BRM_ENG_STAT_PHASE t.phase
    let s := s.fset SPL_STAT ⟨e, e⟩ (b1 (!t.ended && t.routed && !t.sends.isEmpty))
    s.fset SPL_STAT ⟨2 + e, 2 + e⟩ (b1 (!t.ended && t.retAt.isSome && !t.rets.isEmpty))
  else s

/-- The engine that holds the running step of a glove with a tag. -/
def State.findStep (s : State) (n tag : Nat) : Option (Nat × Step) :=
  [0, 1].findSome? (fun e => match s.route' e with
    | some t => if t.glove = n ∧ dTag t.desc = tag ∧ t.ended = false then some (e, t) else none
    | none => none)

/-- Whether a tag is that of the glove's most recent step on an engine, which has ended (R190). -/
def State.endedStep (s : State) (n tag : Nat) : Bool :=
  [0, 1].any (fun e =>
    let past := Tab.look (fun _ => 0) s.brm.past (2 * n + e) == tag + 1
    match s.route' e with
    | some t => if t.glove = n then t.ended && dTag t.desc == tag else past
    | none => past)

/-- The running step that a handle names, for a context of glove n (R166). -/
def State.stepOf (s : State) (n : Nat) (h : W64) : Option (Nat × Step) :=
  let e := bits h 7 7
  match s.route' e with
  | some t =>
    if bits h 63 48 = 0 ∧ bits h 15 8 = 0 ∧ bits h 6 6 = 0 ∧ bits h 47 16 = t.seq ∧ bits h 5 0 = t.glove ∧ t.glove = n
    then some (e, t) else none
  | none => none

/-! ### Counts and grant vectors (R178, R179) -/

/-- A COUNTS packet of a step to a member: its 32-byte header and entries. -/
def State.vecPacket (s : State) (t : Step) (dev : BitVec 24) (round nq : Nat) (fail : Option Nat) (first : Nat)
    (es : List (List Byte)) : Packet :=
  let w0 := dTag t.desc + dLayer t.desc * 2 ^ 32 + round * 2 ^ 40 + b1 fail.isSome * 2 ^ 41 + dSelf t.desc * 2 ^ 42
    + fail.getD 0 * 2 ^ 54
  let bs := wordsBytes [BitVec.ofNat 64 w0, BitVec.ofNat 64 t.dirEpoch, BitVec.ofNat 64 (nq + t.params * 2 ^ 32),
    BitVec.ofNat 64 (first + es.length * 2 ^ 32)] ++ es.flatten
  s.tagged t.glove { ty := tCOUNTS, vc := 4, dest := dev, len := bs.length, adapt := s.adaptBit, data := bs }

/-- Sends a vector in parts of at most `per` entries. -/
def State.sendVector (s : State) (t : Step) (dev : BitVec 24) (round nq per : Nat) (es : List (List Byte)) : State :=
  let parts := if es.isEmpty then [[]] else cut per es.length es
  parts.zipIdx.foldl (fun s p => s.send (s.vecPacket t dev round nq none (p.2 * per) p.1)) s

/-- Counts of a member's queues in a round: choices per (queue, rank). -/
def Step.countsFor (t : Step) (dev : BitVec 24) (round : Nat) : List Nat :=
  let cs := t.choices.filter (fun c => c.round == round && (c.st == 0 || c.st == 4) && c.dest == dev)
  (t.homeQ dev).flatMap (fun q => (List.range (dK t.desc)).map (fun r =>
    (cs.filter (fun c => c.expert == q.expert && c.replica == q.replica && c.rank == r)).length))

/-- Sends the counts vectors of a round, to every member. -/
def State.sendCounts (s : State) (t : Step) (round : Nat) : State :=
  t.rotation.foldl (fun s i =>
    let dev := t.members.getD i 0
    s.sendVector t dev round (t.homeQ dev).length 1016 ((t.countsFor dev round).map (leBytes 4))) s

/-- Sends the FAIL vectors of a failed step, where it owes a vector of a round (R184). -/
def State.sendFails (s : State) (t : Step) (st : Nat) : State :=
  if t.homeRounds < t.rounds then
    t.rotation.foldl (fun s i =>
      let dev := t.members.getD i 0
      s.send (s.vecPacket t dev t.homeRounds (t.homeQ dev).length (some st) 0 [])) s
  else s

/-- Entries of a vector that are held, of a member and round. -/
def heldEntries (ps : List VecPart) (round member : Nat) : Nat :=
  (ps.filter (fun p => p.round == round && p.member == member)).foldl (fun a p => a + p.entries.length) 0

/-- Whether a vector of `total` entries is held. -/
def vecHeld (ps : List VecPart) (round member total : Nat) : Bool :=
  ps.any (fun p => p.round == round && p.member == member) && heldEntries ps round member == total

/-- An entry of a vector. -/
def vecEntry (ps : List VecPart) (round member ix : Nat) : W64 :=
  match ps.find? (fun p => p.round == round && p.member == member && decide (p.first ≤ ix ∧ ix < p.first + p.entries.length)) with
  | some p => p.entries.getD (ix - p.first) 0
  | none => 0

/-! ### A home's queues (R180, R192 to R196) -/

/-- ADMIT of queue q, rank r and member i in a round. -/
def Step.admitOf (t : Step) (round q r i : Nat) : Nat :=
  (if round = 0 then t.admit0 else t.admit1).getD ((q * dK t.desc + r) * dNmem t.desc + i) 0
/-- Both rounds together. -/
def Step.admitAll (t : Step) (q r i : Nat) : Nat := t.admitOf 0 q r i + t.admitOf 1 q r i

/-- Rows admitted to queue q of members before i, and of member i at ranks before r: where its rank block starts. -/
def Step.offsetOf (t : Step) (q r i : Nat) : Nat :=
  (List.range i).foldl (fun a j => (List.range (dK t.desc)).foldl (fun a r => a + t.admitAll q r j) a) 0
    + (List.range r).foldl (fun a r => a + t.admitAll q r i) 0
/-- Rows of queue q. -/
def Step.rowsOf (t : Step) (q : Nat) : Nat := t.offsetOf q 0 (dNmem t.desc)
/-- Rounded up to a multiple of 16. -/
def up16 (n : Nat) : Nat := (n + 15) / 16 * 16

/-- A queue's header. -/
def State.qHead (s : State) (n : Nat) (q : QueueEnt) : List W64 := bytesWords 8 (s.vbytesGo n q.qbase 64)
/-- KNOT and ROWCAP of a header. -/
def qKnot (h : List W64) : Nat := bits (h.getD 0 0) 13 0
def qCap (h : List W64) : Nat := bits (h.getD 0 0) 63 32

/-- Whether a queue passes its home's checks (R194). -/
def State.queueOk (s : State) (t : Step) (q : QueueEnt) : Bool :=
  let h := s.qHead t.glove q
  let k := s.knot (qKnot h)
  q.qbase % 64 == 0 && bits (h.getD 0 0) 31 14 == 0 && bits (h.getD 1 0) 63 24 == 0
    && [4, 5, 6, 7].all (fun i => h.getD i 0 == 0)
    && s.ownsKnot t.glove (qKnot h) && bits (h.getD 1 0) 23 0 == dRow t.desc
    && qCap h != 0 && qCap h % 16 == 0 && (dCap t.desc == 0 || decide (up16 (dCap t.desc) ≤ qCap h))
    && !((h.getD 3 0).getLsbD 32) && k.count == 0 && k.target == qCap h * dRow t.desc

/-- Clears INUSE in the queues homed here, once landing has opened. -/
def State.clearInuse (s : State) (t : Step) : State :=
  if t.landingAt.isSome then
    (t.homeQ s.self).foldl (fun s q => s.setVbytesGo t.glove (q.qbase + 0x18) (leBytes 8 (dTag t.desc))) s
  else s

/-! ### Ends of a step (R163, R184, R206, R208) -/

/-- Ends a step: the knots it still owes, its counters and its record; the engine becomes idle. -/
def State.closeStep (s : State) (e : Nat) (t : Step) (st reason : Nat) (taint : Bool) : State :=
  let s := if t.routed then s else s.engineAdd (dRouted t.desc) 1 taint []
  let s := s.engineAdd (dDone t.desc) 1 taint []
  let s := (s.clearInuse t).bump (BRM_ENG_CNT0 e) BRM_ENG_CNT0_STEPS 1
  let t := { t with ended := true, phase := 0, status := st, reason := reason, routed := true, sends := [], rets := [],
                    flushed := [] }
  let s := s.putStep e t
  let over' := fun (p : Packet) => p.ty == tCOUNTS && p.glove.toNat == s.gid t.glove && bits (p.word 0) 63 63 == 0
    && bits (p.word 0) 31 0 == dTag t.desc && bits (p.word 0) 41 41 == 0
  { s with hub := { s.hub with
    sent := s.hub.sent.filter (fun p => !(over' p)), busy := s.hub.busy.filter (fun b => !(over' b.pkt)) } }

/-- A SPLICE or RETURN packet with its control (R198, R199, R205). -/
def State.splicePacket (s : State) (t : Step) (ret : Bool) (m taddr : Nat) (ctl : List W64) (bs : List Byte) : Packet :=
  s.tagged t.glove
    { ty := if ret then tRETURN else tSPLICE, vc := 3, dest := t.members.getD m 0, taddr := BitVec.ofNat 57 taddr,
      len := bs.length, adapt := s.adaptBit, body := ctl, data := bs }

/-- The splice control. -/
def spliceCtl (t : Step) (rank kind : Nat) (taint : Bool) (q row w2 slot : Nat) : List W64 :=
  [BitVec.ofNat 64 (dTag t.desc + dSelf t.desc * 2 ^ 32 + rank * 2 ^ 44 + kind * 2 ^ 49 + b1 taint * 2 ^ 52),
   BitVec.ofNat 64 (q + row * 2 ^ 32), BitVec.ofNat 64 w2, BitVec.ofNat 64 (slot % 2 ^ 57)]

/-- The (home, queue) pairs with row bytes unsent, and those bytes. -/
def Step.unsent (t : Step) : List (Nat × Nat × Nat) :=
  (t.sends.map (fun r => (r.member, r.q))).eraseDups.map (fun k =>
    (k.1, k.2, (t.sends.filter (fun r => r.member == k.1 && r.q == k.2)).foldl (fun a r => a + (dRow t.desc - r.sent)) 0))

/-- Row bytes of queue q that have landed, aborted ones included. -/
def Step.landedOf (t : Step) (q : Nat) : Nat :=
  (t.landed.filter (fun e => e.1 / (dK t.desc * dNmem t.desc) == q)).foldl (fun a e => a + e.2) 0

/-- The queue arithmetic of a step that ends with taint: the rows not landed here complete their queues' knots with
taint, and each home learns of the bytes it will not get (R208 steps 2 and 3). -/
def State.endQueues (s : State) (t : Step) : State :=
  let s := if t.landingAt.isSome then
      (t.homeQ s.self).zipIdx.foldl (fun s q =>
        let k := qKnot (s.qHead t.glove q.1)
        if (s.knot k).reached then s
        else s.engineAdd k (t.rowsOf q.2 * dRow t.desc - t.landedOf q.2) true []) s
    else s
  t.unsent.foldl (fun s u =>
    (s.send (s.splicePacket t false u.1 0 (spliceCtl t 0 1 true u.2.1 0 u.2.2 0) [])).bump SPL_CNT0 SPL_CNT0_SPLICE_SENT 1) s

/-- A step ends tainted (R208). -/
def State.taintEnd (s : State) (e : Nat) (t : Step) (kind nak member : Nat) : State :=
  let s := (s.endQueues t).closeStep e t ST_TAINT 0 true
  let rec0 := 2 ^ 63 + e * 2 ^ 62 + kind * 2 ^ 59 + nak % 256 * 2 ^ 51 + member % 4096 * 2 ^ 32 + dTag t.desc
  let s := if s.fget SPL_ERR SPL_ERR_VALID = 0 then s.setReg SPL_ERR (BitVec.ofNat 64 rec0) else s
  (s.bump SPL_CNT2 SPL_CNT2_TAINTED 1).event 0x0401 e t.glove (dTag t.desc) rec0

/-- A step fails (R184); once its dispatch has begun it ends tainted. -/
def State.failStep (s : State) (e : Nat) (t : Step) (st reason member : Nat) : State :=
  let s := s.sendFails t st
  let s := if s.fget (BRM_ENG_ERR e) BRM_ENG_ERR_VALID = 0 then
      s.setReg (BRM_ENG_ERR e) (BitVec.ofNat 64
        (2 ^ 63 + member % 4096 * 2 ^ 48 + dTag t.desc * 2 ^ 16 + reason * 2 ^ 8 + st))
    else s
  let s := s.bump (BRM_ENG_CNT0 e) BRM_ENG_CNT0_FAILED 1
  let s := s.event 0x0301 e t.glove (dTag t.desc) (st + reason * 2 ^ 8 + member % 4096 * 2 ^ 32)
  if t.routed then s.taintEnd e t 6 0 member
  else (s.endQueues t).closeStep e t st reason true

def rTIMEOUT : Nat := 1
def rPARAMS : Nat := 2
def rDIR_EPOCH : Nat := 3
def rLISTS : Nat := 4
def rTOKEN : Nat := 5
def rMEMBERS : Nat := 6
def rDIR_ENTRY : Nat := 7
def rFAIL_RECEIVED : Nat := 9

/-- This source's admitted choices. -/
def Step.admitted (t : Step) : List Choice := t.choices.filter (fun c => c.st == 2)

/-- A step whose three conditions hold is done (R206). -/
def State.finishStep (s : State) (e : Nat) (t : Step) : State :=
  s.closeStep e t (if t.retTaint then ST_TAINT else ST_OK) 0 t.retTaint

/-- Ends a step once all it owes is sent and received; a twin's step waits for the twin's digest (R123, R163, R206). -/
def State.checkStep (s : State) (e : Nat) : State :=
  match s.route' e with
  | some t =>
    if t.ended = false ∧ t.twinHeld = false ∧ t.routed ∧ t.sends.isEmpty ∧ t.retAt.isSome ∧ t.rets.isEmpty
        ∧ t.got.foldl (fun a x => a + x.2) 0 = t.admitted.length * dRet t.desc then
      if s.twin t.glove then
        (s.putStep e { t with twinHeld := true }).holdTwin
          { what := .step e, glove := t.glove, subject := 1, task := 0, id := BitVec.ofNat 64 (dTag t.desc), graph := 0,
            digs := [0, 0, 0, t.eng], ring := [], windows := 0, since := s.lanyard.toNat }
      else s.finishStep e t
    else s
  | none => s

/-! ### ROUTE.GO (R165 to R167) -/

/-- Whether an engine is idle. -/
def State.engineIdle (s : State) (e : Nat) : Bool := match s.route' e with
  | some t => t.ended
  | none => true

/-- The engine a ROUTE.GO starts on: 0 in OPX means either. -/
def State.pickEngine (s : State) (want : Nat) : Option Nat :=
  if want = 0 then [0, 1].find? s.engineIdle else if s.engineIdle (want - 1) then some (want - 1) else none

/-- The status of ROUTE.GO. -/
def State.goStatus (s : State) (k : CtxId) (a want : Nat) (d : List W64) : Nat :=
  let n := (s.ctx k).glove
  if stepFmtOk d = false then ST_FMT
  else if (dScore d = 0) = (dSmx d = 0) then ST_FMT
  else if s.stepRangeOk n a d = false then ST_RANGE
  else if s.fget (BRM_DIR_CUREP n) BRM_DIR_CUREP_VALID = 0 then ST_RANGE
  else if (s.findStep n (dTag d)).isSome then ST_RANGE
  else if (s.pickEngine want).isNone then ST_BUSY
  else if s.dying k then ST_GLOVE_DEAD
  else ST_OK

/-- Notes the tag of the step that another glove's step displaces (R190). -/
def State.keepPast (s : State) (e : Nat) : State :=
  match s.route' e with
  | some t =>
    { s with brm := { s.brm with past := Tab.store (fun _ => 0) s.brm.past (2 * t.glove + e) (dTag t.desc + 1) } }
  | none => s

/-- Starts a step on engine e: the member table and the directory are read, and a bad member table fails it. -/
def State.startStep (s : State) (n e : Nat) (d : List W64) (table : List Byte) (qs : List QueueEnt) : State :=
  let seq := (s.fget (BRM_ENG_STAT e) BRM_ENG_STAT_SEQ + 1) % 2 ^ 32
  let raw := (List.range (dNmem d)).map (fun i => leNat ((table.drop (4 * i)).take 4))
  let members := raw.map (BitVec.ofNat 24)
  let none' := decide (dNtok d = 0)
  let t : Step := { glove := n, seq := seq, desc := d, members := members,
                    dirEpoch := s.fget (BRM_DIR_CUREP n) BRM_DIR_CUREP_EPOCH, queues := qs, startAt := s.lanyard.toNat,
                    phase := if none' then 2 else 1, smxDone := none' }
  let s := ((s.keepPast e).fset (BRM_ENG_STAT e) BRM_ENG_STAT_SEQ seq).fset (BRM_ENG_STAT e) BRM_ENG_STAT_GLOVE n
  let s := s.putStep e t
  let bad := raw.any (fun m => decide (2 ^ 24 ≤ m)) || members.getD (dSelf d) 0 != s.self
    || members.eraseDups.length != members.length
  if bad then s.failStep e t ST_RANGE rMEMBERS (dSelf d)
  else if none' ∧ dScore d = 0 then s.engineAdd (dSmxKnot d) 1 false []
  else s

/-- The members of a member table. -/
def tableMembers (n : Nat) (table : List Byte) : List (BitVec 24) :=
  (List.range n).map (fun i => BitVec.ofNat 24 (leNat ((table.drop (4 * i)).take 4)))

/-- The handle of engine e's next step for glove n (R165). -/
def State.goHandle (s : State) (e n : Nat) : W64 :=
  BitVec.ofNat 64 ((s.fget (BRM_ENG_STAT e) BRM_ENG_STAT_SEQ + 1) % 2 ^ 32 * 2 ^ 16 + e * 2 ^ 7 + n)

/-- ROUTE.GO once its member table is read: the directory read, the handle, and the step. -/
def State.routeOn (s : State) (k : CtxId) (w : FmtB) (n e : Nat) (d : List W64) (table : List Byte) : State :=
  match s.layerQueues n (dLayer d) (dNexp d) (tableMembers (dNmem d) table) with
  | some qs => (s.result k w w.rd.toNat (s.goHandle e n)).startStep n e d table qs
  | none => s.memFault n (s.reg (BRM_DIR_CUR n)).toNat 8

/-- ROUTE.GO on a descriptor: the engine chosen, and the member table read. -/
def State.routeGo (s : State) (k : CtxId) (w : FmtB) (a : Nat) (d : List W64) : State :=
  let n := (s.ctx k).glove
  let st := s.goStatus k a (w.ox 1 0) d
  if st ≠ ST_OK then s.finish k w st
  else
    match s.pickEngine (w.ox 1 0), s.engineRead n (k.tile / 64) (dMembers d) (4 * dNmem d) with
    | some e, some (s, table) => s.routeOn k w n e d table
    | _, _ => s.memFault n (dMembers d) (4 * dNmem d)

/-- ROUTE.GO. -/
def execRouteGo (k : CtxId) (w : FmtB) (s : State) : Out :=
  done s (s.issueB k w (w.legal .g .g .no .no (ox 1 0) && w.ox 1 0 != 3) (fun s =>
    let n := (s.ctx k).glove
    let a := ((s.ctx k).gr w.ra.toNat).toNat
    if s.locked k [.mem] [] then none
    else if s.vpoison n a 128 then some (s.memFault n a 128)
    else match s.engineRead n (k.tile / 64) a 128 with
      | none => some (s.memFault n a 128)
      | some (s, bs) => some (s.routeGo k w a (bytesWords 16 bs))))

/-! ### Intake and merge (R171 to R174) -/

/-- SIEVE.FL: the context's records leave for the step's engine. -/
def execSieveFl (k : CtxId) (w : FmtB) (s : State) : Out :=
  done s (s.issueB k w (w.legal .no .g .no .no 0) (fun s =>
    let x := s.ctx k
    if s.quiet k = false then none
    else match s.stepOf x.glove (x.gr w.ra.toNat) with
      | some (e, t) =>
        if t.ended ∨ t.phase ≠ 1 then some (s.finish k w ST_RANGE)
        else if s.dying k then some (s.finish k w ST_GLOVE_DEAD)
        else
          let v := s.tile k.tile
          let mine := v.sieve.filter (fun r => r.ctx == k.ctx.val)
          let s := s.setTile k.tile { v with sieve := v.sieve.filter (fun r => r.ctx != k.ctx.val) }
          some ((s.putStep e { t with flushed := t.flushed ++ mine }).finish k w ST_OK)
      | none => some (s.finish k w ST_RANGE)))

/-- Cuts records into lists: a partial, or records from POS 0 on. -/
def listsOf : List SieveRec → List (List SieveRec) → List (List SieveRec)
  | [], acc => acc.reverse
  | r :: rs, [] => listsOf rs [[r]]
  | r :: rs, g :: acc =>
    if r.part || r.pos == 0 || g.any SieveRec.part then listsOf rs ([r] :: g :: acc) else listsOf rs ((g ++ [r]) :: acc)

/-- The range of a list. -/
def rangeOf (g : List SieveRec) : Nat := (g.head?.map (fun r => r.expert / 64)).getD 0
/-- The token of a list. -/
def tokenOf (g : List SieveRec) : Nat := (g.head?.map SieveRec.token).getD 0

/-- Lists that a step holds of a token, of the kind of g. -/
def Step.heldOf (t : Step) (tok : Nat) (part : Bool) : List (List SieveRec) :=
  (if part then t.partials.map (fun r => [r]) else t.lists).filter (fun h => tokenOf h == tok)

/-- Whether NRANGE range numbers sum, and their squares sum, as those of the NRANGE ranges do. -/
def rangesOk (n : Nat) (rs : List Nat) : Bool :=
  rs.foldl (· + ·) 0 == n * (n - 1) / 2 && rs.foldl (fun a r => a + r * r) 0 == (List.range n).foldl (fun a r => a + r * r) 0

/-- The status and reason for which a list fails its step, in the order of R174. -/
def Step.listBad (t : Step) (g : List SieveRec) : Option (Nat × Nat) :=
  let tok := tokenOf g
  let part := g.any SieveRec.part
  let held := (t.heldOf tok part).map rangeOf ++ [rangeOf g]
  if g.any (fun r => decide (r.fn ≠ dScore t.desc ∨ r.lenM1 + 1 ≠ dKeep t.desc)) then some (ST_FMT, rLISTS)
  else if g.zipIdx.any (fun r => r.1.pos != r.2 || r.1.token != tok || r.1.expert / 64 != rangeOf g) then
    some (ST_FMT, rLISTS)
  else if t.nrange < held.length ∨ (held.length = t.nrange ∧ rangesOk t.nrange held = false) then some (ST_FMT, rLISTS)
  else if tok < dToken0 t.desc ∨ dToken0 t.desc + dNtok t.desc ≤ tok then some (ST_RANGE, rTOKEN)
  else if g.any (fun r => decide (dNexp t.desc ≤ r.expert)) then some (ST_RANGE, rLISTS)
  else none

/-- A token's softmax entry of its partials (R173): M and S. -/
def softmaxEntry (ps : List SieveRec) : W32 × W32 :=
  let ps := sortBy (fun a b => decide (a.expert < b.expert)) ps
  match ps with
  | [] => (0, 0)
  | p :: r =>
    let m := r.foldl (fun a q => opMax a q.key) (canon p.key)
    let term := fun (q : SieveRec) => opMul q.f (opExp (opSub q.key m))
    (m, r.foldl (fun a q => opAdd a (term q)) (term p))

/-- Whether every token holds its NRANGE lists of a kind. -/
def Step.allHeld (t : Step) (part : Bool) : Bool := t.tokens.all (fun k => (t.heldOf k part).length == t.nrange)

/-- Takes in a token's partials, which step t now holds: the softmax entry once all of a token's are in. -/
def State.takePartial (s : State) (e : Nat) (t : Step) (g : List SieveRec) : State :=
  let ps := t.partials.filter (fun r => r.token == tokenOf g)
  let s := s.putStep e t
  if ps.length = t.nrange then
    let v := softmaxEntry ps
    let a := dSmx t.desc + 8 * (tokenOf g - dToken0 t.desc)
    match s.setVbytes t.glove a (leBytes 4 v.1.toNat ++ leBytes 4 v.2.toNat) with
    | none => s.memFault t.glove a 8
    | some s =>
      if t.smxDone = false ∧ t.allHeld true then
        (s.putStep e { t with smxDone := true }).engineAdd (dSmxKnot t.desc) 1 false []
      else s
  else s

/-- Takes one list in; `none` where the step ended with it. -/
def State.takeList (s : State) (e : Nat) (g : List SieveRec) : State :=
  match s.route' e with
  | some t =>
    if t.ended then s
    else match t.listBad g with
      | some (st, why) => s.failStep e t st why 0
      | none =>
        if g.any SieveRec.part then s.takePartial e { t with partials := t.partials ++ g } g
        else
          let t := { t with lists := t.lists ++ [g] }
          s.putStep e { t with phase := if t.allHeld false then 2 else t.phase }
  | none => s

/-- BRM_LIST_INTAKE. -/
def execBrmListIntake (e : Fin 2) (s : State) : Out :=
  match s.route' e with
  | some t =>
    if t.ended = false ∧ t.phase = 1 then
      done s ((listsOf t.flushed []).foldl (fun s g => s.takeList e g) (s.putStep e { t with flushed := [] }))
    else done s s
  | none => done s s

/-! ### Ranks and weights (R174 to R177) -/

/-- Whether record a comes before record b under R170. -/
def SieveRec.first (a b : SieveRec) : Bool := before a.key a.expert b.key b.expert

/-- The groups selected for a token, by their greatest keys. -/
def Step.topGroups (t : Step) (cs : List SieveRec) : List Nat :=
  let size := dNexp t.desc / (dGrp t.desc + 1)
  let best := (List.range (dGrp t.desc + 1)).filterMap (fun g =>
    match cs.filter (fun c => c.expert / size == g) with
    | [] => none
    | c :: r => some (g, (r.foldl (fun a b => if SieveRec.first b a then b else a) c).key))
  ((sortBy (fun a b => before a.2 a.1 b.2 b.1) best).take (dTopg t.desc)).map (fun x => x.1)

/-- A token's merged list, and whether a chosen rank lost a NaN-keyed candidate. -/
def Step.merged (t : Step) (tok : Nat) : List SieveRec × Bool :=
  let all := (t.heldOf tok false).flatten
  let size := dNexp t.desc / (dGrp t.desc + 1)
  let cs := if dGrp t.desc = 0 then all
    else
      let gs := t.topGroups all
      all.filter (fun c => gs.contains (c.expert / size))
  let nums := sortBy SieveRec.first (cs.filter (fun c => !(isNan c.key)))
  (nums.take (dKeep t.desc), decide (nums.length < dK t.desc ∧ nums.length < cs.length))

/-- The weights of a token's merged list (R175). -/
def stepWeights (d : List W64) (fs : List W32) : List W32 :=
  let zmax := match fs.take (dK d) with
    | [] => 0
    | z :: r => r.foldl opMax (canon z)
  let fs := if dScore d = 2 then fs.map (fun z => opExp (opSub z zmax)) else fs
  let den := match fs.take (dK d) with
    | [] => 0
    | f :: r => r.foldl opAdd f
  fs.map (fun f => opMul (if dNorm d then opDiv f den else f) (dWscale d))

/-- The replica of R176. -/
def replicaOf (token r : Nat) : Nat := token * 0x9E3779B1 % 2 ^ 32 * r / 2 ^ 32

/-- A token's choice records; `none` where an entry is refused. -/
def Step.choicesOf (t : Step) (tok : Nat) : Option (List Choice) :=
  let m := (t.merged tok).1
  let ws := stepWeights t.desc (m.map SieveRec.f)
  (m.zip ws).zipIdx.mapM (fun x =>
    let c := x.1.1
    let reps := t.queues.filter (fun q => q.expert == c.expert)
    let r := replicaOf tok reps.length
    match reps[r]? with
    | some q => some { token := tok, expert := c.expert, rank := x.2, replica := q.replica,
                       st := if x.2 < dK t.desc then 0 else 1, weight := x.1.2, dest := q.home }
    | none => none)

/-- BRM_RANKING_DONE: every token is merged and ranked, and the counts go out. -/
def execBrmRankingDone (e : Fin 2) (s : State) : Out :=
  match s.route' e with
  | some t =>
    if t.ended = false ∧ t.phase = 2 then
      match t.tokens.mapM t.choicesOf with
      | none => done s (s.failStep e t ST_RANGE rDIR_ENTRY 0)
      | some cs =>
        let nans := (t.tokens.filter (fun k => (t.merged k).2)).length
        let cs := cs.flatten
        let t := { t with choices := cs, nans := nans, ranked := true, nanRaised := decide (nans ≠ 0), phase := 3 }
        let u := (s.putStep e t).bump (BRM_ENG_CNT1 e) BRM_ENG_CNT1_CHOICES cs.length
        let u := if nans ≠ 0 then u.event 0x2001 e t.glove (dTag t.desc) nans else u
        done s (u.sendCounts t 0)
    else done s s
  | none => done s s

/-! ### Receiving counts and grants (R178, R179, R190) -/

/-- NENT of a part, and whether the packet is a vector of entries of `size` bytes. -/
def vecNent (p : Packet) : Nat := bits (p.word 3) 63 32
def vecIs (p : Packet) (size : Nat) : Bool := p.len == 32 + size * vecNent p
/-- Whether a COUNTS packet is of a routing step. -/
def vecRouting (p : Packet) : Bool := bits (p.word 0) 63 63 == 0
/-- Whether the header holds 0 where R178 shows 0. -/
def vecHeadOk (p : Packet) : Bool := bits (p.word 0) 62 58 == 0 && bits (p.word 1) 63 16 == 0 && decide (p.len ≤ 4096)

/-- Whether a routing part carries grants: by its length, and a part with no entries and FAIL 0 by what is held of that
member already. -/
def State.vecGrant (s : State) (p : Packet) : Bool :=
  if vecNent p ≠ 0 then vecIs p 8
  else if bits (p.word 0) 41 41 = 1 then false
  else match s.activeSlot p.glove.toNat p.epoch.toNat with
    | none => false
    | some n => (match s.findStep n (bits (p.word 0) 31 0) with
      | some (_, t) =>
        let round := bits (p.word 0) 40 40
        let m := bits (p.word 0) 53 42
        (t.homeQ p.src).isEmpty && vecHeld t.counts round m ((t.homeQ s.self).length * dK t.desc)
      | none => false)

/-- The reason for which a part does not match its step, by the queues its header must count (R190). -/
def Step.mismatch (t : Step) (p : Packet) (nq : Nat) : Option Nat :=
  if bits (p.word 1) 15 0 ≠ t.dirEpoch ∨ bits (p.word 2) 31 0 ≠ nq then some rDIR_EPOCH
  else if t.memberIx p.src ≠ some (bits (p.word 0) 53 42) then some rMEMBERS
  else if bits (p.word 0) 39 32 ≠ dLayer t.desc ∨ bits (p.word 2) 63 32 ≠ t.params ∨ t.rounds ≤ bits (p.word 0) 40 40
      ∨ nq * dK t.desc < bits (p.word 3) 31 0 + vecNent p then some rPARAMS
  else none

/-- The entries of a part, of `size` bytes each. -/
def vecEntries (p : Packet) (size : Nat) : List W64 :=
  (List.range (vecNent p)).map (fun i => BitVec.ofNat 64 (leNat ((p.data.drop (32 + size * i)).take size)))

/-- Whether entries of a part are held already. -/
def vecDup (ps : List VecPart) (v : VecPart) : Bool :=
  ps.any (fun p => p.round == v.round && p.member == v.member
    && (decide (p.first < v.first + v.entries.length ∧ v.first < p.first + p.entries.length)
        || (p.entries.isEmpty && v.entries.isEmpty)))

/-- A part of a step's vector on arrival: FAIL, what does not match, what is held already; else `keep` holds it. -/
def State.vecReceive (s : State) (p : Packet) (n size : Nat) (keep : State → Nat → Step → VecPart → State) : State :=
  let tag := bits (p.word 0) 31 0
  match s.findStep n tag with
  | none => if s.endedStep n tag then s else s.nak p nakBUSY
  | some (e, t) =>
    let m := bits (p.word 0) 53 42
    if bits (p.word 0) 41 41 = 1 then s.failStep e t (bits (p.word 0) 57 54) rFAIL_RECEIVED m
    else
      let nq := (if size = 4 then t.homeQ s.self else t.homeQ p.src).length
      match t.mismatch p nq with
      | some why => s.failStep e t ST_FMT why ((t.memberIx p.src).getD m)
      | none =>
        let v : VecPart := ⟨bits (p.word 0) 40 40, m, bits (p.word 3) 31 0, vecEntries p size⟩
        if vecDup (if size = 4 then t.counts else t.grants) v then s.event 0x0303 e n tag m
        else keep s e t v

/-- COUNTS_PART_RECEIVE. -/
def execCountsPartReceive (x : Rx) (s : State) : Out :=
  done s (s.receive x tCOUNTS (fun p => vecRouting p && !(s.vecGrant p)) (fun p => vecHeadOk p && vecIs p 4) (fun s p n =>
    s.vecReceive p n 4 (fun s e t v =>
      let t := { t with counts := t.counts ++ [v] }
      let full := vecHeld t.counts 0 v.member ((t.homeQ s.self).length * dK t.desc)
      s.putStep e (if v.round = 0 ∧ full then { t with arrivals := t.arrivals ++ [(v.member, s.lanyard.toNat)] } else t))))

/-- Whether a source holds every home's grants of a round. -/
def Step.grantsIn (t : Step) (round : Nat) : Bool :=
  (List.range (dNmem t.desc)).all (fun i => vecHeld t.grants round i ((t.homeQ (t.members.getD i 0)).length * dK t.desc))

/-- GRANT_PART_RECEIVE. -/
def execGrantPartReceive (x : Rx) (s : State) : Out :=
  done s (s.receive x tCOUNTS (fun p => vecRouting p && s.vecGrant p) vecHeadOk (fun s p n =>
    s.vecReceive p n 8 (fun s e t v =>
      let t := { t with grants := t.grants ++ [v] }
      s.putStep e { t with phase := if t.grantsIn (t.rounds - 1) then 5 else t.phase })))

/-! ### Admission at a home (R180, R194, R196) -/

/-- The count of a member for (queue, rank) in a round. -/
def Step.countAt (t : Step) (round q r i : Nat) : Nat := (vecEntry t.counts round i (q * dK t.desc + r)).toNat

/-- Choices requested of queue q in the rounds done. -/
def Step.requestedOf (t : Step) (q : Nat) : Nat :=
  (List.range t.homeRounds).foldl (fun a rd => (List.range (dK t.desc)).foldl (fun a r =>
    (List.range (dNmem t.desc)).foldl (fun a i => a + t.countAt rd q r i) a) a) 0

/-- What a queue admits of counts in (rank, member) order: `left` is none without limit. -/
def admitGo : Option Nat → List Nat → List Nat
  | _, [] => []
  | none, c :: cs => c :: admitGo none cs
  | some l, c :: cs => min c l :: admitGo (some (l - min c l)) cs

/-- ADMIT of a round, at (queue × k + rank) × NMEM + member. -/
def Step.admitRound (t : Step) (nq round : Nat) : List Nat :=
  (List.range nq).flatMap (fun q =>
    let cs := (List.range (dK t.desc)).flatMap (fun r => (List.range (dNmem t.desc)).map (t.countAt round q r))
    admitGo (if dCap t.desc = 0 then none else some (dCap t.desc - t.rowsOf q)) cs)

/-- A write of an engine to glove memory: the glove faults where a page refuses it (R62). -/
def State.putOr (s : State) (n a : Nat) (bs : List Byte) : State :=
  if s.gstate n = gACTIVE then
    match s.setVbytes n a bs with
    | some u => u
    | none => s.memFault n a bs.length
  else s

/-- Opens landing on one queue: header, pad rows and tags, and the credit. -/
def State.openQueue (s : State) (t : Step) (q : QueueEnt) (i : Nat) : State :=
  let h := s.qHead t.glove q
  let rows := t.rowsOf i
  let pad := up16 rows
  let rb := dRow t.desc
  let s := s.putOr t.glove (q.qbase + 0x10) (leBytes 4 rows ++ leBytes 4 pad ++ leBytes 8 (dTag t.desc + 2 ^ 32))
  let s := s.putOr t.glove (q.qbase + 0x40 + rows * rb) (List.replicate ((pad - rows) * rb) 0)
  let tag := List.replicate 8 0 ++ leBytes 8 0xFFFFFFFFFFF
  let s := s.putOr t.glove (q.qbase + 0x40 + qCap h * rb + 16 * rows) ((List.range (pad - rows)).flatMap (fun _ => tag))
  if s.gstate t.glove = gACTIVE then s.engineAdd (qKnot h) ((qCap h - rows) * rb) false [] else s

/-- The grant vector of a round for member i. -/
def Step.grantFor (t : Step) (nq round i : Nat) : List (List Byte) :=
  (List.range nq).flatMap (fun q => (List.range (dK t.desc)).map (fun r =>
    leBytes 4 (t.admitOf round q r i)
      ++ leBytes 4 (if round + 1 < t.rounds then 0xFFFFFFFF else t.offsetOf q r i)))

/-- Sends a round's grant vectors. -/
def State.sendGrants (s : State) (t : Step) (nq round : Nat) : State :=
  t.rotation.foldl (fun s i => s.sendVector t (t.members.getD i 0) round nq 508 (t.grantFor nq round i)) s

/-- The last member to arrive in the first round, and the time from the first to it. -/
def Step.lastMember (t : Step) : Nat := (t.arrivals.getLast?.map (fun a => a.1)).getD 0
def Step.spread (t : Step) : Nat :=
  (t.arrivals.getLast?.map (fun a => a.2)).getD 0 - (t.arrivals.head?.map (fun a => a.2)).getD 0

/-- The first aligned queue whose header is not mapped readable. -/
def State.queueHole (s : State) (t : Step) (qs : List QueueEnt) : Option Nat :=
  (qs.find? (fun q => q.qbase % 64 == 0 && !(s.mapped t.glove q.qbase 64 .R))).map (fun q => q.qbase)

/-- The first home round's end shows the last member to arrive (R304). -/
def State.noteLag (s : State) (t : Step) (round : Nat) : State :=
  if round = 0 then
    (s.setReg COLL_LAG0 (BitVec.ofNat 64 (2 ^ 63 + t.lastMember * 2 ^ 32 + dTag t.desc))).setReg COLL_LAG1
      (BitVec.ofNat 64 t.spread)
  else s

/-- The counts of HSTAT: requested and admitted, per queue (R180). -/
def Step.hstat (t : Step) (nq : Nat) : List Byte :=
  (List.range nq).flatMap (fun q => leBytes 4 (t.requestedOf q) ++ leBytes 4 (t.rowsOf q))

/-- HOME_ADMIT. -/
def execHomeAdmit (e : Fin 2) (s : State) : Out :=
  match s.route' e with
  | some t =>
    let qs := t.homeQ s.self
    let nq := qs.length
    let round := t.homeRounds
    if t.ended = false ∧ round < t.rounds
        ∧ (List.range (dNmem t.desc)).all (fun i => vecHeld t.counts round i (nq * dK t.desc)) then
      match s.queueHole t qs with
      | some a => done s (s.memFault t.glove a 64)
      | none =>
        if round = 0 ∧ qs.all (s.queueOk t) = false then done s (s.failStep e t ST_RANGE rDIR_ENTRY 0)
        else
          let adm := t.admitRound nq round
          let t1 := if round = 0 then { t with admit0 := adm } else { t with admit1 := adm }
          let t1 := { t1 with homeRounds := round + 1 }
          let asked := (List.range nq).foldl (fun a q => (List.range (dK t.desc)).foldl (fun a r =>
            (List.range (dNmem t.desc)).foldl (fun a i => a + t.countAt round q r i) a) a) 0
          let u := s.bump (BRM_ENG_CNT2 e) BRM_ENG_CNT2_HOME_REFUSED (asked - adm.foldl (· + ·) 0)
          let u := u.noteLag t round
          if round + 1 < t.rounds then done s ((u.putStep e t1).sendGrants t1 nq round)
          else if dCap t.desc = 0 ∧ qs.zipIdx.any (fun q => decide (qCap (s.qHead t.glove q.1) < up16 (t1.rowsOf q.2))) then
            done s (u.failStep e t ST_RANGE rDIR_ENTRY 0)
          else
            match (if dHstat t.desc = 0 then some u else u.setVbytes t.glove (dHstat t.desc) (t1.hstat nq)) with
            | none => done s (u.memFault t.glove (dHstat t.desc) (8 * nq))
            | some u =>
              let t1 := { t1 with landingAt := some s.lanyard.toNat }
              let u := qs.zipIdx.foldl (fun u q => u.openQueue t1 q.1 q.2) (u.putStep e t1)
              done s (if u.gstate t.glove = gACTIVE then u.sendGrants t1 nq round else u)
    else done s s
  | none => done s s

/-! ### The source after grants (R181 to R183, R185) -/

/-- The index of a choice's queue in its home's queue list. -/
def Step.qIx (t : Step) (c : Choice) : Nat :=
  ((t.homeQ c.dest).findIdx? (fun q => q.expert == c.expert && q.replica == c.replica)).getD 0

/-- ADMIT and OFFSET of a choice's (queue, rank) in a round's grants. -/
def Step.grantOf (t : Step) (round : Nat) (c : Choice) : W64 :=
  vecEntry t.grants round ((t.memberIx c.dest).getD 0) (t.qIx c * dK t.desc + c.rank)

/-- Whether two choices compete for one (queue, rank). -/
def Choice.same (a b : Choice) : Bool := a.expert == b.expert && a.replica == b.replica && a.rank == b.rank

/-- Gives the choices of a round their outcome: of each (queue, rank), the first ADMIT in token order are admitted. -/
def Step.applyGo (t : Step) (round : Nat) : List Choice → List Choice → List Choice
  | _, [] => []
  | seen, c :: cs =>
    if c.round = round ∧ (c.st = 0 ∨ c.st = 4) then
      let j := (seen.filter (Choice.same c)).length
      { c with st := if j < bits (t.grantOf round c) 31 0 then 2 else 3 } :: Step.applyGo t round (c :: seen) cs
    else c :: Step.applyGo t round seen cs

/-- Applies a round's grants. -/
def Step.applyGrants (t : Step) (round : Nat) : Step := { t with choices := t.applyGo round [] t.choices }

/-- Gives refused ranks, ascending, the token's next spares: spares left, with each one's new rank. -/
def moveSpares : List Nat → List Choice → List Choice
  | r :: rs, c :: cs => { c with rank := r, round := 1, st := 4 } :: moveSpares rs cs
  | _, cs => cs

/-- Reroutes one token's refused choices (R182). -/
def rerouteToken (cs : List Choice) : List Choice :=
  let refused := (cs.filter (fun c => c.st == 3)).map Choice.rank
  cs.filter (fun c => c.st != 1) ++ moveSpares refused (cs.filter (fun c => c.st == 1))

/-- SOURCE_REROUTE: with every first-round grant in, under CAP_REROUTE. -/
def execSourceReroute (e : Fin 2) (s : State) : Out :=
  match s.route' e with
  | some t =>
    if t.ended = false ∧ t.phase = 3 ∧ t.rounds = 2 ∧ t.grantsIn 0 then
      let t := t.applyGrants 0
      let t := { t with
        choices := t.tokens.flatMap (fun k => rerouteToken (t.choices.filter (fun c => c.token == k))),
        rerouted := true, phase := 4 }
      done s ((s.putStep e t).sendCounts t 1)
    else done s s
  | none => done s s

/-- The weights of a token's ranks after admission (R181, R183). -/
def Step.weightsOf (t : Step) (tok : Nat) : List W32 :=
  let adm := t.admitted.filter (fun c => c.token == tok)
  let row := (List.range (dK t.desc)).map (fun r => adm.find? (fun c => c.rank == r))
  let ws := row.filterMap (fun c => c.map Choice.weight)
  let a := match ws with
    | [] => 0
    | w :: r => r.foldl opAdd w
  row.map (fun c => match c with
    | none => 0
    | some c => if dPolicy t.desc = 1 then opDiv c.weight a else c.weight)

/-- The send list in the order of R185, each record with its queue row. -/
def Step.sendRows (t : Step) : List SendRow :=
  let mem := fun (c : Choice) => (t.memberIx c.dest).getD 0
  let sorted := sortBy (fun a b => decide (mem a < mem b ∨ (mem a = mem b ∧ a.expert < b.expert)))
    (if dRow t.desc = 0 then [] else t.admitted)
  (sorted.foldl (fun (acc : List SendRow × List Choice) c =>
    let row := bits (t.grantOf (t.rounds - 1) c) 63 32 + (acc.2.filter (Choice.same c)).length
    let qb := ((t.homeQ c.dest).getD (t.qIx c) ⟨0, 0, 0, 0⟩).qbase
    (acc.1 ++ [{ token := c.token, row := row, q := t.qIx c, rank := c.rank, member := mem c, qbase := qb }], c :: acc.2))
    ([], [])).1

/-- The combine slot of a token and rank. -/
def Step.slotOf (t : Step) (tok r : Nat) : Nat := dCombine t.desc + ((tok - dToken0 t.desc) * dK t.desc + r) * dRet t.desc

/-- Zeros every combine slot whose rank is refused or empty. -/
def State.zeroSlots (s : State) (t : Step) : State :=
  let z := List.replicate (dRet t.desc) (0 : Byte)
  t.tokens.foldl (fun s k => (List.range (dK t.desc)).foldl (fun s r =>
    if t.admitted.any (fun c => c.token == k && c.rank == r) then s else s.putOr t.glove (t.slotOf k r) z) s) s

/-- SOURCE_SORT: the final grants are in. -/
def execSourceSort (e : Fin 2) (s : State) : Out :=
  match s.route' e with
  | some t =>
    if t.ended = false ∧ t.phase = 5 ∧ t.routed = false then
      let t := t.applyGrants (t.rounds - 1)
      let bs := (t.tokens.flatMap t.weightsOf).flatMap (fun w => leBytes 4 w.toNat)
      match s.setVbytes t.glove (dWeights t.desc) bs with
      | none => done s (s.memFault t.glove (dWeights t.desc) bs.length)
      | some u =>
        let t := { t with sends := t.sendRows, routed := true, rot := (dSelf t.desc + 1) % dNmem t.desc,
                          phase := if t.retAt.isSome then 7 else 6 }
        let u := (u.engineAdd (dRouted t.desc) 1 false []).putStep e t
        done s ((u.zeroSlots t).checkStep e)
    else done s s
  | none => done s s

/-! ### Timeout, statistics and the directory's change -/

/-- The lowest member whose counts, or whose grants as a home, are not held in a round. -/
def State.missingMember (s : State) (t : Step) : Option Nat :=
  let nq := (t.homeQ s.self).length
  (List.range (dNmem t.desc)).find? (fun i => (List.range t.rounds).any (fun rd =>
    !(vecHeld t.counts rd i (nq * dK t.desc))
      || !(vecHeld t.grants rd i ((t.homeQ (t.members.getD i 0)).length * dK t.desc))))

/-- BRM_STEP_TIMEOUT. -/
def execBrmStepTimeout (e : Fin 2) (s : State) : Out :=
  match s.route' e with
  | some t =>
    if t.ended = false ∧ t.routed = false ∧ t.startAt + dTimeout t.desc ≤ s.lanyard.toNat then
      match s.missingMember t with
      | some m => done s (s.failStep e t ST_TIMEOUT rTIMEOUT m)
      | none => if t.phase = 1 then done s (s.failStep e t ST_TIMEOUT rTIMEOUT 0) else done s s
    else done s s
  | none => done s s

/-- The words of the statistics block (R188). -/
def State.statWords (s : State) (t : Step) : List Nat :=
  let chosen := t.choices.filter (fun c => decide (c.round = 0 ∧ c.st ≠ 1))
  let adm := t.admitted
  let refused := t.choices.filter (fun c => c.st == 3)
  let r2 := t.choices.filter (fun c => c.round == 1)
  let nq := (t.homeQ s.self).length
  let req := (List.range nq).map t.requestedOf
  let most := req.foldl max 0
  let maxq := match (t.homeQ s.self).zip req |>.find? (fun x => x.2 == most) with
    | some x => if most = 0 then 0 else x.1.expert + x.1.replica * 2 ^ 16
    | none => 0
  let idle := if t.routed ∧ t.ranked ∧ (t.ended = false ∨ t.status = ST_OK ∨ t.status = ST_TAINT) then
    (t.tokens.filter (fun k => (t.weightsOf k).all (· == 0))).length else 0
  [t.status + t.phase * 2 ^ 16 + t.reason * 2 ^ 20 + dTag t.desc * 2 ^ 32, t.lastMember, t.spread, dNtok t.desc,
   chosen.length, adm.length, refused.length - r2.length, r2.length, (adm.filter (fun c => c.round == 1)).length, idle,
   t.nans, nq, req.foldl (· + ·) 0, (List.range nq).foldl (fun a q => a + t.rowsOf q) 0, most, maxq]

/-- ROUTE.STAT. -/
def execRouteStat (k : CtxId) (w : FmtB) (s : State) : Out :=
  done s (s.issueB k w (w.legal .no .g .g .no 0) (fun s =>
    let x := s.ctx k
    let a := (x.gr w.rb.toNat).toNat
    if s.locked k [.mem] [.mem] then none
    else match s.stepOf x.glove (x.gr w.ra.toNat) with
      | none => some (s.finish k w ST_RANGE)
      | some (_, t) =>
        if a % 64 ≠ 0 then some (s.finish k w ST_RANGE)
        else if s.dying k then some (s.finish k w ST_GLOVE_DEAD)
        else match s.setVbytes x.glove a ((s.statWords t).flatMap (leBytes 8) ++ List.replicate 128 0) with
          | some u => some (u.finish k w ST_OK)
          | none => some (s.memFault x.glove a 256)))

/-- BRM_DIR_NEXTEP_WRITE (R187, R191). -/
def execBrmDirNextepWrite (n : Fin 64) (v : W64) (s : State) : Out :=
  let r := BRM_DIR_NEXTEP n
  let arm := bits v 17 17
  if s.fget r BRM_DIR_NEXTEP_ARMED = 1 then
    done s (if arm = 0 then s.fset r BRM_DIR_NEXTEP_ARMED 0 else s)
  else
    let s1 := (s.fset r BRM_DIR_NEXTEP_EPOCH (bits v 15 0)).fset r BRM_DIR_NEXTEP_ARMED arm
    done s (if arm = 1 ∧ s.fget (BRM_DIR_CUREP n) BRM_DIR_CUREP_VALID = 0 then s1.installDir n else s1)

end Sys2Proof.Machine
end

