-- ==== Sys2Proof/Machine/Splice.lean ====
section
/-! DEFINITION. The splice engine: dispatch, landing, return and their timeouts (R197 to R210). -/

namespace Sys2Proof.Machine

open Reg

/-! ### Rotation (R200) -/

/-- Whether a destination may take a packet of a number of flits on VC3 now: its rate limiter and its port's credit. -/
def State.mayTake (s : State) (dev : BitVec 24) (flits : Nat) : Bool :=
  if dev = s.self then true
  else match s.route dev 3 s.adaptBit false with
    | none => true
    | some o => s.mayLeave dev 3 flits o && decide (flits ≤ (s.port o).credit 3)

/-- From a member on, the first that has a fragment of some length due and may take it, and those passed over before it. -/
def State.turn (s : State) (t : Step) (due : Nat → Option Nat) : Nat → Nat → Nat → Option Nat × Nat
  | _, 0, passed => (none, passed)
  | m, k + 1, passed =>
    let next := (m + 1) % dNmem t.desc
    match due m with
    | none => State.turn s t due next k passed
    | some len =>
      if s.mayTake (t.members.getD m 0) (flitCount tSPLICE len) then (some m, passed)
      else State.turn s t due next k (passed + 1)

/-- Bytes of the next fragment of a row with `sent` of its bytes sent. -/
def fragLen (bytes sent : Nat) : Nat := min 4096 (bytes - sent)

/-- Adds a packet to a step's ENG digest in twin mode (R122). -/
def State.engDig (s : State) (t : Step) (p : Packet) : Step :=
  if s.twin t.glove then { t with eng := t.eng + recHash p.record } else t

/-! ### Dispatch (R198 to R201) -/

/-- Replaces the first send-list entry of a member by f of it. -/
def bumpSend (m len bytes : Nat) : List SendRow → List SendRow
  | [] => []
  | r :: rs =>
    if r.member = m then (if r.sent + len < bytes then { r with sent := r.sent + len } :: rs else rs)
    else r :: bumpSend m len bytes rs

/-- SPLICE_SEND_FRAGMENT. -/
def execSpliceSendFragment (e : Fin 2) (s : State) : Out :=
  match s.route' e with
  | some t =>
    if t.ended = false ∧ t.routed ∧ t.sends.isEmpty = false then
      let rb := dRow t.desc
      let due := fun m => (t.sends.find? (fun r => r.member == m)).map (fun r => fragLen rb r.sent)
      let (who, passed) := s.turn t due t.rot (dNmem t.desc) 0
      let s1 := s.bump SPL_CNT3 SPL_CNT3_PASSED passed
      match who with
      | none => done s s1
      | some m =>
        match t.sends.find? (fun r => r.member == m) with
        | none => done s s1
        | some r =>
          let len := fragLen rb r.sent
          let a := dAct t.desc + (r.token - dToken0 t.desc) * rb + r.sent
          if s.vpoison t.glove a len then done s (s1.taintEnd e t 5 0 m)
          else match s1.engineRead t.glove 0 a len with
            | none => done s (s1.memFault t.glove a len)
            | some (u, bs) =>
              let p := u.splicePacket t false m (r.qbase + 0x40 + r.row * rb + r.sent)
                (spliceCtl t r.rank 0 false r.q r.row r.token (t.slotOf r.token r.rank)) bs
              let t1 := { u.engDig t p with sends := bumpSend m len rb t.sends, rot := (m + 1) % dNmem t.desc }
              done s ((((u.putStep e t1).bump SPL_CNT0 SPL_CNT0_SPLICE_SENT 1).send p).checkStep e)
    else done s s
  | none => done s s

/-! ### Landing (R199, R202, R203) -/

/-- Fields of a splice control. -/
def spTag (p : Packet) : Nat := bits (p.word 0) 31 0
def spMember (p : Packet) : Nat := bits (p.word 0) 43 32
def spRank (p : Packet) : Nat := bits (p.word 0) 48 44
def spKind (p : Packet) : Nat := bits (p.word 0) 51 49
def spTaint (p : Packet) : Bool := (p.word 0).getLsbD 52
def spQ (p : Packet) : Nat := bits (p.word 1) 31 0
def spRow (p : Packet) : Nat := bits (p.word 1) 63 32
def spToken (p : Packet) : Nat := bits (p.word 2) 31 0
def spBytes (p : Packet) : Nat := bits (p.word 2) 47 0
def spSlot (p : Packet) : Nat := bits (p.word 3) 56 0

/-- Whether a control is well formed for its packet's type (the second row of R202). -/
def spliceOk (p : Packet) : Bool :=
  let kind := spKind p
  let mine := if p.ty = tRETURN then kind == 2 else kind == 0 || kind == 1
  mine && bits (p.word 0) 63 53 == 0 && bits (p.word 2) 63 (if kind = 1 then 48 else 32) == 0 && bits (p.word 3) 63 57 == 0
    && (kind == 0 || spSlot p == 0) && (kind != 1 || (spRow p == 0 && p.len == 0)) && decide (p.len ≤ 4096)

/-- Refuses a packet: NAK and count; RANGE against a running step ends it with taint (R202, R208). -/
def State.spliceRefuse (s : State) (p : Packet) (step : Option (Nat × Step)) : State :=
  let s := (s.nak p nakRANGE).bump SPL_CNT2 SPL_CNT2_REFUSED 1
  match step with
  | some (e, t) => s.taintEnd e t 2 nakRANGE ((t.memberIx p.src).getD 0)
  | none => s

/-- A SPLICE or RETURN packet in the order of R202: the glove, the control, the step; then `land`, which answers none
where it refuses. -/
def State.spliceReceive (s : State) (x : Rx) (ty : Nat) (mine : Packet → Bool) (isOpen : Step → Bool)
    (land : State → Packet → Nat → Step → Option State) : State :=
  match s.headOf x with
  | none => s
  | some p =>
    if p.ty = ty ∧ p.dest = s.self ∧ mine p then
      let stale := (s.activeSlot p.glove.toNat p.epoch.toNat).isNone && !(s.gatedOff x p)
      match s.take x ty with
      | (u, none) => if stale then u.bump SPL_CNT2 SPL_CNT2_REFUSED 1 else u
      | (u, some (p, n)) =>
        if spliceOk p = false then (u.malformed x p).bump SPL_CNT2 SPL_CNT2_REFUSED 1
        else match u.findStep n (spTag p) with
          | none => u.spliceRefuse p none
          | some (e, t) =>
            if isOpen t = false then u.spliceRefuse p none
            else match land u p e t with
              | some v => v
              | none => u.spliceRefuse p (some (e, t))
    else s

/-- The key of a rank block in `landed`. -/
def Step.blockKey (t : Step) (q r i : Nat) : Nat := (q * dK t.desc + r) * dNmem t.desc + i

/-- A ROW lands: its block check, the tag with byte 0, its bytes, and LEN to the queue's knot. -/
def landRow (s : State) (p : Packet) (e : Nat) (t : Step) : Option State :=
  let qs := t.homeQ s.self
  let rb := dRow t.desc
  let q := spQ p
  let i := spMember p
  let r := spRank p
  let row := spRow p
  match qs[q]? with
  | none => none
  | some ent =>
    let off := t.offsetOf q r i
    let adm := t.admitAll q r i
    let key := t.blockKey q r i
    let got := Tab.look (fun _ => 0) t.landed key
    let start := ent.qbase + 0x40 + row * rb
    let at0 := p.taddr.toNat - start
    if i < dNmem t.desc ∧ r < dK t.desc ∧ off ≤ row ∧ row < off + adm ∧ start ≤ p.taddr.toNat ∧ at0 < rb ∧ at0 % 4096 = 0
        ∧ at0 + p.len ≤ rb ∧ got + p.len ≤ adm * rb then
      let h := s.qHead t.glove ent
      let tag := leBytes 8 (spSlot p) ++ leBytes 8 (spToken p + i * 2 ^ 32 + r * 2 ^ 44)
      let tagged := if at0 = 0 then s.setVbytes t.glove (ent.qbase + 0x40 + qCap h * rb + 16 * row) tag else some s
      match tagged with
      | none => none
      | some u =>
        match u.setVbytes t.glove p.taddr.toNat (p.data.take p.len) with
        | none => none
        | some v =>
          let t1 := { t with landed := Tab.store (fun _ => 0) t.landed key (got + p.len) }
          some ((v.putStep e t1).engineAdd (qKnot h) p.len (spTaint p) [])
    else none

/-- SPLICE_ROW_RECEIVE. -/
def execSpliceRowReceive (x : Rx) (s : State) : Out :=
  done s (s.spliceReceive x tSPLICE (fun p => spKind p != 1) (fun t => t.landingAt.isSome) landRow)

/-- Bytes of a member's blocks of a queue: admitted, and landed or aborted. -/
def Step.memberBytes (t : Step) (q i : Nat) : Nat × Nat :=
  (List.range (dK t.desc)).foldl (fun a r =>
    (a.1 + t.admitAll q r i * dRow t.desc, a.2 + Tab.look (fun _ => 0) t.landed (t.blockKey q r i))) (0, 0)

/-- Spreads aborted bytes over a member's rank blocks, each up to what it admits. -/
def abortGo (t : Step) (q i : Nat) : List Nat → Nat → Tab Nat → Tab Nat
  | [], _, l => l
  | r :: rs, left, l =>
    let key := t.blockKey q r i
    let got := Tab.look (fun _ => 0) l key
    let n := min left (t.admitAll q r i * dRow t.desc - got)
    abortGo t q i rs (left - n) (Tab.store (fun _ => 0) l key (got + n))

/-- An ABORT lands: BYTES, within what its sender still owes the queue, to the queue's knot, with TAINT. -/
def landAbort (s : State) (p : Packet) (e : Nat) (t : Step) : Option State :=
  let q := spQ p
  let i := spMember p
  match (t.homeQ s.self)[q]? with
  | none => none
  | some ent =>
    let b := t.memberBytes q i
    if i < dNmem t.desc ∧ b.2 + spBytes p ≤ b.1 then
      let t1 := { t with landed := abortGo t q i (List.range (dK t.desc)) (spBytes p) t.landed }
      some ((s.putStep e t1).engineAdd (qKnot (s.qHead t.glove ent)) (spBytes p) true [])
    else none

/-- SPLICE_ABORT_RECEIVE. -/
def execSpliceAbortReceive (x : Rx) (s : State) : Out :=
  done s (s.spliceReceive x tSPLICE (fun p => spKind p == 1) (fun t => t.landingAt.isSome) landAbort)

/-- A RESULT lands in its combine slot. -/
def landResult (s : State) (p : Packet) (e : Nat) (t : Step) : Option State :=
  let tok := spToken p
  let r := spRank p
  let start := t.slotOf tok r
  let at0 := p.taddr.toNat - start
  let key := (tok - dToken0 t.desc) * dK t.desc + r
  let got := Tab.look (fun _ => 0) t.got key
  if dToken0 t.desc ≤ tok ∧ tok < dToken0 t.desc + dNtok t.desc
      ∧ t.admitted.any (fun c => c.token == tok && c.rank == r && c.dest == p.src)
      ∧ start ≤ p.taddr.toNat ∧ at0 < dRet t.desc ∧ at0 % 4096 = 0 ∧ at0 + p.len ≤ dRet t.desc
      ∧ got + p.len ≤ dRet t.desc then
    match s.setVbytes t.glove p.taddr.toNat (p.data.take p.len) with
    | none => none
    | some u =>
      let t1 := { t with got := Tab.store (fun _ => 0) t.got key (got + p.len), retTaint := t.retTaint || spTaint p }
      some ((u.putStep e t1).checkStep e)
  else none

/-- RETURN_RESULT_RECEIVE. -/
def execReturnResultReceive (x : Rx) (s : State) : Out :=
  done s (s.spliceReceive x tRETURN (fun _ => true) (fun t => t.routed) landResult)

/-! ### Return (R204, R205) -/

/-- The rows of a queue to return; a row whose tag names no member is passed over. -/
def State.retRows (s : State) (t : Step) (q : QueueEnt) (i out : Nat) (taint : Bool) : List RetRow :=
  let h := s.qHead t.glove q
  let tags := q.qbase + 0x40 + qCap h * dRow t.desc
  (List.range (t.rowsOf i)).filterMap (fun j =>
    let ws := bytesWords 2 (s.vbytesGo t.glove (tags + 16 * j) 16)
    let m := bits (ws.getD 1 0) 43 32
    if m < dNmem t.desc ∧ 0 < dRet t.desc then
      some { member := m, q := i, row := j, token := bits (ws.getD 1 0) 31 0, rank := bits (ws.getD 1 0) 48 44,
             slot := bits (ws.getD 0 0) 56 0, src := out + j * dRet t.desc, taint := taint || (s.knot (qKnot h)).taint }
    else none)

/-- Whether every queue homed here is reached. -/
def State.queuesReached (s : State) (t : Step) : Bool :=
  (t.homeQ s.self).all (fun q => (s.knot (qKnot (s.qHead t.glove q))).reached)

/-- Whether the tags of a queue meet a poisoned line. -/
def State.tagsPoisoned (s : State) (t : Step) (q : QueueEnt) (i : Nat) : Bool :=
  s.vpoison t.glove (q.qbase + 0x40 + qCap (s.qHead t.glove q) * dRow t.desc) (16 * t.rowsOf i)

/-- An accepted ROUTE.RET. -/
def State.startReturn (s : State) (e : Nat) (t : Step) (outs : List W64) (taint : Bool) : State :=
  let qs := (t.homeQ s.self).zipIdx
  let rows := qs.flatMap (fun q => s.retRows t q.1 q.2 (bits (outs.getD q.2 0) 56 0) taint)
  let t1 := { t with rets := rows, retAt := some s.lanyard.toNat, retRot := (dSelf t.desc + 1) % dNmem t.desc,
                     phase := if t.routed then 7 else t.phase }
  if qs.any (fun q => s.tagsPoisoned t q.1 q.2) then s.taintEnd e t1 5 0 0
  else (s.putStep e t1).checkStep e

/-- ROUTE.RET. -/
def execRouteRet (k : CtxId) (w : FmtB) (s : State) : Out :=
  done s (s.issueB k w (w.legal .no .g .g .no 0) (fun s =>
    let x := s.ctx k
    let n := x.glove
    let a := (x.gr w.rb.toNat).toNat
    if s.locked k [.mem] [] then none
    else match s.stepOf n (x.gr w.ra.toNat) with
      | none => some (s.finish k w ST_RANGE)
      | some (e, t) =>
        if t.ended ∧ t.status ≠ ST_OK then some (s.finish k w ST_OK)
        else if a % 64 ≠ 0 then some (s.finish k w ST_FMT)
        else
          let nq := (t.homeQ s.self).length
          if s.vpoison n a (64 + 8 * nq) then some (s.memFault n a 64)
          else match s.engineRead n (k.tile / 64) a (64 + 8 * nq) with
            | none => some (s.memFault n a (64 + 8 * nq))
            | some (u, bs) =>
              let ws := bytesWords (8 + nq) bs
              let outs := ws.drop 8
              if ws.getD 0 0 ≠ BitVec.ofNat 64 nq ∨ ((ws.take 8).drop 1).any (fun v => v != 0)
                  ∨ outs.any (fun v => bits v 63 57 != 0) then some (u.finish k w ST_FMT)
              else if t.retAt.isSome ∨ u.queuesReached t = false ∨ (0 < nq ∧ t.landingAt.isNone) then
                some (u.finish k w ST_RANGE)
              else if u.dying k then some (u.finish k w ST_GLOVE_DEAD)
              else some ((u.finish k w ST_OK).startReturn e t outs (s.ctxTaint k))))

/-- Replaces the first return row of a member by what is left of it. -/
def bumpRet (m len bytes : Nat) : List RetRow → List RetRow
  | [] => []
  | r :: rs =>
    if r.member = m then (if r.sent + len < bytes then { r with sent := r.sent + len } :: rs else rs)
    else r :: bumpRet m len bytes rs

/-- RETURN_SEND_FRAGMENT. -/
def execReturnSendFragment (e : Fin 2) (s : State) : Out :=
  match s.route' e with
  | some t =>
    if t.ended = false ∧ t.retAt.isSome ∧ t.rets.isEmpty = false then
      let rb := dRet t.desc
      let due := fun m => (t.rets.find? (fun r => r.member == m)).map (fun r => fragLen rb r.sent)
      let (who, passed) := s.turn t due t.retRot (dNmem t.desc) 0
      let s1 := s.bump SPL_CNT3 SPL_CNT3_PASSED passed
      match who with
      | none => done s s1
      | some m =>
        match t.rets.find? (fun r => r.member == m) with
        | none => done s s1
        | some r =>
          let len := fragLen rb r.sent
          let a := r.src + r.sent
          if s.vpoison t.glove a len then done s (s1.taintEnd e t 5 0 m)
          else match s1.engineRead t.glove 0 a len with
            | none => done s (s1.memFault t.glove a len)
            | some (u, bs) =>
              let p := u.splicePacket t true m (r.slot + r.sent) (spliceCtl t r.rank 2 r.taint r.q r.row r.token 0) bs
              let t1 := { u.engDig t p with rets := bumpRet m len rb t.rets, retRot := (m + 1) % dNmem t.desc }
              done s ((((u.putStep e t1).bump SPL_CNT1 SPL_CNT1_RETURN_SENT 1).send p).checkStep e)
    else done s s
  | none => done s s

/-! ### Timeouts and refusals (R208) -/

/-- SPLICE_LANDING_TIMEOUT. -/
def execSpliceLandingTimeout (e : Fin 2) (s : State) : Out :=
  match s.route' e with
  | some t =>
    (match t.landingAt with
    | some a =>
      if t.ended = false ∧ a + dTimeout t.desc ≤ s.lanyard.toNat ∧ s.queuesReached t = false then
        done s (s.taintEnd e t 3 0 0)
      else done s s
    | none => done s s)
  | none => done s s

/-- RETURN_ARRIVAL_TIMEOUT. -/
def execReturnArrivalTimeout (e : Fin 2) (s : State) : Out :=
  match s.route' e with
  | some t =>
    (match t.retAt with
    | some a =>
      if t.ended = false ∧ a + dTimeout t.desc ≤ s.lanyard.toNat
          ∧ t.got.foldl (fun a x => a + x.2) 0 < t.admitted.length * dRet t.desc then
        done s (s.taintEnd e t 4 0 0)
      else done s s
    | none => done s s)
  | none => done s s

/-- A NAK for a SPLICE or RETURN packet of glove n: its step ends tainted. -/
def State.spliceNak (s : State) (p : Packet) (n : Nat) : State :=
  match s.findStep n (bits (p.word 3) 31 0) with
  | some (e, t) => s.taintEnd e t 1 (bits (p.word 0) 7 0) ((t.memberIx p.src).getD 0)
  | none => s

end Sys2Proof.Machine
end

