-- ==== Sys2Proof/Machine/Coll.lean ====
section
/-! DEFINITION. The collective engine (R297 to R309, R312) and the retries of NAK BUSY (R190, R302). -/

namespace Sys2Proof.Machine

open Reg

/-! ### The descriptor (R298) -/

def cOp (d : List W64) : Nat := bits (d.getD 0 0) 3 0
def cItype (d : List W64) : Nat := bits (d.getD 0 0) 6 4
def cBf16 (d : List W64) : Bool := (d.getD 0 0).getLsbD 7
def cRed (d : List W64) : Nat := bits (d.getD 0 0) 9 8
def cExact (d : List W64) : Bool := (d.getD 0 0).getLsbD 10
def cEarly (d : List W64) : Bool := (d.getD 0 0).getLsbD 11
def cNmem (d : List W64) : Nat := bits (d.getD 0 0) 23 12 + 1
def cSelf (d : List W64) : Nat := bits (d.getD 0 0) 35 24
def cRoot (d : List W64) : Nat := bits (d.getD 0 0) 47 36
def cGlove (d : List W64) : Nat := bits (d.getD 0 0) 53 48
def cSeq (d : List W64) : W64 := d.getD 1 0
def cTag (d : List W64) : Nat := bits (d.getD 1 0) 31 0
def cGen (d : List W64) : Nat := bits (d.getD 2 0) 15 0
def cCount (d : List W64) : Nat := bits (d.getD 3 0) 39 0
def cMembers (d : List W64) : Nat := bits (d.getD 4 0) 56 0
def cSrc (d : List W64) : Nat := bits (d.getD 5 0) 56 0
def cDst (d : List W64) : Nat := bits (d.getD 6 0) 56 0
def cStart (d : List W64) : Nat := bits (d.getD 7 0) 13 0
def cDone (d : List W64) : Nat := bits (d.getD 7 0) 29 16
def cTimeout (d : List W64) : Nat := bits (d.getD 8 0) 39 0
def cStatus (d : List W64) : Nat := bits (d.getD 9 0) 56 0

/-- Whether every reserved bit and code is 0, and the reduction is one that R298 allows. -/
def collFmtOk (d : List W64) : Bool :=
  decide (cOp d ≤ 5 ∧ cItype d ≤ 4 ∧ cRed d ≤ 2) && bits (d.getD 0 0) 63 54 == 0 && bits (d.getD 2 0) 63 16 == 0
    && bits (d.getD 3 0) 63 40 == 0 && [4, 5, 6, 9].all (fun i => bits (d.getD i 0) 63 57 == 0)
    && bits (d.getD 7 0) 15 14 == 0 && bits (d.getD 7 0) 63 30 == 0 && bits (d.getD 8 0) 63 40 == 0
    && [10, 11, 12, 13, 14, 15].all (fun i => d.getD i 0 == 0)
    && (cRed d == 0 || (!cExact d && (cItype d == 0 || cItype d == 1 || cItype d == 3)))
    && (cItype d != 2 || (cRed d == 0 && cExact d))

/-- Bytes of an input element. -/
def cIn (d : List W64) : Nat := match cItype d with
  | 0 => 4
  | 1 => 2
  | 2 => 48
  | 3 => 4
  | _ => 1
/-- Whether the result of a reduction has OTYPE: the sums of FP32, BF16 and cells. -/
def cSummed (d : List W64) : Bool := cRed d == 0 && decide (cItype d ≤ 2)
/-- Bytes of an element of a reduction's result. -/
def cOut (d : List W64) : Nat := if cSummed d then (if cBf16 d then 2 else 4) else cIn d
/-- Whether the operation reduces: ALLREDUCE or REDUCE_SCATTER. -/
def cReduces (d : List W64) : Bool := decide (cOp d ≤ 1)

/-- First element and elements of member i's block (R299). -/
def cBlock (d : List W64) (i : Nat) : Nat × Nat :=
  let b := (cCount d + cNmem d - 1) / cNmem d
  let lo := min (i * b) (cCount d)
  (lo, min ((i + 1) * b) (cCount d) - lo)

/-- The window size (R300, R312). -/
def State.collWindow (s : State) : Nat := min 65536 (max 64 (s.fget COLL_CFG COLL_CFG_WINDOW))

/-! ### Collectives held -/

/-- A collective. -/
def State.coll (s : State) (h : Nat) : Option Coll := Tab.look (fun _ => none) s.hub.colls h
/-- Sets one; that of a glove that is going down is discarded. -/
def State.setColl (s : State) (h : Nat) (c : Option Coll) : State :=
  match c with
  | some x => if s.gstate x.glove = gACTIVE then
      { s with hub := { s.hub with colls := Tab.store (fun _ => none) s.hub.colls h c } } else s
  | none => { s with hub := { s.hub with colls := Tab.store (fun _ => none) s.hub.colls h none } }

/-- The collective of glove n with a tag. -/
def State.findColl (s : State) (n tag : Nat) : Option (Nat × Coll) :=
  (List.range 64).findSome? (fun h => match s.coll h with
    | some c => if c.glove = n ∧ cTag c.desc = tag then some (h, c) else none
    | none => none)

/-- The index of a device among the members. -/
def Coll.memberIx (c : Coll) (dev : BitVec 24) : Option Nat := c.members.findIdx? (· == dev)
/-- The members in rotation, from SELF + 1. -/
def Coll.rotation (c : Coll) : List Nat := (List.range (cNmem c.desc)).map (fun i => (cSelf c.desc + 1 + i) % cNmem c.desc)

/-- Drops packets of a collective that were sent or wait to be sent again. -/
def State.dropSent (s : State) (n tag : Nat) : State :=
  let mine := fun (p : Packet) => (p.ty == tCOLL || (p.ty == tCOUNTS && bits (p.word 0) 63 63 == 1))
    && p.glove.toNat == s.gid n && bits (p.word 0) 31 0 == tag
  { s with hub := { s.hub with sent := s.hub.sent.filter (fun p => !(mine p)), busy := s.hub.busy.filter (fun b => !(mine b.pkt)) } }

/-! ### Sending (R302, R303) -/

/-- A COLL packet to a member. -/
def State.collPacket (s : State) (c : Coll) (m kind fst chunk ecrc elem taddr : Nat) (bs : List Byte) : Packet :=
  s.tagged c.glove
    { ty := tCOLL, vc := 4, dest := c.members.getD m 0, taddr := BitVec.ofNat 57 taddr, len := bs.length, adapt := s.adaptBit,
      body := [BitVec.ofNat 64 (cTag c.desc + cSelf c.desc * 2 ^ 32 + kind * 2 ^ 44 + fst * 2 ^ 47),
               BitVec.ofNat 64 (chunk + ecrc * 2 ^ 32), BitVec.ofNat 64 c.gen, BitVec.ofNat 64 elem],
      data := bs }

/-- Sends a packet with no data to every member. -/
def State.collAll (s : State) (c : Coll) (kind fst : Nat) : State :=
  c.rotation.foldl (fun s m => s.send (s.collPacket c m kind fst 0 0 0 0 [])) s

/-- A chunk to send: member, first element, first byte's address, bytes. -/
structure Piece where
  member : Nat
  elem : Nat
  src : Nat
  len : Nat

/-- Cuts n elements of sz bytes from element `at0` on into chunks of whole elements, at most 4,096 bytes, none across a
multiple of `win` elements counted from `base`. -/
def cutElems (sz win base : Nat) : Nat → Nat → Nat → List (Nat × Nat)
  | 0, _, _ => []
  | fuel + 1, at0, n =>
    if n = 0 then []
    else
      let k := min n (min (4096 / sz) (win - (at0 - base) % win))
      if k = 0 then [] else (at0, k) :: cutElems sz win base fuel (at0 + k) (n - k)

/-- The chunks this member sends to member m at the start, but for ALLTOALLV and BARRIER. -/
def State.collPieces (s : State) (c : Coll) (m : Nat) : List Piece :=
  let d := c.desc
  let sz := cIn d
  let win := s.collWindow
  if cReduces d then
    let b := cBlock d m
    (cutElems sz win b.1 b.2 b.1 b.2).map (fun p => ⟨m, p.1, cSrc d + p.1 * sz, p.2 * sz⟩)
  else if cOp d = 2 then
    let b := cBlock d (cSelf d)
    (cutElems sz (2 ^ 40) b.1 b.2 b.1 b.2).map (fun p => ⟨m, p.1, cSrc d + (p.1 - b.1) * sz, p.2 * sz⟩)
  else if cOp d = 3 ∧ cSelf d = cRoot d then
    (cutElems sz (2 ^ 40) 0 (cCount d) 0 (cCount d)).map (fun p => ⟨m, p.1, cSrc d + p.1 * sz, p.2 * sz⟩)
  else []

/-- Where an element lies in DST. -/
def cAddr (d : List W64) (elem : Nat) : Nat :=
  cDst d + elem * (if cOp d = 4 then 1 else if cReduces d then cOut d else cIn d)

/-- A packet of data, its digest in twin mode, and the next chunk number to that member. -/
def State.sendData (s : State) (h : Nat) (m kind chunk elem taddr : Nat) (bs : List Byte) : State :=
  match s.coll h with
  | some c =>
    let p := s.collPacket c m kind 0 chunk (crc32c bs) elem taddr bs
    let s := if s.twin c.glove then s.setColl h (some { c with eng := c.eng + recHash p.record }) else s
    s.send p
  | none => s

/-- Sends one piece of SRC; the glove faults where its memory is not mapped. -/
def State.sendPiece (s : State) (h : Nat) (chunk : Nat) (p : Piece) : State :=
  match s.coll h with
  | some c =>
    (match s.engineRead c.glove 0 p.src p.len with
    | some (s, bs) =>
      if cReduces c.desc then s.sendData h p.member 0 chunk p.elem 0 bs
      else s.sendData h p.member 1 chunk p.elem (cAddr c.desc p.elem) bs
    | none => s.memFault c.glove p.src p.len)
  | none => s

/-- Takes turns over lists: the j-th of each in order, then the next. -/
def turns {α : Type} : Nat → List (List α) → List α
  | 0, _ => []
  | n + 1, ls => ls.filterMap List.head? ++ turns n (ls.map List.tail)

/-- A word of the ALLTOALLV send table. -/
def State.sendTable (s : State) (c : Coll) (m w : Nat) : Nat :=
  leNat (s.vbytesGo c.glove (cSrc c.desc + 16 * m + 8 * w) 8)
/-- Bytes for member m. -/
def State.sendBytes (s : State) (c : Coll) (m : Nat) : Nat := s.sendTable c m 1 % 2 ^ 40

/-- An ALLTOALLV COUNTS packet (R301): a count, or a grant. -/
def State.a2aPacket (s : State) (c : Coll) (m grant v : Nat) : Packet :=
  s.tagged c.glove
    { ty := tCOUNTS, vc := 4, dest := c.members.getD m 0, len := 24, adapt := s.adaptBit,
      data := wordsBytes [BitVec.ofNat 64 (cTag c.desc + cSelf c.desc * 2 ^ 32 + grant * 2 ^ 62 + 2 ^ 63),
        BitVec.ofNat 64 c.gen, BitVec.ofNat 64 v] }

/-- What a member sends once START_KNOT is reached. -/
def State.collSend (s : State) (h : Nat) : State :=
  match s.coll h with
  | some c =>
    if cOp c.desc = 5 then s.collAll c 4 0
    else if cOp c.desc = 4 then
      if s.mapped c.glove (cSrc c.desc) (16 * cNmem c.desc) .R then
        c.rotation.foldl (fun s m => s.send (s.a2aPacket c m 0 (s.sendBytes c m))) s
      else s.memFault c.glove (cSrc c.desc) (16 * cNmem c.desc)
    else
      let ls := c.rotation.map (fun m => (s.collPieces c m).zipIdx)
      let most := (ls.map List.length).foldl max 0
      (turns most ls).foldl (fun s p => s.sendPiece h p.2 p.1) s
  | none => s

/-! ### Check slots and boundaries (R307, R309) -/

/-- Takes a slot's bit off every list of marks, with taint where the check failed. -/
def State.clearMarks (s : State) (slot : Nat) (taint : Bool) : State :=
  let fk := fun (_ : Nat) (v : Knot) =>
    if v.marks.contains slot then { v with marks := v.marks.filter (· != slot), taint := v.taint || taint } else v
  let ft := fun (_ : Nat) (o : Option Task) => o.map (fun (v : Task) =>
    if v.marks.contains slot then { v with marks := v.marks.filter (· != slot), taint := v.taint || taint } else v)
  let fg := fun (_ : Nat) (o : Option Graph) => o.map (fun (v : Graph) =>
    if v.marks.contains slot then { v with marks := v.marks.filter (· != slot), taint := v.taint || taint } else v)
  { s with kn := { s.kn with
    knots := Tab.mapVal (fun _ => {}) fk s.kn.knots,
    tasks := Tab.mapVal (fun _ => none) ft s.kn.tasks,
    graphs := Tab.mapVal (fun _ => none) fg s.kn.graphs } }

/-- Sets which collective holds a check slot. -/
def State.setSlot (s : State) (i : Nat) (h : Option Nat) : State :=
  let s := { s with hub := { s.hub with slots := Tab.store (fun _ => none) s.hub.slots i h } }
  s.fset COLL_CNT1 COLL_CNT1_SLOTS s.hub.slots.length

/-- Boundaries that waited for the check slots of glove n (R309). -/
def State.settle (s : State) (n : Nat) : State :=
  if s.slotsOpen n then s
  else
    let mine := s.hub.boundaries.filter (fun b => b.1 == n)
    let s := { s with hub := { s.hub with boundaries := s.hub.boundaries.filter (fun b => b.1 != n) } }
    if s.gloveTainted n then s else mine.foldl (fun s b => s.commitStep n b.2) s

/-- Frees a collective's check slot: its bit is cleared everywhere, leaving TAINT where a check failed. -/
def State.freeCheck (s : State) (c : Coll) (taint : Bool) : State :=
  match c.checkSlot with
  | some i => (s.clearMarks i taint).setSlot i none
  | none => s

/-! ### Completion (R304, R306, R308) -/

/-- LATE_NS and the last member of the arrivals. -/
def Coll.late (c : Coll) : Nat := (c.arrivals.getLast?.map (fun a => a.2)).getD 0 - (c.arrivals.head?.map (fun a => a.2)).getD 0
def Coll.lastIn (c : Coll) : Nat := (c.arrivals.getLast?.map (fun a => a.1)).getD 0

/-- Writes the status block. -/
def State.collBlock (s : State) (c : Coll) (st last : Nat) : State :=
  s.setVbytesGo c.glove (cStatus c.desc)
    (leBytes 8 (st + c.gen % 256 * 2 ^ 16) ++ leBytes 8 last ++ leBytes 8 c.late ++ leBytes 8 c.fails ++ List.replicate 32 0)

/-- The engine's record of a release. -/
def State.collLag (s : State) (c : Coll) (last : Nat) : State :=
  ((s.setReg COLL_LAG0 (BitVec.ofNat 64 (last * 2 ^ 32 + cTag c.desc))).setReg COLL_LAG1 (BitVec.ofNat 64 c.late)).bump
    COLL_CNT0 COLL_CNT0_DONE 1

/-- A collective leaves the engine. -/
def State.collGone (s : State) (h : Nat) (c : Coll) : State :=
  let s := (s.setColl h none).dropSent c.glove (cTag c.desc)
  { s with
    hub := { s.hub with past := s.hub.past ++
      [(c.glove, cTag c.desc, (if c.started then c.startedAt else s.lanyard.toNat) + cTimeout c.desc)] },
    kn := { s.kn with twins := s.kn.twins.filter (fun t => t.what != .coll h) } }

/-- A collective completes with a failure: its block, DONE_KNOT with TAINT where it was not released, and the taint of
what it released early. -/
def State.collFail (s : State) (h st last : Nat) (tell : Bool) : State :=
  match s.coll h with
  | some c =>
    let s := s.collGone h c
    let s := if tell then s.collAll c 2 st else s
    let s := s.collBlock c st last
    let s := if st = ST_TAINT then s.bump COLL_CNT0 COLL_CNT0_TAINTED 1 else s
    let s := if c.released then s.freeCheck c true
      else (s.collLag c last).engineAdd (cDone c.desc) 1 true []
    let s := if c.released ∧ st = ST_TAINT then s.event 0x0501 0 c.glove (cSeq c.desc).toNat last else s
    s.settle c.glove
  | none => s

/-- The elements or bytes this member must receive; none where it does not know yet. -/
def Coll.due (c : Coll) : Option Nat :=
  let d := c.desc
  match cOp d with
  | 1 => some (cBlock d (cSelf d)).2
  | 4 => if (List.range (cNmem d)).all (fun i => (Tab.look (fun _ => none) c.counts i).isSome) then
      some ((List.range (cNmem d)).foldl (fun a i => a + (Tab.look (fun _ => none) c.counts i).getD 0) 0) else none
  | 5 => if (List.range (cNmem d)).all (fun i => c.arrived.contains i) then some 0 else none
  | _ => some (cCount d)

/-- Whether every chunk has landed. -/
def Coll.allIn (c : Coll) : Bool :=
  match c.due with
  | some n => c.started && c.landed.foldl (fun a x => a + x.2.2) 0 == n
  | none => false

/-- Releases a collective (R304, R306, R307). -/
def State.collRelease (s : State) (h : Nat) : State :=
  match s.coll h with
  | some c =>
    let s := (s.collBlock c ST_OK c.lastIn).collLag c c.lastIn
    if c.checks.isEmpty then
      (((s.collGone h c).freeCheck c false).engineAdd (cDone c.desc) 1 false []).settle c.glove
    else
      let marks := match c.checkSlot with
        | some i => [i]
        | none => []
      (s.setColl h (some { c with released := true, twinHeld := false })).engineAdd (cDone c.desc) 1 false marks
  | none => s

/-- Releases a collective, or in twin mode holds it for the twin's digest (R123). -/
def State.collReady (s : State) (h : Nat) : State :=
  match s.coll h with
  | some c =>
    if s.twin c.glove then
      if c.twinHeld then s
      else (s.setColl h (some { c with twinHeld := true })).holdTwin
        { what := .coll h, glove := c.glove, subject := 2, task := 0, id := cSeq c.desc, graph := 0, digs := [0, 0, 0, c.eng],
          ring := [], windows := 0, since := s.lanyard.toNat }
    else s.collRelease h
  | none => s

/-- What follows a landing or a check: release under VERIFY_FIRST or EARLY_RELEASE, or the end of the checks. -/
def State.collCheck (s : State) (h : Nat) : State :=
  match s.coll h with
  | some c =>
    if c.allIn then
      if c.released then
        if c.checks.isEmpty then ((s.collGone h c).freeCheck c false).settle c.glove else s
      else if c.checks.isEmpty then s.collReady h
      else if c.early then
        match (List.range 16).find? (fun i => (Tab.look (fun _ => none) s.hub.slots i).isNone) with
        | some i =>
          if c.checkSlot.isSome then s.collReady h
          else ((s.setSlot i (some h)).setColl h (some { c with checkSlot := some i })).collReady h
        | none => s.setColl h (some { c with early := false })
      else s
    else s
  | none => s

/-! ### Restarts (R306) -/

/-- Restarts a collective at a generation: its cells cleared, its landed data disregarded. -/
def State.collRestart (s : State) (h g : Nat) : State :=
  match s.coll h with
  | some c =>
    let d := c.desc
    if s.fget COLL_CFG COLL_CFG_RETRY ≤ c.retries then s.collFail h ST_TAINT (cSelf d) true
    else
      let c1 := { c with gen := g % 65536, retries := c.retries + 1, window := (cBlock d (cSelf d)).1, cells := [], vals := [],
                         got := [], landed := [], checks := [], counts := [], granted := [], arrived := [] }
      let s := (s.setColl h (some c1)).dropSent c.glove (cTag d)
      if c.started then s.collSend h else s
  | none => s

/-- A check fails: before release RETRY and a restart, after it the taint of every member. -/
def State.collBad (s : State) (h : Nat) : State :=
  let s := s.bump COLL_CNT1 COLL_CNT1_CHECK_FAIL 1
  match s.coll h with
  | some c =>
    let s := s.setColl h (some { c with fails := c.fails + 1 })
    if c.released then s.collFail h ST_TAINT (cSelf c.desc) true
    else if s.fget COLL_CFG COLL_CFG_RETRY ≤ c.retries then s.collFail h ST_TAINT (cSelf c.desc) true
    else
      let next := { c with gen := (c.gen + 1) % 65536 }
      (s.collAll next 3 0).collRestart h (c.gen + 1)
  | none => s

/-! ### Reduction (R300) -/

/-- Adds a term to the value of an element by an operation. -/
def reduceVal (red : Nat) (int : Bool) (old : Option W32) (v : W32) : W32 :=
  match old with
  | none => if int then v else canon v
  | some x =>
    if int then
      (if red = 0 then x + v
       else if red = 1 then (if x.toInt < v.toInt then v else x) else (if v.toInt < x.toInt then v else x))
    else if red = 0 then add32 x v else if red = 1 then max32 x v else min32 x v

/-- A term as FP32 or INT32, of an element's bytes. -/
def termVal (itype : Nat) (bs : List Byte) : W32 :=
  if itype = 1 then BitVec.ofNat 32 (leNat bs * 65536) else BitVec.ofNat 32 (leNat bs)

/-- Reduces one element's term. -/
def Coll.addTerm (c : Coll) (elem : Nat) (bs : List Byte) : Coll :=
  let d := c.desc
  let ity := cItype d
  if ity = 2 then
    { c with cells := Tab.store (fun _ => {}) c.cells elem ((Tab.look (fun _ => {}) c.cells elem).addCell (Cell.ofRecord bs)) }
  else if cExact d ∧ ity ≤ 1 then
    let x := f32 (termVal ity bs)
    { c with cells := Tab.store (fun _ => {}) c.cells elem ((Tab.look (fun _ => {}) c.cells elem).addNum x) }
  else
    let v := reduceVal (cRed d) (decide (3 ≤ ity)) (Tab.look (fun _ => none) c.vals elem) (termVal ity bs)
    { c with vals := Tab.store (fun _ => none) c.vals elem (some v) }

/-- Reduces the terms of a CONTRIB. -/
def Coll.addTerms (c : Coll) (sz : Nat) : Nat → List Byte → Nat → Coll
  | _, _, 0 => c
  | elem, bs, k + 1 => Coll.addTerms (c.addTerm elem (bs.take sz)) sz (elem + 1) (bs.drop sz) k

/-- The bytes of a reduced element. For ITYPE BYTES the manual gives no sum: the byte is free. -/
def Coll.readElem (c : Coll) (free elem : Nat) : List Byte :=
  let d := c.desc
  let v := (Tab.look (fun _ => none) c.vals elem).getD 0
  if cItype d = 4 then [(Config.freeWord (free + elem)).setWidth 8]
  else if cItype d = 2 ∨ (cExact d ∧ cItype d ≤ 1) then
    leBytes (cOut d) ((Tab.look (fun _ => {}) c.cells elem).readout (cBf16 d))
  else if cItype d = 3 then leBytes 4 v.toNat
  else if cSummed d then
    leBytes (cOut d) (if cBf16 d then ((convertPlain 1 [f32 v] [none]).1.getD 0 0) else v.toNat)
  else if cItype d = 1 then leBytes 2 (v.toNat / 65536) else leBytes 4 v.toNat

/-- End of the home's window. -/
def State.windowEnd (s : State) (c : Coll) : Nat :=
  let b := cBlock c.desc (cSelf c.desc)
  min (c.window + s.collWindow) (b.1 + b.2)

/-- Sends a window's results to every member, or writes them at DST for REDUCE_SCATTER. -/
def State.sendWindow (s : State) (h : Nat) (c : Coll) (lo n : Nat) : State :=
  let d := c.desc
  let b := cBlock d (cSelf d)
  let parts := (cutElems (cOut d) (2 ^ 40) lo n lo n).map (fun p =>
    (p.1, p.2, (List.range p.2).flatMap (fun j => c.readElem s.free (p.1 + j))))
  let s := { s with free := s.free + 2 ^ 40 }
  if cOp d = 0 then
    (turns parts.length (c.rotation.map (fun m => parts.map (fun p => (m, p))))).foldl (fun s x =>
      s.sendData h x.1 1 (x.2.1 - b.1) x.2.1 (cAddr d x.2.1) x.2.2.2) s
  else
    parts.foldl (fun s p =>
      let a := cDst d + (p.1 - b.1) * cOut d
      let s := s.putOr c.glove a p.2.2
      match s.coll h with
      | some y => s.setColl h (some { y with
          landed := y.landed ++ [(cSelf d, p.1, p.2.1)],
          checks := y.checks ++ [⟨a, crc32c p.2.2, p.2.2.length⟩] })
      | none => s) s

/-- COLL_WINDOW_READOUT: a window that holds a term of every member for every element. -/
def execCollWindowReadout (h : Fin 64) (s : State) : Out :=
  match s.coll h with
  | some c =>
    let hi := s.windowEnd c
    let n := hi - c.window
    if cReduces c.desc ∧ 0 < n ∧ c.got.foldl (fun a x => a + x.2.2) 0 = n * cNmem c.desc then
      let u := s.setColl h (some { c with window := hi, cells := [], vals := [], got := [] })
      done s ((u.sendWindow h c c.window n).collCheck h)
    else done s s
  | none => done s s

/-! ### Submission and start (R297, R298) -/

/-- Sets the status of the last submission. -/
def State.submitStatus (s : State) (st : Nat) : State := s.fset COLL_SUBMIT COLL_SUBMIT_STATUS st

/-- Whether a collective's numbers are in their ranges. -/
def State.collRangeOk (s : State) (d : List W64) : Bool :=
  decide (cSelf d < cNmem d ∧ (cOp d ≠ 3 ∨ cRoot d < cNmem d) ∧ 1000 ≤ cTimeout d)
    && s.ownsKnot (cGlove d) (cStart d) && s.ownsKnot (cGlove d) (cDone d) && cStatus d % 64 == 0
    && (s.findColl (cGlove d) (cTag d)).isNone

/-- COLL_SUBMIT. -/
def execCollSubmit (addr : BitVec 57) (s : State) : Out :=
  let a := addr.toNat / 64 * 64
  match (List.range 64).find? (fun h => (s.coll h).isNone) with
  | none => done s (s.submitStatus ST_BUSY)
  | some h =>
    let d := s.words a 16
    let n := cGlove d
    if localSize ≤ a then done s (s.submitStatus ST_RANGE)
    else if collFmtOk d = false then done s (s.submitStatus ST_FMT)
    else if s.gstate n ≠ gACTIVE then done s (s.submitStatus ST_GLOVE_DEAD)
    else if s.collRangeOk d = false then done s (s.submitStatus ST_RANGE)
    else
      match s.engineRead n 0 (cMembers d) (4 * cNmem d) with
      | none => done s ((s.submitStatus ST_OK).memFault n (cMembers d) (4 * cNmem d))
      | some (u, table) =>
        let raw := (List.range (cNmem d)).map (fun i => leNat ((table.drop (4 * i)).take 4))
        let c : Coll := { glove := n, desc := d, members := raw.map (BitVec.ofNat 24), gen := cGen d, early := cEarly d,
                          window := (cBlock d (cSelf d)).1 }
        let u := (u.submitStatus ST_OK).setColl h (some c)
        let u := { u with hub := { u.hub with past := u.hub.past.filter (fun x => !(x.1 == n && x.2.1 == cTag d)) } }
        let u := u.setVbytesGo n (cStatus d) (leBytes 8 0xFFFF)
        let bad := raw.any (fun m => decide (2 ^ 24 ≤ m)) || c.members.getD (cSelf d) 0 != s.self
          || c.members.eraseDups.length != c.members.length
        done s (if bad then u.collFail h ST_RANGE (cSelf d) true else u)

/-- Notes a member's arrival. -/
def Coll.arrive (c : Coll) (m now : Nat) : Coll :=
  if c.arrivals.any (fun a => a.1 == m) then c else { c with arrivals := c.arrivals ++ [(m, now)] }

/-- COLL_START: START_KNOT is reached. -/
def execCollStart (h : Fin 64) (s : State) : Out :=
  match s.coll h with
  | some c =>
    if c.started = false ∧ (s.knot (cStart c.desc)).reached then
      let now := s.lanyard.toNat
      let u := s.setColl h (some { c.arrive (cSelf c.desc) now with started := true, startedAt := now })
      done s ((u.collSend h).collCheck h)
    else done s s
  | none => done s s

/-! ### Receiving (R302) -/

/-- Fields of a COLL control. -/
def clTag (p : Packet) : Nat := bits (p.word 0) 31 0
def clMember (p : Packet) : Nat := bits (p.word 0) 43 32
def clKind (p : Packet) : Nat := bits (p.word 0) 46 44
def clStatus (p : Packet) : Nat := bits (p.word 0) 50 47
def clEcrc (p : Packet) : Nat := bits (p.word 1) 63 32
def clGen (p : Packet) : Nat := bits (p.word 2) 15 0
def clElem (p : Packet) : Nat := bits (p.word 3) 39 0

/-- Whether a COLL packet's control is well formed. -/
def collOk (p : Packet) : Bool :=
  decide (clKind p ≤ 4 ∧ p.len ≤ 4096) && bits (p.word 0) 63 51 == 0 && bits (p.word 2) 63 16 == 0 && bits (p.word 3) 63 40 == 0
    && (clKind p == 2 || clStatus p == 0) && (clKind p == 1 || p.taddr == 0) && (decide (clKind p ≤ 1) || p.len == 0)

/-- The collective a packet names, by R302: refused where there is none or its generation is older, restarted where it
is newer; then `f` takes the packet. -/
def State.collTake (s : State) (p : Packet) (n tag gen : Nat) (f : State → Nat → Coll → State) : State :=
  match s.findColl n tag with
  | none => s.nak p (if s.hub.past.any (fun x => x.1 == n && x.2.1 == tag) then nakNO_QUEUE else nakBUSY)
  | some (h, c) =>
    if newer c.gen gen then s.nak p nakNO_QUEUE
    else if newer gen c.gen then
      let s := s.collRestart h gen
      match s.coll h with
      | some c => f s h c
      | none => s
    else f s h c

/-- Takes a COLL packet of a kind. -/
def State.collReceive (s : State) (x : Rx) (mine : Packet → Bool) (f : State → Packet → Nat → Coll → State) : State :=
  s.receive x tCOLL mine collOk (fun s p n => s.collTake p n (clTag p) (clGen p) (fun s h c => f s p h c))

/-- Whether a packet's sender is the member it names. -/
def Coll.fromMember (c : Coll) (p : Packet) : Bool := c.memberIx p.src == some (clMember p)

/-- Fails a collective for a packet that does not agree with its descriptor. -/
def State.collWrong (s : State) (h : Nat) : State := s.collFail h ST_FMT 0 true

/-- Whether two stretches of a member meet. -/
def stretchIn (l : List (Nat × Nat × Nat)) (m lo n : Nat) : Bool :=
  l.any (fun x => x.1 == m && decide (x.2.1 < lo + n ∧ lo < x.2.1 + x.2.2))

/-- A CONTRIB reaches a home. -/
def collContrib (s : State) (p : Packet) (h : Nat) (c : Coll) : State :=
  let d := c.desc
  let sz := cIn d
  let m := clMember p
  let b := cBlock d (cSelf d)
  let e := clElem p
  let n := p.len / sz
  if cReduces d = false ∨ c.fromMember p = false ∨ p.len % sz ≠ 0 ∨ n = 0 ∨ e < b.1 ∨ b.1 + b.2 < e + n ∨ e < c.window
      ∨ (cItype d = 2 ∧ (cut 48 n p.data).any (fun r => !(recordOk r))) then s.collWrong h
  else if s.windowEnd c < e + n then s.nak p nakBUSY
  else if stretchIn c.got m e n then s.collWrong h
  else if crc32c (p.data.take p.len) ≠ clEcrc p then s.collBad h
  else
    let c1 := (c.arrive m s.lanyard.toNat).addTerms sz e p.data n
    s.setColl h (some { c1 with got := c1.got ++ [(m, e, n)] })

/-- COLL_CONTRIB_RECEIVE; a reserved KIND is refused here. -/
def execCollContribReceive (x : Rx) (s : State) : Out :=
  done s (s.collReceive x (fun p => clKind p == 0 || decide (4 < clKind p)) collContrib)

/-- The stretch of DST that a member's results may fill, and bytes per unit. -/
def Coll.resultRange (c : Coll) (m : Nat) : Option (Nat × Nat × Nat) :=
  let d := c.desc
  match cOp d with
  | 0 => some ((cBlock d m).1, (cBlock d m).2, cOut d)
  | 2 => some ((cBlock d m).1, (cBlock d m).2, cIn d)
  | 3 => if m = cRoot d then some (0, cCount d, cIn d) else none
  | 4 =>
    let n := fun (i : Nat) => (Tab.look (fun _ => none) c.counts i).getD 0
    if c.due.isSome then some ((List.range m).foldl (fun a i => a + n i) 0, n m, 1) else none
  | _ => none

/-- A RESULT reaches a member. -/
def collResult (s : State) (p : Packet) (h : Nat) (c : Coll) : State :=
  let m := clMember p
  let e := clElem p
  match c.resultRange m with
  | none => s.collWrong h
  | some (lo, len, sz) =>
    let n := p.len / sz
    if c.fromMember p = false ∨ p.len % sz ≠ 0 ∨ n = 0 ∨ e < lo ∨ lo + len < e + n ∨ stretchIn c.landed m e n then s.collWrong h
    else
      let a := cDst c.desc + e * sz
      let c1 := c.arrive m s.lanyard.toNat
      let s := s.putOr c.glove a (p.data.take p.len)
      let s := s.setColl h (some { c1 with landed := c1.landed ++ [(m, e, n)], checks := c1.checks ++ [⟨a, clEcrc p, p.len⟩] })
      s.collCheck h

/-- COLL_RESULT_RECEIVE. -/
def execCollResultReceive (x : Rx) (s : State) : Out := done s (s.collReceive x (fun p => clKind p == 1) collResult)

/-- COLL_FAIL_RECEIVE. -/
def execCollFailReceive (x : Rx) (s : State) : Out :=
  done s (s.collReceive x (fun p => clKind p == 2) (fun s p h _ => s.collFail h (clStatus p) (clMember p) false))

/-- COLL_RETRY_RECEIVE: a newer generation has restarted the collective already. -/
def execCollRetryReceive (x : Rx) (s : State) : Out := done s (s.collReceive x (fun p => clKind p == 3) (fun s _ _ _ => s))

/-- COLL_ARRIVE_RECEIVE. -/
def execCollArriveReceive (x : Rx) (s : State) : Out :=
  done s (s.collReceive x (fun p => clKind p == 4) (fun s p h c =>
    if cOp c.desc ≠ 5 ∨ c.fromMember p = false then s.collWrong h
    else
      let m := clMember p
      let c1 := c.arrive m s.lanyard.toNat
      (s.setColl h (some { c1 with arrived := if c1.arrived.contains m then c1.arrived else c1.arrived ++ [m] })).collCheck h))

/-! ### ALLTOALLV (R301) -/

/-- Whether an ALLTOALLV COUNTS packet is well formed. -/
def a2aOk (p : Packet) : Bool :=
  p.len == 24 && bits (p.word 0) 61 44 == 0 && bits (p.word 1) 63 16 == 0 && bits (p.word 2) 63 40 == 0

/-- Takes an ALLTOALLV COUNTS packet: grant 0 or 1. -/
def State.a2aReceive (s : State) (x : Rx) (grant : Nat) (f : State → Packet → Nat → Coll → State) : State :=
  s.receive x tCOUNTS (fun p => !(vecRouting p) && bits (p.word 0) 62 62 == grant) a2aOk (fun s p n =>
    s.collTake p n (bits (p.word 0) 31 0) (bits (p.word 1) 15 0) (fun s h c =>
      if cOp c.desc ≠ 4 ∨ c.fromMember p = false then s.collWrong h else f s p h c))

/-- ALLTOALLV_COUNTS_RECEIVE: once every count is in, the offsets go out, or the collective fails with ST_RANGE. -/
def execAlltoallvCountsReceive (x : Rx) (s : State) : Out :=
  done s (s.a2aReceive x 0 (fun s p h c =>
    let m := clMember p
    if (Tab.look (fun _ => none) c.counts m).isSome then s.collWrong h
    else
      let c := c.arrive m s.lanyard.toNat
      let c := { c with counts := Tab.store (fun _ => none) c.counts m (some (bits (p.word 2) 39 0)) }
      let s := s.setColl h (some c)
      match c.due with
      | none => s
      | some total =>
        if cCount c.desc < total then s.collFail h ST_RANGE (cSelf c.desc) true
        else
          let off := fun (i : Nat) => (List.range i).foldl (fun a j => a + (Tab.look (fun _ => none) c.counts j).getD 0) 0
          (c.rotation.foldl (fun s i => s.send (s.a2aPacket c i 1 (off i))) s).collCheck h))

/-- ALLTOALLV_GRANT_RECEIVE: the data for that member goes out from its offset on. -/
def execAlltoallvGrantReceive (x : Rx) (s : State) : Out :=
  done s (s.a2aReceive x 1 (fun s p h c =>
    let m := clMember p
    if c.granted.contains m ∨ c.started = false then s.collWrong h
    else
      let s := s.setColl h (some { c with granted := c.granted ++ [m] })
      let off := bits (p.word 2) 39 0
      let a := s.sendTable c m 0 % 2 ^ 57
      let ps := cutElems 1 (2 ^ 40) 0 (s.sendBytes c m) 0 (s.sendBytes c m)
      ps.zipIdx.foldl (fun s q => s.sendPiece h q.2 ⟨m, off + q.1.1, a + q.1.1, q.1.2⟩) s))

/-! ### Checks, timeout, retries -/

/-- COLL_READBACK_DONE: the readback of the oldest chunk landed. `good` is whether the readback path held. -/
def execCollReadbackDone (h : Fin 64) (good : Bool) (s : State) : Out :=
  match s.coll h with
  | some c =>
    (match c.checks with
    | [] => done s s
    | k :: ks =>
      let u := s.setColl h (some { c with checks := ks })
      if good ∧ crc32c (s.vbytesGo c.glove k.addr k.len) = k.ecrc then done s (u.collCheck h) else done s (u.collBad h))
  | none => done s s

/-- COLL_TIMEOUT. -/
def execCollTimeout (h : Fin 64) (s : State) : Out :=
  match s.coll h with
  | some c =>
    if c.started ∧ c.released = false ∧ c.twinHeld = false ∧ c.startedAt + cTimeout c.desc ≤ s.lanyard.toNat then
      let missing := ((List.range (cNmem c.desc)).find? (fun m => !(c.arrivals.any (fun a => a.1 == m)))).getD c.lastIn
      done s (s.collFail h ST_TIMEOUT missing true)
    else done s s
  | none => done s s

/-- Until when a refused COUNTS or COLL packet is sent again: TIMEOUT of its step or collective (R190, R302). -/
def State.retryLimit (s : State) (n : Nat) (p : Packet) : Nat :=
  let tag := bits (p.word 0) 31 0
  if p.ty = tCOUNTS ∧ vecRouting p then
    ([0, 1].findSome? (fun e => match s.route' e with
      | some t => if t.glove = n ∧ dTag t.desc = tag then some (t.startAt + dTimeout t.desc) else none
      | none => none)).getD 0
  else match s.findColl n tag with
    | some (_, c) => c.startedAt + cTimeout c.desc
    | none => (s.hub.past.find? (fun x => x.1 == n && x.2.1 == tag)).elim 0 (fun x => x.2.2)

/-- A NAK for a COUNTS or COLL packet of glove n: BUSY has it sent again 1 µs later; STALE_GLOVE acts as FAIL for a
collective. -/
def State.busyNak (s : State) (p : Packet) (n ty : Nat) : State :=
  let w0 := p.word 0
  let code := bits w0 7 0
  let refuser := BitVec.ofNat 24 (bits (p.word 1) 55 32)
  let this := fun (q : Packet) => q.ty == ty && q.vc == bits w0 16 14 && b1 q.adapt == bits w0 18 18
    && q.seq.toNat == bits w0 47 32 && q.word 0 == p.word 3 && (bits w0 17 17 == 1 || q.dest == refuser)
  if code = nakBUSY then
    match s.hub.sent.reverse.find? this with
    | some q =>
      let b : BusyRetry := ⟨q, s.lanyard.toNat + 1000, s.retryLimit n q⟩
      { s with hub := { s.hub with sent := s.hub.sent.filter (fun r => r != q), busy := s.hub.busy ++ [b] } }
    | none => s
  else if code = nakSTALE_GLOVE ∧ (ty = tCOLL ∨ bits (p.word 3) 63 63 = 1) then
    match s.findColl n (bits (p.word 3) 31 0) with
    | some (h, c) => s.collFail h ST_GLOVE_DEAD ((c.memberIx refuser).getD 0) false
    | none => s
  else s

/-- NAK_BUSY_RETRY. -/
def execNakBusyRetry (j : Nat) (s : State) : Out :=
  match s.hub.busy[j]? with
  | some b =>
    let u := { s with hub := { s.hub with busy := s.hub.busy.eraseIdx j } }
    if b.limit < s.lanyard.toNat then done s u
    else if b.due ≤ s.lanyard.toNat then done s (u.send b.pkt)
    else done s s
  | none => done s s

end Sys2Proof.Machine
end

