-- ==== Sys2Proof/Machine/Twin.lean ====
section
/-! DEFINITION. HALT, and the comparison of twin mode (R33, R122 to R125). -/

namespace Sys2Proof.Machine

open Reg

/-! ### HALT (R33) -/

/-- The KNOT records of a task's retirement increments. -/
def State.digOuts (s : State) (k : CtxId) (t : Task) : State :=
  t.outs.foldl (fun s i => s.dig k 2 (knotRec i [1])) s

/-- Windows of 4,096 instructions that a context has run. -/
def Ctx.windows (x : Ctx) : Nat := x.issued / 4096

/-- A task at HALT: its context is freed, and the task retires, or in twin mode waits with its increments held. -/
def State.haltTask (s : State) (k : CtxId) (q : Nat) (t : Task) : State :=
  let n := t.glove
  let s := s.digOuts k t
  let x := s.ctx k
  let still := Tab.look (fun _ => false) s.kn.still n
  let held := s.twin n && (t.compare || still)
  let s := ((s.keepRanges k.tile t).clearCtx k).reserve k.tile
  if held then
    let s := s.setTask q (some { t with ph := .held })
    if t.compare then
      let g := s.graph t.graph
      s.holdTwin { what := .task q, glove := n, subject := 0, task := t.index,
                   id := (g.map Graph.stepId).getD 0, graph := (g.map Graph.ordinal).getD 0,
                   digs := [x.digAcc, x.digPkt, x.digKnot, x.digEng], ring := x.ring, windows := x.windows,
                   since := s.lanyard.toNat }
    else s
  else s.retireTask q

/-- HALT: once every queued instruction and move of the context is done. -/
def execHalt (k : CtxId) (w : FmtA) (s : State) : Out :=
  done s (if (s.ctx k).guard w.pg w.pn ∧ (s.quiet k = false ∨ (s.ctx k).moves.isEmpty = false) then s
    else s.issueA k w (w.rd == 0 && w.ra == 0 && w.rb == 0 && !w.i && w.fn == 0 && w.imm == 0) (fun s =>
      match (s.ctx k).task with
      | some q => (match s.task q with
        | some t => s.haltTask k q t
        | none => s)
      | none => s))

/-! ### Comparison (R123, R125) -/

/-- What a comparison held back now happens. -/
def State.applyTwin (s : State) (h : TwinHeld) : State :=
  let s := { s with kn := { s.kn with twins := s.kn.twins.filter (fun t => t.what != h.what) } }
  match h.what with
  | .task q => s.retireTask q
  | .step e => (match s.route' e with
    | some t => s.finishStep e t
    | none => s)
  | .coll c => s.collRelease c

/-- The first stream in which digests differ. -/
def diffStream (a b : List W64) : Option Nat := (List.range 4).find? (fun i => a.getD i 0 != b.getD i 0)

/-- The words of a checkpoint ring on the wire (R124): 64 entries, oldest first. -/
def TwinHeld.ringWords (h : TwinHeld) : List W64 :=
  let es := h.ring.reverse.flatMap (fun e => [e.1, e.2.1, e.2.2])
  es ++ List.replicate (192 - es.length) 0

/-- Index of the oldest window in the ring, and whether it wrapped. -/
def TwinHeld.oldest (h : TwinHeld) : Nat := (h.windows - h.ring.length) % 64
def TwinHeld.wrapped (h : TwinHeld) : Bool := decide (64 ≤ h.windows)

/-- A divergence in a stream: the subject stays held, the glove stands still, the ring goes to the twin, and the record,
event and journal entry are made. Stream 4 is MISSING. -/
def State.diverge (s : State) (h : TwinHeld) (stream : Nat) (theirs : W64) : State :=
  let d0 := 2 ^ 63 + b1 h.wrapped * 2 ^ 62 + h.glove % 64 * 2 ^ 56 + stream * 2 ^ 53 + h.task * 2 ^ 35 + h.subject * 2 ^ 33
  let mine := if stream = 4 then 0 else h.digs.getD stream 0
  let mark := fun (t : TwinHeld) => if t.what = h.what then { t with diverged := true } else t
  let s : State := { s with kn := { s.kn with
    twins := s.kn.twins.map mark, still := Tab.store (fun _ => false) s.kn.still h.glove true } }
  let s := if s.fget KNOT_TWIN_DIV0 KNOT_TWIN_DIV0_VALID = 0 then
      ((((s.setReg KNOT_TWIN_DIV0 (BitVec.ofNat 64 d0)).setReg KNOT_TWIN_DIV1 h.id).setReg KNOT_TWIN_DIV2
        (BitVec.ofNat 64 h.graph)).setReg KNOT_TWIN_DIV3 mine).setReg KNOT_TWIN_DIV4 theirs
    else s
  let s := s.event 0x0606 0 h.glove d0 h.id.toNat
  let w3 := BitVec.ofNat 64 (h.oldest + b1 h.wrapped * 2 ^ 6)
  s.send (s.twinPacket h.glove (h.head 0x21 ++ [w3] ++ h.ringWords))

/-- Whether a digest is of a held subject. -/
def TwinDigest.matches' (d : TwinDigest) (h : TwinHeld) : Bool :=
  d.glove == h.glove && d.subject == h.subject && d.task == h.task && d.id == h.id && d.graph == h.graph

/-- Compares a held subject with the twin's digest, where it has come. -/
def State.compareTwin (s : State) (h : TwinHeld) : State :=
  if h.diverged then s
  else match s.kn.digests.find? (fun d => d.matches' h) with
    | none => s
    | some d =>
      let s := { s with kn := { s.kn with digests := s.kn.digests.filter (fun e => e != d) } }
      match diffStream h.digs d.digs with
      | none => s.applyTwin h
      | some i => s.diverge h i (d.digs.getD i 0)

/-- Compares every held subject. -/
def State.twinSweep (s : State) : State := s.kn.twins.foldl (fun s h => s.compareTwin h) s

/-- MKIND of a MGMT packet. -/
def mgKind (p : Packet) : Nat := bits (p.word 0) 7 0

/-- Whether words 0 to 2 of a twin packet are well formed. -/
def twinHeadOk (p : Packet) : Bool :=
  p.taddr == 0 && p.gloved && bits (p.word 0) 9 8 != 3 && bits (p.word 0) 63 22 == 0 && bits (p.word 2) 63 48 == 0
    && (bits (p.word 0) 9 8 == 0 || (bits (p.word 0) 21 10 == 0 && p.word 2 == 0))
    && (bits (p.word 0) 9 8 != 1 || bits (p.word 1) 63 32 == 0)

/-- The MKINDs that some chapter defines. -/
def mgKnown (p : Packet) : Bool := [0x10, 0x11, 0x12, 0x20, 0x21].contains (mgKind p)

/-- TWIN_DIGEST_RECEIVE; a reserved MKIND is refused here. -/
def execTwinDigestReceive (x : Rx) (s : State) : Out :=
  done s (s.receive x tMGMT (fun p => mgKind p == 0x20 || !(mgKnown p))
    (fun p => mgKind p == 0x20 && p.len == 64 && twinHeadOk p && p.word 7 == 0)
    (fun s p n =>
      let d : TwinDigest := ⟨n, bits (p.word 0) 9 8, bits (p.word 0) 21 10, p.word 1, bits (p.word 2) 47 0,
        [p.word 3, p.word 4, p.word 5, p.word 6], s.lanyard.toNat⟩
      ({ s with kn := { s.kn with digests := s.kn.digests ++ [d] } }).twinSweep))

/-- The first window in which two rings differ, among those both hold. -/
def firstDiff (mine theirs : List (W64 × W64 × W64)) (lo1 lo2 : Nat) : Option Nat :=
  let hi := max (lo1 + mine.length) (lo2 + theirs.length)
  (List.range hi).find? (fun w => decide (lo1 ≤ w ∧ lo2 ≤ w ∧ w < lo1 + mine.length ∧ w < lo2 + theirs.length)
    && mine.getD (w - lo1) (0, 0, 0) != theirs.getD (w - lo2) (0, 0, 0))

/-- TWIN_RING_RECEIVE: names the first differing window of the recorded divergence. -/
def execTwinRingReceive (x : Rx) (s : State) : Out :=
  done s (s.receive x tMGMT (fun p => mgKind p == 0x21)
    (fun p => p.len == 1568 && twinHeadOk p && bits (p.word 3) 63 7 == 0)
    (fun s p n =>
      match s.kn.twins.find? (fun h => h.glove == n && h.subject == bits (p.word 0) 9 8 && h.task == bits (p.word 0) 21 10
          && h.id == p.word 1 && h.graph == bits (p.word 2) 47 0 && h.diverged) with
      | none => s
      | some h =>
        let theirs := (List.range 64).map (fun i => (p.word (4 + 3 * i), p.word (5 + 3 * i), p.word (6 + 3 * i)))
        let mine := h.ring.reverse
        let named := s.fget KNOT_TWIN_DIV0 KNOT_TWIN_DIV0_GLOVE_SLOT == n && s.reg KNOT_TWIN_DIV1 == h.id
          && s.fget KNOT_TWIN_DIV0 KNOT_TWIN_DIV0_TASK == h.task && s.fget KNOT_TWIN_DIV0 KNOT_TWIN_DIV0_SUBJECT == h.subject
        match (if named then firstDiff mine (theirs.take mine.length) h.oldest (bits (p.word 3) 5 0) else none) with
        | some w => (s.fset KNOT_TWIN_DIV0 KNOT_TWIN_DIV0_WINDOW w).fset KNOT_TWIN_DIV0 KNOT_TWIN_DIV0_WRAPPED
            (b1 (h.wrapped || (p.word 3).getLsbD 6))
        | none => s))

/-- Ten milliseconds. -/
def twinWait : Nat := 10000000

/-- TWIN_DIGEST_MISSING, for the q-th held subject. -/
def execTwinDigestMissing (q : Nat) (s : State) : Out :=
  match s.kn.twins[q]? with
  | some h => if h.diverged = false ∧ h.since + twinWait ≤ s.lanyard.toNat then done s (s.diverge h 4 0) else done s s
  | none => done s s

/-- TWIN_DIGEST_DISCARD: the digest has waited 10 ms for its subject. -/
def execTwinDigestDiscard (j : Nat) (s : State) : Out :=
  match s.kn.digests[j]? with
  | some d =>
    if d.since + twinWait ≤ s.lanyard.toNat then
      done s (({ s with kn := { s.kn with digests := s.kn.digests.eraseIdx j } }).bump TIME_CNT0 TIME_CNT0_IGNORED 1)
    else done s s
  | none => done s s

end Sys2Proof.Machine
end

