-- ==== Sys2Proof/Machine/Time.lean ====
section
/-! DEFINITION. The lanyard's alignment, UTC, and the launch unit (chapter 13). -/

namespace Sys2Proof.Machine

open Reg

/-! ### TIME packets (R316) -/

/-- TIME_CFG.ROLE: 0 follower, 1 pod master, 2 grand master. -/
def State.role (s : State) : Nat := s.fget TIME_CFG TIME_CFG_ROLE
/-- TIME_STAT.STATE: 0 FREE, 1 ACQUIRE, 2 LOCKED, 3 HOLDOVER. -/
def State.tstate (s : State) : Nat := s.fget TIME_STAT TIME_STAT_STATE
/-- Whether a port carries alignment. -/
def State.alignPort (s : State) (p : Nat) : Bool := (s.reg TIME_CFG).getLsbD (8 + p) && decide (p < 32)
/-- Counts a TIME, PTP or launch packet that is ignored. -/
def State.ignored (s : State) : State := s.bump TIME_CNT0 TIME_CNT0_IGNORED 1
/-- Whether some glove is ACTIVE. -/
def State.anyActive (s : State) : Bool := (List.range 64).any (fun n => s.gstate n == gACTIVE)

/-- A TIME packet's fields. -/
def tmKind (p : Packet) : Nat := bits (p.word 0) 1 0
def tmSeq (p : Packet) : Nat := bits (p.word 0) 31 16

/-- The layout of R316. -/
def timeOk (p : Packet) : Bool :=
  p.len == 32 && tmKind p != 3 && bits (p.word 0) 15 3 == 0 && bits (p.word 0) 63 32 == 0

/-- A TIME packet for a device; a port stamps word 1 of SYNC and REQ as it leaves. -/
def timePkt (dest : BitVec 24) (kind gm tseq : Nat) (stampW corr aux : W64) : Packet :=
  { ty := tTIME, vc := 0, dest := dest, len := 32,
    data := wordsBytes [BitVec.ofNat 64 (kind + gm * 4 + tseq % 65536 * 65536), stampW, corr, aux] }

/-- Sends a packet by a named port (R315, R317). -/
def State.sendBy (s : State) (port : Nat) (p : Packet) : State :=
  let (q, s) := s.stamp { p with src := s.self }
  s.toOutq q port

/-- GM as this device sends it. -/
def State.gmBit (s : State) : Nat :=
  if s.role = 2 ∨ (s.tstate = 2 ∧ s.time.masterGm) then 1 else 0

/-- TIME_SYNC_TICK (R317): every 10 µs a master sends SYNC on each port of PORTS that is UP, to the port's partner. AUX
carries TIME_UTC0 once UTC has a value. -/
def execTimeSyncTick (s : State) : Out :=
  let now := s.lanyard.toNat
  if (s.role = 1 ∨ s.role = 2) ∧ s.time.lastSync + 10000 ≤ now then
    let q := (s.time.syncSeq + 1) % 65536
    let aux := if s.role = 1 ∨ s.fget TIME_STAT TIME_STAT_UTC_STATE ≠ 0 then s.reg TIME_UTC0 else 0
    let s1 := { s with time := { s.time with lastSync := now, syncSeq := q } }
    done s ((List.range 32).foldl (fun s p =>
      if s.alignPort p && s.up p then
        s.sendBy p (timePkt (BitVec.ofNat 24 (s.fget (PORT_STAT p) PORT_STAT_PARTNER)) 0 s.gmBit q s.lanyard 0 aux)
      else s) s1)
  else done s s

/-- Whether a SYNC or RESP comes from the device this one follows, on an alignment port (R315). -/
def State.fromMaster (s : State) (x : Rx) (p : Packet) : Bool :=
  s.role != 2 && p.src.toNat == s.fget TIME_MASTER TIME_MASTER_DEVICE && s.alignPort x.port

/-- A TIME packet of a kind at the head of an input queue, taken in and well formed. -/
def State.takeTime (s : State) (x : Rx) (kind : Nat) (f : State → Packet → State) : State :=
  match s.headOf x with
  | some h =>
    if h.ty = tTIME ∧ (tmKind h = kind ∨ (tmKind h = 3 ∧ kind = 0)) then
      match s.take x tTIME with
      | (s, some (p, _)) => if timeOk p then f s p else s.malformed x p
      | (s, none) => s
    else s
  | none => s

/-- TIME_SYNC_RECEIVE (R317, R320): an accepted SYNC opens an exchange and draws a REQ on its port; one marked GM
carries TIME_UTC0. -/
def execTimeSyncReceive (x : Rx) (s : State) : Out :=
  done s (s.takeTime x 0 (fun s p =>
    if s.fromMaster x p then
      let gm := (p.word 0).getLsbD 2
      let s := if s.tstate = 0 then s.fset TIME_STAT TIME_STAT_STATE 1 else s
      let s := if gm then s.setReg TIME_UTC0 (p.word 3) else s
      let e : Exchange := ⟨x.port, tmSeq p, p.word 1, p.word 2, BitVec.ofNat 64 p.since, 0⟩
      let s := { s with time := { s.time with
        masterGm := gm, xchg := s.time.xchg.filter (fun (y : Exchange) => y.port != x.port.val) ++ [e] } }
      s.sendBy x.port (timePkt p.src 1 0 (tmSeq p) s.lanyard 0 0)
    else s.ignored))

/-- TIME_REQ_RECEIVE (R317): a master answers with the REQ's arrival stamp and its CORR. -/
def execTimeReqReceive (x : Rx) (s : State) : Out :=
  done s (s.takeTime x 1 (fun s p =>
    if s.role = 1 ∨ s.role = 2 then
      let r := timePkt p.src 2 s.gmBit (tmSeq p) (BitVec.ofNat 64 p.since) (p.word 2) (BitVec.ofNat 64 (tmSeq p))
      if x.port.val < 32 then s.sendBy x.port r else s.send r
    else s.ignored))

/-- The offset of an exchange in 1/32 ns (R317). -/
def xchgOffset (e : Exchange) (t4 c2 : W64) : Int :=
  16 * (e.t2 - e.t1).toInt - e.c1.toInt - (16 * (t4 - e.t3).toInt - c2.toInt)

/-- The average in ns of offsets in 1/32 ns, rounded down. -/
def avgOffset (l : List Int) : Int := l.foldl (· + ·) 0 / (32 * (max 1 l.length : Nat))

/-- Takes a step of the lanyard to the master's value (R319): the change is journalled with the old and new values. -/
def State.stepLanyard (s : State) (off : Int) : State :=
  let old := s.lanyard
  let new := old - BitVec.ofInt 64 off
  let s := { s with lanyard := new, time := { s.time with offsets := [], slew := 0, lastSlew := new.toNat, lastDone := new.toNat } }
  (s.fset TIME_STAT TIME_STAT_STEPPED 1).journal 0x0015 0xFF 0x3F (leBytes 8 old.toNat ++ leBytes 8 new.toNat)

/-- A completed exchange's offset (R317, R319). -/
def State.takeOffset (s : State) (off : Int) : State :=
  let now := s.lanyard.toNat
  let ns := off / 32
  if s.tstate = 2 ∧ (32000 < off ∨ off < -32000) then
    if s.fget TIME_CFG TIME_CFG_STEP_OK = 1 ∧ s.anyActive = false then
      (s.stepLanyard ns).event 0x1101 0 0x3F (BitVec.ofInt 64 ns).toNat 1
    else
      let s := s.fset TIME_STAT TIME_STAT_STATE 3
      let s := s.bump TIME_CNT0 TIME_CNT0_JUMPS 1
      s.event 0x1101 0 0x3F (BitVec.ofInt 64 ns).toNat 0
  else
    let l := (s.time.offsets ++ [off]).drop (s.time.offsets.length + 1 - 16)
    let avg := avgOffset l
    let s := s.fset TIME_STAT TIME_STAT_OFFSET (sat32 avg)
    let s := s.fset TIME_STAT TIME_STAT_STATE 2
    let first := !s.time.firstLock
    let s := { s with time := { s.time with offsets := l, lastDone := now, firstLock := true } }
    if first && !s.anyActive then s.stepLanyard avg
    else { s with time := { s.time with slew := -avg } }

/-- TIME_RESP_RECEIVE (R317): completes the exchange its AUX names. -/
def execTimeRespReceive (x : Rx) (s : State) : Out :=
  done s (s.takeTime x 2 (fun s p =>
    if s.fromMaster x p then
      match s.time.xchg.find? (fun e => e.port == x.port.val && e.tseq == bits (p.word 3) 15 0) with
      | some e =>
        let s : State := { s with time := { s.time with xchg := s.time.xchg.filter (fun y => y != e) } }
        s.takeOffset (xchgOffset e (p.word 1) (p.word 2))
      | none => s.ignored
    else s.ignored))

/-- TIME_HOLDOVER (R317): 1 ms without a completed exchange. -/
def execTimeHoldover (s : State) : Out :=
  if s.tstate = 2 ∧ s.role ≠ 2 ∧ s.time.lastDone + 1000000 ≤ s.lanyard.toNat then
    done s ((s.fset TIME_STAT TIME_STAT_STATE 3).event 0x1103 0 0x3F (s.fget TIME_STAT TIME_STAT_OFFSET) 0)
  else done s s

/-! ### UTC (R320, R321) -/

/-- UTC_STATE. -/
def State.utcState (s : State) : Nat := s.fget TIME_STAT TIME_STAT_UTC_STATE
/-- Sets it. -/
def State.setUtcState (s : State) (n : Nat) : State := s.fset TIME_STAT TIME_STAT_UTC_STATE n

/-- A PTP measurement of the PTP timescale now, in ns (R320, R335). -/
def State.ptpMeasure (s : State) (tai : W64) : State :=
  let want := tai - s.lanyard
  let d := (want - s.reg TIME_UTC0).toInt
  let fresh := s.utcState = 0
  let s := { s with time := { s.time with lastUtc := s.lanyard.toNat } }
  if fresh then (s.setReg TIME_UTC0 want).setUtcState 2
  else if d ≤ 1000000 ∧ -1000000 ≤ d then
    let s := { s with time := { s.time with slew := d, jumpRun := 0 } }
    s.setUtcState 2
  else
    let near := s.time.jumpRun ≠ 0 ∧ d - s.time.jumpVal ≤ 1000000 ∧ -1000000 ≤ d - s.time.jumpVal
    let run := if near then s.time.jumpRun + 1 else 1
    if run < 8 then
      let v := if near then s.time.jumpVal else d
      let s := { s with time := { s.time with jumpRun := run, jumpVal := v } }
      s.setUtcState 1
    else
      let old := s.reg TIME_UTC0
      let s := { s with time := { s.time with jumpRun := 0, jumpVal := 0 } }
      ((s.setReg TIME_UTC0 want).setUtcState 2).journal 0x0015 0xFF 0x3F (leBytes 8 old.toNat ++ leBytes 8 want.toNat)

/-- PTP_MESSAGE_RECEIVE (R320). -/
def execPtpMessageReceive (m : PtpMsg) (s : State) : Out :=
  let src := s.fget TIME_CFG TIME_CFG_UTC_SRC
  match m with
  | .other => done s s.ignored
  | .sync tai off l61 l59 =>
    if s.role = 2 ∧ (src = 1 ∨ src = 2) then
      done s ((s.setReg TIME_UTC1 (BitVec.ofNat 64 (off.toNat + 2 ^ 16 + b1 l61 * 2 ^ 17 + b1 l59 * 2 ^ 18))).ptpMeasure tai)
    else done s s.ignored

/-- PPS_IN_EDGE (R320): the edge is a UTC second boundary, toward which the lanyard slews. -/
def execPpsInEdge (s : State) : Out :=
  if s.role = 2 ∧ s.fget TIME_CFG TIME_CFG_UTC_SRC = 3 then
    let frac : Nat := s.utc.toNat % 1000000000
    let d : Int := if frac < 500000000 then -(frac : Int) else 1000000000 - (frac : Int)
    let s1 := { s with time := { s.time with slew := d, lastUtc := s.lanyard.toNat } }
    done s (s1.setUtcState 2)
  else done s s

/-- PPS_OUT_EDGE (R321): the UTC value has crossed a whole second. -/
def execPpsOutEdge (s : State) : Out :=
  let sec := s.utc.toNat / 1000000000
  if s.fget TIME_CFG TIME_CFG_PPS_OUT = 1 ∧ sec ≠ s.time.ppsSecond then
    done s { s with pwr := { s.pwr with ppsOut := true }, time := { s.time with ppsSecond := sec } }
  else done s s

/-- UTC_SOURCE_SILENT (R335): the source has been silent for 4 s. -/
def execUtcSourceSilent (s : State) : Out :=
  if s.role = 2 ∧ s.fget TIME_CFG TIME_CFG_UTC_SRC ≠ 0 ∧ (s.utcState = 1 ∨ s.utcState = 2)
      ∧ s.time.lastUtc + 4000000000 ≤ s.lanyard.toNat then
    done s (s.setUtcState 3)
  else done s s

/-- The lanyard's advance at a TCLK: 1, and while a slew is due 1 more or less every 2,000 (R313, R319). PPS_OUT falls
100 ms into its second. -/
def State.timeTick (s : State) : State :=
  let due := s.time.slew ≠ 0 ∧ s.time.lastSlew + 2000 ≤ s.lanyard.toNat
  let d : Int := if due then (if 0 < s.time.slew then 1 else -1) else 0
  let now := s.lanyard + 1 + BitVec.ofInt 64 d
  let s := if due then { s with time := { s.time with slew := s.time.slew - d, lastSlew := now.toNat } } else s
  let s := { s with lanyard := now }
  if s.pwr.ppsOut ∧ (s.time.ppsSecond * 1000000000 + 100000000 ≤ s.utc.toNat ∨ s.fget TIME_CFG TIME_CFG_PPS_OUT = 0) then
    { s with pwr := { s.pwr with ppsOut := false } }
  else s

/-! ### Launch packets (R324) -/

/-- The fields of a LAUNCH payload or descriptor, given as its words. -/
def lhKind (ws : List W64) : Nat := bits (ws.getD 0 0) 3 0
def lhLid (ws : List W64) : W32 := BitVec.ofNat 32 (bits (ws.getD 0 0) 63 32)
def lhT (ws : List W64) : Nat := (ws.getD 1 0).toNat
def lhD (ws : List W64) : Nat := (ws.getD 2 0).toNat
def lhRoot (ws : List W64) : BitVec 24 := BitVec.ofNat 24 (bits (ws.getD 3 0) 23 0)
def lhKnot (ws : List W64) : Nat := bits (ws.getD 3 0) 37 24
def lhReady (ws : List W64) : Nat := bits (ws.getD 3 0) 51 38
def lhHitch (ws : List W64) : Nat := bits (ws.getD 3 0) 61 52
def lhAlts (ws : List W64) : Nat := bits (ws.getD 4 0) 56 0
def lhCount (ws : List W64) : Nat := bits (ws.getD 5 0) 31 0
def lhRefused (ws : List W64) : Nat := bits (ws.getD 5 0) 63 32
def lhReach (ws : List W64) : Nat := bits (ws.getD 6 0) 15 0
def lhSlot (ws : List W64) : Nat := bits (ws.getD 6 0) 21 16
def lhMissing (ws : List W64) : Nat := bits (ws.getD 7 0) 31 0
def lhFirst (ws : List W64) : Nat := bits (ws.getD 7 0) 55 32

/-- Every bit outside a field is 0, and LKIND is not reserved. -/
def lhOk (ws : List W64) : Bool :=
  decide (lhKind ws ≤ 5) && bits (ws.getD 0 0) 31 4 == 0 && bits (ws.getD 3 0) 63 62 == 0
    && bits (ws.getD 4 0) 63 57 == 0 && bits (ws.getD 6 0) 63 22 == 0 && bits (ws.getD 7 0) 63 56 == 0

/-- A packet's payload words. -/
def Packet.words8 (p : Packet) : List W64 := (List.range 8).map p.word

/-- The layout of a LAUNCH packet. -/
def lhPktOk (p : Packet) : Bool :=
  p.len == 64 && lhOk p.words8 && lhHitch p.words8 == 0 && lhSlot p.words8 == 0

/-- A launch entry. -/
def State.launch (s : State) (i : Nat) : Launch := Tab.look (fun _ => {}) s.time.launches i
/-- Sets a launch entry. -/
def State.setLaunch (s : State) (i : Nat) (l : Launch) : State :=
  { s with time := { s.time with launches := Tab.store (fun _ => {}) s.time.launches i l } }

/-- A LAUNCH packet of an entry. -/
def State.launchPkt (s : State) (l : Launch) (dest : BitVec 24) (kind count refused missing first : Nat) : Packet :=
  let ws : List W64 := [BitVec.ofNat 64 (kind + l.lid.toNat * 2 ^ 32), BitVec.ofNat 64 l.t, BitVec.ofNat 64 l.d,
      BitVec.ofNat 64 (l.rootDev.toNat + l.knot * 2 ^ 24 + l.readyKnot * 2 ^ 38), BitVec.ofNat 64 l.alts,
      BitVec.ofNat 64 (count % 2 ^ 32 + refused % 2 ^ 32 * 2 ^ 32), BitVec.ofNat 64 l.reach,
      BitVec.ofNat 64 (missing % 2 ^ 32 + first % 2 ^ 24 * 2 ^ 32)]
  s.tagged l.glove { ty := tLAUNCH, vc := 0, dest := dest, len := 64, data := wordsBytes ws }

/-- An entry as a PREPARE or a descriptor describes it. -/
def launchOf (ws : List W64) (glove : Nat) : Launch :=
  { state := 1, glove := glove, lid := lhLid ws, t := lhT ws, d := lhD ws, rootDev := lhRoot ws, knot := lhKnot ws,
    readyKnot := lhReady ws, alts := lhAlts ws, ndev := lhCount ws, reach := lhReach ws }

/-- A free launch entry (R329). -/
def State.freeLaunch (s : State) : Option Nat :=
  (List.range 16).find? (fun i => (s.launch i).state != 1 && (s.launch i).state != 2)

/-- The entry that holds a launch of a glove, PREPARED or COMMITTED. -/
def State.findLaunch (s : State) (n : Nat) (lid : W32) : Option Nat :=
  (List.range 16).find? (fun i =>
    let l := s.launch i
    (l.state == 1 || l.state == 2) && l.glove == n && l.lid == lid)

/-- The branches and slots a head casts to (R326). -/
def State.kidsOf (s : State) (h : Nat) : List Child :=
  let now := s.lanyard.toNat
  let brs := (List.range 8).filter (fun b => s.fget (FAB_HITCH_BR h b) FAB_HITCH_BR_VALID == 1)
  let mask := s.reg (FAB_HITCH_MASK h)
  let pod := podOf s.self
  brs.map (fun b => { branch := true, ix := b, dev := BitVec.ofNat 24 (s.fget (FAB_HITCH_BR h b) FAB_HITCH_BR_DEVICE),
                      hitch := s.fget (FAB_HITCH_BR h b) FAB_HITCH_BR_HITCH, since := now })
    ++ ((List.range 64).filter (fun j => mask.getLsbD j && j != slotOf s.self)).map (fun j =>
      { branch := false, ix := j, dev := BitVec.ofNat 24 (pod * 64 + j), since := now })

/-- A LAUNCH packet as a cast carries it to one branch, or onward from a head. -/
def castOf (h : Nat) (inner : Packet) : Packet :=
  { inner with ty := tHITCH_CAST, hitch := h, adapt := false, body := [0, BitVec.ofNat 64 inner.ty, 0, 0] }

/-! ### Aggregation and decision (R327, R328) -/

/-- COUNT, REFUSED, MISSING and FIRST_MISSING of an entry. -/
structure Tally where
  count : Nat
  refused : Nat
  missing : Nat
  first : Nat
deriving DecidableEq, Repr

/-- The device a missing branch or slot stands for: a branch's own device, whatever alternate was tried. -/
def State.childDev (s : State) (l : Launch) (c : Child) : Nat :=
  if c.branch then s.fget (FAB_HITCH_BR l.hitch c.ix) FAB_HITCH_BR_DEVICE else c.dev.toNat

/-- Adds one child. -/
def State.addChild (s : State) (l : Launch) (t : Tally) (c : Child) : Tally :=
  if c.gone then { t with missing := t.missing + 1, first := min t.first (s.childDev l c) }
  else if c.acked then
    { count := t.count + c.count, refused := t.refused + c.refused, missing := t.missing + c.missing,
      first := min t.first c.firstMissing }
  else t

/-- The sums of an entry's children and its own count; FIRST_MISSING is 0xFFFFFF where none is missing. -/
def State.tally (s : State) (l : Launch) : Tally := l.kids.foldl (s.addChild l) ⟨b1 l.ready, 0, 0, 0xFFFFFF⟩

/-- FIRST_MISSING as it is sent: 0 where no device is known. -/
def firstSent (n : Nat) : Nat := if n = 0xFFFFFF then 0 else n

/-- Casts COMMIT or CANCEL down an entry's hitch. -/
def State.castDecision (s : State) (l : Launch) (kind : Nat) : State :=
  s.cast l.hitch (s.launchPkt l s.self kind l.ndev 0 0 0)

/-- Sends COMMIT or CANCEL to the alternates a head used. -/
def State.toAlternates (s : State) (l : Launch) (kind : Nat) : State :=
  l.kids.foldl (fun s c =>
    if c.branch && c.resent && c.dev.toNat != s.childDev l c then
      s.send { castOf c.hitch (s.launchPkt l c.dev kind l.ndev 0 0 0) with dest := c.dev }
    else s) s

/-- The root's decision: cast, forwarded to alternates, and journalled (R328). -/
def State.launchDecide (s : State) (i : Nat) (commit : Bool) (t : Tally) : State :=
  let l := s.launch i
  let kind := if commit then 3 else 4
  let s := s.setLaunch i { l with state := if commit then 2 else 4, decided := some commit }
  let s := (s.castDecision l kind).toAlternates l kind
  s.journal 0x0008 0xFF l.glove (leBytes 1 kind ++ leBytes 4 l.lid.toNat ++ leBytes 8 l.t ++ leBytes 4 t.count
    ++ leBytes 4 t.refused ++ leBytes 4 t.missing ++ leBytes 3 (firstSent t.first))

/-- The root decides, or a head sends its one ACK, when it can (R327, R328). -/
def State.launchCheck (s : State) (i : Nat) : State :=
  let l := s.launch i
  let t := s.tally l
  if l.state ≠ 1 ∨ !l.head then s
  else if l.root then
    if 0 < t.refused ∨ 0 < t.missing ∨ l.ndev < t.count then s.launchDecide i false t
    else if t.count = l.ndev ∧ s.lanyard.toNat < l.d then s.launchDecide i true t
    else s
  else if l.acked then s
  else if l.kids.all (fun c => c.acked || c.gone) ∧ (l.ready ∨ l.kids.any (fun c => c.gone)) then
    (s.setLaunch i { l with acked := true }).send
      (s.launchPkt l l.parent 2 t.count t.refused t.missing (firstSent t.first))
  else s

/-! ### The journal's free space (R378) -/

/-- The bytes an entry takes in the ring. -/
def JEntry.size (e : JEntry) : Nat := 128 + (e.payload.length + 63) / 64 * 64

/-- The journal ring: 1 GiB, or half of it once an NVS die has failed (R233, R235). -/
def State.jnlRing (s : State) : Nat := if s.mm.dieFailed.any (fun e => e.2) then 2 ^ 29 else 2 ^ 30

/-- Free space: the ring less the entries not exported. -/
def State.jnlFree (s : State) : Nat :=
  s.jnlRing - ((s.sec.journal.filter (fun e => decide ((s.reg SEC_JNL_EXPORTED).toNat ≤ e.seq))).map JEntry.size).foldl (· + ·) 0

/-- Below 64 MiB free. -/
def State.jnlLow (s : State) : Bool := decide (s.jnlFree < 2 ^ 26)

/-! ### Starting (R323) -/

/-- TIME_LCH_GO.STATUS. -/
def State.lchStatus (s : State) (st : Nat) : State := s.fset TIME_LCH_GO TIME_LCH_GO_STATUS st

/-- TIME_LCH_GO (R323): a service core starts a launch from a descriptor in the local range. -/
def execTimeLchGo (addr : BitVec 57) (s : State) : Out :=
  let a := addr.toNat / 64 * 64
  if localSize < a + 64 then done s (s.lchStatus ST_RANGE)
  else
    let ws := s.words a 8
    let n := lhSlot ws
    let h := lhHitch ws
    let now := s.lanyard.toNat
    if !(lhOk ws) || lhKind ws != 0 then done s (s.lchStatus ST_FMT)
    else if s.gstate n ≠ gACTIVE ∨ !(s.ownsKnot n (lhKnot ws)) ∨ !(s.ownsKnot n (lhReady ws)) ∨ lhCount ws = 0
        ∨ !(s.hitchOk h (s.gid n) (s.gepoch n)) ∨ lhD ws < now + 100000 ∨ lhT ws < lhD ws + 100000 then
      done s (s.lchStatus ST_RANGE)
    else if s.jnlLow then done s (s.lchStatus ST_BUSY)
    else match s.freeLaunch with
      | none => done s (s.lchStatus ST_BUSY)
      | some i =>
        let l := { launchOf ws n with root := true, head := true, hitch := h, parent := s.self, kids := s.kidsOf h }
        let s1 := (s.setLaunch i l).lchStatus ST_OK
        done s (s1.cast h (s1.launchPkt l s.self 0 l.ndev 0 0 0))

/-! ### Receiving (R325 to R329) -/

/-- A LAUNCH packet of a kind at the head of an input queue, taken in and well formed, with its glove's slot. A reserved
LKIND is refused with the PREPARE command. -/
def State.takeLaunch (s : State) (x : Rx) (kind : Nat) (f : State → Packet → Nat → State) : State :=
  match s.headOf x with
  | some h =>
    let k := lhKind h.words8
    if h.ty = tLAUNCH ∧ (k = kind ∨ (5 < k ∧ kind = 0)) then
      match s.take x tLAUNCH with
      | (s, some (p, n)) => if lhPktOk p then f s p n else s.malformed x p
      | (s, none) => s
    else s
  | none => s

/-- The ACK of a device that is not a head, or of a head whose aggregate was sent. -/
def State.ackUp (s : State) (l : Launch) : State :=
  let t := s.tally l
  s.send (s.launchPkt l l.parent 2 t.count t.refused t.missing (firstSent t.first))

/-- A head's HOLD to the PREPARE's sender and its cast onward (R325). -/
def State.headCast (s : State) (l : Launch) (p : Packet) : State :=
  (s.send (s.launchPkt l p.src 1 0 0 0 0)).castFrom l.hitch (castOf l.hitch p)

/-- A PREPARE that finds its launch held here. -/
def State.laterPrepare (s : State) (i : Nat) (p : Packet) : State :=
  let l := s.launch i
  if l.root ∨ p.src = l.parent then s
  else match p.stage0 with
    | some h =>
      let l := { l with head := true, parent := p.src, hitch := h, acked := false, kids := s.kidsOf h }
      ((s.setLaunch i l).headCast l p).launchCheck i
    | none =>
      let l := { l with parent := p.src }
      let s := s.setLaunch i l
      if l.ready ∧ (!l.head ∨ l.acked) then s.ackUp l else s

/-- LAUNCH_PREPARE_RECEIVE (R325). -/
def execLaunchPrepareReceive (x : Rx) (s : State) : Out :=
  done s (s.takeLaunch x 0 (fun s p n =>
    let ws := p.words8
    match s.findLaunch n (lhLid ws) with
    | some i => s.laterPrepare i p
    | none =>
      if p.src = s.self then s
      else
        let base := launchOf ws n
        match s.freeLaunch with
        | some i =>
          if s.ownsKnot n base.knot ∧ s.ownsKnot n base.readyKnot ∧ s.lanyard.toNat + 10000 ≤ base.d then
            match p.stage0 with
            | some h =>
              let l := { base with head := true, hitch := h, parent := p.src, kids := s.kidsOf h }
              (s.setLaunch i l).headCast l p
            | none => s.setLaunch i { base with parent := p.src }
          else s.send (s.launchPkt base p.src 2 0 1 0 0)
        | none => s.send (s.launchPkt base p.src 2 0 1 0 0)))

/-- LAUNCH_READY (R325): READY_KNOT is reached. -/
def execLaunchReady (i : Fin 16) (s : State) : Out :=
  let l := s.launch i
  if l.state = 1 ∧ !l.ready ∧ (s.knot l.readyKnot).reached then
    let l := { l with ready := true }
    let s1 := s.setLaunch i l
    if l.head then done s (s1.launchCheck i)
    else done s ((s1.setLaunch i { l with acked := true }).ackUp l)
  else done s s

/-- LAUNCH_HOLD_RECEIVE (R326). -/
def execLaunchHoldReceive (x : Rx) (s : State) : Out :=
  done s (s.takeLaunch x 1 (fun s p n =>
    match s.findLaunch n (lhLid p.words8) with
    | some i =>
      let l := s.launch i
      if l.kids.any (fun c => c.branch && c.dev == p.src && !c.gone) then
        let hold := fun (c : Child) => if c.branch ∧ c.dev = p.src ∧ !c.gone then { c with held := true } else c
        s.setLaunch i { l with kids := l.kids.map hold }
      else s.ignored
    | none => s.ignored))

/-- A child's answer is noted, passed on at once where something is refused or missing, and weighed (R327). -/
def State.childAck (s : State) (i : Nat) (src : BitVec 24) (count refused missing first : Nat) : State :=
  let l := s.launch i
  if l.state = 1 ∧ l.kids.any (fun c => c.dev == src && !c.gone) then
    let first' := if 0 < missing ∨ (0 < refused ∧ first ≠ 0) then first else 0xFFFFFF
    let note := fun (c : Child) => if c.dev = src ∧ !c.gone then
      { c with acked := true, count := count, refused := refused, missing := missing, firstMissing := first' } else c
    let s := s.setLaunch i { l with kids := l.kids.map note }
    let s := if !l.root ∧ (0 < refused ∨ 0 < missing) then s.send (s.launchPkt l l.parent 2 count refused missing first) else s
    s.launchCheck i
  else s.ignored

/-- LAUNCH_ACK_RECEIVE (R327, R328). -/
def execLaunchAckReceive (x : Rx) (s : State) : Out :=
  done s (s.takeLaunch x 2 (fun s p n =>
    let ws := p.words8
    match s.findLaunch n (lhLid ws) with
    | some i => s.childAck i p.src (lhCount ws) (lhRefused ws) (lhMissing ws) (lhFirst ws)
    | none => s.ignored))

/-- A PREPARE refused with NAK STALE_GLOVE counts at its sender as one refusal by that device (R325). -/
def State.launchNak (s : State) (n : Nat) (refuser : BitVec 24) (lid : Option W32) : State :=
  match (List.range 16).find? (fun i =>
      let l := s.launch i
      l.state == 1 && l.head && l.glove == n && (lid == none || lid == some l.lid)
        && l.kids.any (fun c => c.dev == refuser && !c.acked && !c.gone)) with
  | some i => s.childAck i refuser 0 1 0 refuser.toNat
  | none => s

/-- LAUNCH_REACH_TIMEOUT (R326, R327): child j has not answered within REACH_US of its last send. -/
def execLaunchReachTimeout (i : Fin 16) (j : Nat) (s : State) : Out :=
  let l := s.launch i
  match l.kids[j]? with
  | none => done s s
  | some c =>
    if l.state ≠ 1 ∨ !l.head ∨ c.acked ∨ c.gone ∨ c.held ∨ s.lanyard.toNat < c.since + l.reach * 1000 then done s s
    else if c.resent then
      done s ((s.setLaunch i { l with kids := l.kids.set j { c with gone := true } }).launchCheck i)
    else
      let c := { c with resent := true, since := s.lanyard.toNat }
      if c.branch then
        match s.vwords l.glove (l.alts + 8 * c.ix) 1 with
        | none => done s (s.memFault l.glove (l.alts + 8 * c.ix) 8)
        | some ws =>
          let w := ws.getD 0 0
          if w.getLsbD 34 then
            let c := { c with dev := BitVec.ofNat 24 (bits w 23 0), hitch := bits w 33 24 }
            let s1 := s.setLaunch i { l with kids := l.kids.set j c }
            done s (s1.send { castOf c.hitch (s1.launchPkt l c.dev 0 l.ndev 0 0 0) with dest := c.dev })
          else done s (s.setLaunch i { l with kids := l.kids.set j c })
      else
        let s1 := s.setLaunch i { l with kids := l.kids.set j c }
        done s (s1.send (s1.launchPkt l c.dev 0 l.ndev 0 0 0))

/-- LAUNCH_DEADLINE (R328): D passes at the root without a commit. -/
def execLaunchDeadline (i : Fin 16) (s : State) : Out :=
  let l := s.launch i
  if l.state = 1 ∧ l.root ∧ l.d ≤ s.lanyard.toNat then done s (s.launchDecide i false (s.tally l)) else done s s

/-- LAUNCH_COMMIT_RECEIVE (R328, R329): before T, a PREPARED entry becomes COMMITTED; a head passes the decision to the
alternates it used. -/
def execLaunchCommitReceive (x : Rx) (s : State) : Out :=
  done s (s.takeLaunch x 3 (fun s p n =>
    match s.findLaunch n (lhLid p.words8) with
    | some i =>
      let l := s.launch i
      if l.state = 1 ∧ s.lanyard.toNat < l.t then (s.setLaunch i { l with state := 2 }).toAlternates l 3 else s
    | none => s))

/-- LAUNCH_CANCEL_RECEIVE (R329). -/
def execLaunchCancelReceive (x : Rx) (s : State) : Out :=
  done s (s.takeLaunch x 4 (fun s p n =>
    let ws := p.words8
    if lhT ws ≤ s.lanyard.toNat then s.ignored
    else match s.findLaunch n (lhLid ws) with
      | some i =>
        let l := s.launch i
        ((s.setLaunch i { l with state := 4 }).toAlternates l 4).journal 0x0008 0xFF n
          (leBytes 1 4 ++ leBytes 4 l.lid.toNat ++ leBytes 8 l.t)
      | none => s))

/-- LAUNCH_QUERY_RECEIVE (R328): the root answers with its decision. -/
def execLaunchQueryReceive (x : Rx) (s : State) : Out :=
  done s (s.takeLaunch x 5 (fun s p n =>
    match (List.range 16).find? (fun i =>
        let l := s.launch i
        l.root && l.glove == n && l.lid == lhLid p.words8 && l.decided.isSome) with
    | some i =>
      let l := s.launch i
      s.send (s.launchPkt l p.src (if l.decided = some true then 3 else 4) l.ndev 0 0 0)
    | none => s))

/-- LAUNCH_QUERY_TIMER (R329): a PREPARED entry is halfway from D to T. -/
def execLaunchQueryTimer (i : Fin 16) (s : State) : Out :=
  let l := s.launch i
  if l.state = 1 ∧ !l.queried ∧ l.d + (l.t - l.d) / 2 ≤ s.lanyard.toNat then
    done s ((s.setLaunch i { l with queried := true }).send (s.launchPkt l l.rootDev 5 0 0 0 0))
  else done s s

/-- LAUNCH_RELEASE (R329): the lanyard reaches T. -/
def execLaunchRelease (i : Fin 16) (s : State) : Out :=
  let l := s.launch i
  if s.lanyard.toNat < l.t then done s s
  else if l.state = 2 then done s ((s.setLaunch i { l with state := 3 }).engineAdd l.knot 1 false [])
  else if l.state = 1 then
    done s ((s.setLaunch i { l with state := 5 }).event 0x1102 i.val l.glove l.lid.toNat l.t)
  else done s s

/-- TIME_LCH_ENT0 and TIME_LCH_ENT1 as they read (R336). -/
def State.launchEnt0 (s : State) (e : Nat) : W64 :=
  let l := s.launch e
  BitVec.ofNat 64 (l.lid.toNat + l.glove % 64 * 2 ^ 54 + b1 l.root * 2 ^ 60 + l.state * 2 ^ 61)
def State.launchEnt1 (s : State) (e : Nat) : W64 := BitVec.ofNat 64 (s.launch e).t

end Sys2Proof.Machine
end

