-- ==== Sys2Proof/Machine/Security.lean ====
section
/-! DEFINITION. Images, configuration records, the journal, lifecycle, debug sessions and the security mailbox
(chapter 15). A request block's fields lie one after the other in the order R390 lists them (assumption 21), and a result
that names no address of its own is written over the request block. -/

namespace Sys2Proof.Machine

open Reg

/-! ### Fields of byte lists, keys and roles -/

/-- n bytes at an offset, and their little-endian value. -/
def sliceOf (bs : List Byte) (off n : Nat) : List Byte := (bs.drop off).take n
def fieldOf (bs : List Byte) (off n : Nat) : Nat := leNat (sliceOf bs off n)
/-- Whether every byte is 0. -/
def zeros (bs : List Byte) : Bool := bs.all (· == 0)

/-- The lifecycle: 0 MANUFACTURE, 1 PROVISIONED, 2 FIELD, 3 RETURNED. -/
def State.lifecycle (s : State) : Nat := s.fget SEC_STAT SEC_STAT_LIFECYCLE
/-- The debug level. -/
def State.debugLevel (s : State) : Nat := s.fget SEC_STAT SEC_STAT_DEBUG
/-- The power state: 0 to 4 for P0 to P4, 5 SAVE. -/
def State.powerState (s : State) : Nat := s.fget PWR_STATE PWR_STATE_STATE
/-- The core that holds the management role. -/
def State.mgmtCore (s : State) : Nat := s.fget SVC_ROLE SVC_ROLE_MGMT_CORE
/-- The source number of a service core's writes (R339, R359). -/
def State.srcOf (s : State) (core : Nat) : Nat := if core = s.mgmtCore then 5 else 6 + core
/-- Whether a service core is fenced (R338). -/
def State.coreFenced (s : State) (c : Nat) : Bool := s.fget (SVC_CORE_CTL c) SVC_CORE_CTL_FENCED == 1

/-- The public keys, in bytes. -/
def idPub : List Byte := edPublic identitySeed
def mfgPub : List Byte := leBytes 32 Config.mfgKey.toNat
def State.ownerPub (s : State) : List Byte := leBytes 32 s.sec.ownerKey.toNat
/-- Whether the owner key is live: installed, and the lifecycle PROVISIONED or FIELD (R386). -/
def State.ownerLive (s : State) : Bool := s.sec.ownerHash != 0 && (s.lifecycle == 1 || s.lifecycle == 2)
/-- Whether the manufacturing key is live. -/
def State.mfgLive (s : State) : Bool := s.lifecycle == 0 || s.lifecycle == 3

/-- Whether a signature verifies under the key a KEY_ID names, and that key is live (R369, R386). -/
def State.keyVerifies (s : State) (id : Nat) (msg sig : List Byte) : Bool :=
  if id = 0 then edVerify idPub msg sig
  else if id = 1 then s.ownerLive && edVerify s.ownerPub msg sig
  else if id = 2 then s.mfgLive && edVerify mfgPub msg sig
  else false

/-- Tears down every glove (R44). -/
def State.faultAll (s : State) (cause : Nat) : State := (List.range 64).foldl (fun s n => s.faultGlove n cause) s

/-- Whether a slot is FREE or RETIRED, and whether all are. -/
def State.slotGone (s : State) (n : Nat) : Bool := s.gstate n == gFREE || s.gstate n == gRETIRED
def State.allGone (s : State) : Bool := (List.range 64).all s.slotGone

/-- Counts logical pages of 16 KiB written to the NVS (R235). -/
def State.nvsWrote (s : State) (bytes : Nat) : State := s.bump NVS_CNT1 NVS_CNT1_WRITTEN ((bytes + 16383) / 16384)

/-! ### The journal (R376, R378) -/

/-- A checkpoint entry: its own SEQ, and the identity key's signature over PREV and SEQ. -/
def State.journalCheckpoint (s : State) : State :=
  let seq := (s.reg SEC_JNL_HEAD).toNat
  let sig := edSign identitySeed (leBytes 64 s.sec.lastHash.toNat ++ leBytes 8 seq)
  let s := s.journal 0x0001 0xFF 0x3F (leBytes 8 seq ++ sig)
  { s with sec := { s.sec with sinceCheck := 0, firstOpen := Option.none } }

/-- JOURNAL_CHECKPOINT (R376): after 1,024 entries, or 1 s after the first one not covered. -/
def execJournalCheckpoint (s : State) : Out :=
  let late := match s.sec.firstOpen with
    | some t => decide (t + 1000000000 ≤ s.lanyard.toNat)
    | none => false
  if decide (1024 ≤ s.sec.sinceCheck) || late then done s s.journalCheckpoint else done s s

/-- Below 16 MiB free, and with no space left or the NVS read-only. -/
def State.jnlReserve (s : State) : Bool := decide (s.jnlFree < 2 ^ 24)
def State.jnlFull (s : State) : Bool := s.jnlFree == 0 || s.fget NVS_STAT NVS_STAT_READONLY == 1

/-! ### Injection and traffic generation (R389) -/

/-- Whether injectors and traffic generators are enabled. -/
def State.mayInject (s : State) : Bool :=
  (s.lifecycle == 0 || s.lifecycle == 3 || (s.debugLevel == 2 && s.sec.inject)) && decide (s.powerState ≤ 2)

/-- Disarms every injector and stops every traffic-generator run; what a run has found by then is open. -/
def State.disarm (s : State) : State :=
  let s := (List.range 32).foldl (fun s p => s.fset (PORT_FI_CTL p) PORT_FI_CTL_ARMED 0) s
  (List.range 256).foldl (fun s c =>
    if s.fget (HBM_TG_RES c) HBM_TG_RES_RUNNING = 1 then
      let s := (s.fset (HBM_TG_RES c) HBM_TG_RES_RUNNING 0).fset (HBM_TG_RES c) HBM_TG_RES_ERRORS (Config.freeWord s.free).toNat
      let s := s.setReg (HBM_TG_LANES c) (Config.freeWord (s.free + 1))
      { s with free := s.free + 2 }
    else s) s

/-- Sets SEC_STAT.INJECT; losing either condition disarms. -/
def State.noteInject (s : State) : State :=
  let was := s.fget SEC_STAT SEC_STAT_INJECT
  if s.mayInject then s.fset SEC_STAT SEC_STAT_INJECT 1
  else
    let s := s.fset SEC_STAT SEC_STAT_INJECT 0
    if was = 1 then s.disarm else s

/-! ### Images (R364 to R366) -/

/-- The running slot of a KIND, and an image. -/
def State.runSlot (s : State) (kind : Nat) : Nat := Tab.look (fun _ => 0) s.sec.running kind
def State.image (s : State) (kind slot : Nat) : Image := Tab.look (fun _ => {}) s.sec.images (2 * kind + slot)
def State.setImage (s : State) (kind slot : Nat) (v : Image) : State :=
  { s with sec := { s.sec with images := Tab.store (fun _ => {}) s.sec.images (2 * kind + slot) v } }
/-- The SVN floor of a KIND. -/
def State.svnFloor (s : State) (kind : Nat) : Nat := s.fget (SEC_FW_SVN (kind - 1)) SEC_FW_SVN_FLOOR

/-- The length an image spells in its header. -/
def imageLen (bs : List Byte) : Nat := 512 + fieldOf bs 0x14 4

/-- An image that R365 accepts, with its KIND; its bytes may have others after them. -/
def State.acceptImage (s : State) (bs : List Byte) : Option (Nat × Image) :=
  let kind := fieldOf bs 4 2
  let body := sliceOf bs 512 (fieldOf bs 0x14 4)
  let head := bs.take 0x100
  let signer := sliceOf bs 0x80 32
  let root := sliceOf bs 0x60 32
  let digest := sliceOf bs 0x20 64
  let byRoot := BitVec.ofNat 512 (leNat (sha512 root)) == Config.rootHash
    && edVerify root (signer ++ sliceOf bs 0xE0 4) (sliceOf bs 0xA0 64) && decide (fieldOf bs 0xE0 4 / 2 ^ kind % 2 = 1)
  let byOwner := kind == 5 && s.ownerLive && signer == s.ownerPub && zeros (sliceOf bs 0xA0 64) && fieldOf bs 0xE0 4 == 0
  let ok := decide (imageLen bs ≤ bs.length) && fieldOf bs 0 4 == 0x474D4956 && decide (1 ≤ kind ∧ kind ≤ 5)
    && fieldOf bs 6 2 == 1 && zeros (sliceOf bs 0xE4 28) && zeros (sliceOf bs 0x180 128)
    && sha512 body == digest && edVerify signer head (sliceOf bs 0x100 64) && (byRoot || byOwner)
    && decide (s.svnFloor kind ≤ fieldOf bs 0x10 4)
    && (s.fget SEC_STAT SEC_STAT_COSIGN == 0 || (s.ownerLive && edVerify s.ownerPub head (sliceOf bs 0x140 64)))
  if ok then
    some (kind, { version := fieldOf bs 8 8, svn := fieldOf bs 0x10 4, compat := fieldOf bs 0x18 8,
                  digest := BitVec.ofNat 512 (leNat digest), bytes := bs.take (imageLen bs) })
  else none

/-! ### The mailbox (R390) -/

/-- Completes a mailbox command. -/
def State.mboxDone (s : State) (cmd st : Nat) : State :=
  let s := if st = ST_DENIED then s.bump SEC_CNT0 SEC_CNT0_DENIED 1 else s
  ((s.fset SEC_MBOX_CMD SEC_MBOX_CMD_STATUS st).fset SEC_MBOX_CMD SEC_MBOX_CMD_BUSY 0).event 0x1003 0 0x3F cmd st

/-- No status: a command that has started and is not done. -/
def mboxPending : Nat := 16

/-- A mailbox command from a core: the checks all commands share, then its own effect with the address of its request
block, to its status. A fenced core issues nothing; a write while BUSY only sets STATUS. -/
def State.mbox (s : State) (core cmd : Nat) (mgmt : Bool) (f : State → Nat → State × Nat) : State :=
  if s.coreFenced core then s
  else if s.fget SEC_MBOX_CMD SEC_MBOX_CMD_BUSY = 1 then s.fset SEC_MBOX_CMD SEC_MBOX_CMD_STATUS ST_BUSY
  else if s.powerState = 5 then s.mboxDone cmd ST_BUSY
  else if mgmt && core != s.mgmtCore then s.mboxDone cmd ST_DENIED
  else if s.jnlFull && cmd != 11 && cmd != 12 then s.mboxDone cmd ST_BUSY
  else if s.jnlLow && (cmd == 7 || cmd == 6 || cmd == 10 || cmd == 4) then s.mboxDone cmd ST_BUSY
  else
    let r := f s (s.fget SEC_MBOX_ARG SEC_MBOX_ARG_ADDR * 64)
    if r.2 = mboxPending then r.1.fset SEC_MBOX_CMD SEC_MBOX_CMD_BUSY 1 else r.1.mboxDone cmd r.2

/-- Whether n bytes at a lie in the local range. -/
def inLocal (a n : Nat) : Bool := decide (a + n ≤ localSize)

/-- MBOX_RESERVED_CMD (R390). -/
def execMboxReservedCmd (core : Fin 16) (cmd : BitVec 5) (s : State) : Out :=
  done s (s.mbox core cmd.toNat false (fun s _ => (s, ST_RANGE)))

/-- A 64-bit word of a byte list, for registers that hold bytes. -/
def wordAt (bs : List Byte) (j : Nat) : W64 := BitVec.ofNat 64 (fieldOf bs (8 * j) 8)

/-- NONCE (R379): 32 fresh bytes; any earlier nonce is invalid. -/
def execNonce (core : Fin 16) (s : State) : Out :=
  done s (s.mbox core 1 false (fun s _ =>
    let bs := (List.range 4).flatMap (fun j => leBytes 8 (Config.freeWord (s.free + j)).toNat)
    let s := { s with free := s.free + 4, sec := { s.sec with nonce := bs, nonceAt := some s.lanyard.toNat } }
    ((List.range 4).foldl (fun s j => s.setReg (SEC_DBG_NONCE j) (wordAt bs j)) s, ST_OK)))

/-- The nonce becomes invalid. -/
def State.dropNonce (s : State) : State :=
  let s := { s with sec := { s.sec with nonce := [], nonceAt := Option.none } }
  (List.range 4).foldl (fun s j => s.setReg (SEC_DBG_NONCE j) 0) s

/-- Whether bytes are the current nonce, at most 10 minutes old. -/
def State.nonceIs (s : State) (bs : List Byte) : Bool :=
  match s.sec.nonceAt with
  | some t => decide (s.lanyard.toNat < t + 600000000000) && bs == s.sec.nonce
  | none => false

/-- NONCE_EXPIRE (R379). -/
def execNonceExpire (s : State) : Out :=
  match s.sec.nonceAt with
  | some t => if t + 600000000000 ≤ s.lanyard.toNat then done s s.dropNonce else done s s
  | none => done s s

/-- A glove's measurement in bytes. -/
def State.measure (s : State) (n : Nat) : List Byte :=
  (List.range 8).flatMap (fun j => leBytes 8 (s.reg (SEC_GLOVE_MEAS n j)).toNat)

/-- The configuration slots: running, and the other. -/
def State.cfgRun (s : State) : CfgRec := if s.fget SEC_STAT SEC_STAT_CFG_SLOT = 0 then s.sec.cfgA else s.sec.cfgB
def State.cfgOther (s : State) : CfgRec := if s.fget SEC_STAT SEC_STAT_CFG_SLOT = 0 then s.sec.cfgB else s.sec.cfgA

/-- The quote's bytes before its signature (R374). -/
def State.quoteBody (s : State) (nonce : List Byte) (slots : List Nat) : List Byte :=
  let len := 512 + 72 * slots.length + 64
  let st := s.lifecycle + s.debugLevel * 16 + s.powerState * 256 + b1 s.mayInject * 2048 + s.utcState * 4096
  let other := if s.cfgOther.valid then s.cfgOther.seq else 0
  leBytes 4 0x51545156 ++ leBytes 2 1 ++ leBytes 2 slots.length ++ leBytes 4 len ++ leBytes 4 st
    ++ leBytes 8 s.lanyard.toNat ++ leBytes 8 s.utc.toNat ++ nonce ++ deviceKeyHash
    ++ [1, 2, 3, 4].flatMap (fun k => leBytes 64 (s.image k (s.runSlot k)).digest.toNat)
    ++ leBytes 8 (s.reg SEC_CFG).toNat ++ leBytes 8 other ++ leBytes 8 (s.reg SEC_CFG_FLOOR).toNat
    ++ leBytes 4 (s.fget (SEC_FW_SVN 0) SEC_FW_SVN_SVN) ++ leBytes 4 (s.svnFloor 1)
    ++ leBytes 64 s.sec.ownerHash.toNat
    ++ slots.flatMap (fun n => leBytes 2 (s.gid n) ++ leBytes 2 (s.gepoch n) ++ leBytes 1 n ++ leBytes 1 (s.gstate n)
      ++ [0, 0] ++ s.measure n)

/-- QUOTE (R374): nonce, slot mask and output address. -/
def execQuote (core : Fin 16) (s : State) : Out :=
  done s (s.mbox core 2 false (fun s a =>
    let mask := BitVec.ofNat 64 (s.rd (a + 64) 8)
    let out := s.rd (a + 72) 8
    let slots := (List.range 64).filter (fun n => mask.getLsbD n && s.gstate n != gFREE)
    let body := s.quoteBody (s.bytes a 64) slots
    if inLocal a 80 && inLocal out (body.length + 64) then (s.setBytes out (body ++ edSign identitySeed body), ST_OK)
    else (s, ST_FMT)))

/-- EXTEND (R375): slot and digest. -/
def execExtend (core : Fin 16) (s : State) : Out :=
  done s (s.mbox core 3 false (fun s a =>
    let n := s.rd a 8
    let d := s.bytes (a + 8) 64
    if !(inLocal a 72) then (s, ST_FMT)
    else if 64 ≤ n ∨ s.gstate n ≠ gACTIVE then (s, ST_RANGE)
    else
      let m := sha512 (s.measure n ++ d)
      let t := (List.range 8).foldl (fun s j => s.setReg (SEC_GLOVE_MEAS n j) (wordAt m j)) s
      (t.journal 0x0007 (s.srcOf core) n d, ST_OK)))

/-! ### Debug sessions (R382 to R384, R388) -/

/-- A session's journal entry: 0 opened, 1 closed, 2 revoked, 3 refused, with the token's hash. -/
def State.journalDebug (s : State) (what : Nat) (hash : BitVec 512) : State :=
  s.journal 0x0010 5 0x3F (leBytes 8 what ++ leBytes 64 hash.toNat)

/-- D0 is reported. -/
def State.toD0 (s : State) : State :=
  let s := { s with sec := { s.sec with inject := false, d2Gloves := [], d2Ending := false } }
  let s := (s.fset SEC_STAT SEC_STAT_DEBUG 0).fset SEC_STAT SEC_STAT_DBG_GLOVES 0
  (s.setReg SEC_DBG_EXP 0).noteInject

/-- A session ends: the gloves made during D2 are torn down first. -/
def State.endSession (s : State) (what : Nat) : State :=
  if s.debugLevel = 0 ∨ s.sec.d2Ending then s
  else
    let s := s.journalDebug what s.sec.tokenHash
    let s := s.sec.d2Gloves.foldl (fun s n => s.faultGlove n causeDEBUG) s
    if s.sec.d2Gloves.all s.slotGone then s.toD0
    else
      let s := s.disarm
      { s with sec := { s.sec with d2Ending := true, inject := false } }

/-- At a tick, a session whose gloves have gone reports D0. -/
def State.debugTick (s : State) : State :=
  if s.sec.d2Ending && s.sec.d2Gloves.all s.slotGone then s.toD0 else s

/-- A D2 open that waits for gloves is given up with ST_BUSY (R388). -/
def State.dropD2 (s : State) : State :=
  match s.sec.d2Pending with
  | some _ => State.mboxDone { s with sec := { s.sec with d2Pending := Option.none } } 4 ST_BUSY
  | none => s

/-- Whether the lifecycle row allows a LEVEL by a key (R386). -/
def levelKey (lc level key : Nat) : Bool :=
  if lc = 1 then (if level = 1 then key == 0 else key == 1)
  else if lc = 2 then key == 1 else key == 2

/-- The checks of R382 and R383 on a token, the power case apart. -/
def State.tokenOk (s : State) (t : List Byte) : Bool :=
  let level := fieldOf t 6 1
  let key := fieldOf t 8 4
  let dur := fieldOf t 12 4
  let sig := sliceOf t 0xC0 64
  fieldOf t 0 4 == 0x4B444256 && fieldOf t 4 2 == 1 && (level == 1 || level == 2) && decide (fieldOf t 7 1 ≤ 1)
    && decide (key ≤ 2) && decide (1 ≤ dur ∧ dur ≤ 86400) && zeros (sliceOf t 0x70 80)
    && sliceOf t 0x10 64 == deviceKeyHash && s.nonceIs (sliceOf t 0x50 32)
    && (if key = 0 then zeros sig && level == 1 && s.lifecycle == 1 else s.keyVerifies key (t.take 0xC0) sig)
    && levelKey s.lifecycle level key && (level == 1 || decide (s.powerState ≤ 2))

/-- Opens a session. -/
def State.openSession (s : State) (level dur : Nat) (inject : Bool) : State :=
  let s := { s with sec := { s.sec with inject := inject && level == 2, d2Gloves := [], d2Ending := false } }
  let s := (s.fset SEC_STAT SEC_STAT_DEBUG level).fset SEC_STAT SEC_STAT_DBG_GLOVES 0
  let s := s.setReg SEC_DBG_EXP (s.lanyard + BitVec.ofNat 64 (dur * 1000000000))
  (s.journalDebug 0 s.sec.tokenHash).noteInject

/-- DBG_OPEN (R383, R384): D1 opens at once; D2 first tears down every glove, the mailbox BUSY meanwhile. -/
def execDbgOpen (core : Fin 16) (s : State) : Out :=
  done s (s.mbox core 4 true (fun s a =>
    let t := s.bytes a 256
    let h := sha512v t
    if !(inLocal a 256) || !(s.tokenOk t) then (s.journalDebug 3 h, ST_DENIED)
    else if s.pwr.goal = some 3 ∨ s.pwr.goal = some 4 ∨ s.powerState = 5 then (s, ST_BUSY)
    else
      let s := (s.endSession 1).dropNonce
      let s := { s with sec := { s.sec with tokenHash := h } }
      let dur := fieldOf t 12 4
      let inj := fieldOf t 7 1 == 1
      if fieldOf t 6 1 = 1 then (s.openSession 1 dur inj, ST_OK)
      else (({ s with sec := { s.sec with d2Pending := some (dur, inj) } }).faultAll causeDEBUG, mboxPending)))

/-- DBG_D2_GLOVES_GONE (R384): every slot is FREE or RETIRED, and the D2 session opens. -/
def execDbgD2GlovesGone (s : State) : Out :=
  match s.sec.d2Pending with
  | some (dur, inj) =>
    if s.allGone then
      let t := { s with sec := { s.sec with d2Pending := Option.none } }
      done s ((t.openSession 2 dur inj).mboxDone 4 ST_OK)
    else done s s
  | none => done s s

/-- DBG_CLOSE (R388). -/
def execDbgClose (core : Fin 16) (s : State) : Out :=
  done s (s.mbox core 5 true (fun s _ => (s.endSession 1, ST_OK)))

/-- DEBUG_SESSION_EXPIRE (R383): DURATION has passed. -/
def execDebugSessionExpire (s : State) : Out :=
  if s.debugLevel ≠ 0 ∧ s.reg SEC_DBG_EXP ≠ 0 ∧ (s.reg SEC_DBG_EXP).toNat ≤ s.lanyard.toNat then done s (s.endSession 1)
  else done s s

/-! ### Configuration records (R369 to R373) -/

/-- The items of a body; none where one runs past its end or has a reserved TYPE. -/
def itemsOf : Nat → List Byte → Option (List (Nat × List Byte))
  | 0, bs => if bs.isEmpty then some [] else none
  | n + 1, bs =>
    if bs.isEmpty then some []
    else
      let ty := fieldOf bs 0 2
      let len := fieldOf bs 2 2
      if bs.length < 4 + len ∨ ty = 0 ∨ 7 < ty then none
      else (itemsOf n (bs.drop (4 + len))).map (fun l => (ty, sliceOf bs 4 len) :: l)

/-- The bytes of items. -/
def itemBytes (l : List (Nat × List Byte)) : List Byte :=
  l.flatMap (fun i => leBytes 2 i.1 ++ leBytes 2 i.2.length ++ i.2)

/-- Whether two items are for the same thing: TILE_BYPASS and HBM_LANES are one per tile or channel. -/
def sameItem (a b : Nat × List Byte) : Bool :=
  a.1 == b.1 && (if a.1 = 1 then a.2.take 2 == b.2.take 2 else if a.1 = 2 then a.2.take 1 == b.2.take 1 else true)

/-- Items with new ones in place of those they replace. -/
def mergeItems (old new : List (Nat × List Byte)) : List (Nat × List Byte) :=
  old.filter (fun o => !(new.any (fun n => sameItem o n))) ++ new

/-- Whether an item may be changed by the device, and by the owner (R370). -/
def deviceItem (i : Nat × List Byte) : Bool := i.1 == 1 || i.1 == 2
def ownerItem (i : Nat × List Byte) : Bool := i.1 == 1 || i.1 == 3 || i.1 == 5 || i.1 == 6 || i.1 == 7

/-- A record's bytes up to its digest. -/
def recordHead (key seq : Nat) (bump : Bool) (items : List (Nat × List Byte)) : List Byte :=
  let body := itemBytes items
  leBytes 4 0x47464356 ++ leBytes 2 1 ++ leBytes 2 key ++ leBytes 8 seq ++ leBytes 4 body.length ++ leBytes 4 (b1 bump)
    ++ leBytes 8 0 ++ body ++ List.replicate (3936 - body.length) 0

/-- A whole record that is well formed and verifies (R369, R371), with its KEY_ID; the floor apart. -/
def State.recordOf (s : State) (bs : List Byte) : Option (Nat × CfgRec) :=
  let key := fieldOf bs 6 2
  let len := fieldOf bs 0x10 4
  let head := bs.take 0xF80
  if fieldOf bs 0 4 = 0x47464356 ∧ fieldOf bs 4 2 = 1 ∧ len ≤ 3936 ∧ fieldOf bs 0x14 4 ≤ 1 ∧ fieldOf bs 0x18 8 = 0
      ∧ zeros (sliceOf bs (0x20 + len) (3936 - len)) ∧ sha512 head = sliceOf bs 0xF80 64
      ∧ s.keyVerifies key (bs.take 0xFC0) (sliceOf bs 0xFC0 64) then
    (itemsOf 1000 (sliceOf bs 0x20 len)).map (fun l => (key, { seq := fieldOf bs 8 8, bump := fieldOf bs 0x14 4 == 1, items := l }))
  else none

/-- The slot CFG_WRITE writes over: the invalid one, or the one with the lower SEQ (R372). -/
def State.cfgTarget (s : State) : Nat :=
  if !s.sec.cfgA.valid then 0 else if !s.sec.cfgB.valid then 1 else if s.sec.cfgA.seq ≤ s.sec.cfgB.seq then 0 else 1

/-- Sets a configuration slot. -/
def State.setCfg (s : State) (slot : Nat) (r : CfgRec) : State :=
  if slot = 0 then { s with sec := { s.sec with cfgA := r } } else { s with sec := { s.sec with cfgB := r } }

/-- The record a CFG_WRITE request asks for, or its status. A block that begins with a record's MAGIC is a whole record;
another begins with [31:0] the length of its items and [32] whether an owner's signature follows them. -/
def State.cfgRequest (s : State) (a : Nat) (mgmt : Bool) : CfgRec ⊕ Nat :=
  let seq := max s.sec.cfgA.seq s.sec.cfgB.seq + 1
  let w := s.rd a 8
  if s.rd a 4 = 0x47464356 then
    if !mgmt then .inr ST_DENIED
    else if !(inLocal a 4096) then .inr ST_FMT
    else match s.recordOf (s.bytes a 4096) with
      | some (key, r) => if (key = 1 ∨ (key = 2 ∧ s.lifecycle = 0)) ∧ r.seq = seq then .inl r else .inr ST_FMT
      | none => .inr ST_FMT
  else
    let len := w % 2 ^ 32
    let owner := w / 2 ^ 32 % 2 == 1
    let body := s.bytes (a + 8) len
    if 3936 < len ∨ 2 ^ 33 ≤ w ∨ !(inLocal a (8 + len + 64)) then .inr ST_FMT
    else match itemsOf 1000 body with
      | none => .inr ST_FMT
      | some items =>
        let merged := mergeItems s.cfgRun.items items
        if 3936 < (itemBytes merged).length then .inr ST_FMT
        else if owner then
          if !mgmt then .inr ST_DENIED
          else if items.all ownerItem && s.keyVerifies 1 (deviceKeyHash ++ leBytes 8 s.cfgRun.seq ++ body) (s.bytes (a + 8 + len) 64)
          then .inl { seq := seq, items := merged } else .inr ST_DENIED
        else if items.all deviceItem then .inl { seq := seq, items := merged } else .inr ST_DENIED

/-- CFG_WRITE (R372): `good` says whether the read-back of the first and of the second write verifies. -/
def execCfgWrite (core : Fin 16) (good : Bool × Bool) (s : State) : Out :=
  done s (s.mbox core 6 false (fun s a =>
    match s.cfgRequest a (core == s.mgmtCore) with
    | .inr st => (s, st)
    | .inl r =>
      let slot := s.cfgTarget
      let ok := good.1 || good.2
      let s := (s.setCfg slot { r with valid := ok }).nvsWrote (if good.1 then 4096 else 32768)
      let s := s.journal 0x0003 (s.srcOf core) 0x3F (leBytes 8 slot ++ leBytes 8 r.seq ++ leBytes 8 (b1 ok))
      if ok then (s.wr a 8 r.seq, ST_OK) else (s, ST_BUSY)))

/-! ### Staging and activation (R366) -/

/-- A journal entry of type 4: 0 staged, 1 activation started, 2 unit switched, 3 slot failed. -/
def State.journalImage (s : State) (what kind arg : Nat) : State :=
  s.journal 0x0004 5 0x3F (leBytes 8 what ++ leBytes 8 kind ++ leBytes 8 arg)

/-- STAGE (R366): image address and length. -/
def execStage (core : Fin 16) (s : State) : Out :=
  done s (s.mbox core 7 true (fun s a =>
    let addr := s.rd a 8
    let len := s.rd (a + 8) 8
    let bs := s.bytes addr len
    let kind := fieldOf bs 4 2
    if !(inLocal a 16) || !(inLocal addr len) || len < 512 || kind == 0 || decide (5 < kind) then (s, ST_FMT)
    else
      let slot := 1 - s.runSlot kind
      let run := s.image kind (s.runSlot kind)
      if (kind = 3 ∨ kind = 4) ∧ run.version < fieldOf bs 0x18 8 then (s, ST_FMT)
      else match s.acceptImage bs with
        | some (k, v) => (((s.setImage k slot v).nvsWrote len).journalImage 0 k slot, ST_OK)
        | none =>
          ((s.setImage kind slot { version := fieldOf bs 8 8, svn := fieldOf bs 0x10 4, accepted := false, bytes := bs }).nvsWrote len, ST_FMT)))

/-- VERIFY (R390): an image's DIGEST and KIND. -/
def execVerify (core : Fin 16) (s : State) : Out :=
  done s (s.mbox core 9 false (fun s a =>
    let addr := s.rd a 8
    let len := imageLen (s.bytes addr 512)
    if !(inLocal a 72) || !(inLocal addr 512) || !(inLocal addr len) then (s, ST_FMT)
    else match s.acceptImage (s.bytes addr len) with
      | some (k, v) => (s.setBytes a (leBytes 64 v.digest.toNat ++ leBytes 8 k), ST_OK)
      | none => (s, ST_FMT)))

/-- The units that switch for a KIND: security cores; service cores; Brimir engines 0 and 1, splice engine 2, collective
engine 3; ports. A service OS image has none. -/
def kindUnits (kind : Nat) : List Nat :=
  if kind = 1 then [0, 1] else if kind = 2 then List.range 16 else if kind = 3 then [0, 1, 2, 3]
  else if kind = 4 then List.range 32 else []

/-- All units have switched: the KIND runs from its other slot, and its SVN floor rises to the lower SVN of the two. -/
def State.endActivation (s : State) (kind : Nat) : State :=
  let slot := 1 - s.runSlot kind
  let first := match Tab.look (fun _ => Option.none) s.sec.firstRun kind with
    | some t => some t
    | none => some s.lanyard.toNat
  let s := { s with sec := { s.sec with
    activation := Option.none, running := Tab.store (fun _ => 0) s.sec.running kind slot,
    firstRun := Tab.store (fun _ => Option.none) s.sec.firstRun kind first } }
  let low := min (s.image kind 0).svn (s.image kind 1).svn
  let s := s.fset (SEC_FW_SVN (kind - 1)) SEC_FW_SVN_SVN (s.image kind slot).svn
  let s := s.fset (SEC_FW_SVN (kind - 1)) SEC_FW_SVN_FLOOR (max (s.svnFloor kind) low)
  if kind = 1 then s.fset SEC_STAT SEC_STAT_SEC_SLOT slot
  else if kind = 2 then s.fset SEC_STAT SEC_STAT_SVC_SLOT slot else s

/-- ACTIVATE (R366): KIND. Without an accepted image in the other slot it completes with ST_RANGE. -/
def execActivate (core : Fin 16) (s : State) : Out :=
  done s (s.mbox core 8 true (fun s a =>
    let kind := s.rd a 8
    let v := s.image kind (1 - s.runSlot kind)
    if !(inLocal a 8) || kind == 0 || decide (5 < kind) then (s, ST_FMT)
    else if !v.accepted || v.failed || v.bytes.isEmpty then (s, ST_RANGE)
    else if s.sec.activation.isSome then (s, ST_BUSY)
    else
      let sec := { s.sec with activation := some ⟨kind, kindUnits kind, s.lanyard.toNat⟩,
                              firstRun := Tab.store (fun _ => Option.none) s.sec.firstRun kind Option.none }
      let s := State.journalImage { s with sec := sec } 1 kind 0
      (if kind = 5 then s.endActivation kind else s, ST_OK)))

/-- Whether a unit is idle for its switch: between steps, between collectives, at a frame boundary. -/
def State.unitIdle (s : State) (kind unit : Nat) : Bool :=
  if kind = 3 then
    if unit < 2 then s.fget (BRM_ENG_STAT unit) BRM_ENG_STAT_PHASE == 0
    else if unit = 2 then bits (s.reg SPL_STAT) 3 0 == 0
    else s.hub.colls.all (fun e => e.2.isNone)
  else if kind = 4 then (s.port unit).txFlits.isEmpty
  else true

/-- ACTIVATE_UNIT_SWITCH (R366): a unit that is idle switches, and its switch is journalled. A service core restarts, and
its watchdog with it. -/
def execActivateUnitSwitch (unit : Nat) (s : State) : Out :=
  match s.sec.activation with
  | some act =>
    if act.units.contains unit ∧ s.unitIdle act.kind unit then
      let left := act.units.filter (· != unit)
      let t := State.journalImage { s with sec := { s.sec with activation := some { act with units := left } } } 2 act.kind unit
      let t := if act.kind = 2 then
          { t with svc := { t.svc with refreshed := Tab.store (fun _ => 0) t.svc.refreshed unit t.lanyard.toNat } } else t
      if left.isEmpty then done s (t.endActivation act.kind) else done s t
    else done s s
  | none => done s s

/-! ### Lifecycle (R379) -/

/-- Zeros over HBM4, the TLS, the shared caches, the coil and every exact cell. -/
def State.wipe (s : State) : State :=
  let clean := fun (_ : Nat) (v : Tile) => { v with tls := [], tlsBy := [], cells := [] }
  { s with mem := [], slice := [], tiles := Tab.mapVal (fun _ => {}) clean s.tiles,
           brm := { s.brm with eng := [], past := [] },
           hub := { s.hub with colls := Tab.mapVal (fun _ => Option.none) (fun _ c => c.map (fun (x : Coll) =>
             { x with cells := [], vals := [] })) s.hub.colls },
           mm := { s.mm with poison := [] } }

/-- The authority an authority block shows for a change of state: new state, owner public key, nonce and signature. -/
def State.lifecycleOk (s : State) (b : List Byte) : Bool :=
  let goal := fieldOf b 0 8
  let pub := sliceOf b 8 32
  let nonce := sliceOf b 40 32
  let sig := sliceOf b 72 64
  let lc := s.lifecycle
  if lc = 0 ∧ goal = 1 then edVerify mfgPub (deviceKeyHash ++ pub) sig
  else if lc = 1 ∧ goal = 2 then s.nonceIs nonce && s.keyVerifies 1 (deviceKeyHash ++ nonce) sig
  else if lc = 2 ∧ goal = 2 then s.nonceIs nonce && s.keyVerifies 1 (deviceKeyHash ++ nonce ++ pub) sig
  else if (lc = 1 ∨ lc = 2) ∧ goal = 3 then s.nonceIs nonce && s.keyVerifies 1 (deviceKeyHash ++ nonce) sig
  else if lc = 0 ∧ goal = 3 then s.nonceIs nonce && s.keyVerifies 2 (deviceKeyHash ++ nonce) sig
  else false

/-- A change of lifecycle that its authority allows (R379, R388). -/
def State.changeLifecycle (s : State) (b : List Byte) (src : Nat) : State :=
  let goal := fieldOf b 0 8
  let pub := sliceOf b 8 32
  let lc := s.lifecycle
  let s := (s.endSession 1).dropNonce
  let s := if (lc = 0 ∧ goal = 1) ∨ (lc = 2 ∧ goal = 2) then
      { s with sec := { s.sec with ownerKey := BitVec.ofNat 256 (leNat pub), ownerHash := sha512v pub } } else s
  let s := s.fset SEC_STAT SEC_STAT_LIFECYCLE goal
  let s := s.journal 0x0002 src 0x3F (leBytes 8 lc ++ leBytes 8 goal)
  let s := if goal = 3 then
      let s := (s.faultAll causeSECURITY).wipe
      State.journalCheckpoint { s with sec := { s.sec with scratchErased := true, ownerHash := 0, ownerKey := 0 } }
    else s
  s.noteInject

/-- LIFECYCLE (R379). A refused block is journalled (R391). -/
def execLifecycle (core : Fin 16) (s : State) : Out :=
  done s (s.mbox core 10 true (fun s a =>
    let b := s.bytes a 136
    if !(inLocal a 136) then (s, ST_FMT)
    else if s.lifecycleOk b then
      let s := s.changeLifecycle b (s.srcOf core)
      (s.wr a 8 s.lifecycle, ST_OK)
    else (s.journal 0x0002 (s.srcOf core) 0x3F (leBytes 8 s.lifecycle ++ leBytes 8 0xFF ++ b.take 8), ST_DENIED)))

/-! ### Reading the journal out (R378, R390) -/

/-- JREAD (R390): first SEQ, count, output address. -/
def execJread (core : Fin 16) (s : State) : Out :=
  done s (s.mbox core 11 false (fun s a =>
    let first := s.rd a 8
    let count := s.rd (a + 8) 8
    let out := s.rd (a + 16) 8
    let es := s.sec.journal.filter (fun e => decide (first ≤ e.seq ∧ e.seq < first + count))
    let bs := es.flatMap JEntry.bytes
    if inLocal a 24 && inLocal out bs.length then (s.setBytes out bs, ST_OK) else (s, ST_FMT)))

/-- EXPORTED (R378): SEQ, which only advances and never passes the head. -/
def execExported (core : Fin 16) (s : State) : Out :=
  done s (s.mbox core 12 false (fun s a =>
    let n := s.rd a 8
    if !(inLocal a 8) then (s, ST_FMT)
    else if n < (s.reg SEC_JNL_EXPORTED).toNat ∨ (s.reg SEC_JNL_HEAD).toNat < n then (s, ST_RANGE)
    else (s.setReg SEC_JNL_EXPORTED (BitVec.ofNat 64 n), ST_OK)))

/-- SEC_WRITE_VIOLATION (R391): a write to the SEC_ window other than to the mailbox is ignored and counted. -/
def execSecWriteViolation (off : BitVec 20) (src : Fin 22) (s : State) : Out :=
  if off.toNat = 0x100 ∨ off.toNat = 0x108 ∨ src.val = 3 ∨ src.val = 4 then done s s
  else done s ((s.bump SEC_CNT0 SEC_CNT0_VIOLATIONS 1).event 0x1006 0 0x3F off.toNat src)

/-- BOOT_UART_IMAGE (R391): the boot ROM takes a security firmware image over UART_RX when it accepts it. -/
def execBootUartImage (image : List Byte) (s : State) : Out :=
  if s.sec.uartBoot then
    match s.acceptImage image with
    | some (1, v) =>
      let t := s.setImage 1 (s.runSlot 1) v
      let t := t.fset (SEC_FW_SVN 0) SEC_FW_SVN_SVN v.svn
      done s { t with sec := { t.sec with uartBoot := false } }
    | _ => done s s
  else done s s

end Sys2Proof.Machine
end

