-- ==== Sys2Proof/Machine/Power.lean ====
section
/-! DEFINITION. Power states, clocks, resets and their release, block resets and the sag save (chapters 16 and 17). -/

namespace Sys2Proof.Machine

open Reg

/-! ### Power states (R393, R394) -/

/-- STATUS of the last power request. -/
def State.pwrStatus (s : State) (st : Nat) : State := s.fset PWR_STATE PWR_STATE_STATUS st

/-- STATE is 1 in P0 while the power limit is below 1,500 W (R393). -/
def State.noteCap (s : State) : State :=
  if s.powerState ≤ 1 then
    s.fset PWR_STATE PWR_STATE_STATE (if min 1500 (max 300 (s.fget PWR_LIMIT PWR_LIMIT_LIMIT_W)) < 1500 then 1 else 0)
  else s

/-- Starts a transition that takes time. -/
def State.toGoal (s : State) (goal : Nat) (wait : Bool) : State :=
  let s := { s with pwr := { s.pwr with goal := some goal, waitGloves := wait } }
  s.fset PWR_STATE PWR_STATE_BUSY 1

/-- A transition ends in a state. -/
def State.reachPower (s : State) (st : Nat) : State :=
  let s := { s with pwr := { s.pwr with goal := Option.none, waitGloves := false } }
  let s := (s.fset PWR_STATE PWR_STATE_BUSY 0).fset PWR_STATE PWR_STATE_STATE st
  s.noteCap.noteInject

/-- Every port goes DOWN. -/
def State.portsDown (s : State) : State :=
  (List.range 32).foldl (fun s p => if s.pstate p = 0 then s else s.portDown p 0) s

/-- The device leaves for P3 or P4, the gloves gone: a D2 session is revoked, a D2 open is given up, and the ports go
DOWN (R388, R394). -/
def State.leavePower (s : State) (goal : Nat) : State :=
  let s := if s.debugLevel = 2 then s.endSession 2 else s
  let s := s.disarm.portsDown
  s.toGoal goal false

/-- Whether every junction sensor reads below 95 degrees. -/
def State.cool (s : State) : Bool :=
  (List.range 256).all (fun i => decide ((BitVec.ofNat 16 (s.fget (SNS_TEMP i) SNS_TEMP_TEMP)).toInt < 1520))

/-- The rank of a source (R359). -/
def rankOf (src : Nat) : Nat := if src ≤ 2 then 1 else if src ≤ 4 then 2 else if src = 5 then 3 else 4

/-- A power request that took effect (R394). After a THERMTRIP only a request of rank 3 or above, once cool, leaves P4. -/
def State.powerRequest (s : State) (want src : Nat) : State :=
  let st := s.powerState
  let now := if st = 1 then 0 else st
  if s.pwr.goal.isSome ∨ st = 5 then s.pwrStatus ST_BUSY
  else if want = now then s.pwrStatus ST_OK
  else if want = 0 then
    if st = 2 then
      let s := { s with pwr := { s.pwr with gated := false } }
      (s.reachPower 0).pwrStatus ST_OK
    else if s.svc.thermtrip ∧ (3 < rankOf src ∨ s.cool = false) then s.pwrStatus ST_BUSY
    else
      let s := { s with svc := { s.svc with thermtrip := false, seqRetried := false } }
      let s := s.fset PWR_STAT PWR_STAT_SEQ_FAIL 0
      (s.toGoal 0 false).pwrStatus ST_OK
  else if want = 2 then
    if st ≤ 1 then (s.toGoal 2 false).pwrStatus ST_OK else s.pwrStatus ST_RANGE
  else if st = 3 then (s.toGoal 4 false).pwrStatus ST_OK
  else if st = 4 then s.pwrStatus ST_RANGE
  else if s.allGone then ((s.dropD2).leavePower want).pwrStatus ST_OK
  else if rankOf src ≤ 2 then (((s.dropD2).faultAll causeSECURITY).toGoal want true).pwrStatus ST_OK
  else s.pwrStatus ST_BUSY

/-- Whether a task runs. -/
def State.anyRunning (s : State) : Bool :=
  s.kn.tasks.any (fun e => match e.2 with
    | some t => (match t.ph with | .running _ _ => true | _ => false)
    | none => false)

/-- P2_TILE_GATE (R394): the last running task has retired, and the tiles' ACLK is gated. -/
def execP2TileGate (s : State) : Out :=
  if s.pwr.goal = some 2 ∧ s.anyRunning = false then
    done s (State.reachPower { s with pwr := { s.pwr with gated := true } } 2)
  else done s s

/-- Whether a task of an ACTIVE glove is ready. -/
def State.anyReady (s : State) : Bool :=
  s.kn.tasks.any (fun e => match e.2 with
    | some t => t.ph == .ready && s.gstate t.glove == gACTIVE
    | none => false)

/-- P2_AUTOWAKE (R394). -/
def execP2Autowake (s : State) : Out :=
  if s.powerState = 2 ∧ s.pwr.goal = none ∧ s.fget PWR_STATE PWR_STATE_AUTOWAKE = 1 ∧ s.anyReady then
    done s (State.reachPower { s with pwr := { s.pwr with gated := false } } 0)
  else done s s

/-- All the rails' enables, and whether all are up. -/
def State.railsOff (s : State) : State := { s with svc := { s.svc with vrEn := [], pgood := [] } }
def State.railsOn (s : State) : State :=
  let on := (List.range 8).map (fun n => (n, true))
  { s with svc := { s.svc with vrEn := on, pgood := on, seqRetried := false } }
def State.railsUp (s : State) : Bool := (List.range 8).all (fun n => Tab.look (fun _ => false) s.svc.pgood n)

/-- Every port's link layer as a reset leaves it. -/
def State.portsOff (s : State) : State :=
  (List.range 32).foldl (fun s p => s.setPort p { (s.port p).reset1 with enabled := (s.port p).enabled }) s

/-- What the tiles, the shared caches and the fabric lose with their supply. -/
def State.diesOff (s : State) : State :=
  let s := s.portsOff
  { s with tiles := [], slice := [], rt := { s.rt with inq := [], outq := [], heldPkts := [] } }

/-- Trains a port that is enabled and DOWN. -/
def State.trainEnabled (s : State) (p : Nat) : State :=
  if (s.port p).enabled && s.pstate p == 0 && !(Tab.look (fun _ => false) s.pwr.fabLost (p / 16)) then s.train p else s

/-- POWER_TRANSITION_DONE (R394): the sequence of a transition has finished. HBM4 keeps what it holds through P3; P4
powers it off. -/
def execPowerTransitionDone (s : State) : Out :=
  match s.pwr.goal with
  | some 0 =>
    if s.railsUp then done s ((List.range 32).foldl (fun s p => s.trainEnabled p) (s.reachPower 0)) else done s s
  | some 2 => done s s
  | some g =>
    if s.pwr.waitGloves then (if s.allGone then done s (s.leavePower g) else done s s)
    else
      let t := (s.diesOff.railsOff).reachPower g
      done s (if g = 4 then { t with mem := [], mm := { t.mm with poison := [] } } else t)
  | none => done s s

/-! ### Resets (R399, R400) -/

/-- The bits of a register that are RWS fields (R6). -/
def stickyBits (off : Nat) (v : W64) : Nat :=
  match regAt off with
  | some r => r.fields.foldl (fun a f => if f.acc = .RWS then a + bits v f.hi f.lo * 2 ^ f.lo else a) 0
  | none => 0

/-- A register's value after a reset that keeps sticky fields. -/
def stickyReset (off : Nat) (v : W64) : W64 :=
  match regAt off with
  | some r => r.fields.foldl (fun a f => if f.acc = .RWS then withBits a f.hi f.lo (bits v f.hi f.lo) else a) (regReset off)
  | none => regReset off

/-- Registers whose contents lie in always-on logic, eMRAM or the NVS, and so outlive every reset. -/
def keptRegs : List Nat :=
  [CLK_STAT, SEC_CFG_FLOOR, SEC_FW_SVN 0, SEC_FW_SVN 1, SEC_FW_SVN 2, SEC_FW_SVN 3, SEC_FW_SVN 4, SEC_JNL_EXPORTED,
   NVS_STAT, NVS_CNT1]

/-- The journal as the NVS ring holds it: the entries that had reached it, and where the chain stands. -/
def Security.fromNvs (v : Security) : Security :=
  let es := v.journal.filter (fun e => decide (e.seq < v.inNvs))
  let tail := (es.reverse.takeWhile (fun e => e.ty != 1)).length
  { images := v.images, running := v.running, cfgA := v.cfgA, cfgB := v.cfgB, lastResumed := v.lastResumed,
    ownerKey := v.ownerKey, ownerHash := v.ownerHash, seedHeld := v.seedHeld, scratchErased := v.scratchErased,
    journal := es, inNvs := v.inNvs, sinceCheck := tail, firstOpen := if tail = 0 then Option.none else some 0,
    lastHash := match es.getLast? with
      | some e => sha512v e.bytes
      | none => 0 }

/-- The state after reset but for what lies in the eMRAM and the NVS and what the pins say. -/
def State.blank (s : State) (sticky : Bool) : State :=
  let kept := keptRegs.foldl (fun c o => Tab.store regReset c o (s.reg o)) []
  let sec := s.sec.fromNvs
  { State.reset with
    pending := s.pending, free := s.free, ctl := kept,
    sec := { sec with seedHeld := sticky && sec.seedHeld },
    mm := { State.reset.mm with dieFailed := s.mm.dieFailed },
    pwr := { State.reset.pwr with sagA := s.pwr.sagA, sagB := s.pwr.sagB, etherRef := s.pwr.etherRef, fabLost := s.pwr.fabLost } }

/-- What every reset but TRST_N leaves: everything at its reset value but the eMRAM, the NVS and the pins; `sticky` keeps
always-on state, RWS fields and RST_CAUSE too, and the seed. -/
def State.cleared (s : State) (sticky : Bool) : State :=
  let t := s.blank sticky
  let t := t.fset SEC_STAT SEC_STAT_LIFECYCLE s.lifecycle
  let t := t.setReg SEC_JNL_HEAD (BitVec.ofNat 64 s.sec.inNvs)
  let t := t.fset PWR_SAG_STAT PWR_SAG_STAT_DONE (s.fget PWR_SAG_STAT PWR_SAG_STAT_DONE)
  let t := t.fset PWR_SAG_STAT PWR_SAG_STAT_SHORT (s.fget PWR_SAG_STAT PWR_SAG_STAT_SHORT)
  if sticky then
    let t := s.ctl.foldl (fun t e => if stickyBits e.1 e.2 ≠ 0 then t.setReg e.1 (stickyReset e.1 e.2) else t) t
    let t := t.setReg RST_CAUSE (s.reg RST_CAUSE)
    { t with pwr := { t.pwr with held := s.pwr.held } }
  else t.setReg CLK_STAT (regReset CLK_STAT)

/-- Takes a reset whose source is a bit of RST_CAUSE; `held` are others that waited for a save to end. -/
def State.takeReset (s : State) (cause : Nat) (held : List Nat) : State :=
  let t := s.cleared (cause != 0)
  let t := if cause = 0 then t.setReg RST_CAUSE 1
    else (cause :: held).foldl (fun t b => if b = 5 then t else t.fset RST_CAUSE ⟨b, b⟩ 1) t
  let t := if cause = 6 ∨ held.contains 6 then t.fset RST_CTL RST_CTL_STATUS ST_OK else t
  let t := if cause = 4 then { t with sec := { t.sec with seedHeld := false } } else t
  { t with pwr := { t.pwr with cause := cause } }

/-- A reset request: in SAVE all but PORST_N and a security violation wait for the save's end (R400). -/
def State.askReset (s : State) (cause : Nat) : State :=
  if s.powerState = 5 ∧ s.pwr.building.isSome ∧ cause ≠ 0 ∧ cause ≠ 4 then
    { s with pwr := { s.pwr with heldResets := s.pwr.heldResets ++ [cause] } }
  else s.takeReset cause []

/-- PORST_N (R399). -/
def execPorstN (s : State) : Out := done s (s.askReset 0)

/-- SYSRST_N (R399). -/
def execSysrstN (s : State) : Out := done s (s.askReset 1)

/-- SECURITY_VIOLATION (R391, R399): memory and every exact cell are zeroed, and the seed goes. -/
def execSecurityViolation (s : State) : Out := done s (s.wipe.askReset 4)

/-- SOFTWARE_FULL_RESET (R413): from rank 1 to 3; rank 4 is denied. -/
def execSoftwareFullReset (src : Fin 22) (s : State) : Out :=
  if rankOf src ≤ 3 then done s ((s.fset RST_CTL RST_CTL_STATUS ST_OK).askReset 6)
  else done s (s.fset RST_CTL RST_CTL_STATUS ST_DENIED)

/-- An image activated for the first time within the last 60 s: its slot is marked failed and the other one boots (R365). -/
def State.failFirst (s : State) (kind : Nat) : State × Bool :=
  match Tab.look (fun _ => Option.none) s.sec.firstRun kind with
  | some t =>
    if s.lanyard.toNat < t + 60000000000 then
      let slot := s.runSlot kind
      let s := s.setImage kind slot { s.image kind slot with failed := true }
      ({ s with sec := { s.sec with running := Tab.store (fun _ => 0) s.sec.running kind (1 - slot) } }, true)
    else (s, false)
  | none => (s, false)

/-- SERVICE_WATCHDOG (R338, R399): no core has refreshed the device's watchdog for 2 s. -/
def execServiceWatchdog (s : State) : Out :=
  if s.svc.wdog + 2000000000 ≤ s.lanyard.toNat then
    let r := (List.range 5).foldl (fun (a : State × List Nat) i =>
      let x := a.1.failFirst (i + 1)
      (x.1, if x.2 then a.2 ++ [i + 1] else a.2)) (s, [])
    let t := r.1.askReset 2
    done s (r.2.foldl (fun t k => (t.journalImage 3 k 0).journalImage 2 k (t.runSlot k)) t)
  else done s s

/-- THERMTRIP (R354, R399): the rails go off and the T9 stays in P4, THERMTRIP_N asserted. -/
def State.thermTrip (s : State) : State :=
  let t := s.askReset 3
  if s.powerState = 5 then t
  else
    let t := { t with svc := { t.svc with thermtrip := true } }
    (t.fset PWR_STATE PWR_STATE_STATE 4).fset PWR_STATE PWR_STATE_REQ 4

/-! ### The sag save (R404 to R410) -/

/-- The counters of section 2 of a sag record (R407). -/
def sagCounters : List Nat :=
  (List.range 256).map KNOT_JOBCLI ++ (List.range 256).map KNOT_JOBCNT ++ [SEC_CNT0] ++ (List.range 32).map PORT_VIOL
    ++ (List.range 256).map HBM_CH_CE ++ (List.range 256).map HBM_CH_STAT ++ [NVS_CNT0]

/-- A glove's entry in a sag record. -/
def State.sagGlove (s : State) (n : Nat) : SagGlove :=
  ⟨n, s.gid n, s.gepoch n, s.gstate n, s.fget (KNOT_GLOVE_CFG0 n) KNOT_GLOVE_CFG0_CLASS,
   s.fget (KNOT_GLOVE_CFG0 n) KNOT_GLOVE_CFG0_CLIENT, s.reg (KNOT_GLOVE_STEP n)⟩

/-- SEQ of a sag slot; 0 for an erased one. -/
def sagSeq (r : Option SagRec) : Nat := (r.map SagRec.seq).getD 0

/-- The record of a save that starts now. -/
def State.sagRecord (s : State) (cause : Nat) : SagRec :=
  { seq := max (sagSeq s.pwr.sagA) (sagSeq s.pwr.sagB) + 1, cause := cause, lanyard := s.lanyard,
    tail := s.sec.journal.filter (fun e => decide (s.sec.inNvs ≤ e.seq)),
    counters := sagCounters.map (fun o => (o, s.reg o)),
    gloves := ((List.range 64).filter (fun n => s.gstate n != gFREE)).map s.sagGlove, valid := true }

/-- A save starts (R404, R406): the debug session is revoked, every clock stops, every port drops its link and the rails
are disabled; a transition in progress is abandoned. -/
def State.sagStart (s : State) (cause : Nat) : State :=
  if s.powerState = 5 then s
  else
    let s := s.dropD2
    let s := if s.debugLevel = 0 then s else (s.journalDebug 2 s.sec.tokenHash).toD0
    let s := s.disarm
    let r := s.sagRecord cause
    let s := (s.diesOff.railsOff).fset PWR_STATE PWR_STATE_STATE 5
    let s := (List.range 32).foldl (fun s p => s.fset (PORT_STAT p) PORT_STAT_STATE 0) s
    let s := (s.fset PWR_STATE PWR_STATE_BUSY 0).fset PWR_SAG_STAT PWR_SAG_STAT_DONE 0
    let kn := { s.kn with tasks := [], graphs := [], holds := [], twins := [], digests := [] }
    let s := { s with kn := kn, hub := {}, brm := {} }
    let pwr := { s.pwr with building := some r, goal := Option.none, waitGloves := false }
    State.noteInject { s with pwr := pwr }

/-- SAG_DETECT (R404). -/
def execSagDetect (cause : BitVec 4) (s : State) : Out := done s (s.sagStart cause.toNat)

/-- RAIL_PGOOD_LOST (R356): in P0 to P2, power-good lost on a rail starts a save. -/
def execRailPgoodLost (rail : Fin 8) (s : State) : Out :=
  if s.powerState ≤ 2 then done s ((s.event 0x0D02 0 0x3F rail 0).sagStart 8) else done s s

/-- The save has ended: the resets that waited are taken. -/
def State.saveEnds (s : State) : State :=
  match s.pwr.heldResets with
  | [] => s
  | c :: cs => s.takeReset c cs

/-- SAG_SAVE_COMPLETE (R406, R408): the header page is programmed into the older slot; the other slot is then the older
one, which is kept erased (R234). -/
def execSagSaveComplete (s : State) : Out :=
  match s.pwr.building with
  | some r =>
    let inA := decide (sagSeq s.pwr.sagA ≤ sagSeq s.pwr.sagB)
    let pwr := { s.pwr with building := Option.none, sagA := if inA then some r else Option.none,
                            sagB := if inA then Option.none else some r }
    done s (State.saveEnds (State.fset { s with pwr := pwr } PWR_SAG_STAT PWR_SAG_STAT_DONE 1))
  | none => done s s

/-- SAG_ENERGY_SHORT (R412): programming stops and the slot stays invalid. -/
def execSagEnergyShort (s : State) : Out :=
  match s.pwr.building with
  | some _ =>
    done s (State.saveEnds (State.fset { s with pwr := { s.pwr with building := Option.none } } PWR_SAG_STAT PWR_SAG_STAT_SHORT 1))
  | none => done s s

/-- SAG_RESTART (R410): after a save, every rail input has stayed good for 10 ms. -/
def execSagRestart (s : State) : Out :=
  if s.powerState = 5 ∧ s.pwr.building = none then done s (s.takeReset 5 []) else done s s

/-- PWRWARN_GLITCH (R412). -/
def execPwrwarnGlitch (s : State) : Out := done s (s.bump PWR_SAG_STAT PWR_SAG_STAT_GLITCHES 1)

/-! ### Release after reset (R401), boot and resume -/

/-- A slot's record is valid at boot: it verifies, and its SEQ is at least the floor (R371). -/
def State.cfgValid (s : State) (r : CfgRec) : Bool := r.valid && decide ((s.reg SEC_CFG_FLOOR).toNat ≤ r.seq)

/-- Reports an invalid slot: 1 digest, 4 below the floor. -/
def State.cfgBad (s : State) (slot : Nat) (r : CfgRec) : State :=
  if s.cfgValid r then s else s.event 0x1001 slot 0x3F (if r.valid then 4 else 1) r.seq

/-- Loads a TILE_BYPASS or HBM_LANES item, or another item the T9 acts on (R92, R370). -/
def State.loadItem (s : State) (i : Nat × List Byte) : State :=
  if i.1 = 1 then
    let t := fieldOf i.2 0 2 % 256
    let mask := BitVec.ofNat 64 (fieldOf i.2 8 8)
    if popCount mask ≤ 4 then
      (s.setReg (TILE_COLMAP t) mask).fset (TILE_CAP t) TILE_CAP_WIDTH (64 - popCount mask)
    else
      let s := (s.fset (TILE_CAP t) TILE_CAP_FENCED 1).fset (TILE_TEST t) TILE_TEST_RESULT 3
      s.event 0x0104 t 0x3F mask.toNat 1
  else if i.1 = 2 then
    let c := fieldOf i.2 0 1
    let used := popCount (BitVec.ofNat 64 (fieldOf i.2 1 1))
    s.fset (HBM_CH_STAT c) HBM_CH_STAT_SPARES (2 - used)
  else if i.1 = 5 then
    let s := { s with svc := { s.svc with mgmtConf := fieldOf i.2 0 1 % 16 } }
    s.fset SVC_ROLE SVC_ROLE_MGMT_CORE (fieldOf i.2 0 1)
  else if i.1 = 6 then s.fset SEC_STAT SEC_STAT_COSIGN (fieldOf i.2 0 1)
  else s

/-- Whether a slot holds an image that boots: accepted, not marked failed, and not below its KIND's floor. -/
def State.bootable (s : State) (kind slot : Nat) : Bool :=
  let v := s.image kind slot
  v.accepted && !v.failed && decide (s.svnFloor kind ≤ v.svn)

/-- The slot a KIND boots: the bootable one with the higher VERSION (R365). -/
def State.bootSlot (s : State) (kind : Nat) : Option Nat :=
  if s.bootable kind 0 ∧ s.bootable kind 1 then
    some (if (s.image kind 0).version < (s.image kind 1).version then 1 else 0)
  else if s.bootable kind 0 then some 0 else if s.bootable kind 1 then some 1 else none

/-- Boots a KIND from a slot. -/
def State.bootKind (s : State) (kind : Nat) : State :=
  match s.bootSlot kind with
  | some slot =>
    let s := { s with sec := { s.sec with running := Tab.store (fun _ => 0) s.sec.running kind slot } }
    let s := s.fset (SEC_FW_SVN (kind - 1)) SEC_FW_SVN_SVN (s.image kind slot).svn
    if kind = 1 then s.fset SEC_STAT SEC_STAT_SEC_SLOT slot
    else if kind = 2 then s.fset SEC_STAT SEC_STAT_SVC_SLOT slot else s
  | none => s

/-- The service cores start: their watchdogs and the device's count from now. -/
def State.startCores (s : State) : State :=
  let now := s.lanyard.toNat
  let svc := { s.svc with wdog := now, refreshed := (List.range 16).foldl (fun r c => Tab.store (fun _ => 0) r c now) [] }
  { s with svc := svc }

/-- Restores a counter of a sag record: the fields R407 names. -/
def State.restoreCounter (s : State) (c : Nat × W64) : State :=
  if HBM_CH_STAT 0 ≤ c.1 ∧ c.1 < HBM_CH_STAT 256 ∧ (c.1 - HBM_CH_STAT 0) % 0x40 = 0 then
    s.fset c.1 HBM_CH_STAT_UE (bits c.2 47 32)
  else if PORT_VIOL 0 ≤ c.1 ∧ c.1 < PORT_VIOL 32 then
    s.fset c.1 PORT_VIOL_COUNT (bits c.2 PORT_VIOL_COUNT.hi PORT_VIOL_COUNT.lo)
  else s.setReg c.1 c.2

/-- A glove of a sag record comes back RETIRED, its epoch advanced by one. -/
def State.resumeGlove (s : State) (g : SagGlove) : State :=
  let s := (s.fset (KNOT_GLOVE_CFG0 g.slot) KNOT_GLOVE_CFG0_GLOBAL_ID g.gid).fset (KNOT_GLOVE_CFG0 g.slot) KNOT_GLOVE_CFG0_EPOCH (g.epoch + 1)
  ((s.fset (KNOT_GLOVE_CTL g.slot) KNOT_GLOVE_CTL_STATE gRETIRED).setReg (KNOT_GLOVE_STEP g.slot) g.lastStep).setRecord
    g.slot (some (g.gid, (g.epoch + 1) % 65536))

/-- The valid sag record with the higher SEQ, when it has not been resumed before (R411). -/
def State.sagToResume (s : State) : Option SagRec :=
  let newer := if sagSeq s.pwr.sagA < sagSeq s.pwr.sagB then s.pwr.sagB else s.pwr.sagA
  match newer with
  | some r => if r.valid ∧ s.sec.lastResumed < r.seq then some r else none
  | none => none

/-- Appends a journal entry of a sag record's tail to the ring as it was made. -/
def State.appendEntry (s : State) (e : JEntry) : State :=
  let s := { s with sec := { s.sec with journal := s.sec.journal ++ [e], lastHash := sha512v e.bytes, inNvs := e.seq + 1 } }
  s.setReg SEC_JNL_HEAD (BitVec.ofNat 64 (e.seq + 1))

/-- Resumes after a sag (R411). -/
def State.resumeSag (s : State) : State :=
  match s.sagToResume with
  | none => s
  | some r =>
    let s := r.tail.foldl State.appendEntry s
    let s : State := { s with lanyard := r.lanyard }
    let s := r.counters.foldl State.restoreCounter s
    let s := r.gloves.foldl State.resumeGlove s
    let s := { s with sec := { s.sec with lastResumed := r.seq } }
    let s := s.fset RST_CAUSE RST_CAUSE_SAG 1
    let s := s.logRec ⟨s.lanyard, BitVec.ofNat 64 (0x0D03 + 0x0D * 65536 + 0x3F * 2 ^ 40), BitVec.ofNat 64 r.seq, BitVec.ofNat 64 r.cause⟩
    s.journal 0x0016 2 0x3F (leBytes 8 r.seq ++ leBytes 8 r.cause ++ leBytes 8 r.lanyard.toNat)

/-- Steps 1 and 2: clocks, seed, key hash and the security firmware. -/
def State.releaseBoot (s : State) : State :=
  let s := s.fset CLK_STAT CLK_STAT_LOCK 0xFFF
  let s : State := { s with sec := { s.sec with seedHeld := true }, pwr := { s.pwr with held := [] } }
  let s : State := (List.range 8).foldl (fun s j => s.setReg (SEC_IDHASH j) (wordAt deviceKeyHash j)) s
  let s := s.fset NVS_STAT NVS_STAT_READY 1
  if s.pwr.cause = 4 then s.journal 0x0018 0xFF 0x3F (leBytes 8 4) else s

/-- The floor after a boot that reaches ready: the lower SEQ of two valid slots, or a FLOOR_BUMP record's own (R373). -/
def State.raiseFloor (s : State) : State :=
  let old := (s.reg SEC_CFG_FLOOR).toNat
  let low := if s.cfgValid s.sec.cfgA && s.cfgValid s.sec.cfgB then min s.sec.cfgA.seq s.sec.cfgB.seq else old
  let own := if s.cfgRun.bump then s.cfgRun.seq else low
  s.setReg SEC_CFG_FLOOR (BitVec.ofNat 64 (max old (max low own)))

/-- Step 3: the running configuration record, and the items it holds. -/
def State.releaseConfig (s : State) : State :=
  let useB := s.cfgValid s.sec.cfgB && (!(s.cfgValid s.sec.cfgA) || decide (s.sec.cfgA.seq < s.sec.cfgB.seq))
  let s := s.fset SEC_STAT SEC_STAT_CFG_SLOT (b1 useB)
  let s := s.setReg SEC_CFG (BitVec.ofNat 64 s.cfgRun.seq)
  s.cfgRun.items.foldl State.loadItem s

/-- Steps 4 to 8: rails, dies, readiness, and training. A channel that fails is RETIRED and a port that fails stays DOWN. -/
def State.releaseDies (s : State) (r : ReleaseReport) : State :=
  let s := s.railsOn.raiseFloor
  let s := s.fset RST_CTL RST_CTL_READY 1
  let s := r.badChannels.foldl (fun s c => (s.fset (HBM_CH_STAT c) HBM_CH_STAT_STATE 5).event 0x0904 c 0x3F 0 0) s
  let s := (List.range 32).foldl (fun s p => if r.badPorts.any (fun q => q.val == p) then s else s.trainEnabled p) s
  let s := { s with pwr := { s.pwr with released := 8 } }
  s.fset RST_CTL RST_CTL_PART_READY 1

/-- RESET_RELEASE (R401, R391, R411): boot, resume, configuration, rails, dies, readiness and training. Without a
bootable security firmware the boot ROM waits on the UART; without service firmware or a valid record the T9 stays in
P4, as it does after a THERMTRIP. -/
def execResetRelease (r : ReleaseReport) (s : State) : Out :=
  if s.pwr.released = 8 ∨ s.powerState = 5 ∨ s.sec.uartBoot then done s s
  else
    let t := s.releaseBoot
    if (t.bootSlot 1).isNone then done s { t with sec := { t.sec with uartBoot := true }, pwr := { t.pwr with released := 1 } }
    else
      let t := (t.bootKind 1).resumeSag
      let t := (t.cfgBad 0 t.sec.cfgA).cfgBad 1 t.sec.cfgB
      let noCfg := !(t.cfgValid t.sec.cfgA) && !(t.cfgValid t.sec.cfgB)
      if noCfg ∨ (t.bootSlot 2).isNone then
        let t := t.event 0x1004 0 0x3F (if noCfg then 0 else 2) 0
        let t := { t with sec := { t.sec with bootFail := true }, pwr := { t.pwr with released := 2 } }
        done s (t.fset PWR_STATE PWR_STATE_STATE 4)
      else
        let t := (((t.bootKind 2).bootKind 3).bootKind 4).bootKind 5
        let t := State.releaseConfig { t.startCores with sec := { t.sec with bootFail := false } }
        if t.svc.thermtrip then
          done s ((State.raiseFloor { t with pwr := { t.pwr with released := 8 } }).fset RST_CTL RST_CTL_READY 1)
        else done s (t.releaseDies r).noteInject

/-! ### Rail sequencing (R356) -/

/-- How many rails are enabled. -/
def State.railCount (s : State) : Nat := (List.range 8).countP (fun n => Tab.look (fun _ => false) s.svc.vrEn n)

/-- Whether the rails are being sequenced: after a reset, or on the way from P3 or P4 to P0. -/
def State.sequencing (s : State) : Bool :=
  !s.railsUp && s.powerState != 5 && (s.pwr.goal == some 0 || (s.pwr.released == 0 && s.powerState != 4))

/-- A rail fails: every rail is disabled, and the sequence is retried once; then the T9 stays in P4. -/
def State.seqFail (s : State) (rail why : Nat) : State :=
  let s := (s.event 0x0D01 0 0x3F rail why).railsOff
  if s.svc.seqRetried then
    let s := s.fset PWR_STAT PWR_STAT_SEQ_FAIL (rail + 1)
    s.reachPower 4
  else { s with svc := { s.svc with seqRetried := true } }

/-- The voltage in mV a rail has when enabled, and its tolerance (R417, R418). -/
def railTarget (rail : Nat) : Nat × Nat :=
  if rail = 0 then (1200, 36) else if rail = 1 then (800, 10) else if rail = 2 then (750, 10)
  else if rail = 3 then (1100, 33) else (700, 10)

/-- RAIL_ENABLE_STEP (R356): the last rail's power-good has held for 1 ms and its VOUT is checked; the next rail is
enabled. `vout` is the reading in mV, absent where it failed. -/
def execRailEnableStep (vout : Option Nat) (s : State) : Out :=
  let n := s.railCount
  if s.sequencing = false then done s s
  else
    let next := fun (s : State) =>
      let pg := if n = 0 then s.svc.pgood else Tab.store (fun _ => false) s.svc.pgood (n - 1) true
      let en := if n < 8 then Tab.store (fun _ => false) s.svc.vrEn n true else s.svc.vrEn
      { s with svc := { s.svc with pgood := pg, vrEn := en,
                                   enabledAt := Tab.store (fun _ => 0) s.svc.enabledAt n s.lanyard.toNat } }
    if n = 0 then done s (next s)
    else
      let tgt := railTarget (n - 1)
      match vout with
      | some v => if v ≤ tgt.1 + tgt.2 ∧ tgt.1 ≤ v + tgt.2 then done s (next s) else done s (s.seqFail (n - 1) 1)
      | none => done s (s.seqFail (n - 1) 1)

/-- RAIL_PGOOD_TIMEOUT (R356): power-good is missing 5 ms after the enable. -/
def execRailPgoodTimeout (s : State) : Out :=
  let n := s.railCount
  if s.sequencing ∧ n ≠ 0 ∧ Tab.look (fun _ => 0) s.svc.enabledAt (n - 1) + 5000000 ≤ s.lanyard.toNat then
    done s (s.seqFail (n - 1) 0)
  else done s s

/-! ### Clocks (R395, R422) -/

/-- PLL_UNLOCK (R395): its domain is held, and a C-die's tiles are fenced. -/
def execPllUnlock (i : Fin 12) (s : State) : Out :=
  let t := (s.fset CLK_STAT ⟨i, i⟩ 0).fset CLK_STAT ⟨12 + i, 12 + i⟩ 1
  let t := t.event 0x0E01 0 0x3F i 0
  let t := { t with pwr := { t.pwr with held := Tab.store (fun _ => false) t.pwr.held i true } }
  if i.val < 4 then done s ((List.range 64).foldl (fun t j => t.fenceTile (64 * i + j)) t) else done s t

/-- PLL_RELOCK (R395). -/
def execPllRelock (i : Fin 12) (s : State) : Out :=
  let t := s.fset CLK_STAT ⟨i, i⟩ 1
  done s { t with pwr := { t.pwr with held := Tab.store (fun _ => false) t.pwr.held i false } }

/-- FABREF_CLK_LOST (R422): the P-die's ports go DOWN. -/
def execFabrefClkLost (e : Fin 2) (s : State) : Out :=
  let t := { s with pwr := { s.pwr with fabLost := Tab.store (fun _ => false) s.pwr.fabLost e true } }
  done s ((List.range 16).foldl (fun t j => if t.pstate (16 * e + j) = 0 then t else t.portDown (16 * e + j) 0) t)

/-! ### Block resets (R403) -/

/-- RST_BLOCK as it reads after a request: UNIT and STATUS. -/
def State.blockStatus (s : State) (unit st : Nat) : State :=
  (s.fset RST_BLOCK RST_BLOCK_UNIT unit).fset RST_BLOCK RST_BLOCK_STATUS st

/-- A block reset that succeeds raises its event. -/
def State.blockDone (s : State) (kind unit : Nat) : State := (s.blockStatus unit ST_OK).event 0x0F01 0 0x3F kind unit

/-- RST_BLOCK_TILE. -/
def execRstBlockTile (t : Fin 256) (s : State) : Out :=
  if s.fenced t ∧ (s.tile t).occupied = 0 ∧ s.fget (TILE_TEST t) TILE_TEST_RUNNING = 0 then
    done s ((s.setTile t {}).blockDone 1 t)
  else done s (s.blockStatus t ST_BUSY)

/-- RST_BLOCK_PORT. -/
def execRstBlockPort (p : Fin 32) (s : State) : Out :=
  if s.pstate p = 0 ∨ s.pstate p = 5 then
    let v := s.port p
    let s1 := s.setPort p { enabled := v.enabled, violStart := v.violStart, violCount := v.violCount }
    let s1 := (List.range 64).foldl (fun s c => s.setReg (PORT_CIRC p c) 0) s1
    let s1 := (s1.setReg (PORT_FI_CTL p) (regReset (PORT_FI_CTL p))).setReg (PORT_CREDIT p) (regReset (PORT_CREDIT p))
    let s1 := { s1 with rt := { s1.rt with circs := s1.rt.circs.filter (fun o => o.port != p.val) } }
    done s (s1.blockDone 2 p)
  else done s (s.blockStatus p ST_BUSY)

/-- RST_BLOCK_HBM_CHANNEL: the channel trains again and stays in TEST. -/
def execRstBlockHbmChannel (c : Fin 256) (s : State) : Out :=
  let st := s.fget (HBM_CH_STAT c) HBM_CH_STAT_STATE
  if st = 4 ∨ st = 5 then
    let s1 := (s.setReg (HBM_TG_CTL c) 0).setReg (HBM_TG_RES c) 0
    done s (((s1.setReg (HBM_TG_LANES c) 0).fset (HBM_CH_STAT c) HBM_CH_STAT_STATE 4).blockDone 3 c)
  else done s (s.blockStatus c ST_BUSY)

/-- RST_BLOCK_BRIMIR. -/
def execRstBlockBrimir (e : Fin 2) (s : State) : Out :=
  if s.fget (BRM_ENG_STAT e) BRM_ENG_STAT_PHASE = 0 then
    let brm := { s.brm with eng := Tab.store (fun _ => Option.none) s.brm.eng e Option.none,
                            past := Tab.dropIf (fun k => k % 2 == e.val) s.brm.past }
    let s1 := { s with brm := brm }
    done s ((s1.setReg (BRM_ENG_STAT e) (regReset (BRM_ENG_STAT e))).blockDone 4 e)
  else done s (s.blockStatus e ST_BUSY)

/-- RST_BLOCK_COLL. -/
def execRstBlockColl (s : State) : Out :=
  if s.hub.colls.all (fun e => e.2.isNone) ∧ s.hub.slots.all (fun e => e.2.isNone) then
    done s (State.blockDone { s with hub := { s.hub with colls := [], slots := [], past := [] } } 5 0)
  else done s (s.blockStatus 0 ST_BUSY)

/-- TRST_N (R399): the TAP alone. -/
def execTrstN (s : State) : Out :=
  done s (State.fset { s with sec := { s.sec with tapIr := 1, tapDr := 0 } } RST_CAUSE RST_CAUSE_TRST 1)

end Sys2Proof.Machine
end

