-- ==== Sys2Proof/Machine/Arbiter.lean ====
section
/-! DEFINITION. The control arbiter, the commands that write arbitrated fields, the counter clear, and the journal's way
to the NVS (R8, R358 to R361, R378). -/

namespace Sys2Proof.Machine

open Reg

/-! ### Arbitrated fields (R360, R361) -/

/-- Whether an offset is `PORT_CFG[p]`, and whether it is `TILE_CTL[t]`. -/
def isPortCfg (off : Nat) : Bool := decide (PORT_CFG 0 ≤ off ∧ off < PORT_CFG 32) && off % 0x100000 == 0
def isTileCtl (off : Nat) : Bool := decide (off < TILE_CTL 256) && off % 0x100000 == 0x10

/-- Whether a register arbitrates under R8. -/
def arbitrated (off : Nat) : Bool :=
  isTileCtl off || isPortCfg off || off == HBM_QOS || off == FAB_RATE || off == FAB_CM || off == TIME_CFG
    || off == TIME_MASTER || off == PWR_LIMIT || off == PWR_DROOP || off == PWR_STATE

/-- Whether the field of a register that begins at a bit is a limit field (R361). -/
def limitField (off lo : Nat) : Bool :=
  off == PWR_LIMIT || (off == HBM_QOS && lo == HBM_QOS_URG_MAX.lo) || (isPortCfg off && lo == PORT_CFG_CIRC_MAX.lo)

/-- A value as it acts in a field that names a nearer limit (R281, R362). -/
def arbClamp (off : Nat) (f : Fld) (v : Nat) : Nat :=
  if off = PWR_LIMIT then (if f = PWR_LIMIT_LIMIT_W then min 1500 (max 300 v) else min 105 (max 70 v))
  else if isPortCfg off ∧ f = PORT_CFG_CIRC_MAX then min 64 v else v

/-- The fields of a register that a source may set, with their values in a written word. `PORT_CFG.CMD` takes part when a
command is written, of `PWR_STATE` only REQ arbitrates, and the thermal monitor requests only a power limit (R354).
Reserved values take no part (R5). -/
def arbFields (off src : Nat) (v : W64) : List (Fld × Nat) :=
  match regAt off with
  | none => []
  | some r =>
    let fs : List Fld := (r.fields.filter (fun f => f.acc == .RW)).map (fun f => ⟨f.hi, f.lo⟩)
    let fs := if off = PWR_STATE then [PWR_STATE_REQ] else if off = PWR_LIMIT ∧ src = 0 then [PWR_LIMIT_LIMIT_W] else if isPortCfg off then fs ++ [PORT_CFG_CMD] else fs
    (fs.map (fun f => (f, arbClamp off f (bits v f.hi f.lo)))).filter (fun x =>
      !(off == TIME_CFG && x.1 == TIME_CFG_ROLE && x.2 == 3)
        && !(off == PWR_STATE && (x.2 == 1 || decide (5 ≤ x.2)))
        && !(isPortCfg off && x.1 == PORT_CFG_CMD && (x.2 == 0 || decide (5 ≤ x.2))))

/-- Writes ST_RANGE where a written word holds a reserved value and the register has a STATUS. -/
def State.arbReserved (s : State) (off : Nat) (v : W64) : State :=
  if off = PWR_STATE then
    let q := bits v 6 4
    if q = 1 ∨ 5 ≤ q then s.pwrStatus ST_RANGE else s
  else if isPortCfg off then
    if 5 ≤ bits v 15 12 then s.fset (off + 8) PORT_STAT_STATUS ST_RANGE else s
  else s

/-! ### Slots and rounds -/

/-- Whether two slots are of one field and one rank. -/
def ArbSlot.same (a b : ArbSlot) : Bool := a.off == b.off && a.lo == b.lo && a.rank == b.rank

/-- A write's request joins those of its round: of one rank the lower source number stays, of one source the later. -/
def joinRound (l : List ArbSlot) (x : ArbSlot) : List ArbSlot :=
  if l.any (fun y => y.same x && decide (y.src < x.src)) then l else l.filter (fun y => !(y.same x)) ++ [x]

/-- A round's request fills its rank's slot. -/
def fillSlot (l : List ArbSlot) (x : ArbSlot) : List ArbSlot := l.filter (fun y => !(y.same x)) ++ [x]

/-- The better of two requests: in a limit field the lower value, else the higher rank. -/
def ArbSlot.beats (x y : ArbSlot) : Bool :=
  if limitField x.off x.lo then decide (x.val < y.val ∨ (x.val = y.val ∧ x.rank < y.rank)) else decide (x.rank < y.rank)

/-- The winning request of a field. -/
def arbWinner (l : List ArbSlot) (off lo : Nat) : Option ArbSlot :=
  (l.filter (fun x => x.off == off && x.lo == lo)).foldl (fun m x => match m with
    | none => some x
    | some y => if x.beats y then some x else some y) none

/-- The effective value of a field: the winner's, or with no slot filled the reset value. -/
def arbValue (l : List ArbSlot) (off : Nat) (f : Fld) : Nat :=
  match arbWinner l off f.lo with
  | some x => x.val
  | none => bits (regReset off) f.hi f.lo

/-- Puts an effective value into its block. `src` is the source it comes from. -/
def State.applyField (s : State) (off : Nat) (f : Fld) (v src : Nat) : State :=
  if isTileCtl off then
    if v = 1 then (if s.fget off TILE_CTL_FENCE = 1 then s else s.fenceTile (off / 0x100000)) else s.unfenceTile (off / 0x100000)
  else if off = PWR_STATE then (s.fset PWR_STATE PWR_STATE_REQ v).powerRequest v src
  else if isPortCfg off ∧ f = PORT_CFG_CMD then s.portCmd (off / 0x100000 - 0x100) v
  else if off = PWR_LIMIT then (s.fset off f v).noteCap
  else s.fset off f v

/-- A write joins the running round. AUTOWAKE does not arbitrate (R394). -/
def State.arbWrite (s : State) (off src : Nat) (v : W64) : State :=
  let s := s.arbReserved off v
  let s := if off = PWR_STATE then s.fset PWR_STATE PWR_STATE_AUTOWAKE (bits v 8 8) else s
  { s with svc := { s.svc with round := s.svc.round ++ [⟨off, src, v⟩] } }

/-- The outcome of a write once its round has ended (R360): SVC_ARB_LAST, and for a superseded one its event. -/
def State.arbOutcome (s : State) (w : ArbWrite) : State :=
  let lost := (arbFields w.off w.src w.val).find? (fun x => arbValue s.svc.slots w.off x.1 != x.2)
  let win := match lost with
    | some x => (match arbWinner s.svc.slots w.off x.1.lo with
      | some y => y.src
      | none => w.src)
    | none => w.src
  let s := s.setReg (SVC_ARB_LAST w.src) (BitVec.ofNat 64 (b1 lost.isSome * 2 ^ 63 + win * 2 ^ 58 + w.off))
  if lost.isSome then s.event 0x2201 0 0x3F w.off (w.src + win * 256) else s

/-- The fields that a list of requests names. -/
def arbTouched (l : List ArbSlot) (ws : List ArbWrite) : List (Nat × Fld) :=
  ((ws.flatMap (fun w => (arbFields w.off w.src w.val).map (fun x => (w.off, x.1)))).eraseDups).filter
    (fun k => l.any (fun x => x.off == k.1 && x.lo == k.2.lo))

/-- A round ends (R360): its requests fill their slots, each field touched takes its effective value, and the writes
complete. A command field acts when its effective value changes, or when the winner's write belongs to the round. -/
def State.roundEnd (s : State) : State :=
  let ws := s.svc.round
  let rs := ws.foldl (fun l w => (arbFields w.off w.src w.val).foldl (fun l x =>
    joinRound l ⟨w.off, x.1.lo, rankOf w.src, w.src, x.2⟩) l) []
  let old := s.svc.slots
  let new := rs.foldl fillSlot old
  let s : State := { s with svc := { s.svc with slots := new, round := [] } }
  let s := (arbTouched rs ws).foldl (fun (s : State) k =>
    match arbWinner new k.1 k.2.lo with
    | some x =>
      if rs.contains x || arbValue old k.1 k.2 != x.val then s.applyField k.1 k.2 x.val x.src else s
    | none => s) s
  ws.foldl (fun s w => s.arbOutcome w) s

/-- A write in a round that ends with it. -/
def State.arbSolo (s : State) (off src : Nat) (v : W64) : State := (s.arbWrite off src v).roundEnd

/-- A source empties its slots in a register: each field takes the effective value that is left. -/
def State.arbRelease (s : State) (off src : Nat) : State :=
  let old := s.svc.slots
  let gone := old.filter (fun x => x.off == off && x.src == src)
  let new := old.filter (fun x => !(x.off == off && x.src == src))
  let s : State := { s with svc := { s.svc with slots := new } }
  gone.foldl (fun (s : State) g =>
    let f : Fld := match regAt off with
      | some r => (match r.fields.find? (fun f => f.lo == g.lo) with
        | some f => ⟨f.hi, f.lo⟩
        | none => ⟨g.lo, g.lo⟩)
      | none => ⟨g.lo, g.lo⟩
    let v := arbValue new off f
    if v = arbValue old off f then s
    else s.applyField off f v (match arbWinner new off f.lo with
      | some x => x.src
      | none => src)) s

/-! ### The commands -/

/-- ARBITRATED_CONTROL_WRITE (R8): joins the round; a register that does not arbitrate has no slot. -/
def execArbitratedControlWrite (off : W32) (src : Fin 22) (v : W64) (s : State) : Out :=
  if arbitrated off.toNat then done s (s.arbWrite off.toNat src v) else done s s

/-- ARB_ROUND_END (R360). -/
def execArbRoundEnd (s : State) : Out := done s s.roundEnd

/-- SVC_ARB_REL (R360): OFFSET names a register by its control-space offset, a multiple of 8. -/
def execSvcArbRel (src : Fin 22) (v : W64) (s : State) : Out :=
  if bits v 2 0 = 0 then done s (s.arbRelease (bits v 31 0) src) else done s s

/-- TILE_CTL_WRITE (R100). -/
def execTileCtlWrite (t : Fin 256) (src : Fin 22) (v : W64) (s : State) : Out := done s (s.arbSolo (TILE_CTL t) src v)

/-- HBM_QOS_WRITE (R225). -/
def execHbmQosWrite (src : Fin 22) (v : W64) (s : State) : Out := done s (s.arbSolo HBM_QOS src v)

/-- A command to a port: PORT_CFG written with CMD and the other fields as they stand. -/
def State.portWrite (s : State) (p src cmd : Nat) : State :=
  s.arbSolo (PORT_CFG p) src (withBits (s.reg (PORT_CFG p)) 15 12 cmd)

/-- PORT_ENABLE (R243). -/
def execPortEnable (p : Fin 32) (src : Fin 22) (s : State) : Out := done s (s.portWrite p src 1)
/-- PORT_DISABLE (R243). -/
def execPortDisable (p : Fin 32) (src : Fin 22) (s : State) : Out := done s (s.portWrite p src 2)
/-- PORT_FENCE (R243). -/
def execPortFence (p : Fin 32) (src : Fin 22) (s : State) : Out := done s (s.portWrite p src 3)
/-- PORT_RELEASE (R276). -/
def execPortRelease (p : Fin 32) (src : Fin 22) (s : State) : Out := done s (s.portWrite p src 4)

/-- A power request by a source. -/
def State.powerWrite (s : State) (src want : Nat) : State :=
  s.arbSolo PWR_STATE src (withBits (s.reg PWR_STATE) PWR_STATE_REQ.hi PWR_STATE_REQ.lo want)

/-- PWR_REQ_P0 (R394). -/
def execPwrReqP0 (src : Fin 22) (s : State) : Out := done s (s.powerWrite src 0)
/-- PWR_REQ_P2 (R394). -/
def execPwrReqP2 (src : Fin 22) (s : State) : Out := done s (s.powerWrite src 2)
/-- PWR_REQ_P3 (R394). -/
def execPwrReqP3 (src : Fin 22) (s : State) : Out := done s (s.powerWrite src 3)
/-- PWR_REQ_P4 (R394). -/
def execPwrReqP4 (src : Fin 22) (s : State) : Out := done s (s.powerWrite src 4)

/-! ### Counters (R358) -/

/-- Whether a counter clear leaves a register alone: NVS_CNT1, and the job counts. -/
def clearKeeps (off : Nat) : Bool :=
  off == NVS_CNT1 || (List.range 256).any (fun i => off == KNOT_JOBCNT i || off == KNOT_JOBCLI i)

/-- A register with its statistics counters and their OVF bit cleared. -/
def clearedCtrs (off : Nat) (v : W64) : W64 :=
  match regAt off with
  | some r =>
    if r.fields.any (fun f => f.ctr) then
      r.fields.foldl (fun v f =>
        if f.ctr ∨ (f.hi = 63 ∧ f.lo = 63 ∧ f.acc = .RO) then withBits v f.hi f.lo 0 else v) v
    else v
  | none => v

/-- CTR_CLEAR (R358). -/
def execCtrClear (window : Fin 4096) (s : State) : Out :=
  let hit := fun (off : Nat) => off / 0x100000 == window.val && !(clearKeeps off)
  let t := s.ctl.foldl (fun (t : State) e => if hit e.1 then t.setReg e.1 (clearedCtrs e.1 e.2) else t) s
  done s { t with svc := { t.svc with satRaised := Tab.dropIf (fun k => hit (k / 64)) t.svc.satRaised } }

/-! ### The journal reaches the NVS (R378) -/

/-- JOURNAL_NVS_WRITE (R378): the entries made so far are in the ring, where the oldest exported ones give way, and the
free space has its consequences. -/
def execJournalNvsWrite (s : State) : Out :=
  if s.fget NVS_STAT NVS_STAT_READONLY = 1 then done s (s.powerWrite 3 4)
  else
    let new := s.sec.journal.filter (fun e => decide (s.sec.inNvs ≤ e.seq))
    let s1 := s.nvsWrote ((new.map JEntry.size).foldl (· + ·) 0)
    let s1 : State := { s1 with sec := { s1.sec with inNvs := (s1.reg SEC_JNL_HEAD).toNat } }
    let s1 := if s1.jnlLow then
        if s1.sec.lowRaised then s1
        else State.event { s1 with sec := { s1.sec with lowRaised := true } } 0x1002 0 0x3F s1.jnlFree 0
      else { s1 with sec := { s1.sec with lowRaised := false } }
    let s1 := if s1.jnlReserve then
        if s1.sec.reserveUsed then s1
        else State.faultAll { s1 with sec := { s1.sec with reserveUsed := true } } causeSECURITY
      else { s1 with sec := { s1.sec with reserveUsed := false } }
    done s (if s1.jnlFull then s1.powerWrite 3 4 else s1)

end Sys2Proof.Machine
end

