-- ==== Sys2Proof/Machine/Ethernet.lean ====
section
/-! DEFINITION. The Ethernet MACs, their rings and classifier, and the misbehaviour of link partners (R343 to R348, R422).
The layouts of the frame types that the rules name are those of IEEE 802.1Q, 802.1Qbb, IPv4, IPv6 and UDP (assumption 26). -/

namespace Sys2Proof.Machine

open Reg

/-- A MAC. -/
def State.mac (s : State) (m : Nat) : Mac := Tab.look (fun _ => {}) s.svc.macs m
/-- Sets it. -/
def State.setMac (s : State) (m : Nat) (v : Mac) : State :=
  { s with svc := { s.svc with macs := Tab.store (fun _ => {}) s.svc.macs m v } }

/-- Whether a port's link is up. -/
def State.ethUp (s : State) (m : Nat) : Bool := s.fget (SVC_ETH_STAT m) SVC_ETH_STAT_LINK == 1

/-! ### Frames -/

/-- A big-endian 16-bit value at an offset of a frame. -/
def be16 (bs : List Byte) (i : Nat) : Nat := (bs.getD i 0).toNat * 256 + (bs.getD (i + 1) 0).toNat

/-- Whether a frame has a VLAN tag; its EtherType, and where its payload begins. -/
def ethTagged (bs : List Byte) : Bool := be16 bs 12 == 0x8100
def ethType (bs : List Byte) : Nat := if ethTagged bs then be16 bs 16 else be16 bs 12
def ethBody (bs : List Byte) : List Byte := bs.drop (if ethTagged bs then 18 else 14)
/-- The VLAN id of a tagged frame, and a frame's priority. -/
def ethVlan (bs : List Byte) : Option Nat := if ethTagged bs then some (be16 bs 14 % 4096) else none
def ethPrio (bs : List Byte) : Nat := if ethTagged bs then be16 bs 14 / 8192 else 0

/-- The IP protocol of an IPv4 or IPv6 frame. -/
def ethProto (bs : List Byte) : Option Nat :=
  if ethType bs = 0x0800 then some ((ethBody bs).getD 9 0).toNat
  else if ethType bs = 0x86DD then some ((ethBody bs).getD 6 0).toNat else none

/-- The UDP destination port of a UDP frame. -/
def ethPort (bs : List Byte) : Option Nat :=
  if ethProto bs = some 17 then
    let b := ethBody bs
    some (be16 b ((if ethType bs = 0x0800 then (b.getD 0 0).toNat % 16 * 4 else 40) + 2))
  else none

/-- The opcode of a MAC control frame: 0x0001 PAUSE, 0x0101 PFC. -/
def macControl (bs : List Byte) : Option Nat := if be16 bs 12 = 0x8808 then some (be16 bs 14) else none

/-! ### Rings (R344 to R346) -/

/-- Whether a ring may use a knot: a service knot, or a knot of an ACTIVE glove. -/
def State.ringKnot (s : State) (k : Nat) : Bool :=
  s.svcKnot k || (List.range 64).any (fun n => s.gstate n == gACTIVE && s.ownsKnot n k)

/-- ETH_RING_ENABLE (R346): a write of SVC_ETH_RING1. The other fields take it only while ENABLE is 0. A ring whose LOG2 is
not 6 to 14, or that runs past the local range, is not enabled (assumption 26). -/
def execEthRingEnable (m d : Fin 2) (r : Fin 16) (v : W64) (s : State) : Out :=
  let off := SVC_ETH_RING1 m d r
  if s.fget off SVC_ETH_RING1_ENABLE = 1 then done s (s.fset off SVC_ETH_RING1_ENABLE (bits v 63 63))
  else
    let t := (((s.fset off SVC_ETH_RING1_LOG2 (bits v 62 59)).fset off SVC_ETH_RING1_POOL (bits v 58 51)).fset off
      SVC_ETH_RING1_DONE_KNOT (bits v 50 37)).fset off SVC_ETH_RING1_KNOT (bits v 36 23)
    let ok := decide (6 ≤ bits v 62 59 ∧ bits v 62 59 ≤ 14)
      && decide (s.fget (SVC_ETH_RING0 m d r) SVC_ETH_RING0_BASE + 32 * 2 ^ bits v 62 59 ≤ localSize) && t.ringKnot (bits v 36 23)
      && (if d.val = 0 then t.ringKnot (bits v 50 37) else t.poolState (bits v 58 51) == 2)
    done s (if bits v 63 63 = 1 ∧ ok then t.fset off SVC_ETH_RING1_ENABLE 1 else t)

/-- The address of the descriptor at a ring's position. -/
def State.ringDesc (s : State) (m d r : Nat) : Nat :=
  let off := SVC_ETH_RING1 m d r
  s.fget (SVC_ETH_RING0 m d r) SVC_ETH_RING0_BASE
    + 32 * (s.fget off SVC_ETH_RING1_TAKEN % 2 ^ s.fget off SVC_ETH_RING1_LOG2)

/-- TAKEN advances by one. -/
def State.ringNext (s : State) (m d r : Nat) : State :=
  s.fset (SVC_ETH_RING1 m d r) SVC_ETH_RING1_TAKEN (s.fget (SVC_ETH_RING1 m d r) SVC_ETH_RING1_TAKEN + 1)

/-- Descriptors filled and not taken on a transmit ring. -/
def State.ringWaiting (s : State) (m r : Nat) : Nat :=
  let off := SVC_ETH_RING1 m 0 r
  if s.fget off SVC_ETH_RING1_ENABLE = 1 then
    ((s.knot (s.fget off SVC_ETH_RING1_KNOT)).count % 2 ^ 23 + 2 ^ 23 - s.fget off SVC_ETH_RING1_TAKEN) % 2 ^ 23
  else 0

/-- Completes the transmit descriptor at a ring's position. -/
def State.txDone (s : State) (m r st : Nat) (stamp : Bool) : State :=
  let d := s.ringDesc m 0 r
  let s := s.wr (d + 8) 8 (withBits (BitVec.ofNat 64 (s.rd (d + 8) 8)) 19 16 st).toNat
  let s := if stamp then s.wr (d + 16) 8 s.lanyard.toNat else s
  (s.engineAdd (s.fget (SVC_ETH_RING1 m 0 r) SVC_ETH_RING1_DONE_KNOT) 1 false []).ringNext m 0 r

/-- The status of the transmit descriptor at a ring's position (R345). -/
def State.txStatus (s : State) (m r : Nat) : Nat :=
  let d := s.ringDesc m 0 r
  let w0 := BitVec.ofNat 64 (s.rd d 8)
  let w1 := BitVec.ofNat 64 (s.rd (d + 8) 8)
  let len := bits w1 13 0
  if bits w0 63 57 ≠ 0 ∨ bits w1 63 26 ≠ 0 ∨ s.rd (d + 24) 8 ≠ 0 ∨ len < 60 ∨ 9212 < len then 1
  else if localSize < bits w0 56 0 + len then 2 else 0

/-- ETH_TX_FRAME (R344): the frame waits while its priority of E0 is paused. -/
def execEthTxFrame (m : Fin 2) (r : Fin 16) (s : State) : Out :=
  if s.ringWaiting m r = 0 ∨ s.ethUp m = false then done s s
  else
    let st := s.txStatus m r
    let d := s.ringDesc m 0 r
    let w1 := BitVec.ofNat 64 (s.rd (d + 8) 8)
    let prio := ethPrio (s.bytes (s.rd d 8) (bits w1 13 0))
    if st = 0 ∧ m.val = 0 ∧ s.lanyard.toNat < Tab.look (fun _ => 0) (s.mac 0).pausedUntil prio then done s s
    else done s (s.txDone m r st (st == 0 && bits w1 14 14 == 1))

/-! ### Receiving (R344, R347, R348) -/

/-- Whether a classifier rule is valid and all its set fields match (R347). -/
def State.ruleHits (s : State) (m i : Nat) (bs : List Byte) : Bool :=
  let off := SVC_ETH_RULE m i
  let on := s.fget off SVC_ETH_RULE_MATCH
  s.fget off SVC_ETH_RULE_VALID == 1
    && (on % 2 == 0 || ethType bs == s.fget off SVC_ETH_RULE_ETHERTYPE)
    && (on / 2 % 2 == 0 || ethVlan bs == some (s.fget off SVC_ETH_RULE_VLAN))
    && (on / 4 % 2 == 0 || ethProto bs == some (bits (s.reg (SVC_ETH_RULE_HI m i)) 7 0))
    && (on / 8 % 2 == 0 || ethPort bs == some (s.fget off SVC_ETH_RULE_UDPPORT))

/-- The receive ring of a frame, and the rule that chose it; 63 for the default. -/
def State.classify (s : State) (m : Nat) (bs : List Byte) : Nat × Nat :=
  match (List.range 64).find? (fun i => s.ruleHits m i bs) with
  | some i => (s.fget (SVC_ETH_RULE m i) SVC_ETH_RULE_RING, i)
  | none => (0, 63)

/-- A pause of a priority of E0 for a number of 512-bit times; 0 ends it. PFC that is being ignored changes nothing. -/
def State.pfc (s : State) (prio quanta : Nat) : State :=
  let v := s.mac 0
  let now := s.lanyard.toNat
  if (Tab.look (fun _ => Option.none) v.ignoreUntil prio).isSome then s
  else if quanta = 0 then
    s.setMac 0 { v with pausedSince := Tab.store (fun _ => Option.none) v.pausedSince prio Option.none,
                        pausedUntil := Tab.store (fun _ => 0) v.pausedUntil prio 0 }
  else
    let since := if now < Tab.look (fun _ => 0) v.pausedUntil prio then
        Tab.look (fun _ => Option.none) v.pausedSince prio else some now
    s.setMac 0 { v with pausedSince := Tab.store (fun _ => Option.none) v.pausedSince prio since,
                        pausedUntil := Tab.store (fun _ => 0) v.pausedUntil prio (now + quanta * 128 / 25) }

/-- A frame dropped for lack of a buffer or descriptor. -/
def State.noBuf (s : State) (m : Nat) : State := s.bump (SVC_ETH_CNT1 m) SVC_ETH_CNT1_RX_NOBUF 1

/-- Writes a received frame into a buffer. -/
def State.landFrame (s : State) (p a : Nat) (bs : List Byte) : Option State :=
  if s.poolSvc p then some (s.setBytes a bs) else s.setVbytes (s.poolSlot p) a bs

/-- A good frame for a ring. -/
def State.rxFrame (s : State) (m r rule : Nat) (bs : List Byte) : State :=
  let off := SVC_ETH_RING1 m 1 r
  let d := s.ringDesc m 1 r
  let p := s.fget off SVC_ETH_RING1_POOL
  if s.fget off SVC_ETH_RING1_ENABLE = 0 ∨ bits (BitVec.ofNat 64 (s.rd (d + 8) 8)) 15 15 = 1 ∨ s.poolState p ≠ 2
      ∨ s.poolSize p < bs.length ∨ s.poolHead p = poolEnd then s.noBuf m
  else if s.poolMapped p (s.poolHead p) = false then (s.noBuf m).faultGlove (s.poolSlot p) causeMEMORY
  else
    match s.poolTake p with
    | .empty => s.noBuf m
    | .broken t => t.noBuf m
    | .buf i t =>
      let a := s.bufAddr p i
      match t.landFrame p a bs with
      | none => t.memFault (s.poolSlot p) a bs.length
      | some u =>
        let u := (u.wr d 8 a).wr (d + 8) 8 (bs.length + 2 ^ 15 + rule * 2 ^ 20)
        let u := ((u.wr (d + 16) 8 u.lanyard.toNat).wr (d + 24) 8 0).ringNext m 1 r
        u.engineAdd (u.fget off SVC_ETH_RING1_KNOT) 1 false []

/-- ETH_RX_FRAME (R344, R347, R348). -/
def execEthRxFrame (m : Fin 2) (f : EthFrame) (s : State) : Out :=
  if s.ethUp m = false then done s s
  else if f.good = false ∨ f.bytes.length + 4 < 64 ∨ 9216 < f.bytes.length + 4 then
    done s (s.bump (SVC_ETH_CNT0 m) SVC_ETH_CNT0_RX_BAD 1)
  else if macControl f.bytes = some 0x0101 ∧ m.val = 0 then
    let on := be16 f.bytes 16
    done s ((List.range 8).foldl (fun (t : State) p =>
      if on / 2 ^ p % 2 = 1 then t.pfc p (be16 f.bytes (18 + 2 * p)) else t) s)
  else if macControl f.bytes = some 0x0101 ∨ macControl f.bytes = some 0x0001 then
    done s (s.bump (SVC_ETH_CNT2 m) SVC_ETH_CNT2_FC_IGNORED 1)
  else
    let c := s.classify m f.bytes
    done s (s.rxFrame m c.1 c.2 f.bytes)

/-! ### The link monitor (R348) -/

/-- Completes n descriptors of a transmit ring with STATUS 3. -/
def State.txDrop (s : State) (m r : Nat) : Nat → State
  | 0 => s
  | n + 1 => State.txDrop (s.txDone m r 3 false) m r n

/-- The link goes down: the descriptors waiting complete with STATUS 3. -/
def State.ethDown (s : State) (m : Nat) : State :=
  if s.ethUp m then
    let v := s.mac m
    let now := s.lanyard.toNat
    let downs := v.downs.filter (fun t => decide (now < t + 1000000000)) ++ [now]
    let s := s.setMac m { v with downs := downs, linkSince := now, linkEvent := false, pausedSince := [], pausedUntil := [] }
    let s := s.fset (SVC_ETH_STAT m) SVC_ETH_STAT_LINK 0
    (List.range 16).foldl (fun (s : State) r => s.txDrop m r (s.ringWaiting m r)) s
  else s

/-- ETH_LINK_DOWN. -/
def execEthLinkDown (m : Fin 2) (s : State) : Out := done s (s.ethDown m)

/-- ETH_PFC_STORM: a priority of E0 has been paused for more than 100 ms. -/
def execEthPfcStorm (prio : Fin 8) (s : State) : Out :=
  let v := s.mac 0
  let now := s.lanyard.toNat
  match Tab.look (fun _ => Option.none) v.pausedSince prio with
  | some t =>
    if t + 100000000 < now ∧ now < Tab.look (fun _ => 0) v.pausedUntil prio then
      let v := { v with pausedSince := Tab.store (fun _ => Option.none) v.pausedSince prio Option.none,
                        pausedUntil := Tab.store (fun _ => 0) v.pausedUntil prio 0,
                        ignoreUntil := Tab.store (fun _ => Option.none) v.ignoreUntil prio (some (now + 1000000000)) }
      done s (((s.setMac 0 v).bump (SVC_ETH_CNT2 0) SVC_ETH_CNT2_PFC_STORMS 1).event 0x2301 0 0x3F prio 0)
    else done s s
  | none => done s s

/-- ETH_PFC_IGNORE_END. -/
def execEthPfcIgnoreEnd (prio : Fin 8) (s : State) : Out :=
  let v := s.mac 0
  match Tab.look (fun _ => Option.none) v.ignoreUntil prio with
  | some t =>
    if t ≤ s.lanyard.toNat then
      done s (s.setMac 0 { v with ignoreUntil := Tab.store (fun _ => Option.none) v.ignoreUntil prio Option.none })
    else done s s
  | none => done s s

/-- ETH_FLAP: more than 10 link-down events within 1 s. -/
def execEthFlap (m : Fin 2) (s : State) : Out :=
  let v := s.mac m
  let now := s.lanyard.toNat
  let n := (v.downs.filter (fun t => decide (now < t + 1000000000))).length
  if 10 < n ∧ v.holdUntil = none then
    let t := (s.setMac m { v with holdUntil := some (now + 1000000000) }).ethDown m
    done s ((t.fset (SVC_ETH_STAT m) SVC_ETH_STAT_HOLDDOWN 1).event 0x2302 m 0x3F n 0)
  else done s s

/-- ETH_HOLDDOWN_END. -/
def execEthHolddownEnd (m : Fin 2) (s : State) : Out :=
  let v := s.mac m
  match v.holdUntil with
  | some t =>
    if t ≤ s.lanyard.toNat then
      done s ((s.setMac m { v with holdUntil := Option.none, downs := [], linkSince := s.lanyard.toNat }).fset
        (SVC_ETH_STAT m) SVC_ETH_STAT_HOLDDOWN 0)
    else done s s
  | none => done s s

/-- ETH_LINK_RETRY: negotiation or training has failed for 5 s; the event is raised once. -/
def execEthLinkRetry (m : Fin 2) (s : State) : Out :=
  let v := s.mac m
  if s.ethUp m = false ∧ v.holdUntil = none ∧ v.linkSince + 5000000000 ≤ s.lanyard.toNat then
    let t := s.setMac m { v with linkSince := s.lanyard.toNat, linkEvent := true }
    done s (if v.linkEvent then t else t.event 0x2303 m 0x3F 0 0)
  else done s s

/-- ETH_LINK_UP: negotiation and training have succeeded, so the reference clock is there; not while held down. -/
def execEthLinkUp (m : Fin 2) (s : State) : Out :=
  if (s.mac m).holdUntil = none ∧ s.powerState ≠ 5 then
    let t := s.setMac m { s.mac m with linkEvent := false }
    done s (State.fset { t with pwr := { t.pwr with etherRef := true } } (SVC_ETH_STAT m) SVC_ETH_STAT_LINK 1)
  else done s s

/-- ETHREF_CLK_LOST (R422). -/
def execEthrefClkLost (s : State) : Out :=
  done s (State.ethDown (State.ethDown { s with pwr := { s.pwr with etherRef := false } } 0) 1)

end Sys2Proof.Machine
end

