-- ==== Sys2Proof/Machine/Service.lean ====
section
/-! DEFINITION. The service cores' watchdogs, measurement, the control loops, the regulator stage's PMBus, and writes of
control registers that have no row of their own (R5, R6, R338, R339, R350 to R356). -/

namespace Sys2Proof.Machine

open Reg

/-! ### Service cores (R338, R339) -/

/-- The core that holds the management role: the configured one, or when it is fenced the lowest that is not. -/
def State.roleHolder (s : State) : Option Nat :=
  if s.coreFenced s.svc.mgmtConf then (List.range 16).find? (fun c => !(s.coreFenced c)) else some s.svc.mgmtConf

/-- A service core is fenced: 0 by its watchdog, 1 by a cache error. -/
def State.fenceCore (s : State) (c why : Nat) : State :=
  if s.coreFenced c then s
  else
    let s := (s.fset (SVC_CORE_CTL c) SVC_CORE_CTL_FENCED 1).fset SVC_ROLE ⟨4 + c, 4 + c⟩ 1
    let s := match s.roleHolder with
      | some m => s.fset SVC_ROLE SVC_ROLE_MGMT_CORE m
      | none => s
    s.event 0x1301 c 0x3F why 0

/-- SVC_CORE_REFRESH: only a store from the core itself counts, and a fenced core issues none. -/
def execSvcCoreRefresh (core target : Fin 16) (s : State) : Out :=
  if core = target ∧ s.coreFenced core = false then
    done s { s with svc := { s.svc with refreshed := Tab.store (fun _ => 0) s.svc.refreshed core s.lanyard.toNat } }
  else done s s

/-- A core's watchdog period in nanoseconds: 1 to 1,000 ms. -/
def State.wdogPeriod (s : State) (c : Nat) : Nat :=
  min 1000 (max 1 (s.fget (SVC_CORE_CTL c) SVC_CORE_CTL_WDOG_MS)) * 1000000

/-- SVC_CORE_WATCHDOG: the core's period has passed without a refresh. -/
def execSvcCoreWatchdog (core : Fin 16) (s : State) : Out :=
  if Tab.look (fun _ => 0) s.svc.refreshed core + s.wdogPeriod core ≤ s.lanyard.toNat then done s (s.fenceCore core 0)
  else done s s

/-- SVC_CORE_CACHE_UE. -/
def execSvcCoreCacheUe (core : Fin 16) (s : State) : Out := done s (s.fenceCore core 1)

/-- SVC_WDOG_REFRESH: any core may write it. -/
def execSvcWdogRefresh (core : Fin 16) (s : State) : Out :=
  if s.coreFenced core then done s s else done s { s with svc := { s.svc with wdog := s.lanyard.toNat } }

/-! ### Temperature (R350, R354) -/

/-- A temperature field as a signed number of 1/16 degree. -/
def tempOf (n : Nat) : Int := (BitVec.ofNat 16 n).toInt

/-- The present package power in 1/16 W: as the power-cap loop last measured it. -/
def State.packagePower (s : State) : Nat :=
  match s.svc.power.getLast? with
  | some p => p.2
  | none => 0

/-- TJ_LIMIT as it acts, in 1/16 degree. -/
def State.tjLimit (s : State) : Nat := min 105 (max 70 (s.fget PWR_LIMIT PWR_LIMIT_TJ_LIMIT)) * 16

/-- The thermal monitor requests a power limit 50 W below the present package power. -/
def State.thermalAsk (s : State) : State :=
  let w := s.packagePower / 16 - 50
  let s := s.arbSolo PWR_LIMIT 0 (BitVec.ofNat 64 (min 2047 w))
  { s with svc := { s.svc with thermal := some s.lanyard.toNat, hotwarn := true } }

/-- The thermal monitor releases its request. -/
def State.thermalDrop (s : State) : State :=
  let s := s.arbRelease PWR_LIMIT 0
  { s with svc := { s.svc with thermal := Option.none, hotwarn := false } }

/-- A junction sensor's reading takes effect. -/
def State.junction (s : State) (i : Nat) (v : BitVec 16) : State :=
  let s := s.fset (SNS_TEMP i) SNS_TEMP_TEMP v.toNat
  let s := if tempOf (s.fget (SNS_TEMP i) SNS_TEMP_PEAK) < v.toInt then s.fset (SNS_TEMP i) SNS_TEMP_PEAK v.toNat else s
  if 1840 ≤ v.toInt then s.thermTrip
  else if (s.tjLimit : Int) ≤ v.toInt then (if s.svc.thermal.isNone then s.thermalAsk else s)
  else if s.svc.thermal.isSome ∧ (List.range 256).all (fun j =>
      decide (tempOf (s.fget (SNS_TEMP j) SNS_TEMP_TEMP) < (s.tjLimit : Int) - 32)) then s.thermalDrop
  else s

/-- A stack's reading takes effect: from 95 degrees on its read rate halves and its refresh doubles (R229). -/
def State.stackTemp (s : State) (i : Nat) (v : BitVec 16) : State :=
  let s := s.fset (SNS_HBM_TEMP i) SNS_HBM_TEMP_TEMP v.toNat
  let was := Tab.look (fun _ => false) s.mm.hot i
  let now := decide (1520 ≤ v.toInt)
  let s : State := { s with mm := { s.mm with hot := Tab.store (fun _ => false) s.mm.hot i now } }
  if now && !was then s.event 0x0905 i 0x3F v.toNat 0 else s

/-- SENSOR_SAMPLE (R350). -/
def execSensorSample (q : Sensor) (s : State) : Out :=
  match q with
  | .temp i v => done s (s.junction i v)
  | .tilePower t v => done s (s.fset (SNS_TILE_PWR t) SNS_TILE_PWR_POWER v.toNat)
  | .hbmTemp i v => done s (s.stackTemp i v)
  | .eye l h w => done s (s.setReg (SNS_EYE l) (BitVec.ofNat 64 (2 ^ 63 + h.toNat * 2 ^ 16 + w.toNat)))
  | .hold c mv => done s (s.setReg SNS_HOLD (BitVec.ofNat 64 (c.toNat * 2 ^ 16 + mv.toNat)))

/-- THERMAL_REQUEST_REPEAT (R354): 1 ms has passed since the request. -/
def execThermalRequestRepeat (s : State) : Out :=
  match s.svc.thermal with
  | some t => if t + 1000000 ≤ s.lanyard.toNat then done s s.thermalAsk else done s s
  | none => done s s

/-! ### Telemetry (R350, R351) -/

/-- A section of a telemetry record, padded to a multiple of 64 bytes. -/
def padded (bs : List Byte) : List Byte := bs ++ List.replicate ((64 - bs.length % 64) % 64) 0

/-- The section of a MASK bit. -/
def State.telemSection (s : State) (b : Nat) : List Byte :=
  if b = 0 then (List.range 256).flatMap (fun i => leBytes 2 (s.fget (SNS_TEMP i) SNS_TEMP_TEMP))
  else if b = 1 then (List.range 256).flatMap (fun i => leBytes 2 (s.fget (SNS_TILE_PWR i) SNS_TILE_PWR_POWER))
  else if b = 2 then (List.range 8).flatMap (fun i => leBytes 8 (s.reg (SNS_RAIL i)).toNat)
  else if b = 3 then (List.range 8).flatMap (fun i => leBytes 2 (s.fget (SNS_HBM_TEMP i) SNS_HBM_TEMP_TEMP))
  else if b = 4 then leBytes 8 (s.reg SNS_HOLD).toNat
  else if b = 5 then leBytes 8 (s.packagePower % 2 ^ 32 + s.fget PWR_LIMIT PWR_LIMIT_LIMIT_W * 2 ^ 32)
  else (List.range 132).flatMap (fun i => leBytes 4 (s.reg (SNS_EYE i)).toNat)

/-- The telemetry record of the present moment. -/
def State.telemRecord (s : State) : List Byte :=
  let mask := s.fget SNS_TELEM1 SNS_TELEM1_MASK
  let body := ((List.range 7).filter (fun b => mask / 2 ^ b % 2 == 1)).flatMap (fun b => padded (s.telemSection b))
  leBytes 8 s.lanyard.toNat ++ leBytes 8 (mask + (64 + body.length) * 2 ^ 16) ++ List.replicate 48 0 ++ body

/-- TELEMETRY_RECORD (R351): PERIOD_US has passed. -/
def execTelemetryRecord (s : State) : Out :=
  let period := max 10 (s.fget SNS_TELEM1 SNS_TELEM1_PERIOD_US) * 1000
  let log := max 4 (s.fget SNS_TELEM1 SNS_TELEM1_LOG2)
  if s.fget SNS_TELEM0 SNS_TELEM0_ENABLE = 1 ∧ s.svc.lastTelem + period ≤ s.lanyard.toNat then
    let r := s.telemRecord
    let n := s.fget SNS_TELEM1 SNS_TELEM1_WRITTEN
    let a := s.fget SNS_TELEM0 SNS_TELEM0_BASE + n % 2 ^ log * r.length
    let t := if inLocal a r.length then s.setBytes a r else s
    let t := t.fset SNS_TELEM1 SNS_TELEM1_WRITTEN (n + 1)
    let k := s.fget SNS_TELEM1 SNS_TELEM1_KNOT
    let t := if t.svcKnot k then t.knotAdd k 1 false [] else t
    done s { t with svc := { t.svc with lastTelem := s.lanyard.toNat } }
  else done s s

/-! ### Control loops (R352, R353, R355) -/

/-- DROOP_TRIP (R352). -/
def execDroopTrip (die : Fin 4) (s : State) : Out :=
  let t : State := { s with svc := { s.svc with stretched := Tab.store (fun _ => false) s.svc.stretched die true } }
  done s (t.bump PWR_STAT PWR_STAT_DROOPS 1)

/-- DROOP_RECOVER (R352). -/
def execDroopRecover (die : Fin 4) (s : State) : Out :=
  done s { s with svc := { s.svc with stretched := Tab.store (fun _ => false) s.svc.stretched die false } }

/-- ACLK of a C-die in MHz: 275 when the dies are released (R423). -/
def State.aclk (s : State) (d : Nat) : Nat := Tab.look (fun _ => 275) s.svc.aclk d
/-- Sets it. -/
def State.setAclk (s : State) (d mhz : Nat) : State :=
  { s with svc := { s.svc with aclk := Tab.store (fun _ => 275) s.svc.aclk d mhz } }

/-- Whether a C-die is held at 275 MHz (R356). -/
def State.avsHeld (s : State) (d : Nat) : Bool := s.fget PWR_STAT ⟨55 + d, 55 + d⟩ == 1

/-- The loop's next setting of a C-die. The manual gives its steps and bounds and not its law, so the step taken, the
target voltage and the duty limit are free. A lower clock is set at once; a higher one waits for its voltage (R355). -/
def State.capDie (s : State) (d : Nat) : State :=
  let f := s.free
  let want := 275 + 25 * ((Config.freeWord f).toNat % 34)
  let mv := 600 + (Config.freeWord (f + 1)).toNat % 251
  let duty := if want = 275 then (Config.freeWord (f + 2)).toNat % 65 else 64
  let s : State := { s with free := f + 3 }
  if s.avsHeld d then s
  else
    let s : State := { s with svc := { s.svc with duty := Tab.store (fun _ => 64) s.svc.duty d duty } }
    if want ≤ s.aclk d then
      let s := s.setAclk d want
      { s with svc := { s.svc with avsTarget := Tab.store (fun _ => 0) s.svc.avsTarget d mv,
                                   avsAt := Tab.store (fun _ => Option.none) s.svc.avsAt d Option.none } }
    else
      { s with svc := { s.svc with avsTarget := Tab.store (fun _ => 0) s.svc.avsTarget d mv,
                                   avsAt := Tab.store (fun _ => Option.none) s.svc.avsAt d (some s.lanyard.toNat),
                                   aclkWant := Tab.store (fun _ => 0) s.svc.aclkWant d want } }

/-- Whether a regulator's telemetry is stale. -/
def State.railStale (s : State) (n : Nat) : Bool := s.fget (SNS_RAIL n) SNS_RAIL_STALE == 1

/-- Package power by the tile estimators alone, in 1/16 W. -/
def State.estimated (s : State) : Nat :=
  ((List.range 256).map (fun t => s.fget (SNS_TILE_PWR t) SNS_TILE_PWR_POWER)).foldl (· + ·) 0 / 4

/-- POWER_CAP_TICK (R353): `est` is the package power in 1/16 W from the rail telemetry, corrected by the estimators; with
stale telemetry the estimators stand alone. The last 10 ms of measurements are kept. -/
def execPowerCapTick (est : Nat) (s : State) : Out :=
  let p := if (List.range 8).any s.railStale then s.estimated else est
  let now := s.lanyard.toNat
  let hist := s.svc.power.filter (fun e => decide (now < e.1 + 10000000)) ++ [(now, p)]
  done s ([0, 1, 2, 3].foldl State.capDie { s with svc := { s.svc with power := hist } })

/-- Whether a read-back lies within 15 mV of a rail's target. -/
def State.avsNear (s : State) (rail mv : Nat) : Bool :=
  let t := Tab.look (fun _ => 0) s.svc.avsTarget rail
  decide (t ≤ mv + 15 ∧ mv ≤ t + 15)

/-- A rail's voltage change is over. -/
def State.avsOver (s : State) (rail : Nat) : State :=
  { s with svc := { s.svc with avsAt := Tab.store (fun _ => Option.none) s.svc.avsAt rail Option.none } }

/-- AVS_READBACK (R355): the rail is at its target, and the die's clock is raised. -/
def execAvsReadback (rail : Fin 6) (mv : Nat) (s : State) : Out :=
  match Tab.look (fun _ => Option.none) s.svc.avsAt rail with
  | some _ =>
    if s.avsNear rail mv then
      let t := s.avsOver rail
      done s (if rail.val < 4 then t.setAclk rail (Tab.look (fun _ => 0) t.svc.aclkWant rail) else t)
    else done s s
  | none => done s s

/-- AVS_READBACK_TIMEOUT (R356): 1 ms after the write the read-back is still off. -/
def execAvsReadbackTimeout (rail : Fin 6) (mv : Nat) (s : State) : Out :=
  match Tab.look (fun _ => Option.none) s.svc.avsAt rail with
  | some t =>
    if t + 1000000 ≤ s.lanyard.toNat ∧ s.avsNear rail mv = false then
      let u := (s.avsOver rail).event 0x2501 rail 0x3F 2 mv
      done s (if rail.val < 4 then (u.fset PWR_STAT ⟨55 + rail, 55 + rail⟩ 1).setAclk rail 275 else u)
    else done s s
  | none => done s s

/-! ### PMBus (R356) -/

/-- A rail's target voltage in mV, and its largest current in A (R417). -/
def State.railMv (s : State) (n : Nat) : Nat :=
  if 4 ≤ n then
    let t := Tab.look (fun _ => 0) s.svc.avsTarget (n - 4)
    if t = 0 then 700 else t
  else (railTarget n).1
def railMax (n : Nat) : Nat := if n = 0 then 35 else if n = 1 then 190 else if n ≤ 3 then 320 else 480

/-- Whether a reading is plausible: current at most 1.5 times the rail's maximum, voltage within 20 % of its target. -/
def State.plausible (s : State) (n vout iout : Nat) : Bool :=
  let t := s.railMv n * 4
  decide (iout ≤ 24 * railMax n ∧ vout * 5 ≤ t * 6 ∧ t * 4 ≤ vout * 5)

/-- PMBUS_POLL (R356): a plausible reading is taken, three implausible ones in a row make the telemetry stale, and an
exchange that failed after its retries makes it stale for 100 ms. -/
def execPmbusPoll (rail : Fin 8) (r : PmbusAnswer) (s : State) : Out :=
  match r with
  | .failed kind cmd =>
    let t : State := { s with svc := { s.svc with
      staleUntil := Tab.store (fun _ => Option.none) s.svc.staleUntil rail (some (s.lanyard.toNat + 100000000)) } }
    done s ((t.fset (SNS_RAIL rail) SNS_RAIL_STALE 1).event 0x2401 rail 0x3F kind cmd.toNat)
  | .values vout iout temp =>
    let on := Tab.look (fun _ => false) s.svc.vrEn rail
    if on && !(s.plausible rail vout.toNat iout.toNat) then
      let n := Tab.look (fun _ => 0) s.svc.badReads rail + 1
      let t : State := { s with svc := { s.svc with badReads := Tab.store (fun _ => 0) s.svc.badReads rail (min 3 n) } }
      done s (if 3 ≤ n then t.fset (SNS_RAIL rail) SNS_RAIL_STALE 1 else t)
    else
      let t : State := { s with svc := { s.svc with badReads := Tab.store (fun _ => 0) s.svc.badReads rail 0 } }
      let t := (t.fset (SNS_RAIL rail) SNS_RAIL_VOUT vout.toNat).fset (SNS_RAIL rail) SNS_RAIL_IOUT iout.toNat
      let t := t.fset (SNS_RAIL rail) SNS_RAIL_TEMP temp.toNat
      done s (if (Tab.look (fun _ => Option.none) s.svc.staleUntil rail).isSome then t else t.fset (SNS_RAIL rail) SNS_RAIL_STALE 0)

/-- PMBUS_STALE_END (R356): 100 ms have passed. -/
def execPmbusStaleEnd (rail : Fin 8) (s : State) : Out :=
  match Tab.look (fun _ => Option.none) s.svc.staleUntil rail with
  | some t =>
    if t ≤ s.lanyard.toNat then
      let u : State := { s with svc := { s.svc with staleUntil := Tab.store (fun _ => Option.none) s.svc.staleUntil rail Option.none } }
      done s (u.fset (SNS_RAIL rail) SNS_RAIL_STALE 0)
    else done s s
  | none => done s s

/-- PMBUS_BUS_STUCK (R356): nine clocks and a STOP are sent. -/
def execPmbusBusStuck (scl : Bool) (s : State) : Out :=
  done s (State.event { s with svc := { s.svc with busClears := s.svc.busClears + 1 } } 0x2402 0 0x3F (b1 scl) 0)

/-- PMB_ALERT (R356): the status word of each regulator is read and its faults cleared; the pin is masked for 1 s when it
stays asserted. A masked pin is not watched. -/
def execPmbAlert (words : List (BitVec 16)) (stays : Bool) (s : State) : Out :=
  if s.svc.alertMask.isSome then done s s
  else
    let t := (words.zipIdx).foldl (fun (t : State) w => t.event 0x2403 w.2 0x3F w.1.toNat 0) s
    done s (if stays then { t with svc := { t.svc with alertMask := some (t.lanyard.toNat + 1000000000) } } else t)

/-- PMB_ALERT_UNMASK (R356). -/
def execPmbAlertUnmask (s : State) : Out :=
  match s.svc.alertMask with
  | some t => if t ≤ s.lanyard.toNat then done s { s with svc := { s.svc with alertMask := Option.none } } else done s s
  | none => done s s

/-! ### Register writes (R5, R6) -/

/-- The index of an offset among the copies of a register, and whether it is one of n of them. -/
def hits (off base stride n : Nat) : Option Nat :=
  if base ≤ off ∧ (off - base) % stride = 0 ∧ (off - base) / stride < n then some ((off - base) / stride) else none

/-- One field under its access code: RW and RWS take the value, W1C clears the bits written 1, the others keep theirs;
what a WO or W1S field starts has a command of its own. -/
def fieldWrite (v : W64) (old : W64) (f : FieldDef) : W64 :=
  match f.acc with
  | .RW => withBits old f.hi f.lo (bits v f.hi f.lo)
  | .RWS => withBits old f.hi f.lo (bits v f.hi f.lo)
  | .W1C => withBits old f.hi f.lo (bits (old &&& ~~~v) f.hi f.lo)
  | .RO => old
  | .WO => old
  | .W1S => old
  | .RSV => old

/-- Writes a register's fields, those at the low bits of `skip` apart. -/
def State.plainWrite (s : State) (off : Nat) (v : W64) (skip : List Nat) : State :=
  match regAt off with
  | some r => s.setReg off ((r.fields.filter (fun f => !(skip.contains f.lo))).foldl (fieldWrite v) (s.reg off))
  | none => s

/-- A register with a command field: a reserved code writes ST_RANGE into STATUS. -/
def State.commandWrite (s : State) (off : Nat) (v : W64) (cmd st : Fld) (codes : Nat) : State :=
  let s := s.plainWrite off v []
  let c := bits v cmd.hi cmd.lo
  if 1 ≤ c ∧ c ≤ codes then s else s.fset off st ST_RANGE

/-- Writes to the knot engine's window. -/
def State.knotWrite (s : State) (off : Nat) (v : W64) : State :=
  let n := (off - KNOT_GLOVE_CFG0 0) / 0x40
  let j := (off - KNOT_GLOVE_CFG0 0) % 0x40
  if KNOT_GLOVE_CFG0 0 ≤ off ∧ n < 64 then
    if j = 0x28 then s.commandWrite off v KNOT_GLOVE_CTL_CMD KNOT_GLOVE_CTL_STATUS 2
    else if j = 0x30 ∨ s.slotGone n then s.plainWrite off v []
    else s.fset (KNOT_GLOVE_CTL n) KNOT_GLOVE_CTL_STATUS ST_BUSY
  else if off = KNOT_SVC then s
  else s.plainWrite off v []

/-- Writes to the fabric's window: SELF only with every port DOWN or FENCED, a hitch's mask and branches only while it is
not VALID; routes act at once. -/
def State.fabWrite (s : State) (off : Nat) (v : W64) : State :=
  if off = FAB_CFG then
    let idle := (List.range 32).all (fun p => s.pstate p == 0 || s.pstate p == 5)
    (s.plainWrite off v (if idle then [] else [FAB_CFG_SELF.lo])).reroute
  else match hits off (FAB_HITCH_MASK 0) 0x80 1024 with
    | some h => if s.fget (FAB_HITCH_CTL h) FAB_HITCH_CTL_VALID = 1 then s else s.plainWrite off v []
    | none =>
      if (List.range 8).any (fun j => (hits off (FAB_HITCH_BR 0 j) 0x80 1024).isSome) then
        (if s.fget (FAB_HITCH_CTL ((off - FAB_HITCH_CTL 0) / 0x80)) FAB_HITCH_CTL_VALID = 1 then s else s.plainWrite off v [])
      else (s.plainWrite off v []).reroute

/-- Writes to the sensors' window. -/
def State.snsWrite (s : State) (off : Nat) (v : W64) : State :=
  let on := s.fget SNS_TELEM0 SNS_TELEM0_ENABLE == 1
  if off = SNS_TELEM0 then s.plainWrite off v (if on || bits v 11 0 != 0 then [SNS_TELEM0_BASE.lo] else [])
  else if off = SNS_TELEM1 then (if on then s else s.plainWrite off v [])
  else s.plainWrite off v []

/-- Writes to a tile's window: the debug registers take writes only at D2 (R381). -/
def State.tileWrite (s : State) (off : Nat) (v : W64) : State :=
  let j := off % 0x100000
  if j = 0x80 ∨ j = 0x90 then (if s.debugLevel = 2 then s.plainWrite off v [] else s)
  else if j = 0x98 then s
  else s.plainWrite off v []

/-- Writes to a port's window. -/
def State.portRegWrite (s : State) (off : Nat) (v : W64) : State :=
  let p := off / 0x100000 - 0x100
  if off = PORT_FI_CTL p then
    let bad := decide (2 ≤ bits v 17 16)
    let bad3 := bits v 13 12 == 3
    let t := s.plainWrite off v ((if bad then [16] else []) ++ (if bad3 then [12] else []))
    if bad || bad3 then t.fset off PORT_FI_CTL_STATUS ST_RANGE else t
  else s.plainWrite off v []

/-- Writes to the pool engine's window: the configuration only while the pool is FREE. -/
def State.poolRegWrite (s : State) (off : Nat) (v : W64) : State :=
  let p := (off - POOL_CFG0 0) / 0x20
  let j := (off - POOL_CFG0 0) % 0x20
  if POOL_CFG0 0 ≤ off ∧ p < 256 then
    if j = 0x18 then s.commandWrite off v POOL_STAT_CMD POOL_STAT_STATUS 3
    else if s.poolState p = 0 then s.plainWrite off v [] else s
  else s.plainWrite off v []

/-- Writes to the hub's window: an entry's words only while its VALID is 0. -/
def State.hubWrite (s : State) (off : Nat) (v : W64) : State :=
  if off = HUB_RGN_CMD then s.commandWrite off v HUB_RGN_CMD_CMD HUB_RGN_CMD_STATUS 3
  else if HUB_RGN0 0 ≤ off ∧ off < HUB_RGN0 1024 then
    (if s.fget (HUB_RGN1 ((off - HUB_RGN0 0) / 0x20)) HUB_RGN1_VALID = 1 then s else s.plainWrite off v [])
  else s.plainWrite off v []

/-- Writes to the service cores' window: an enabled ring keeps its base, and SVC_ETH_RING1 and SVC_ARB_REL have commands of
their own. -/
def State.svcWrite (s : State) (off : Nat) (v : W64) : State :=
  let j := off % 0x100000
  if 0x10000 ≤ j ∧ j < 0x12000 then
    if j % 0x20 = 8 then s
    else if s.fget (off + 8) SVC_ETH_RING1_ENABLE = 1 then s else s.plainWrite off v []
  else s.plainWrite off v []

/-- Writes to Brimir's window: a pending directory stands while it is ARMED, and BRM_DIR_NEXTEP has a command of its own. -/
def State.brmWrite (s : State) (off : Nat) (v : W64) : State :=
  match (List.range 64).find? (fun n => off == BRM_DIR_NEXT n || off == BRM_DIR_NEXTEP n) with
  | some n =>
    if off = BRM_DIR_NEXTEP n ∨ s.fget (BRM_DIR_NEXTEP n) BRM_DIR_NEXTEP_ARMED = 1 ∨ bits v 2 0 ≠ 0 then s
    else s.plainWrite off v []
  | none => s.plainWrite off v []

/-- Writes to the HBM4 controllers' window: a reserved PATTERN is not taken. -/
def State.hbmWrite (s : State) (off : Nat) (v : W64) : State :=
  match (List.range 256).find? (fun c => off == HBM_TG_CTL c) with
  | some _ =>
    let bad := decide (3 < bits v 27 24)
    let t := s.plainWrite off v (if bad then [24] else [])
    if bad then t.fset off HBM_TG_CTL_STATUS ST_RANGE else t
  | none => s.plainWrite off v []

/-- A write of a control register by a source of R359, where no command of its own carries it. An arbitrated register's
write joins the round (R8). -/
def State.ctlWrite (s : State) (o src : Nat) (v : W64) : State :=
  let w := o / 0x100000
  if arbitrated o then s.arbWrite o src v
  else if w < 0x100 then s.tileWrite o v
  else if w < 0x120 then s.portRegWrite o v
  else if w = 0x200 then s.hubWrite o v
  else if w = 0x201 then s.brmWrite o v
  else if w = 0x204 then s.knotWrite o v
  else if w = 0x205 then s.fabWrite o v
  else if o = MIG_CFG then s
  else if o = MIG_TLBINV then (if bits v 0 0 = 1 then s else s.plainWrite o v [])
  else if o = MIG_CMD then s.commandWrite o v MIG_CMD_CMD MIG_CMD_STATUS 5
  else if w = 0x207 then s.poolRegWrite o v
  else if w = 0x208 then s.hbmWrite o v
  else if o = RST_BLOCK then s.commandWrite o v RST_BLOCK_KIND RST_BLOCK_STATUS 5
  else if w = 0x20F then s.svcWrite o v
  else if w = 0x210 then s.snsWrite o v
  else s.plainWrite o v []

/-- REGISTER_WRITE (R6). A write to the `SEC_` window, the mailbox apart, is a violation (R391). -/
def execRegisterWrite (off : W32) (src : Fin 22) (v : W64) (s : State) : Out :=
  let o := off.toNat
  if o / 0x100000 = 0x20C ∧ o ≠ SEC_MBOX_ARG ∧ o ≠ SEC_MBOX_CMD ∧ src.val ≠ 3 ∧ src.val ≠ 4 then
    done s ((s.bump SEC_CNT0 SEC_CNT0_VIOLATIONS 1).event 0x1006 0 0x3F (o % 0x100000) src)
  else done s (s.ctlWrite o src v)

end Sys2Proof.Machine
end

