-- ==== Sys2Proof/Machine/Debug.lean ====
section
/-! DEFINITION. The tiles' debug registers, the test access port, and control space as it reads (R380, R381, R385). -/

namespace Sys2Proof.Machine

open Reg

/-! ### Tile debug (R381) -/

/-- Since when a context has been halted. -/
def Ctx.heldSince (x : Ctx) : Option Nat :=
  match x.halt with
  | .none => none
  | .halted h => some h
  | .stepping => none
  | .steppedHalt h => some h

/-- The context's run does not count the time it has been halted. -/
def State.unpause (s : State) (k : CtxId) : State :=
  let x := s.ctx k
  match x.task, x.heldSince with
  | some q, some h => (match s.task q with
    | some t => s.setTask q (some { t with paused := t.paused + (s.lanyard.toNat - h) })
    | none => s)
  | _, _ => s

/-- CTX of a tile's TILE_DBG. -/
def State.dbgCtx (s : State) (t : Nat) : Nat := s.fget (TILE_DBG t) TILE_DBG_CTX

/-- A halted context runs on, or for one instruction. -/
def State.unhalt (s : State) (k : CtxId) (h : DbgHalt) : State :=
  let s := (s.unpause k).mapCtx k (fun x => { x with halt := h })
  if (s.ctx k).wait = .none then s.join k else s

/-- TILE_DBG_HALT: at D2, a context that runs a task. -/
def execTileDbgHalt (t : Fin 256) (c : Fin 16) (s : State) : Out :=
  if s.debugLevel = 2 then
    let s1 := s.fset (TILE_DBG t) TILE_DBG_CTX c
    let x := s1.ctx ⟨t, c⟩
    if x.task.isSome ∧ x.stopped = false ∧ x.held = false then
      done s ((s1.mapCtx ⟨t, c⟩ (fun x => { x with halt := .halted s.lanyard.toNat })).leave ⟨t, c⟩)
    else done s s1
  else done s s

/-- TILE_DBG_STEP. -/
def execTileDbgStep (t : Fin 256) (c : Fin 16) (s : State) : Out :=
  if s.debugLevel = 2 then
    let s1 := s.fset (TILE_DBG t) TILE_DBG_CTX c
    if (s1.ctx ⟨t, c⟩).held then done s (s1.unhalt ⟨t, c⟩ .stepping) else done s s1
  else done s s

/-- TILE_DBG_RESUME. -/
def execTileDbgResume (t : Fin 256) (c : Fin 16) (s : State) : Out :=
  if s.debugLevel = 2 then
    let s1 := s.fset (TILE_DBG t) TILE_DBG_CTX c
    if (s1.ctx ⟨t, c⟩).held then done s (s1.unhalt ⟨t, c⟩ .none) else done s s1
  else done s s

/-- The register that INDEX selects, of a context. -/
def State.dbgVal (s : State) (k : CtxId) (i : Nat) : W64 :=
  let x := s.ctx k
  if i < 0x20 then x.gr i
  else if i < 0x28 then BitVec.ofNat 64 (b1 (x.pr (i - 0x20)))
  else if 0x100 ≤ i ∧ i < 0x180 then Tab.look (fun _ => 0) x.t (i - 0x100)
  else if 0x200 ≤ i ∧ i < 0xA00 then
    let j := i - 0x200
    (x.lane (j / 64) (2 * (j % 64))).setWidth 64 ||| ((x.lane (j / 64) (2 * (j % 64) + 1)).setWidth 64 <<< 32)
  else if 0x1000 ≤ i ∧ csrKnown (i - 0x1000) then s.csr k (i - 0x1000)
  else 0

/-- A context with the register that INDEX selects written; the context register must be writable. -/
def Ctx.setDbgVal (x : Ctx) (i : Nat) (v : W64) : Ctx :=
  if i < 0x20 then x.setG i v
  else if i < 0x28 then x.setP (i - 0x20) (v.getLsbD 0)
  else if 0x100 ≤ i ∧ i < 0x180 then { x with t := Tab.store (fun _ => 0) x.t (i - 0x100) v }
  else if 0x200 ≤ i ∧ i < 0xA00 then
    let j := i - 0x200
    let l := 128 * (j / 64) + 2 * (j % 64)
    { x with v := Tab.fill (fun _ => 0) x.v l [v.setWidth 32, (v >>> 32).setWidth 32] }
  else if 0x1000 ≤ i ∧ csrWritable (i - 0x1000) then x.setCsr (i - 0x1000) v
  else x

/-- TILE_DBG_VAL_WRITE: the selected register of the halted context that CTX names. -/
def execTileDbgValWrite (t : Fin 256) (v : W64) (s : State) : Out :=
  let k := ctxId t (s.dbgCtx t)
  if s.debugLevel = 2 ∧ (s.ctx k).held then
    done s (s.mapCtx k (fun x => x.setDbgVal (s.fget (TILE_DBG_SEL t) TILE_DBG_SEL_INDEX) v))
  else done s s

/-! ### Control space as it reads (R426) -/

/-- KNOT_STAT: contexts running a task, ready tasks, and free task slots. -/
def State.knotStat (s : State) : W64 :=
  let ts := s.kn.tasks.filterMap (fun e => e.2)
  let run := ts.countP (fun t => match t.ph with
    | .running _ _ => true
    | _ => false)
  BitVec.ofNat 64 (4096 - ts.length + ts.countP (fun t => t.ph == .ready) * 2 ^ 13 + run * 2 ^ 26)

/-- A word of KNOT_ENTRY. -/
def State.knotEntry (s : State) (k word : Nat) : W64 :=
  let v := s.knot k
  let owner := (List.range 64).find? (fun n => !(s.slotGone n) && s.ownsKnot n k)
  let adm := match owner with
    | some n => s.fget (KNOT_GLOVE_ADM1 n) KNOT_GLOVE_ADM1_ADM_KNOT == k
    | none => false
  let head := match v.waiters with
    | [] => 0
    | .task q :: _ => q * 2 ^ 22
    | .ctx t c :: _ => 2 ^ 17 + (t * 16 + c) * 2 ^ 22
  if word = 0 then BitVec.ofNat 64 (v.count + v.target % 2 ^ 16 * 2 ^ 48)
  else if word = 1 then
    BitVec.ofNat 64 (v.target / 2 ^ 16 % 2 ^ 16 + head + b1 (owner.isSome || s.svcKnot k) * 2 ^ 18 + b1 adm * 2 ^ 19
      + b1 v.taint * 2 ^ 20 + b1 v.compare * 2 ^ 21 + v.waiters.length * 2 ^ 34)
  else if word = 2 then BitVec.ofNat 64 (v.target / 2 ^ 32 * 2 ^ 32)
  else 0

/-- MIG_STAT. -/
def State.migStat (s : State) : W64 :=
  let free := (s.mm.freeFrames.map (fun e => e.2.length)).foldl (· + ·) 0
  let res := s.mm.pages.filter (fun e => match e.2.place with
    | .resident _ => true
    | _ => false)
  BitVec.ofNat 64 (res.countP (fun e => s.inWindow e.1) * 2 + res.countP (fun e => e.2.pinned) * 2 ^ 14
    + res.length * 2 ^ 27 + free * 2 ^ 40)

/-- The debug registers of a tile as they read: 0 below D2. -/
def State.tileDbg (s : State) (t j : Nat) : W64 :=
  let c := s.dbgCtx t
  let x := s.ctx (ctxId t c)
  if s.debugLevel ≠ 2 then 0
  else if j = 0x80 then
    let st := if x.task.isNone then 0 else match x.halt with
      | .none => 1
      | .halted _ => 2
      | .stepping => 1
      | .steppedHalt _ => 3
    BitVec.ofNat 64 (c * 2 ^ 28 + st * 2 ^ 16)
  else if j = 0x88 then (if x.held then x.pc.setWidth 64 else 0)
  else if j = 0x90 then s.reg (TILE_DBG_SEL t)
  else if x.held then s.dbgVal (ctxId t c) (s.fget (TILE_DBG_SEL t) TILE_DBG_SEL_INDEX)
  else 0

/-- A word of the event log's window. -/
def State.evWord (s : State) (j : Nat) : W64 :=
  let r := Tab.look (fun _ => ({} : EvRec)) s.svc.evlog (j / 32)
  if j / 8 % 4 = 0 then r.at' else if j / 8 % 4 = 1 then r.word1 else if j / 8 % 4 = 2 then r.word2 else r.word3

/-- The 64-bit word of control space at an offset, as it reads. Registers whose value other state gives are views of it. -/
def State.readCtl (s : State) (o : Nat) : W64 :=
  let w := o / 0x100000
  let j := o % 0x100000
  if w < 0x100 ∧ 0x80 ≤ j ∧ j ≤ 0x98 then s.tileDbg w j
  else if o = KNOT_STAT then s.knotStat
  else if KNOT_ENTRY 0 ≤ o ∧ o < KNOT_ENTRY 16384 then s.knotEntry ((o - KNOT_ENTRY 0) / 32) (j / 8 % 4)
  else if o = MIG_STAT then s.migStat
  else if o = TIME_LANYARD then s.lanyard
  else if TIME_LCH_ENT0 0 ≤ o ∧ o < TIME_LCH_ENT0 16 then
    (if j % 16 = 0 then s.launchEnt0 ((o - TIME_LCH_ENT0 0) / 16) else s.launchEnt1 ((o - TIME_LCH_ENT0 0) / 16))
  else if w = 0x20F ∧ 0x40000 ≤ j ∧ j < 0x80000 then s.evWord (j - 0x40000)
  else if HBM_CH_STAT 0 ≤ o ∧ o < HBM_CH_STAT 256 ∧ (o - HBM_CH_STAT 0) % 0x40 = 0 then
    withBits (s.reg o) 15 0 (32768 - (s.freeIn ((o - HBM_CH_STAT 0) / 0x40)).length)
  else s.reg o

/-! ### The test access port (R385) -/

/-- An instruction in the TAP, and what its data register holds. -/
def State.tap (s : State) (ir : Nat) (dr : W64) : State := { s with sec := { s.sec with tapIr := ir, tapDr := dr } }

/-- The bypass register. -/
def State.tapBypass (s : State) (ir : Nat) : State := s.tap ir 0

/-- BYPASS. -/
def execBypass (s : State) : Out := done s (s.tapBypass 0xFF)

/-- IDCODE. -/
def execIdcode (s : State) : Out := done s (s.tap 0x01 0x174905E3)

/-- Whether boundary scan is available. -/
def State.scanOpen (s : State) : Bool := s.lifecycle == 0 || s.lifecycle == 3 || s.debugLevel == 2

/-- A boundary-scan instruction: what the boundary register captures is not stated. -/
def State.boundary (s : State) (ir : Nat) : State :=
  if s.scanOpen then State.tap { s with free := s.free + 1 } ir (Config.freeWord s.free) else s.tapBypass ir

/-- EXTEST. -/
def execExtest (s : State) : Out := done s (s.boundary 0x00)
/-- SAMPLE/PRELOAD. -/
def execSamplePreload (s : State) : Out := done s (s.boundary 0x02)

/-- Whether a KNOT_ENTRY belongs to a glove's knot. -/
def State.gloveEntry (s : State) (o : Nat) : Bool :=
  decide (KNOT_ENTRY 0 ≤ o ∧ o < KNOT_ENTRY 16384) && !(s.svcKnot ((o - KNOT_ENTRY 0) / 32))

/-- DBGRD (R380): a word of control space other than `SEC_` and the entries of gloves' knots, at D1 or D2. -/
def execDbgrd (off : W32) (s : State) : Out :=
  let o := off.toNat / 8 * 8
  if s.debugLevel = 0 then done s (s.tapBypass 0x10)
  else if o / 0x100000 = 0x20C ∨ s.gloveEntry o then done s (s.tap 0x10 0)
  else done s (s.tap 0x10 (s.readCtl o))

/-- DBGRW (R380): a word of memory or of control space other than `SEC_`, read or written, at D2. -/
def execDbgrw (a : BitVec 57) (v : Option W64) (s : State) : Out :=
  let n := a.toNat / 8 * 8
  let o := n - 0xF10000000000
  let ctl := decide (0xF10000000000 ≤ n ∧ o < 2 ^ 32 ∧ o / 0x100000 ≠ 0x20C)
  if s.debugLevel ≠ 2 then done s (s.tapBypass 0x11)
  else match v with
    | none =>
      if n < localSize then done s (s.tap 0x11 (BitVec.ofNat 64 (s.rd n 8)))
      else if ctl then done s (s.tap 0x11 (s.readCtl o))
      else done s (s.tap 0x11 0)
    | some x =>
      let t := s.tap 0x11 x
      if n < localSize then done s (t.wr n 8 x.toNat)
      else if ctl then done s (t.ctlWrite o 3 x)
      else done s t

end Sys2Proof.Machine
end

