-- ==== Sys2Proof/Machine/Answers.lean ====
section
/-! DEFINITION. ACK and NAK packets: each goes to the engine that sent the packet it answers (R255). -/

namespace Sys2Proof.Machine

open Reg

/-- A circuit of this device by its CID. -/
def State.ownCirc (s : State) (cid : W32) : Option OwnCirc := s.rt.circs.find? (fun c => c.cid == cid)

/-- The circuit whose setup was acknowledged is usable (R268). -/
def State.circAck (s : State) (cid : W32) : State :=
  let up := fun (c : OwnCirc) => if c.cid = cid then { c with usable := true } else c
  { s with rt := { s.rt with circs := s.rt.circs.map up } }

/-- The glove slot that an answer's ORIG_GLOVE and ORIG_EPOCH name. -/
def State.origSlot (s : State) (p : Packet) : Option Nat := s.activeSlot (bits (p.word 1) 15 0) (bits (p.word 1) 31 16)

/-- An ACK for the glove in slot n. -/
def State.acked (s : State) (p : Packet) (n : Nat) : State :=
  let ty := bits (p.word 0) 5 0
  if ty = tSTORE ∨ ty = tATOMIC then s.podAck p n ty
  else if ty = tPUT then s.putAck p n
  else if ty = tCIRC_SETUP then s.circAck (BitVec.ofNat 32 (bits (p.word 2) 31 0))
  else s

/-- A NAK for the glove in slot n. -/
def State.naked (s : State) (p : Packet) (n : Nat) : State :=
  let ty := bits (p.word 0) 13 8
  let code := bits (p.word 0) 7 0
  let src := BitVec.ofNat 24 (bits (p.word 1) 55 32)
  let w3 := p.word 3
  if ty = tSTORE ∨ ty = tLOAD_REQ ∨ ty = tATOMIC then s.podNak p n ty
  else if ty = tPUT ∨ ty = tGET_REQ then s.transferNak p n ty
  else if ty = tSPLICE ∨ ty = tRETURN then s.spliceNak p n
  else if ty = tCOLL ∨ ty = tCOUNTS then s.busyNak p n ty
  else if ty = tKNOT_OP then
    (s.fset (KNOT_GLOVE_CTL n) KNOT_GLOVE_CTL_REMOTE_NAK code).event 0x0601 0 n
      ((p.lostTo.getD src).toNat * 2 ^ 14 + bits w3 29 16) code
  else if ty = tCIRC_SETUP then
    (match s.ownCirc (BitVec.ofNat 32 (bits w3 31 0)) with
    | some c => s.tearOwn c
    | none => s)
  else if ty = tLAUNCH then
    (if code = nakSTALE_GLOVE ∧ bits w3 3 0 = 0 then s.launchNak n src (some (BitVec.ofNat 32 (bits w3 63 32))) else s)
  else if ty = tHITCH_CAST then
    (if code = nakSTALE_GLOVE ∧ (List.range 16).any (fun i =>
        (s.launch i).state == 1 && (s.launch i).glove == n && (s.launch i).kids.any (fun c => c.dev == src && !c.acked && !c.gone))
      then s.launchNak n src none
      else (s.podErr n (bits (p.word 2) 56 0) src code).event 0x0202 0 n code src.toNat)
  else if ty = tMGMT then s.ownNak (bits (p.word 1) 15 0) (bits (p.word 2) 56 0) code
  else s

/-- Whether an answer has its layout: LEN 32, and 0 in every bit without a field. -/
def ackOk (p : Packet) : Bool :=
  p.len == 32 && bits (p.word 0) 63 32 == 0 && bits (p.word 0) 15 9 == 0 && bits (p.word 1) 63 32 == 0
def nakOk (p : Packet) : Bool :=
  p.len == 32 && bits (p.word 0) 63 48 == 0 && bits (p.word 0) 31 19 == 0 && bits (p.word 1) 63 56 == 0
    && bits (p.word 2) 63 57 == 0

/-- ACK_RECEIVE (R255). -/
def execAckReceive (x : Rx) (s : State) : Out :=
  match s.take x tACK with
  | (t, some (p, _)) =>
    if ackOk p then
      (match t.origSlot p with
      | some n => done s (t.acked p n)
      | none => done s t)
    else done s (t.malformed x p)
  | (t, none) => done s t

/-- NAK_RECEIVE (R255): handed on only while the glove is ACTIVE under its epoch; otherwise counted and discarded. -/
def execNakReceive (x : Rx) (s : State) : Out :=
  match s.take x tNAK with
  | (t, some (p, _)) =>
    if nakOk p then
      (match t.origSlot p with
      | some n => done s (t.naked p n)
      | none => done s { t with rt := { t.rt with naksLost := t.rt.naksLost + 1 } })
    else done s (t.malformed x p)
  | (t, none) => done s t

end Sys2Proof.Machine
end

