-- ==== Sys2Proof/Machine/Dispatch.lean ====
section
/-! DEFINITION. The dispatch: each command to its meaning. -/

namespace Sys2Proof.Machine

def exec (i : Instr) (s : State) : Host.Outcome State Fault Refusal :=
  match i with
  | .br k w => Sys2Proof.Machine.execBr k w s
  | .brc k w => Sys2Proof.Machine.execBrc k w s
  | .loop k w => Sys2Proof.Machine.execLoop k w s
  | .yield k w => Sys2Proof.Machine.execYield k w s
  | .halt k w => Sys2Proof.Machine.execHalt k w s
  | .trap k w => Sys2Proof.Machine.execTrap k w s
  | .add k w => Sys2Proof.Machine.execAdd k w s
  | .sub k w => Sys2Proof.Machine.execSub k w s
  | .mul k w => Sys2Proof.Machine.execMul k w s
  | .and k w => Sys2Proof.Machine.execAnd k w s
  | .or k w => Sys2Proof.Machine.execOr k w s
  | .xor k w => Sys2Proof.Machine.execXor k w s
  | .shl k w => Sys2Proof.Machine.execShl k w s
  | .shr k w => Sys2Proof.Machine.execShr k w s
  | .cmp k w => Sys2Proof.Machine.execCmp k w s
  | .movi k w => Sys2Proof.Machine.execMovi k w s
  | .tdset k w => Sys2Proof.Machine.execTdset k w s
  | .tdadv k w => Sys2Proof.Machine.execTdadv k w s
  | .ldt k w => Sys2Proof.Machine.execLdt k w s
  | .stt k w => Sys2Proof.Machine.execStt k w s
  | .moveComplete k j => Sys2Proof.Machine.execMoveComplete k j s
  | .stream k w => Sys2Proof.Machine.execStream k w s
  | .pref k w => Sys2Proof.Machine.execPref k w s
  | .mma k w => Sys2Proof.Machine.execMma k w s
  | .mmaNm k w => Sys2Proof.Machine.execMmaNm k w s
  | .mmaComplete t f => Sys2Proof.Machine.execMmaComplete t f s
  | .accz k w => Sys2Proof.Machine.execAccz k w s
  | .accmv k w => Sys2Proof.Machine.execAccmv k w s
  | .vop k w => Sys2Proof.Machine.execVop k w s
  | .vbc k w => Sys2Proof.Machine.execVbc k w s
  | .vred k w => Sys2Proof.Machine.execVred k w s
  | .vcvt k w => Sys2Proof.Machine.execVcvt k w s
  | .vxa k w => Sys2Proof.Machine.execVxa k w s
  | .laceLd k w => Sys2Proof.Machine.execLaceLd k w s
  | .laceRun k w => Sys2Proof.Machine.execLaceRun k w s
  | .vecInstrComplete t f => Sys2Proof.Machine.execVecInstrComplete t f s
  | .spmm k w => Sys2Proof.Machine.execSpmm k w s
  | .spenc k w => Sys2Proof.Machine.execSpenc k w s
  | .spdec k w => Sys2Proof.Machine.execSpdec k w s
  | .spmInstrComplete t f => Sys2Proof.Machine.execSpmInstrComplete t f s
  | .sieve k w => Sys2Proof.Machine.execSieve k w s
  | .sieveComplete t => Sys2Proof.Machine.execSieveComplete t s
  | .sieveFl k w => Sys2Proof.Machine.execSieveFl k w s
  | .routeGo k w => Sys2Proof.Machine.execRouteGo k w s
  | .routeRet k w => Sys2Proof.Machine.execRouteRet k w s
  | .routeStat k w => Sys2Proof.Machine.execRouteStat k w s
  | .kwait k w => Sys2Proof.Machine.execKwait k w s
  | .kwaitTimeout k => Sys2Proof.Machine.execKwaitTimeout k s
  | .karrive k w => Sys2Proof.Machine.execKarrive k w s
  | .kadd k w => Sys2Proof.Machine.execKadd k w s
  | .kset k w => Sys2Proof.Machine.execKset k w s
  | .kat k w => Sys2Proof.Machine.execKat k w s
  | .katWake k => Sys2Proof.Machine.execKatWake k s
  | .palloc k w => Sys2Proof.Machine.execPalloc k w s
  | .phold k w => Sys2Proof.Machine.execPhold k w s
  | .pfree k w => Sys2Proof.Machine.execPfree k w s
  | .ld k w => Sys2Proof.Machine.execLd k w s
  | .st k w => Sys2Proof.Machine.execSt k w s
  | .atom k w => Sys2Proof.Machine.execAtom k w s
  | .put k w => Sys2Proof.Machine.execPut k w s
  | .get k w => Sys2Proof.Machine.execGet k w s
  | .fence k w => Sys2Proof.Machine.execFence k w s
  | .csrr k w => Sys2Proof.Machine.execCsrr k w s
  | .csrw k w => Sys2Proof.Machine.execCsrw k w s
  | .evt k w => Sys2Proof.Machine.execEvt k w s
  | .perf k w => Sys2Proof.Machine.execPerf k w s
  | .admitGraph n => Sys2Proof.Machine.execAdmitGraph n s
  | .admitStall n => Sys2Proof.Machine.execAdmitStall n s
  | .taskMaxrunExceeded q => Sys2Proof.Machine.execTaskMaxrunExceeded q s
  | .taskWatchdog q => Sys2Proof.Machine.execTaskWatchdog q s
  | .knotOpReceive x => Sys2Proof.Machine.execKnotOpReceive x s
  | .create n => Sys2Proof.Machine.execCreate n s
  | .teardown n => Sys2Proof.Machine.execTeardown n s
  | .gloveDrainDone n => Sys2Proof.Machine.execGloveDrainDone n s
  | .gloveScrubDone n => Sys2Proof.Machine.execGloveScrubDone n s
  | .knotRel i1 v core => Sys2Proof.Machine.execKnotRel i1 v core s
  | .knotSvcWrite v => Sys2Proof.Machine.execKnotSvcWrite v s
  | .twinDigestReceive x => Sys2Proof.Machine.execTwinDigestReceive x s
  | .twinRingReceive x => Sys2Proof.Machine.execTwinRingReceive x s
  | .twinDigestMissing q => Sys2Proof.Machine.execTwinDigestMissing q s
  | .twinDigestDiscard j => Sys2Proof.Machine.execTwinDigestDiscard j s
  | .tileTestStart t => Sys2Proof.Machine.execTileTestStart t s
  | .tileSelfTestDone t map => Sys2Proof.Machine.execTileSelfTestDone t map s
  | .tileCtlWrite t src v => Sys2Proof.Machine.execTileCtlWrite t src v s
  | .brmListIntake e => Sys2Proof.Machine.execBrmListIntake e s
  | .brmRankingDone e => Sys2Proof.Machine.execBrmRankingDone e s
  | .countsPartReceive x => Sys2Proof.Machine.execCountsPartReceive x s
  | .homeAdmit e => Sys2Proof.Machine.execHomeAdmit e s
  | .grantPartReceive x => Sys2Proof.Machine.execGrantPartReceive x s
  | .sourceReroute e => Sys2Proof.Machine.execSourceReroute e s
  | .sourceSort e => Sys2Proof.Machine.execSourceSort e s
  | .brmStepTimeout e => Sys2Proof.Machine.execBrmStepTimeout e s
  | .brmDirNextepWrite n v => Sys2Proof.Machine.execBrmDirNextepWrite n v s
  | .spliceSendFragment e => Sys2Proof.Machine.execSpliceSendFragment e s
  | .spliceRowReceive x => Sys2Proof.Machine.execSpliceRowReceive x s
  | .spliceAbortReceive x => Sys2Proof.Machine.execSpliceAbortReceive x s
  | .returnSendFragment e => Sys2Proof.Machine.execReturnSendFragment e s
  | .returnResultReceive x => Sys2Proof.Machine.execReturnResultReceive x s
  | .spliceLandingTimeout e => Sys2Proof.Machine.execSpliceLandingTimeout e s
  | .returnArrivalTimeout e => Sys2Proof.Machine.execReturnArrivalTimeout e s
  | .migTlbinvGo v => Sys2Proof.Machine.execMigTlbinvGo v s
  | .migPromote page => Sys2Proof.Machine.execMigPromote page s
  | .pin die page => Sys2Proof.Machine.execPin die page s
  | .unpin page => Sys2Proof.Machine.execUnpin page s
  | .discard page => Sys2Proof.Machine.execDiscard page s
  | .vacate c => Sys2Proof.Machine.execVacate c s
  | .resume c => Sys2Proof.Machine.execResume c s
  | .migCfgWrite v => Sys2Proof.Machine.execMigCfgWrite v s
  | .streamFill n => Sys2Proof.Machine.execStreamFill n s
  | .hbmChannelDrain c => Sys2Proof.Machine.execHbmChannelDrain c s
  | .hbmChannelRetrainDone c ok => Sys2Proof.Machine.execHbmChannelRetrainDone c ok s
  | .hbmTgStart c => Sys2Proof.Machine.execHbmTgStart c s
  | .hbmTgStop c => Sys2Proof.Machine.execHbmTgStop c s
  | .hbmTgRunDone c errors lanes => Sys2Proof.Machine.execHbmTgRunDone c errors lanes s
  | .hbmQosWrite src v => Sys2Proof.Machine.execHbmQosWrite src v s
  | .poolInit c => Sys2Proof.Machine.execPoolInit c s
  | .poolInitDone c => Sys2Proof.Machine.execPoolInitDone c s
  | .poolRelease c => Sys2Proof.Machine.execPoolRelease c s
  | .poolReset c => Sys2Proof.Machine.execPoolReset c s
  | .poolSvcFree c v => Sys2Proof.Machine.execPoolSvcFree c v s
  | .nvsDieTimeout die cmd => Sys2Proof.Machine.execNvsDieTimeout die cmd s
  | .linkFrameReceive p f => Sys2Proof.Machine.execLinkFrameReceive p f s
  | .portLaneFail p lane => Sys2Proof.Machine.execPortLaneFail p lane s
  | .portRetrainDone p => Sys2Proof.Machine.execPortRetrainDone p s
  | .portRetrainTimeout p => Sys2Proof.Machine.execPortRetrainTimeout p s
  | .portRxSilence p => Sys2Proof.Machine.execPortRxSilence p s
  | .portEnable p src => Sys2Proof.Machine.execPortEnable p src s
  | .portDisable p src => Sys2Proof.Machine.execPortDisable p src s
  | .portFence p src => Sys2Proof.Machine.execPortFence p src s
  | .portRelease p src => Sys2Proof.Machine.execPortRelease p src s
  | .portFiArm p v => Sys2Proof.Machine.execPortFiArm p v s
  | .portFiStop p => Sys2Proof.Machine.execPortFiStop p s
  | .fiDelayExpire p => Sys2Proof.Machine.execFiDelayExpire p s
  | .portOutputSend p => Sys2Proof.Machine.execPortOutputSend p s
  | .packetTransit x => Sys2Proof.Machine.execPacketTransit x s
  | .packetEscape p vc => Sys2Proof.Machine.execPacketEscape p vc s
  | .syncDrainExpire slot => Sys2Proof.Machine.execSyncDrainExpire slot s
  | .packetBadTypeReceive x => Sys2Proof.Machine.execPacketBadTypeReceive x s
  | .storeReceive x => Sys2Proof.Machine.execStoreReceive x s
  | .loadReqReceive x => Sys2Proof.Machine.execLoadReqReceive x s
  | .loadRspReceive x => Sys2Proof.Machine.execLoadRspReceive x s
  | .atomicReceive x => Sys2Proof.Machine.execAtomicReceive x s
  | .putReceive x => Sys2Proof.Machine.execPutReceive x s
  | .getReqReceive x => Sys2Proof.Machine.execGetReqReceive x s
  | .getRspReceive x => Sys2Proof.Machine.execGetRspReceive x s
  | .ackReceive x => Sys2Proof.Machine.execAckReceive x s
  | .nakReceive x => Sys2Proof.Machine.execNakReceive x s
  | .cnpReceive x => Sys2Proof.Machine.execCnpReceive x s
  | .cnpSend dev => Sys2Proof.Machine.execCnpSend dev s
  | .rateLimitRecover dev => Sys2Proof.Machine.execRateLimitRecover dev s
  | .probeReceive x => Sys2Proof.Machine.execProbeReceive x s
  | .fabProbe v => Sys2Proof.Machine.execFabProbe v s
  | .circSetupReceive x => Sys2Proof.Machine.execCircSetupReceive x s
  | .circTearReceive x => Sys2Proof.Machine.execCircTearReceive x s
  | .circSetupTimeout cid => Sys2Proof.Machine.execCircSetupTimeout cid s
  | .circRefresh cid => Sys2Proof.Machine.execCircRefresh cid s
  | .circLeaseExpire p s1 => Sys2Proof.Machine.execCircLeaseExpire p s1 s
  | .hitchCastReceive x => Sys2Proof.Machine.execHitchCastReceive x s
  | .rgnCommit i1 => Sys2Proof.Machine.execRgnCommit i1 s
  | .rgnClear i1 => Sys2Proof.Machine.execRgnClear i1 s
  | .rgnTransfer i1 owner knot => Sys2Proof.Machine.execRgnTransfer i1 owner knot s
  | .rgnTransferFlushed i1 => Sys2Proof.Machine.execRgnTransferFlushed i1 s
  | .ownXferReceive x => Sys2Proof.Machine.execOwnXferReceive x s
  | .ownGrantReceive x => Sys2Proof.Machine.execOwnGrantReceive x s
  | .ownDoneReceive x => Sys2Proof.Machine.execOwnDoneReceive x s
  | .ownXferTimeout i1 => Sys2Proof.Machine.execOwnXferTimeout i1 s
  | .podRspTimeout tag => Sys2Proof.Machine.execPodRspTimeout tag s
  | .transferRspTimeout xid => Sys2Proof.Machine.execTransferRspTimeout xid s
  | .collSubmit addr => Sys2Proof.Machine.execCollSubmit addr s
  | .collStart h => Sys2Proof.Machine.execCollStart h s
  | .collContribReceive x => Sys2Proof.Machine.execCollContribReceive x s
  | .collResultReceive x => Sys2Proof.Machine.execCollResultReceive x s
  | .collFailReceive x => Sys2Proof.Machine.execCollFailReceive x s
  | .collRetryReceive x => Sys2Proof.Machine.execCollRetryReceive x s
  | .collArriveReceive x => Sys2Proof.Machine.execCollArriveReceive x s
  | .collWindowReadout h => Sys2Proof.Machine.execCollWindowReadout h s
  | .collReadbackDone h good => Sys2Proof.Machine.execCollReadbackDone h good s
  | .collTimeout h => Sys2Proof.Machine.execCollTimeout h s
  | .nakBusyRetry j => Sys2Proof.Machine.execNakBusyRetry j s
  | .alltoallvCountsReceive x => Sys2Proof.Machine.execAlltoallvCountsReceive x s
  | .alltoallvGrantReceive x => Sys2Proof.Machine.execAlltoallvGrantReceive x s
  | .timeSyncReceive x => Sys2Proof.Machine.execTimeSyncReceive x s
  | .timeReqReceive x => Sys2Proof.Machine.execTimeReqReceive x s
  | .timeRespReceive x => Sys2Proof.Machine.execTimeRespReceive x s
  | .ptpMessageReceive m => Sys2Proof.Machine.execPtpMessageReceive m s
  | .timeLchGo addr => Sys2Proof.Machine.execTimeLchGo addr s
  | .launchPrepareReceive x => Sys2Proof.Machine.execLaunchPrepareReceive x s
  | .launchHoldReceive x => Sys2Proof.Machine.execLaunchHoldReceive x s
  | .launchAckReceive x => Sys2Proof.Machine.execLaunchAckReceive x s
  | .launchCommitReceive x => Sys2Proof.Machine.execLaunchCommitReceive x s
  | .launchCancelReceive x => Sys2Proof.Machine.execLaunchCancelReceive x s
  | .launchQueryReceive x => Sys2Proof.Machine.execLaunchQueryReceive x s
  | .launchReady l => Sys2Proof.Machine.execLaunchReady l s
  | .launchReachTimeout l j => Sys2Proof.Machine.execLaunchReachTimeout l j s
  | .launchDeadline l => Sys2Proof.Machine.execLaunchDeadline l s
  | .launchQueryTimer l => Sys2Proof.Machine.execLaunchQueryTimer l s
  | .launchRelease l => Sys2Proof.Machine.execLaunchRelease l s
  | .svcCoreRefresh core target => Sys2Proof.Machine.execSvcCoreRefresh core target s
  | .svcWdogRefresh core => Sys2Proof.Machine.execSvcWdogRefresh core s
  | .ethTxFrame m r => Sys2Proof.Machine.execEthTxFrame m r s
  | .ethRxFrame m f => Sys2Proof.Machine.execEthRxFrame m f s
  | .ethRingEnable m d r v => Sys2Proof.Machine.execEthRingEnable m d r v s
  | .sensorSample q => Sys2Proof.Machine.execSensorSample q s
  | .powerCapTick est => Sys2Proof.Machine.execPowerCapTick est s
  | .avsReadback rail mv => Sys2Proof.Machine.execAvsReadback rail mv s
  | .railEnableStep vout => Sys2Proof.Machine.execRailEnableStep vout s
  | .pmbusPoll rail r => Sys2Proof.Machine.execPmbusPoll rail r s
  | .ctrClear window => Sys2Proof.Machine.execCtrClear window s
  | .arbitratedControlWrite off src v => Sys2Proof.Machine.execArbitratedControlWrite off src v s
  | .svcArbRel src v => Sys2Proof.Machine.execSvcArbRel src v s
  | .nonce core => Sys2Proof.Machine.execNonce core s
  | .quote core => Sys2Proof.Machine.execQuote core s
  | .extend core => Sys2Proof.Machine.execExtend core s
  | .dbgOpen core => Sys2Proof.Machine.execDbgOpen core s
  | .dbgClose core => Sys2Proof.Machine.execDbgClose core s
  | .cfgWrite core good => Sys2Proof.Machine.execCfgWrite core good s
  | .stage core => Sys2Proof.Machine.execStage core s
  | .activate core => Sys2Proof.Machine.execActivate core s
  | .activateUnitSwitch unit => Sys2Proof.Machine.execActivateUnitSwitch unit s
  | .verify core => Sys2Proof.Machine.execVerify core s
  | .lifecycle core => Sys2Proof.Machine.execLifecycle core s
  | .jread core => Sys2Proof.Machine.execJread core s
  | .exported core => Sys2Proof.Machine.execExported core s
  | .mboxReservedCmd core cmd => Sys2Proof.Machine.execMboxReservedCmd core cmd s
  | .secWriteViolation off src => Sys2Proof.Machine.execSecWriteViolation off src s
  | .bootUartImage image => Sys2Proof.Machine.execBootUartImage image s
  | .tileDbgHalt t c => Sys2Proof.Machine.execTileDbgHalt t c s
  | .tileDbgStep t c => Sys2Proof.Machine.execTileDbgStep t c s
  | .tileDbgResume t c => Sys2Proof.Machine.execTileDbgResume t c s
  | .tileDbgValWrite t v => Sys2Proof.Machine.execTileDbgValWrite t v s
  | .dbgrd off => Sys2Proof.Machine.execDbgrd off s
  | .dbgrw a v => Sys2Proof.Machine.execDbgrw a v s
  | .pwrReqP0 src => Sys2Proof.Machine.execPwrReqP0 src s
  | .pwrReqP2 src => Sys2Proof.Machine.execPwrReqP2 src s
  | .pwrReqP3 src => Sys2Proof.Machine.execPwrReqP3 src s
  | .pwrReqP4 src => Sys2Proof.Machine.execPwrReqP4 src s
  | .softwareFullReset src => Sys2Proof.Machine.execSoftwareFullReset src s
  | .resetRelease r => Sys2Proof.Machine.execResetRelease r s
  | .rstBlockTile t => Sys2Proof.Machine.execRstBlockTile t s
  | .rstBlockPort p => Sys2Proof.Machine.execRstBlockPort p s
  | .rstBlockHbmChannel c => Sys2Proof.Machine.execRstBlockHbmChannel c s
  | .rstBlockBrimir e => Sys2Proof.Machine.execRstBlockBrimir e s
  | .sagDetect cause => Sys2Proof.Machine.execSagDetect cause s
  | .registerWrite off src v => Sys2Proof.Machine.execRegisterWrite off src v s
  | .pmbAlert words stays => Sys2Proof.Machine.execPmbAlert words stays s
  | .hbmParityError c retries => Sys2Proof.Machine.execHbmParityError c retries s
  | .taskDispatch => Sys2Proof.Machine.execTaskDispatch s
  | .knotJobctlClear => Sys2Proof.Machine.execKnotJobctlClear s
  | .migTlbinvDone => Sys2Proof.Machine.execMigTlbinvDone s
  | .migAgeTick => Sys2Proof.Machine.execMigAgeTick s
  | .timeSyncTick => Sys2Proof.Machine.execTimeSyncTick s
  | .timeHoldover => Sys2Proof.Machine.execTimeHoldover s
  | .ppsInEdge => Sys2Proof.Machine.execPpsInEdge s
  | .ppsOutEdge => Sys2Proof.Machine.execPpsOutEdge s
  | .utcSourceSilent => Sys2Proof.Machine.execUtcSourceSilent s
  | .svcCoreWatchdog core => Sys2Proof.Machine.execSvcCoreWatchdog core s
  | .svcCoreCacheUe core => Sys2Proof.Machine.execSvcCoreCacheUe core s
  | .serviceWatchdog => Sys2Proof.Machine.execServiceWatchdog s
  | .ethLinkDown m => Sys2Proof.Machine.execEthLinkDown m s
  | .ethPfcStorm prio => Sys2Proof.Machine.execEthPfcStorm prio s
  | .ethFlap m => Sys2Proof.Machine.execEthFlap m s
  | .ethLinkRetry m => Sys2Proof.Machine.execEthLinkRetry m s
  | .thermalRequestRepeat => Sys2Proof.Machine.execThermalRequestRepeat s
  | .telemetryRecord => Sys2Proof.Machine.execTelemetryRecord s
  | .droopTrip die => Sys2Proof.Machine.execDroopTrip die s
  | .droopRecover die => Sys2Proof.Machine.execDroopRecover die s
  | .avsReadbackTimeout rail mv => Sys2Proof.Machine.execAvsReadbackTimeout rail mv s
  | .railPgoodTimeout => Sys2Proof.Machine.execRailPgoodTimeout s
  | .railPgoodLost rail => Sys2Proof.Machine.execRailPgoodLost rail s
  | .pmbusBusStuck scl => Sys2Proof.Machine.execPmbusBusStuck scl s
  | .arbRoundEnd => Sys2Proof.Machine.execArbRoundEnd s
  | .dbgD2GlovesGone => Sys2Proof.Machine.execDbgD2GlovesGone s
  | .debugSessionExpire => Sys2Proof.Machine.execDebugSessionExpire s
  | .nonceExpire => Sys2Proof.Machine.execNonceExpire s
  | .journalCheckpoint => Sys2Proof.Machine.execJournalCheckpoint s
  | .journalNvsWrite => Sys2Proof.Machine.execJournalNvsWrite s
  | .securityViolation => Sys2Proof.Machine.execSecurityViolation s
  | .bypass => Sys2Proof.Machine.execBypass s
  | .idcode => Sys2Proof.Machine.execIdcode s
  | .extest => Sys2Proof.Machine.execExtest s
  | .samplePreload => Sys2Proof.Machine.execSamplePreload s
  | .trstN => Sys2Proof.Machine.execTrstN s
  | .p2TileGate => Sys2Proof.Machine.execP2TileGate s
  | .p2Autowake => Sys2Proof.Machine.execP2Autowake s
  | .powerTransitionDone => Sys2Proof.Machine.execPowerTransitionDone s
  | .porstN => Sys2Proof.Machine.execPorstN s
  | .sysrstN => Sys2Proof.Machine.execSysrstN s
  | .rstBlockColl => Sys2Proof.Machine.execRstBlockColl s
  | .pllUnlock i1 => Sys2Proof.Machine.execPllUnlock i1 s
  | .pllRelock i1 => Sys2Proof.Machine.execPllRelock i1 s
  | .sagSaveComplete => Sys2Proof.Machine.execSagSaveComplete s
  | .sagEnergyShort => Sys2Proof.Machine.execSagEnergyShort s
  | .sagRestart => Sys2Proof.Machine.execSagRestart s
  | .pwrwarnGlitch => Sys2Proof.Machine.execPwrwarnGlitch s
  | .fabrefClkLost e => Sys2Proof.Machine.execFabrefClkLost e s
  | .ethrefClkLost => Sys2Proof.Machine.execEthrefClkLost s
  | .ethLinkUp m => Sys2Proof.Machine.execEthLinkUp m s
  | .ethHolddownEnd m => Sys2Proof.Machine.execEthHolddownEnd m s
  | .ethPfcIgnoreEnd prio => Sys2Proof.Machine.execEthPfcIgnoreEnd prio s
  | .pmbusStaleEnd rail => Sys2Proof.Machine.execPmbusStaleEnd rail s
  | .pmbAlertUnmask => Sys2Proof.Machine.execPmbAlertUnmask s

end Sys2Proof.Machine
end

