-- ==== Sys2Proof/Machine/Idle.lean ====
section
/-! DEFINITION. What the T9 does when no command waits: one tick of TCLK (assumption 2). -/

namespace Sys2Proof.Machine

/-- Takes the events of every tile's queue into the log. -/
def State.drainTiles (s : State) : State :=
  s.tiles.foldl (fun (s : State) e => if e.2.evq.isEmpty then s else s.drainEvents e.1) s

/-- One tick of TCLK: the lanyard advances, the tiles' events reach the log, subjects of twin mode whose digests have come
are compared, and a debug session whose gloves have gone ends. In SAVE every clock stands still (R406). -/
def State.tick (s : State) : State :=
  if s.powerState = 5 then s else s.timeTick.drainTiles.twinSweep.debugTick

end Sys2Proof.Machine
end

