-- ==== Sys2Proof/Machine/Pins.lean ====
section
/-! DEFINITION. The lands of the package and what each belongs to (R414 to R416), the rails at boot (R417), and the
sideband pins until firmware configures them (R402). None of it changes as the T9 runs. -/

namespace Sys2Proof.Machine

/-- The rails (R414, R417). -/
inductive Rail where
  | vcoreC (n : Nat) | vcoreH | vcoreP | vhbm | vio | vsvc | vnvs
  deriving DecidableEq, Repr

/-- The sideband pins of R416, with their numbers where the table gives a row several. -/
inductive Pin where
  | vrEn (n : Nat) | vrPgood (n : Nat) | porstN | sysrstN | pwrwarnN | holdMon | thermtripN | hotwarnN | ppsIn | ppsOut
  | tck | tms | tdi | tdo | trstN | uartTx | uartRx | bootsel (n : Nat) | avsClk | avsMdata | avsSdata | pmbScl | pmbSda
  | pmbAlertN | ethTx (m l : Nat) (neg : Bool) | ethRx (m l : Nat) (neg : Bool) | sysref (neg : Bool)
  | fabref (n : Nat) (neg : Bool) | ethref (neg : Bool) | sense (r : Rail) (neg : Bool)
  deriving DecidableEq, Repr

/-- What a land belongs to (R414): a port's lane, a sideband pin, a test land, a rail, or ground. -/
inductive LandUse where
  | tx (port lane : Nat) (neg : Bool) | rx (port lane : Nat) (neg : Bool) | pin (p : Pin) | test (n : Nat)
  | power (r : Rail) | gnd
  deriving DecidableEq, Repr

/-- The lane land of R415 at row k from the port's edge, for ports from `first` on. -/
def laneAt (first k c : Nat) : Option LandUse :=
  let q := (c - 2) / 7
  if k % 2 = 1 ∧ k ≤ 7 ∧ 2 ≤ c ∧ q < 16 then
    match (c - 2) % 7 with
    | 0 => some (.tx (first + q) (k / 2) false)
    | 1 => some (.tx (first + q) (k / 2) true)
    | 3 => some (.rx (first + q) (k / 2) false)
    | 4 => some (.rx (first + q) (k / 2) true)
    | _ => none
  else none

/-- The pins of R416 on columns 1 and 2. -/
def pinLow (r c : Nat) : Option Pin :=
  if 41 ≤ r ∧ r ≤ 48 then some (if c = 1 then .vrEn (r - 41) else .vrPgood (r - 41))
  else match r, c with
    | 50, 1 => some .porstN
    | 50, _ => some .sysrstN
    | 51, 1 => some .pwrwarnN
    | 51, _ => some .holdMon
    | 52, 1 => some .thermtripN
    | 52, _ => some .hotwarnN
    | 53, 1 => some .ppsIn
    | 53, _ => some .ppsOut
    | 54, 1 => some .tck
    | 54, _ => some .tms
    | 55, 1 => some .tdi
    | 55, _ => some .tdo
    | 56, 1 => some .trstN
    | 57, 1 => some .uartTx
    | 57, _ => some .uartRx
    | 58, _ => some (.bootsel (c - 1))
    | 59, 1 => some .avsClk
    | 59, _ => some .avsMdata
    | 60, 1 => some .avsSdata
    | 61, 1 => some .pmbScl
    | 61, _ => some .pmbSda
    | 62, 1 => some .pmbAlertN
    | _, _ => none

/-- The pins of R416 on columns 3 and 4: Ethernet lanes, reference clocks and sense pairs. -/
def pinHigh (r c : Nat) : Option Pin :=
  let neg := decide (c = 4)
  if 66 ≤ r ∧ r ≤ 73 then
    let m := (r - 66) / 4
    let l := (r - 66) % 4 / 2
    some (if r % 2 = 0 then .ethTx m l neg else .ethRx m l neg)
  else if 82 ≤ r ∧ r ≤ 85 then some (.sense (.vcoreC (r - 82)) neg)
  else match r with
    | 76 => some (.sysref neg)
    | 77 => some (.fabref 0 neg)
    | 78 => some (.fabref 1 neg)
    | 79 => some (.ethref neg)
    | 86 => some (.sense .vcoreH neg)
    | 87 => some (.sense .vcoreP neg)
    | _ => none

/-- The signal or test land at a place (R414 to R416). -/
def signalAt (r c : Nat) : Option LandUse :=
  match laneAt 0 r c with
  | some u => some u
  | none =>
    match laneAt 16 (113 - r) c with
    | some u => some u
    | none =>
      if c = 112 ∧ 41 ≤ r ∧ r ≤ 85 then some (.test (r - 41))
      else if c = 1 ∨ c = 2 then (pinLow r c).map .pin
      else if c = 3 ∨ c = 4 then (pinHigh r c).map .pin
      else none

/-- Whether a land lies in a rectangle of rows and columns. -/
def inBox (r c r0 r1 c0 c1 : Nat) : Bool := decide (r0 ≤ r ∧ r ≤ r1 ∧ c0 ≤ c ∧ c ≤ c1)

/-- The rail of the power region a land lies in: that of the H-die comes before those of the C-dies (R414). -/
def regionAt (r c : Nat) : Option Rail :=
  if inBox r c 41 72 41 72 then some .vcoreH
  else if inBox r c 17 56 25 56 then some (.vcoreC 0)
  else if inBox r c 17 56 57 88 then some (.vcoreC 1)
  else if inBox r c 57 96 25 56 then some (.vcoreC 2)
  else if inBox r c 57 96 57 88 then some (.vcoreC 3)
  else if inBox r c 9 16 9 104 || inBox r c 97 104 9 104 then some .vcoreP
  else if inBox r c 17 96 9 24 || inBox r c 17 96 89 104 then some .vhbm
  else if inBox r c 9 104 105 111 then some .vio
  else if inBox r c 9 40 5 8 then some .vsvc
  else if inBox r c 88 104 5 8 then some .vnvs
  else none

/-- What the land at row r, column c belongs to (R414). -/
def landAt (r c : Nat) : LandUse :=
  match signalAt r c with
  | some u => u
  | none =>
    match regionAt r c with
    | some v => if (r + c) % 2 = 0 then .power v else .gnd
    | none => .gnd

/-- A rail's voltage at boot, in millivolts (R417). -/
def bootMv : Rail → Nat
  | .vcoreC _ => 700
  | .vcoreH => 750
  | .vcoreP => 800
  | .vhbm => 1100
  | .vio => 1200
  | .vsvc => 1800
  | .vnvs => 2500

/-- The range of a rail that AVSBus sets, in millivolts; a fixed rail has its nominal voltage alone (R417). -/
def rangeMv : Rail → Nat × Nat
  | .vcoreC _ => (600, 850)
  | .vcoreH => (650, 850)
  | .vcoreP => (700, 900)
  | v => (bootMv v, bootMv v)

/-- How the T9 drives a sideband pin. -/
inductive Drive where
  | pullUp | floating | low | released | asserted
  deriving DecidableEq, Repr

/-- A sideband pin from the moment VSVC is valid until firmware configures it (R402): `trip` says that a THERMTRIP
holds THERMTRIP_N, `shifting` that the TAP shifts. `none` where R402 says nothing of the pin, and while TDO shifts. -/
def idleDrive (inReset trip shifting : Bool) : Pin → Option Drive
  | .vrEn _ => some .low
  | .vrPgood _ => some .floating
  | .holdMon => some .floating
  | .thermtripN => some (if !inReset && trip then .asserted else .released)
  | .hotwarnN => some .released
  | .pmbAlertN => some .released
  | .tdo => if shifting then none else some .floating
  | .porstN => some .pullUp
  | .sysrstN => some .pullUp
  | .pwrwarnN => some .pullUp
  | .ppsIn => some .pullUp
  | .ppsOut => some .pullUp
  | .tck => some .pullUp
  | .tms => some .pullUp
  | .tdi => some .pullUp
  | .trstN => some .pullUp
  | .uartTx => some .pullUp
  | .uartRx => some .pullUp
  | .bootsel _ => some .pullUp
  | .avsClk => some .pullUp
  | .avsMdata => some .pullUp
  | .avsSdata => some .pullUp
  | .pmbScl => some .pullUp
  | .pmbSda => some .pullUp
  | .ethTx _ _ _ => none
  | .ethRx _ _ _ => none
  | .sysref _ => none
  | .fabref _ _ => none
  | .ethref _ => none
  | .sense _ _ => none

end Sys2Proof.Machine
end

