-- ==== Sys2Proof/Safety.lean ====
section
/-! DEFINITION. What a safe run is: every step answers a next state. And the terms in which claims are stated: a command
carried out, an instruction that can issue, what a context, a tile and a state hold beside what an instruction writes. -/

namespace Sys2Proof.Machine

/-- A step from s goes on. -/
def Safe (s : State) : Prop := ∃ t, step s = .next t

/-- n steps from s all go on. -/
def SafeFor : Nat → State → Prop
  | 0, _ => True
  | n + 1, s => ∃ t, step s = .next t ∧ SafeFor n t

/-- The control registers' canonical form: offsets strictly rising, and no register listed at its reset value. -/
def ctlWf (c : Tab W64) : Bool := Tab.wf regReset c

/-- The canonical form of the slices' exact cells. -/
def sliceWf (c : Tab Cell) : Bool := Tab.wf (fun _ => {}) c

/-- The canonical form of the memory, the control registers and the slices' exact cells: keys strictly rising, and nothing
listed that reads as an unlisted key does. -/
def Canonical (s : State) : Prop := memWf s.mem = true ∧ ctlWf s.ctl = true ∧ sliceWf s.slice = true

/-! ### Terms of the claims -/

/-- Command c is carried out in s: exec answers a next state that keeps the queue of waiting commands and has P. -/
def Goes (c : Instr) (s : State) (P : State → Prop) : Prop := ∃ t, exec c s = .next t ∧ t.pending = s.pending ∧ P t

/-- The context may issue (R47), no queued instruction of it holds back the g-registers rs (R48), and the guard holds (R54). -/
def Ready (s : State) (k : CtxId) (rs : List Nat) (pg : BitVec 3) (pn : Bool) : Prop :=
  s.canIssue k = true ∧ s.gLocked k rs = false ∧ (s.ctx k).guard pg pn = true

/-- Ready for a Format A word. -/
def ReadyA (s : State) (k : CtxId) (w : FmtA) : Prop := Ready s k [w.rd.toNat, w.ra.toNat, w.rb.toNat] w.pg w.pn

/-- Ready for a Format B word. -/
def ReadyB (s : State) (k : CtxId) (w : FmtB) : Prop :=
  Ready s k [w.rd.toNat, w.ra.toNat, w.rb.toNat, w.rc.toNat, w.sd.toNat] w.pg w.pn

/-- What a context holds beside its g-registers, predicates, pc, loop stack, and the record of what it issued: its task and
glove, t- and v-registers, lace slot, control registers, moves, banks, waits and digests. -/
def Ctx.rest (x : Ctx) : Ctx := { x with g := [], p := [], pc := 0, loops := [], issued := 0, halt := .none, ring := [] }

/-- What a tile holds beside its contexts and the issue window: TLS, banks, cells, queues and counters. -/
def Tile.rest (v : Tile) : Tile := { v with ctxs := [], window := [], entry := [], lastIssued := 0 }

/-- What the machine holds beside its tiles and the queue of commands: memory, every control register, the knot engine, the
ports and router, the memory tiers, the hub, Brimir, time, the service complex, security and power. -/
def State.outside (s : State) : State := { s with pending := [], tiles := [] }

/-- Contexts other than k, and the storage of every tile, are as before. -/
def State.othersKept (s t : State) (k : CtxId) : Prop :=
  (∀ k', k' ≠ k → t.ctx k' = s.ctx k') ∧ ∀ n, (t.tile n).rest = (s.tile n).rest

/-- Nothing outside the tiles has changed, and no byte of memory. -/
def State.outsideKept (s t : State) : Prop := t.outside = s.outside ∧ ∀ a, t.byte a = s.byte a

/-- Nothing but registers, pc and loop stack of context k has changed. -/
def State.onlyRegs (s t : State) (k : CtxId) : Prop :=
  s.outsideKept t ∧ s.othersKept t k ∧ (t.ctx k).rest = (s.ctx k).rest

/-- The context has gone on to its next instruction: the pc and the loop stack as R67 says. -/
def Ctx.wentOn (x y : Ctx) : Prop := y.pc = (loopNext x.pc x.loops).1 ∧ y.loops = (loopNext x.pc x.loops).2

/-- g-registers after an instruction that writes v to gR and then a status to gSD (R58); g0 reads 0. -/
def Ctx.wrote (x y : Ctx) (r : Nat) (v : W64) (sd : Nat) (st : W64) : Prop :=
  (∀ q, y.gr q = if q = 0 then 0 else if q = sd then st else if q = r then v else x.gr q) ∧ ∀ q, y.pr q = x.pr q

/-- A Format B instruction has completed with ST_OK, its result v in gR, and gone on. -/
def State.completed (s t : State) (k : CtxId) (w : FmtB) (r : Nat) (v : W64) : Prop :=
  (s.ctx k).wrote (t.ctx k) r v w.sd.toNat 0 ∧ (s.ctx k).wentOn (t.ctx k)

/-- A trap of context k under its handler (R60): the four registers, the pc at TRAP_VEC, the loop stack set aside. -/
def State.handled (s t : State) (k : CtxId) (code info : Nat) : Prop :=
  let x := s.ctx k
  let y := t.ctx k
  y.cs 4 = x.pc.setWidth 64 ∧ y.cs 5 = BitVec.ofNat 64 info ∧ y.cs 3 = BitVec.ofNat 64 code
    ∧ y.pc = BitVec.ofNat 57 ((x.cs 2).toNat / 8 * 8) ∧ y.loopsAside = some x.loops ∧ y.loops = []
    ∧ (∀ q, y.gr q = x.gr q) ∧ ∀ q, y.pr q = x.pr q

end Sys2Proof.Machine
end

