-- ==== Sys2Proof/Certificates/Slice0/Obligations.lean ====
section
/-! DEFINITION. The statements for the provers, from the rules of the manual: what each command does where it has its
effect, what it leaves alone, and what holds of every state. -/

namespace Sys2Proof.Claims

open Machine Reg

/-! ### Scalar instructions (chapter 3) -/

/-- The second operand B of an ALU word: gRB, or IMM32 sign-extended. -/
def second (x : Ctx) (w : FmtA) : W64 := if w.i then w.imm.signExtend 64 else x.gr w.rb.toNat

/-- The unused one of RB and IMM32 is 0. -/
def aluLegal (w : FmtA) : Prop := if w.i then w.rb = 0 else w.imm = 0

/-- Predicates, pc and loop stack of a context, and everything outside its registers, after an instruction that writes
one g-register and goes on. -/
def wroteG (s t : State) (k : CtxId) (r : Nat) (v : W64) : Prop :=
  (∀ q, (t.ctx k).gr q = if q = 0 then 0 else if q = r then v else (s.ctx k).gr q)
    ∧ (∀ q, (t.ctx k).pr q = (s.ctx k).pr q) ∧ (s.ctx k).wentOn (t.ctx k) ∧ s.onlyRegs t k

/-- An ALU instruction writes f of gRA and B to gRD. -/
def aluWrites (c : CtxId → FmtA → Instr) (fn : FmtA → Prop) (f : FmtA → W64 → W64 → W64) : Prop :=
  ∀ k w s, ReadyA s k w → aluLegal w → fn w →
    Goes (c k w) s (fun t => wroteG s t k w.rd.toNat (f w ((s.ctx k).gr w.ra.toNat) (second (s.ctx k) w)))

/-- Bits [63:32] replaced by an immediate, bits [31:0] kept. -/
def highImm (v : W64) (imm : W32) : W64 := imm ++ v.setWidth 32

/-- A context's registers are as before. -/
def regsKept (x y : Ctx) : Prop := (∀ q, y.gr q = x.gr q) ∧ ∀ q, y.pr q = x.pr q

/-- A branch taken to a: the pc, and the loops whose bodies contain a. -/
def branched (s t : State) (k : CtxId) (a : Nat) : Prop :=
  (t.ctx k).pc = BitVec.ofNat 57 a
    ∧ (t.ctx k).loops = (s.ctx k).loops.filter (fun e => decide (e.first ≤ BitVec.ofNat 57 a ∧ BitVec.ofNat 57 a ≤ e.last))
    ∧ regsKept (s.ctx k) (t.ctx k) ∧ s.onlyRegs t k

/-- A relative target: PC + 8 × IMM32. -/
def relative (pc : BitVec 57) (imm : W32) : Nat := (pc + 8 * imm.signExtend 57).toNat

/-- Where a branch word goes. -/
def brTarget (x : Ctx) (w : FmtA) : Nat := if w.i then relative x.pc w.imm else (x.gr w.ra.toNat).toNat

/-- The condition of BRC. -/
def brcMeets (fn : BitVec 4) (v : W64) : Prop :=
  if fn = 0 then v = 0 else if fn = 1 then v ≠ 0 else if fn = 2 then v.toInt < 0 else 0 ≤ v.toInt

/-- A word of a control instruction that takes no operand but IMM32. -/
def bareWord (w : FmtA) : Prop := w.rd = 0 ∧ w.ra = 0 ∧ w.rb = 0 ∧ w.i = false ∧ w.fn = 0

/-- A trap is taken by the context's own handler. -/
def hasHandler (s : State) (k : CtxId) : Prop := (s.ctx k).cs 2 ≠ 0 ∧ (s.ctx k).cs 3 = 0

/-- A trap of a context whose glove is ACTIVE and that has no handler to take it: the glove goes down with cause TRAP. -/
def trapFaults (s t : State) (k : CtxId) : Prop :=
  t.gstate (s.ctx k).glove = gTEARDOWN ∧ t.fget (KNOT_GLOVE_CTL (s.ctx k).glove) KNOT_GLOVE_CTL_CAUSE = causeTRAP
    ∧ ∀ a, t.byte a = s.byte a

/-- A trap of context k (R60), its glove ACTIVE: to the handler, or a fault of the glove. -/
def trapped (s t : State) (k : CtxId) (code info : Nat) : Prop :=
  (hasHandler s k → s.handled t k code info ∧ s.outsideKept t ∧ s.othersKept t k) ∧ (¬ hasHandler s k → trapFaults s t k)

/-- The comparison of CMP. -/
def compares (fn : BitVec 4) (a b : W64) : Bool :=
  match fn.toNat with
  | 0 => a == b
  | 1 => a != b
  | 2 => a.slt b
  | 3 => !(a.slt b)
  | 4 => a.ult b
  | _ => !(a.ult b)

end Sys2Proof.Claims

open Sys2Proof Sys2Proof.Machine Sys2Proof.Machine.Reg Sys2Proof.Claims

/-- R68: the ALU instructions wrap modulo 2^64, write only gRD (CMP only pRD) and no status, and go on; a result for g0 is
discarded, and p0 reads 1. -/
def Obligations.AluResults : Prop :=
  aluWrites .add (fun w => w.fn = 0) (fun _ a b => a + b)
  ∧ aluWrites .sub (fun w => w.fn = 0) (fun _ a b => a - b)
  ∧ aluWrites .mul (fun w => w.fn = 0) (fun _ a b => a * b)
  ∧ aluWrites .and (fun w => w.fn = 0) (fun _ a b => a &&& b)
  ∧ aluWrites .or (fun w => w.fn = 0) (fun _ a b => a ||| b)
  ∧ aluWrites .xor (fun w => w.fn = 0) (fun _ a b => a ^^^ b)
  ∧ aluWrites .shl (fun w => w.fn = 0) (fun _ a b => a <<< (b.toNat % 64))
  ∧ aluWrites .shr (fun w => w.fn = 0 ∨ w.fn = 1)
      (fun w a b => if w.fn = 1 then a.sshiftRight (b.toNat % 64) else a >>> (b.toNat % 64))
  ∧ (∀ k w s, ReadyA s k w → aluLegal w → w.rd.toNat < 8 → w.fn.toNat ≤ 5 →
      Goes (.cmp k w) s (fun t =>
        (∀ q, (t.ctx k).pr q = if q = 0 then true
          else if q = w.rd.toNat then compares w.fn ((s.ctx k).gr w.ra.toNat) (second (s.ctx k) w) else (s.ctx k).pr q)
        ∧ (∀ q, (t.ctx k).gr q = (s.ctx k).gr q) ∧ (s.ctx k).wentOn (t.ctx k) ∧ s.onlyRegs t k))
  ∧ (∀ k w s, ReadyA s k w → w.ra = 0 → w.rb = 0 → w.i = false → w.fn = 0 →
      Goes (.movi k w) s (fun t => wroteG s t k w.rd.toNat (w.imm.signExtend 64)))
  ∧ (∀ k w s, ReadyA s k w → w.ra = 0 → w.rb = 0 → w.i = false → w.fn = 1 →
      Goes (.movi k w) s (fun t => wroteG s t k w.rd.toNat (highImm ((s.ctx k).gr w.rd.toNat) w.imm)))

/-- R67: branches, loops, YIELD and TRAP. A branch target that is not a multiple of 8 traps with TR_MISALIGN (R61), a fifth
nested loop with TR_LOOP. -/
def Obligations.ControlFlow : Prop :=
  (∀ k w s, ReadyA s k w → w.rd = 0 → w.rb = 0 → w.fn = 0 → (w.i = true → w.ra = 0) → (w.i = false → w.imm = 0) →
    brTarget (s.ctx k) w % 8 = 0 → Goes (.br k w) s (fun t => branched s t k (brTarget (s.ctx k) w)))
  ∧ (∀ k w s, ReadyA s k w → w.rd = 0 → w.rb = 0 → w.fn = 0 → (w.i = true → w.ra = 0) → (w.i = false → w.imm = 0) →
    s.gstate (s.ctx k).glove = gACTIVE → (s.ctx k).glove < 64 →
    brTarget (s.ctx k) w % 8 ≠ 0 → Goes (.br k w) s (fun t => trapped s t k TR_MISALIGN 0))
  ∧ (∀ k w s, ReadyA s k w → w.rd = 0 → w.rb = 0 → w.i = true → w.fn.toNat ≤ 3 →
    (brcMeets w.fn ((s.ctx k).gr w.ra.toNat) → relative (s.ctx k).pc w.imm % 8 = 0 →
      Goes (.brc k w) s (fun t => branched s t k (relative (s.ctx k).pc w.imm)))
    ∧ (¬ brcMeets w.fn ((s.ctx k).gr w.ra.toNat) →
      Goes (.brc k w) s (fun t => regsKept (s.ctx k) (t.ctx k) ∧ (s.ctx k).wentOn (t.ctx k) ∧ s.onlyRegs t k)))
  ∧ (∀ k w s, ReadyA s k w → w.rd = 0 → w.rb = 0 → w.i = false → w.fn = 0 → w.imm ≠ 0 → w.imm.toNat < 65536 →
    ((s.ctx k).loops.length < 4 → ((s.ctx k).gr w.ra.toNat).toNat % 2 ^ 32 ≠ 0 →
      Goes (.loop k w) s (fun t =>
        (t.ctx k).pc = (s.ctx k).pc + 8
        ∧ (t.ctx k).loops = ⟨(s.ctx k).pc + 8, (s.ctx k).pc + 8 * w.imm.setWidth 57,
            ((s.ctx k).gr w.ra.toNat).toNat % 2 ^ 32⟩ :: (s.ctx k).loops
        ∧ regsKept (s.ctx k) (t.ctx k) ∧ s.onlyRegs t k))
    ∧ ((s.ctx k).loops.length < 4 → ((s.ctx k).gr w.ra.toNat).toNat % 2 ^ 32 = 0 →
      Goes (.loop k w) s (fun t =>
        (t.ctx k).pc = (loopNext ((s.ctx k).pc + 8 * w.imm.setWidth 57) (s.ctx k).loops).1
        ∧ regsKept (s.ctx k) (t.ctx k) ∧ s.onlyRegs t k))
    ∧ (4 ≤ (s.ctx k).loops.length → s.gstate (s.ctx k).glove = gACTIVE → (s.ctx k).glove < 64 →
      Goes (.loop k w) s (fun t => trapped s t k TR_LOOP 0)))
  ∧ (∀ k w s, ReadyA s k w → bareWord w → w.imm = 0 →
    Goes (.yield k w) s (fun t => regsKept (s.ctx k) (t.ctx k) ∧ (s.ctx k).wentOn (t.ctx k) ∧ s.onlyRegs t k))
  ∧ (∀ k w s, ReadyA s k w → bareWord w → w.imm.toNat < 256 → s.gstate (s.ctx k).glove = gACTIVE → (s.ctx k).glove < 64 →
    Goes (.trap k w) s (fun t => trapped s t k TR_SOFT w.imm.toNat))

namespace Sys2Proof.Claims

open Machine Reg

/-- The value of a context control register of R52, by its index. -/
def csrValue (s : State) (k : CtxId) (i : Nat) : W64 :=
  let x := s.ctx k
  if i = 0 then BitVec.ofNat 64 (k.tile.val + k.ctx.val * 256 + x.glove * 4096)
  else if i = 1 then s.lanyard
  else if i = 0x00A then s.reg (TILE_CAP k.tile)
  else if i = 0x00B then BitVec.ofNat 64 x.loops.length
  else if i = 0x00C then (if (x.task.bind s.task).any (fun t => t.taint) then 1 else 0)
  else x.cs i

/-- The capability registers of R53. -/
def capabilities : List (Nat × W64) :=
  [(0x100, 256), (0x101, 0x0108), (0x102, 32), (0x103, 0x0002), (0x104, 16384), (0x105, 4096), (0x106, 65536),
   (0x107, 1500), (0x108, 16)]

/-- The index that a word of class SYS names, OPX[11:0], with the bits above it 0. -/
def sysIndex (w : FmtB) (i : Nat) : Prop := w.opx.toNat = i ∧ i < 4096

/-- A word of CSRR or PERF: RD a g-register, and RA, RB and RC unused. -/
def readWord (w : FmtB) : Prop := w.ra = 0 ∧ w.rb = 0 ∧ w.rc = 0

/-- A word whose one register operand is gRA. -/
def raWord (w : FmtB) : Prop := w.rd = 0 ∧ w.rb = 0 ∧ w.rc = 0

/-- What CSRR leaves where the index has value v. -/
def csrRead (s : State) (k : CtxId) (w : FmtB) (v : W64) : Prop :=
  Goes (.csrr k w) s (fun t => s.completed t k w w.rd.toNat v ∧ s.onlyRegs t k)

/-- An instruction has completed with a status other than ST_OK and, TF being 0, gone on: nothing but gSD is written. -/
def refused (s t : State) (k : CtxId) (w : FmtB) (st : Nat) : Prop :=
  (s.ctx k).wrote (t.ctx k) 0 0 w.sd.toNat (BitVec.ofNat 64 st) ∧ (s.ctx k).wentOn (t.ctx k) ∧ s.onlyRegs t k

/-- A context's control registers after a CSRW of v to a writable index. -/
def csrWritten (s t : State) (k : CtxId) (w : FmtB) (i : Nat) (v : W64) : Prop :=
  (s.ctx k).wrote (t.ctx k) 0 0 w.sd.toNat 0 ∧ (s.ctx k).wentOn (t.ctx k)
    ∧ (∀ j, (t.ctx k).cs j = if j = i then v else (s.ctx k).cs j)
    ∧ s.outsideKept t ∧ s.othersKept t k

/-- A base address and a signed offset of steps, as a 57-bit address. -/
def moved57 (base : Nat) (by' : Int) : Nat := (((base : Int) + by') % 2 ^ 57).toNat

/-- The number of steps TDADV moves. -/
def tdadvSteps (x : Ctx) (w : FmtB) : Int :=
  if w.ox 23 23 = 1 then (x.gr w.ra.toNat).toInt else ((BitVec.ofNat 23 (w.ox 22 0)).toInt)

/-- The address of LD and ST: gRA + the signed byte offset OPX[19:0], modulo 2^64. -/
def ldAddr (x : Ctx) (w : FmtB) : Nat := (x.gr w.ra.toNat + (BitVec.ofNat 20 (w.ox 19 0)).signExtend 64).toNat

/-- The value that LD gives for n bytes. -/
def ldValue (w : FmtB) (bs : List Byte) : W64 :=
  let n := 8 * bs.length
  if w.ox 23 23 = 1 ∧ 2 ^ (n - 1) ≤ leNat bs then BitVec.ofInt 64 ((leNat bs : Int) - 2 ^ n) else BitVec.ofNat 64 (leNat bs)

/-- A word of LD: RB and RC unused, OPX[21:20] 0. -/
def ldWord (w : FmtB) : Prop := w.rb = 0 ∧ w.rc = 0 ∧ w.ox 21 20 = 0

/-- A word of ST: RD and RC unused, OPX[23] and OPX[21:20] 0. -/
def stWord (w : FmtB) : Prop := w.rd = 0 ∧ w.rc = 0 ∧ w.ox 23 20 % 4 = 0 ∧ w.ox 23 23 = 0

/-- The size in bytes of an LD or ST. -/
def ldSize (w : FmtB) : Nat := 2 ^ w.ox 25 24

/-- An access at a glove-virtual address by context k reaches local address b, and its page is not DISCARDED. -/
def reaches (s : State) (k : CtxId) (a b : Nat) (r : Right) : Prop :=
  s.translate (s.ctx k).glove a r = some b ∧ b < localSize ∧ (s.page (b / 65536)).place ≠ .discarded

/-- No queued instruction of the context reads or writes the parts (R48, R49). -/
def unlocked (s : State) (k : CtxId) (reads writes : List Region) : Prop := s.locked k reads writes = false

end Sys2Proof.Claims

/-- R53: the capability registers, read by CSRR. -/
def Obligations.CapabilityRegisters : Prop :=
  ∀ k w s i v, ReadyB s k w → readWord w → sysIndex w i → (i, v) ∈ capabilities → csrRead s k w v

/-- R52, R80: CSRR gives the value of a context control register, CSRW writes a writable one, of RND bit 0 alone, and a
write of a read-only one completes with ST_DENIED and changes nothing. Writing 0 to TRAP_CAUSE ends the handler state and
restores the loop stack set aside; other writes of it are ignored. -/
def Obligations.ContextRegisters : Prop :=
  (∀ k w s i, ReadyB s k w → readWord w → sysIndex w i → i ≤ 0x00C → csrRead s k w (csrValue s k i))
  ∧ (∀ k w s i, ReadyB s k w → raWord w → sysIndex w i → i = 2 ∨ i = 7 ∨ i = 8 ∨ i = 9 →
    Goes (.csrw k w) s (fun t => csrWritten s t k w i ((s.ctx k).gr w.ra.toNat) ∧ (t.ctx k).loops = (loopNext (s.ctx k).pc (s.ctx k).loops).2))
  ∧ (∀ k w s, ReadyB s k w → raWord w → sysIndex w 6 →
    Goes (.csrw k w) s (fun t => csrWritten s t k w 6 ((s.ctx k).gr w.ra.toNat &&& 1)))
  ∧ (∀ k w s, ReadyB s k w → raWord w → sysIndex w 3 → (s.ctx k).gr w.ra.toNat ≠ 0 →
    Goes (.csrw k w) s (fun t => csrWritten s t k w 3 ((s.ctx k).cs 3)))
  ∧ (∀ k w s l, ReadyB s k w → raWord w → sysIndex w 3 → (s.ctx k).gr w.ra.toNat = 0 → (s.ctx k).loopsAside = some l →
    Goes (.csrw k w) s (fun t => (t.ctx k).cs 3 = 0 ∧ (t.ctx k).loopsAside = none
      ∧ (t.ctx k).pc = (loopNext (s.ctx k).pc l).1 ∧ (t.ctx k).loops = (loopNext (s.ctx k).pc l).2
      ∧ s.outsideKept t ∧ s.othersKept t k))
  ∧ (∀ k w s i, ReadyB s k w → raWord w → sysIndex w i → w.tf = false →
    i ∈ [0, 1, 4, 5, 0x00A, 0x00B, 0x00C, 0x100, 0x101, 0x102, 0x103, 0x104, 0x105, 0x106, 0x107, 0x108] →
    Goes (.csrw k w) s (fun t => refused s t k w ST_DENIED))

/-- R80, R70, R79: EVT puts its event into the tile's queue of 16, and is refused ST_BUSY when that is full; PERF 0 gives the
instructions issued, this one among them, and PERF 1 to 4 a 48-bit count with OVF in bit 63; PREF has no effect on any
value; a FENCE with nothing outstanding goes on at once. -/
def Obligations.SystemInstructions : Prop :=
  (∀ k w s, ReadyB s k w → raWord w → w.opx = 0 → (s.tile k.tile).evq.length < 16 →
    Goes (.evt k w) s (fun t =>
      (t.tile k.tile).evq = (s.tile k.tile).evq ++ [(k.ctx.val, BitVec.ofNat 64
        (bits ((s.ctx k).gr w.ra.toNat) 15 0 + k.ctx.val * 2 ^ 16 + (s.ctx k).glove * 2 ^ 32))]
      ∧ s.completed t k w 0 0 ∧ s.outsideKept t ∧ (t.ctx k).rest = (s.ctx k).rest))
  ∧ (∀ k w s, ReadyB s k w → raWord w → w.opx = 0 → w.tf = false → 16 ≤ (s.tile k.tile).evq.length →
    Goes (.evt k w) s (fun t => refused s t k w ST_BUSY))
  ∧ (∀ k w s, ReadyB s k w → readWord w → sysIndex w 0 → (s.ctx k).issued + 1 < 2 ^ 48 →
    Goes (.perf k w) s (fun t => s.completed t k w w.rd.toNat (BitVec.ofNat 64 ((s.ctx k).issued + 1)) ∧ s.onlyRegs t k))
  ∧ (∀ k w s i, ReadyB s k w → readWord w → sysIndex w i → 1 ≤ i → i ≤ 4 →
    Goes (.perf k w) s (fun t => ∃ v, bits v 62 48 = 0 ∧ s.completed t k w w.rd.toNat v))
  ∧ (∀ k w s, ReadyB s k w → w.rd = 0 → w.rb = 0 → w.rc = 0 → w.sd = 0 → w.tf = false → w.opx = 0 → w.ra.toNat < 16 →
    Goes (.pref k w) s (fun t => s.completed t k w 0 0 ∧ s.onlyRegs t k))
  ∧ (∀ k w s, ReadyB s k w → w.rd = 0 → w.ra = 0 → w.rb = 0 → w.rc = 0 → w.sd = 0 → w.tf = false → w.opx.toNat < 1024 →
    s.fenceDone k (w.ox 7 0) (w.ox 8 8 == 1) (w.ox 9 9 == 1) = true →
    Goes (.fence k w) s (fun t => s.completed t k w 0 0 ∧ s.onlyRegs t k))
  ∧ (∀ k w s, ReadyB s k w → w.rd = 0 → w.ra = 0 → w.rb = 0 → w.rc = 0 → w.sd = 0 → w.tf = false → w.opx.toNat < 1024 →
    s.fenceDone k (w.ox 7 0) (w.ox 8 8 == 1) (w.ox 9 9 == 1) = false →
    Goes (.fence k w) s (fun t => (t.ctx k).wait = .fence (w.ox 7 0) (w.ox 8 8 == 1) (w.ox 9 9 == 1)
      ∧ (t.ctx k).pc = (s.ctx k).pc ∧ regsKept (s.ctx k) (t.ctx k) ∧ s.outsideKept t))

/-- R69: TDSET loads a record whose fields R65, R66 and R69 allow, from the TLS or from memory, and refuses the others with the status R69
gives; TDADV moves BASE, and SCALE with it, by n steps along dimension d. -/
def Obligations.DescriptorInstructions : Prop :=
  (∀ k w s ws, ReadyB s k w → w.rd.toNat < 16 → w.rb = 0 → w.rc = 0 → w.opx = 1 →
    ((s.ctx k).gr w.ra.toNat).toNat + 64 ≤ 2 ^ 21 →
    unlocked s k [.tls ((s.ctx k).gr w.ra.toNat).toNat (((s.ctx k).gr w.ra.toNat).toNat + 64)] [] →
    ws = bytesWords 8 ((s.tile k.tile).tlsBytes ((s.ctx k).gr w.ra.toNat).toNat 64) →
    (recordStatus ws = ST_OK → Goes (.tdset k w) s (fun t =>
      (t.ctx k).desc w.rd.toNat = ws ∧ (∀ r, r ≠ w.rd.toNat → (t.ctx k).desc r = (s.ctx k).desc r)
      ∧ s.completed t k w 0 0 ∧ s.outsideKept t ∧ s.othersKept t k))
    ∧ (recordStatus ws ≠ ST_OK → w.tf = false → Goes (.tdset k w) s (fun t => refused s t k w (recordStatus ws))))
  ∧ (∀ k w s ws u, ReadyB s k w → w.rd.toNat < 16 → w.rb = 0 → w.rc = 0 → w.opx = 0 → unlocked s k [.mem] [] →
    s.vpoison (s.ctx k).glove ((s.ctx k).gr w.ra.toNat).toNat 64 = false →
    (s.vbytes (s.ctx k).glove ((s.ctx k).gr w.ra.toNat).toNat 64).map (bytesWords 8) = some ws →
    s.touchRange (s.ctx k).glove (k.tile / 64) true ((s.ctx k).gr w.ra.toNat).toNat
      (pagesMet ((s.ctx k).gr w.ra.toNat).toNat 64) = some u →
    recordStatus ws = ST_OK →
    Goes (.tdset k w) s (fun t =>
      (t.ctx k).desc w.rd.toNat = ws ∧ (∀ r, r ≠ w.rd.toNat → (t.ctx k).desc r = (s.ctx k).desc r)
      ∧ s.completed t k w 0 0 ∧ (∀ a, t.byte a = s.byte a) ∧ ∀ o, t.reg o = s.reg o))
  ∧ (∀ k w s d n, ReadyB s k w → w.rd.toNat < 16 → w.rb = 0 → w.rc = 0 → (w.ox 23 23 = 0 → w.ra = 0) →
    (w.ox 23 23 = 1 → w.ox 22 0 = 0) → d = TDesc.of ((s.ctx k).desc w.rd.toNat) → n = tdadvSteps (s.ctx k) w →
    w.ox 25 24 ≤ d.ndim → d.sfmt = 0 → (w.ox 25 24 = 0 → n * d.ebits % 8 = 0) →
    Goes (.tdadv k w) s (fun t =>
      (TDesc.of ((t.ctx k).desc w.rd.toNat)) = { d with
        base := moved57 d.base (if w.ox 25 24 = 0 then n * d.ebits / 8 else n * d.stride (w.ox 25 24)) }
      ∧ (∀ r, r ≠ w.rd.toNat → (t.ctx k).desc r = (s.ctx k).desc r)
      ∧ s.completed t k w 0 0 ∧ s.outsideKept t ∧ s.othersKept t k))
  ∧ (∀ k w s d, ReadyB s k w → w.rd.toNat < 16 → w.rb = 0 → w.rc = 0 → w.tf = false → (w.ox 23 23 = 0 → w.ra = 0) →
    (w.ox 23 23 = 1 → w.ox 22 0 = 0) → d = TDesc.of ((s.ctx k).desc w.rd.toNat) → d.ndim < w.ox 25 24 →
    Goes (.tdadv k w) s (fun t => refused s t k w ST_RANGE))

namespace Sys2Proof.Claims

open Machine Reg

/-- Memory after a store of bytes at local address b: those bytes, and every other as before. -/
def stored (s t : State) (b : Nat) (bs : List Byte) : Prop :=
  ∀ a, t.byte a = if b ≤ a ∧ a < b + bs.length then bs.getD (a - b) 0 else s.byte a

/-- The value an atomic other than xadd leaves (R78), of n bytes, for old value m, operand v and compare value c. -/
def atomLeaves (op : Nat) (signed : Bool) (n m v c : Nat) : Nat :=
  let b := v % 2 ^ (8 * n)
  let lt := if signed then (BitVec.ofNat (8 * n) m).slt (BitVec.ofNat (8 * n) b) else (BitVec.ofNat (8 * n) m).ult (BitVec.ofNat (8 * n) b)
  match op with
  | 0 => (m + v) % 2 ^ (8 * n)
  | 1 => if lt then m else b
  | 2 => if lt then b else m
  | 3 => b
  | _ => if m = c % 2 ^ (8 * n) then b else m

/-- The fields of an ATOM word go together (R78). -/
def atomWord (w : FmtB) : Prop :=
  w.ox 25 23 ≤ 5 ∧ (w.ox 21 20 = 2 ∨ w.ox 21 20 = 3) ∧ w.ox 18 0 = 0 ∧ (w.ox 25 23 ≠ 4 → w.rc = 0)
    ∧ (w.ox 25 23 ≠ 1 → w.ox 25 23 ≠ 2 → w.ox 22 22 = 0) ∧ (w.ox 25 23 ≠ 5 → w.ox 19 19 = 0) ∧ (w.ox 25 23 = 5 → w.rd = 0)

/-- The registers of the machine and its tiles' storage after an access that only touches a page. -/
def onlyMemory (s t : State) (k : CtxId) : Prop := (∀ o, t.reg o = s.reg o) ∧ s.othersKept t k ∧ t.slice = s.slice

/-- A word of LDT or STT: RD and RA t-registers, a move tag. -/
def moveWord (w : FmtB) : Prop := w.rd.toNat < 16 ∧ w.ra.toNat < 16 ∧ w.rb = 0 ∧ w.rc = 0 ∧ w.opx.toNat < 8

/-- The move that a word of LDT or STT starts. -/
def moveOf (s : State) (k : CtxId) (w : FmtB) (store : Bool) : Move :=
  ⟨w.opx.toNat, store, (s.ctx k).desc w.rd.toNat, (s.ctx k).desc w.ra.toNat⟩

/-- LDT or STT with descriptors that pass its checks, no line of them in the pod range: the move is entered under its tag and
nothing is copied yet. -/
def startsMove (c : CtxId → FmtB → Instr) (store : Bool) : Prop :=
  ∀ k w s d a, ReadyB s k w → moveWord w → d = TDesc.of ((s.ctx k).desc w.rd.toNat) → a = TDesc.of ((s.ctx k).desc w.ra.toNat) →
    moveStatus store d a = ST_OK → unlocked s k a.regions d.regions →
    s.podPieces (s.ctx k).glove a .R = [] → s.podPieces (s.ctx k).glove d .W = [] →
    Goes (c k w) s (fun t => (t.ctx k).moves = (s.ctx k).moves ++ [moveOf s k w store] ∧ s.completed t k w 0 0
      ∧ s.outsideKept t ∧ s.othersKept t k)

end Sys2Proof.Claims

/-- R78: LD gives the value at gRA + offset, zero- or sign-extended, from the TLS or from the local range; ST stores the low
bytes of gRB there; an ATOM gives the old value and leaves the new one. Each changes no other byte of memory and no register but
those named. -/
def Obligations.MemoryInstructions : Prop :=
  (∀ k w s a, ReadyB s k w → ldWord w → a = ldAddr (s.ctx k) w → a % ldSize w = 0 → w.ox 22 22 = 1 → a + ldSize w ≤ 2 ^ 21 →
    unlocked s k [.tls a (a + ldSize w)] [] →
    Goes (.ld k w) s (fun t => s.completed t k w w.rd.toNat (ldValue w ((s.tile k.tile).tlsBytes a (ldSize w))) ∧ s.onlyRegs t k))
  ∧ (∀ k w s a b, ReadyB s k w → ldWord w → a = ldAddr (s.ctx k) w → a % ldSize w = 0 → w.ox 22 22 = 0 → unlocked s k [.mem] [] →
    reaches s k a b .R → s.poisoned b = false →
    Goes (.ld k w) s (fun t => s.completed t k w w.rd.toNat (ldValue w (s.bytes b (ldSize w))) ∧ onlyMemory s t k ∧ ∀ c, t.byte c = s.byte c))
  ∧ (∀ k w s a, ReadyB s k w → stWord w → a = ldAddr (s.ctx k) w → a % ldSize w = 0 → w.ox 22 22 = 1 → a + ldSize w ≤ 2 ^ 21 →
    unlocked s k [] [.tls a (a + ldSize w)] →
    Goes (.st k w) s (fun t =>
      (t.tile k.tile).tlsBytes a (ldSize w) = leBytes (ldSize w) ((s.ctx k).gr w.rb.toNat).toNat
      ∧ (∀ c, c < a ∨ a + ldSize w ≤ c → (t.tile k.tile).tlsBytes c 1 = (s.tile k.tile).tlsBytes c 1)
      ∧ s.completed t k w 0 0 ∧ s.outsideKept t))
  ∧ (∀ k w s a b, ReadyB s k w → stWord w → a = ldAddr (s.ctx k) w → a % ldSize w = 0 → w.ox 22 22 = 0 → unlocked s k [] [.mem] →
    reaches s k a b .W →
    Goes (.st k w) s (fun t => stored s t b (leBytes (ldSize w) ((s.ctx k).gr w.rb.toNat).toNat) ∧ s.completed t k w 0 0
      ∧ onlyMemory s t k))
  ∧ (∀ k w s a b m, ReadyB s k w → atomWord w → a = ((s.ctx k).gr w.ra.toNat).toNat → a % 2 ^ w.ox 21 20 = 0 →
    unlocked s k [] [.mem] → reaches s k a b .R → s.poisoned b = false → s.translate (s.ctx k).glove a .W ≠ none → w.ox 25 23 ≤ 4 →
    m = leNat (s.bytes b (2 ^ w.ox 21 20)) →
    Goes (.atom k w) s (fun t =>
      stored s t b (leBytes (2 ^ w.ox 21 20) (atomLeaves (w.ox 25 23) (w.ox 22 22 == 1) (2 ^ w.ox 21 20) m
        ((s.ctx k).gr w.rb.toNat).toNat ((s.ctx k).gr w.rc.toNat).toNat))
      ∧ s.completed t k w w.rd.toNat (BitVec.ofNat 64 m) ∧ onlyMemory s t k))
  ∧ (∀ k w s a b, ReadyB s k w → atomWord w → a = ((s.ctx k).gr w.ra.toNat).toNat → w.ox 25 23 = 5 → w.ox 21 20 = 3 → a % 8 = 0 →
    unlocked s k [] [.mem] → s.translate (s.ctx k).glove a .R = some b → s.translate (s.ctx k).glove a .W ≠ none →
    inCells b = true → b % 64 = 0 →
    Goes (.atom k w) s (fun t =>
      t.cell b = (s.cell b).addNum (decodeElem (w.ox 19 19) ((s.ctx k).gr w.rb.toNat).toNat) ∧ s.completed t k w 0 0
      ∧ (∀ o, t.reg o = s.reg o) ∧ ∀ c, t.byte c = s.byte c))

/-- R61: an LD, ST or ATOM whose address is not a multiple of its size traps with TR_MISALIGN; R78: a TLS access past 2 MiB is
refused ST_RANGE. -/
def Obligations.MemoryRefusals : Prop :=
  (∀ k w s, ReadyB s k w → ldWord w → ldAddr (s.ctx k) w % ldSize w ≠ 0 → s.gstate (s.ctx k).glove = gACTIVE → (s.ctx k).glove < 64 →
    Goes (.ld k w) s (fun t => trapped s t k TR_MISALIGN 0))
  ∧ (∀ k w s, ReadyB s k w → stWord w → ldAddr (s.ctx k) w % ldSize w ≠ 0 → s.gstate (s.ctx k).glove = gACTIVE → (s.ctx k).glove < 64 →
    Goes (.st k w) s (fun t => trapped s t k TR_MISALIGN 0))
  ∧ (∀ k w s, ReadyB s k w → atomWord w → ((s.ctx k).gr w.ra.toNat).toNat % 2 ^ w.ox 21 20 ≠ 0 → s.gstate (s.ctx k).glove = gACTIVE →
    (s.ctx k).glove < 64 → Goes (.atom k w) s (fun t => trapped s t k TR_MISALIGN 0))
  ∧ (∀ k w s, ReadyB s k w → ldWord w → ldAddr (s.ctx k) w % ldSize w = 0 → w.ox 22 22 = 1 → 2 ^ 21 < ldAddr (s.ctx k) w + ldSize w →
    w.tf = false → Goes (.ld k w) s (fun t => refused s t k w ST_RANGE))
  ∧ (∀ k w s, ReadyB s k w → stWord w → ldAddr (s.ctx k) w % ldSize w = 0 → w.ox 22 22 = 1 → 2 ^ 21 < ldAddr (s.ctx k) w + ldSize w →
    w.tf = false → Goes (.st k w) s (fun t => refused s t k w ST_RANGE))

/-- R70, R71: LDT and STT enter a move under its tag; when the move completes, the bytes of its source are at its
destination and it is no longer outstanding. A refused descriptor pair gives its status and no move. -/
def Obligations.Moves : Prop :=
  startsMove .ldt false ∧ startsMove .stt true
  ∧ (∀ k w s st, ReadyB s k w → moveWord w → w.tf = false → st ≠ ST_OK →
    st = moveStatus false (TDesc.of ((s.ctx k).desc w.rd.toNat)) (TDesc.of ((s.ctx k).desc w.ra.toNat)) →
    Goes (.ldt k w) s (fun t => refused s t k w st))
  ∧ (∀ k w s st, ReadyB s k w → moveWord w → w.tf = false → st ≠ ST_OK →
    st = moveStatus true (TDesc.of ((s.ctx k).desc w.rd.toNat)) (TDesc.of ((s.ctx k).desc w.ra.toNat)) →
    Goes (.stt k w) s (fun t => refused s t k w st))
  ∧ (∀ k j s m d a da sa len bs u, (s.ctx k).moves[j]? = some m → d = TDesc.of m.dst → a = TDesc.of m.src → d.space = 1 →
    d.spans = [(da, len)] → a.spans = [(sa, len)] → isSlot a.cfmt = false → (s.ctx k).stopped = false → (s.ctx k).wait = .none →
    s.hub.reqs = [] → s.moveRead k a.space (spanAddr a.space sa) len = some bs →
    s.touchRange (s.ctx k).glove (k.tile / 64) true (spanAddr a.space sa) (if a.space = 1 then 0 else pagesMet (spanAddr a.space sa) len) = some u →
    Goes (.moveComplete k j) s (fun t =>
      (t.tile k.tile).tlsBytes da.toNat bs.length = bs ∧ (t.ctx k).moves = (s.ctx k).moves.eraseIdx j
      ∧ regsKept (s.ctx k) (t.ctx k) ∧ (t.ctx k).pc = (s.ctx k).pc ∧ ∀ c, t.byte c = s.byte c))

namespace Sys2Proof.Claims

open Machine Reg

/-- Everything the context's own unit queue q aside stands: one more entry, satisfying E, is in queue q of the tile; the
instruction has completed ST_OK; no other queue, no storage, no register but gSD and nothing outside the tile has changed. -/
def queuedAt (s t : State) (k : CtxId) (w : FmtB) (q : Nat) (E : Queued → Prop) : Prop :=
  (∃ e, (t.tile k.tile).queue q = (s.tile k.tile).queue q ++ [e] ∧ e.ctx = k.ctx.val ∧ e.w = w ∧ E e)
    ∧ (∀ j, j ≤ 3 → j ≠ q → (t.tile k.tile).queue j = (s.tile k.tile).queue j)
    ∧ s.completed t k w 0 0 ∧ s.outsideKept t ∧ (t.ctx k).rest = (s.ctx k).rest
    ∧ (t.tile k.tile).banks = (s.tile k.tile).banks ∧ (t.tile k.tile).tls = (s.tile k.tile).tls

/-- An MMA or MMA.NM whose bank the context claimed, whose descriptors pass its checks and which finds room goes into the
M-array's queue. -/
def mmaQueues (c : CtxId → FmtB → Instr) (nm : Bool) : Prop :=
  ∀ k w s b da db, ReadyB s k w → mmaLegal w nm = true → (s.ctx k).bank w.rd.toNat = some b →
    da = (s.ctx k).desc w.ra.toNat → db = (s.ctx k).desc w.rb.toNat →
    mmaStatus w nm (TDesc.of da) (TDesc.of db) = ST_OK →
    s.waits k 0 ((TDesc.of da).regions ++ (TDesc.of db).regions ++ [.bank b]) [.bank b] = false →
    Goes (c k w) s (fun t => queuedAt s t k w 0 (fun e => e.op = (if nm then 1 else 0) ∧ e.a = da ∧ e.b = db ∧ e.bankD = b))

/-- A vector or lace instruction whose operands pass its checks and which finds room goes into the vector engine's queue, with
the element count, descriptors, scalars and lace it took at issue. -/
def vecQueues (c : CtxId → FmtB → Instr) (cls op : Nat) (legal : FmtB → Bool) (status : State → CtxId → Queued → Nat → Nat)
    (regs : FmtB → Queued → Nat → List Region × List Region) : Prop :=
  ∀ k w s d a b n e, ReadyB s k w → legal w = true →
    (s.ctx k).spBank (spD w) w.rd = some d → (s.ctx k).spBank (spA w) w.ra = some a → (s.ctx k).spBank (spB w) w.rb = some b →
    n = ((s.ctx k).gr w.rc.toNat).toNat → e = s.vecQueued k cls op w d a b → status s k e n = ST_OK →
    s.waits k 1 (regs w e n).1 (regs w e n).2 = false →
    (cls = 5 ∧ op = 4 ∧ (fnOf w = 5 ∨ fnOf w = 6) ∧ spA w = 2 →
      (s.tile k.tile).conflict k.ctx 4 (TDesc.of ((s.ctx k).desc w.ra.toNat)).regions [] = false) →
    Goes (c k w) s (fun t => queuedAt s t k w 1 (fun x => x.cls = cls ∧ x.op = op ∧ x.n = n ∧ x.bankD = d ∧ x.bankA = a
      ∧ x.bankB = b ∧ x.a = e.a ∧ x.b = e.b ∧ x.ga = (s.ctx k).gr w.ra.toNat ∧ x.gb = (s.ctx k).gr w.rb.toNat
      ∧ x.lace = (if cls = 6 then (s.ctx k).lace.getD [] else [])))

/-- The storage of an instruction that reads A, and B where it has one, and writes D. -/
def regsAD (useB : FmtB → Bool) (nb : Nat → Nat) (nd : FmtB → Nat → Nat) (dIn : Bool) (w : FmtB) (e : Queued) (n : Nat) :
    List Region × List Region :=
  (e.opA.regions e.ctx n ++ (if useB w then e.opB.regions e.ctx (nb n) else []) ++ (if dIn then e.opD.regions e.ctx n else []),
   e.opD.regions e.ctx (nd w n))

end Sys2Proof.Claims

/-- R88, R127, R156, R168: matrix, vector, lace, sparse and sieve instructions whose operands pass their checks and which find
room in their unit's queue of four go into it and complete ST_OK at issue. -/
def Obligations.UnitInstructionsQueue : Prop :=
  mmaQueues .mma false ∧ mmaQueues .mmaNm true
  ∧ vecQueues .vop 5 0 (fun w => vecLegal w true (usesB (fnOf w)) 0 && decide (fnOf w ≤ 0x18)) (fun _ _ => vopStatus)
      (regsAD (fun w => usesB (fnOf w)) id (fun _ n => n) true)
  ∧ vecQueues .vbc 5 2 (fun w => vecLegal w true true (ox 13 13) && vbcCode (fnOf w) && (spB w == 0 || spB w == 2))
      (fun _ _ => vbcStatus) (regsAD (fun _ => true) (fun _ => 64) (fun _ n => n) true)
  ∧ vecQueues .vred 5 1 (fun w => vecLegal w true false (ox 13 13) && decide (fnOf w ≤ 4)) (fun _ _ => vredStatus)
      (regsAD (fun _ => false) id (fun w n => vredCount w n) false)
  ∧ vecQueues .vcvt 5 3 (fun w => vecLegal w true false (ox 12 12) && fnOf w == 0) (fun _ _ => vcvtStatus)
      (regsAD (fun _ => false) id (fun _ n => n) false)
  ∧ vecQueues .vxa 5 4 vxaLegal (fun s k => vxaStatus (s.tile k.tile)) (fun _ => vxaRegs)
  ∧ vecQueues .laceRun 6 1 (fun w => vecLegal w true (w.ox 13 13 == 1) (ox 13 12) && fnOf w == 0)
      (fun s k => laceStatus (s.ctx k).lace) (regsAD (fun w => w.ox 13 13 == 1) id (fun _ n => n) false)
  ∧ (∀ k w s d a b dst bank, ReadyB s k w → w.legal (if w.ox 0 0 = 1 then .t else .bank) .t .t .no (ox 0 0) = true →
    d = TDesc.of ((s.ctx k).desc w.rd.toNat) → a = TDesc.of ((s.ctx k).desc w.ra.toNat) → b = TDesc.of ((s.ctx k).desc w.rb.toNat) →
    (if w.ox 0 0 = 1 then some 0 else (s.ctx k).bank w.rd.toNat) = some bank →
    dst = (if w.ox 0 0 = 1 then d.regions else [.bank bank]) → unlocked s k a.regions [] →
    spmmStatus (s.tile k.tile) (w.ox 0 0 == 1) d a b = ST_OK → s.waits k 2 (a.regions ++ b.regions ++ dst) dst = false →
    Goes (.spmm k w) s (fun t => queuedAt s t k w 2 (fun e => e.op = 0 ∧ e.bankD = bank ∧ e.writes = dst)))
  ∧ (∀ k w s d a, ReadyB s k w → w.legal .t .t .no .g (ox 3 0) = true →
    d = TDesc.of ((s.ctx k).desc w.rd.toNat) → a = TDesc.of ((s.ctx k).desc w.ra.toNat) →
    spencStatus (w.ox 3 0) d a = ST_OK → s.waits k 2 a.regions (.greg k.ctx w.rc.toNat :: d.regions) = false →
    Goes (.spenc k w) s (fun t => queuedAt s t k w 2 (fun e => e.op = 1 ∧ .greg k.ctx w.rc.toNat ∈ e.writes)))
  ∧ (∀ k w s d a, ReadyB s k w → w.legal .t .t .no .no 0 = true →
    d = TDesc.of ((s.ctx k).desc w.rd.toNat) → a = TDesc.of ((s.ctx k).desc w.ra.toNat) → unlocked s k a.regions [] →
    spdecStatus (s.tile k.tile) d a = ST_OK → s.waits k 2 a.regions d.regions = false →
    Goes (.spdec k w) s (fun t => queuedAt s t k w 2 (fun e => e.op = 2 ∧ e.writes = d.regions)))
  ∧ (∀ k w s b gb gc reads, ReadyB s k w → w.legal .no .bank .g .g (ox 25 18) = true → svFn w ≠ 3 →
    (s.ctx k).bank w.ra.toNat = some b → gb = (s.ctx k).gr w.rb.toNat → gc = (s.ctx k).gr w.rc.toNat →
    reads = [.bank b, .vreg k.ctx 31] ++ (if svPass w = 1 then [.vreg k.ctx 30] else []) →
    sieveStatus w gb gc = ST_OK → s.waits k 3 reads [] = false →
    (s.tile k.tile).sieve.length + (s.tile k.tile).sieveDue + svNeed w gb gc ≤ 4096 →
    Goes (.sieve k w) s (fun t => queuedAt s t k w 3 (fun e => e.bankA = b ∧ e.ga = gb ∧ e.gb = gc)))

/-- R51, R61: an instruction that names a bank its context has not claimed traps with TR_ACC. -/
def Obligations.UnclaimedBankTraps : Prop :=
  ∀ k w s, ReadyB s k w → s.gstate (s.ctx k).glove = gACTIVE → (s.ctx k).glove < 64 →
    (∀ nm, mmaLegal w nm = true → (s.ctx k).bank w.rd.toNat = none →
      Goes (if nm then .mmaNm k w else .mma k w) s (fun t => trapped s t k TR_ACC 0))
    ∧ (w.legal .bank .no .no .no 0 = true → (s.ctx k).bank w.rd.toNat = none →
      Goes (.accz k w) s (fun t => trapped s t k TR_ACC 0))
    ∧ (w.legal .t .bank .no .no (ox 0 0) = true → (s.ctx k).bank w.ra.toNat = none →
      Goes (.accmv k w) s (fun t => trapped s t k TR_ACC 0))
    ∧ (w.legal .no .bank .g .g (ox 25 18) = true → svFn w ≠ 3 → (s.ctx k).bank w.ra.toNat = none →
      Goes (.sieve k w) s (fun t => trapped s t k TR_ACC 0))

/-- R72, R130, R138: ACCZ sets every element of its bank to +0; LACE.LD loads the lace slot with steps that are well formed. -/
def Obligations.BankAndLaceLoads : Prop :=
  (∀ k w s b, ReadyB s k w → w.legal .bank .no .no .no 0 = true → (s.ctx k).bank w.rd.toNat = some b → unlocked s k [] [.bank b] →
    ¬ (s.tile k.tile).deadBanks.contains b →
    Goes (.accz k w) s (fun t => (∀ m n, m < 64 → n < 64 → (t.tile k.tile).bankAt b m n = 0)
      ∧ (∀ c m n, c ≠ b → m < 64 → n < 64 → (t.tile k.tile).bankAt c m n = (s.tile k.tile).bankAt c m n)
      ∧ s.completed t k w 0 0 ∧ s.outsideKept t))
  ∧ (∀ k w s a n, ReadyB s k w → w.legal .no .g .g .no 0 = true → a = ((s.ctx k).gr w.ra.toNat).toNat → n = ((s.ctx k).gr w.rb.toNat).toNat →
    a % 8 = 0 → a + 8 * n ≤ 2 ^ 21 → 1 ≤ n → n ≤ 32 → unlocked s k [.tls a (a + 8 * n)] [.lace k.ctx] →
    (bytesWords n ((s.tile k.tile).tlsBytes a (8 * n))).all stepOk = true →
    Goes (.laceLd k w) s (fun t => (t.ctx k).lace = some (bytesWords n ((s.tile k.tile).tlsBytes a (8 * n)))
      ∧ s.completed t k w 0 0 ∧ s.outsideKept t ∧ s.othersKept t k))
  ∧ (∀ k w s b d rs, ReadyB s k w → w.legal .t .bank .no .no (ox 0 0) = true → (s.ctx k).bank w.ra.toNat = some b →
    d = TDesc.of ((s.ctx k).desc w.rd.toNat) → accmvStatus d = ST_OK → d.space = 1 → unlocked s k [.bank b] d.regions →
    (s.ctx k).cs 9 = 0 →
    rs = accmvRows (s.tile k.tile) b d (decide (w.ox 0 0 = 1 ∨ ((s.ctx k).cs 6).getLsbD 0 = true)) ((s.ctx k).cs 7) ((s.ctx k).cs 8) →
    Goes (.accmv k w) s (fun t => s.putSpans k 1 (blockSpans d (rs.map (fun r => (r.1, r.2.1)))) ≠ none
      ∧ (∀ u, s.putSpans k 1 (blockSpans d (rs.map (fun r => (r.1, r.2.1)))) = some u →
        (t.tile k.tile).tls = (u.tile k.tile).tls)
      ∧ (t.tile k.tile).banks = (s.tile k.tile).banks ∧ s.completed t k w 0 0 ∧ s.outsideKept t))

/-- R88, R90, R127, R131, R151, R172: the oldest instruction of a queue ends. An MMA writes its rows into its bank and no other;
a VOP of up to one chunk of v-registers writes f of its operands lane by lane; an SPENC gives the form and the bytes it
wrote; a SIEVE adds its records. A residue fault on a tile that runs no task fences the tile and ends what its units do. -/
def Obligations.UnitInstructionsEnd : Prop :=
  (∀ t s e r, (s.tile t.val).mmaQ = e :: r → ¬ (s.tile t.val).deadBanks.contains e.bankD →
    (mmaRows (s.tile t.val) e).length ≤ 64 → (∀ row ∈ mmaRows (s.tile t.val) e, row.length ≤ 64) →
    Goes (.mmaComplete t .none) s (fun u => (u.tile t.val).mmaQ = r
      ∧ (∀ m n row, m < 64 → n < 64 → (mmaRows (s.tile t.val) e)[m]? = some row →
        (u.tile t.val).bankAt e.bankD m n = if n < row.length then row.getD n 0 else (s.tile t.val).bankAt e.bankD m n)
      ∧ (∀ c m n, c ≠ e.bankD → m < 64 → n < 64 → (u.tile t.val).bankAt c m n = (s.tile t.val).bankAt c m n)
      ∧ (u.tile t.val).tls = (s.tile t.val).tls ∧ ∀ a, u.byte a = s.byte a))
  ∧ (∀ t s e r col blk, (s.tile t.val).mmaQ = e :: r → (∀ c, c < 16 → ((s.tile t.val).ctx c).task = none) →
    Goes (.mmaComplete t (.residue col blk)) s (fun u => u.fenced t.val = true ∧ (u.tile t.val).banks = (s.tile t.val).banks
      ∧ (u.tile t.val).mmaQ = []))
  ∧ (∀ t s e r n, (s.tile t.val).vecQ = e :: r → e.cls = 5 → e.op = 0 → spD e.w = 0 → spA e.w = 0 → spB e.w = 0 → n = e.n → 1 ≤ n →
    n ≤ 128 →
    Goes (.vecInstrComplete t none) s (fun u => (u.tile t.val).vecQ = r
      ∧ (∀ j, j < n → ((u.tile t.val).ctx e.ctx).lane e.w.rd.toNat j = vecOp (fnOf e.w) (((s.tile t.val).ctx e.ctx).lane e.w.ra.toNat j)
          (((s.tile t.val).ctx e.ctx).lane e.w.rb.toNat j) (((s.tile t.val).ctx e.ctx).lane e.w.rd.toNat j))
      ∧ (∀ v j, j < 128 → v ≠ e.w.rd.toNat ∨ n ≤ j →
          ((u.tile t.val).ctx e.ctx).lane v j = ((s.tile t.val).ctx e.ctx).lane v j)
      ∧ (u.tile t.val).banks = (s.tile t.val).banks ∧ ∀ a, u.byte a = s.byte a))
  ∧ (∀ (t : Fin 256) s e r x, (s.tile t.val).spmQ = e :: r → e.op = 1 → e.w.ox 3 0 = 6 → e.ctx < 16 → e.w.rc ≠ 0 → e.w.rc ≠ e.w.sd → x = ctxId t e.ctx →
    Goes (.spmInstrComplete t none) s (fun u => (u.tile t.val).spmQ = r
      ∧ (u.ctx x).gr e.w.rc.toNat = BitVec.ofNat 64 (6 + 16 * ((TDesc.of e.a).dim 1 * (TDesc.of e.d).span))
      ∧ (u.tile t.val).banks = (s.tile t.val).banks ∧ ∀ a, u.byte a = s.byte a))
  ∧ (∀ t s e r, (s.tile t.val).sieveQ = e :: r →
    Goes (.sieveComplete t) s (fun u => (u.tile t.val).sieveQ = r
      ∧ (u.tile t.val).sieve = (s.tile t.val).sieve ++ sieveRecords (s.tile t.val) e
      ∧ (u.tile t.val).banks = (s.tile t.val).banks ∧ ∀ a, u.byte a = s.byte a))

namespace Sys2Proof.Claims

open Machine Reg

/-- A handle of this device's knot i (R17, R18). -/
def localHandle (h : W64) (i : Nat) : Prop := bits h 63 39 = 0 ∧ h.getLsbD 38 = true ∧ bits h 13 0 = i

/-- A context may issue a knot instruction on its glove's knot i, and nothing of it waits in the tile's queues. -/
def knotReady (s : State) (k : CtxId) (w : FmtB) (i : Nat) : Prop :=
  ReadyB s k w ∧ w.rd = 0 ∧ w.opx = 0 ∧ s.quiet k = true ∧ localHandle ((s.ctx k).gr w.ra.toNat) i
    ∧ s.ownsKnot (s.ctx k).glove i = true

/-- A knot's change releases nobody: it is not reached then, or nobody waits. -/
def releasesNone (v : Knot) : Prop := v.count < v.target ∨ v.waiters = []

/-- The knots after one of them becomes v. -/
def knotsBecome (s t : State) (i : Nat) (v : Knot) : Prop := ∀ j, t.knot j = if j = i then v else s.knot j

/-- Memory and every register as before. -/
def memRegsKept (s t : State) : Prop := (∀ a, t.byte a = s.byte a) ∧ ∀ o, t.reg o = s.reg o

/-- A glove's own knot after an increment by n by a context's task. -/
def knotPlus (s : State) (k : CtxId) (i n : Nat) : Knot :=
  { s.knot i with count := (s.knot i).count + n, taint := (s.knot i).taint || s.ctxTaint k,
                  marks := joinMarks (s.knot i).marks (s.ctxMarks k), compare := false }

end Sys2Proof.Claims

/-- R14, R15, R76: KARRIVE adds 1 to a knot, KADD v, KSET sets count and target in one step and clears TAINT; an increment that
would reach 2^48 is refused ST_KNOT_OVF and changes no knot; a knot outside the glove's range, or a value out of bounds,
is refused ST_RANGE. -/
def Obligations.KnotArithmetic : Prop :=
  (∀ k w s i, knotReady s k w i → w.rb = 0 → w.rc = 0 → s.svcKnot i = false → (s.knot i).count + 1 < 2 ^ 48 →
    releasesNone (knotPlus s k i 1) →
    Goes (.karrive k w) s (fun t => knotsBecome s t i (knotPlus s k i 1) ∧ s.completed t k w 0 0 ∧ memRegsKept s t))
  ∧ (∀ k w s i v, knotReady s k w i → w.rc = 0 → v = ((s.ctx k).gr w.rb.toNat).toNat → 0 < v → v < 2 ^ 32 → s.svcKnot i = false →
    (s.knot i).count + v < 2 ^ 48 → releasesNone (knotPlus s k i v) →
    Goes (.kadd k w) s (fun t => knotsBecome s t i (knotPlus s k i v) ∧ s.completed t k w 0 0 ∧ memRegsKept s t))
  ∧ (∀ k w s i c g v, knotReady s k w i → c = ((s.ctx k).gr w.rb.toNat).toNat → g = ((s.ctx k).gr w.rc.toNat).toNat →
    c < 2 ^ 48 → g < 2 ^ 48 → v = { s.knot i with count := c, target := g, taint := false, marks := [] } → releasesNone v →
    Goes (.kset k w) s (fun t => knotsBecome s t i v ∧ s.completed t k w 0 0 ∧ memRegsKept s t))
  ∧ (∀ k w s i, knotReady s k w i → w.rb = 0 → w.rc = 0 → w.tf = false → s.svcKnot i = false → 2 ^ 48 ≤ (s.knot i).count + 1 →
    Goes (.karrive k w) s (fun t => (∀ j, t.knot j = s.knot j)
      ∧ (s.ctx k).wrote (t.ctx k) 0 0 w.sd.toNat 3 ∧ ∀ a, t.byte a = s.byte a))
  ∧ (∀ k w s v, ReadyB s k w → w.rd = 0 → w.rc = 0 → w.opx = 0 → w.tf = false → s.quiet k = true → v = ((s.ctx k).gr w.rb.toNat).toNat →
    2 ^ 32 ≤ v → Goes (.kadd k w) s (fun t => refused s t k w ST_RANGE))
  ∧ (∀ k w s i, ReadyB s k w → w.rd = 0 → w.rb = 0 → w.rc = 0 → w.opx = 0 → w.tf = false → s.quiet k = true →
    localHandle ((s.ctx k).gr w.ra.toNat) i → s.ownsKnot (s.ctx k).glove i = false →
    Goes (.karrive k w) s (fun t => refused s t k w ST_RANGE) ∧ Goes (.kwait k w) s (fun t => refused s t k w ST_RANGE))

/-- R16, R76, R322: a KWAIT on a reached knot completes at once, ST_TAINT when the knot holds TAINT; on another it joins
the waiters and leaves the pc. An increment that reaches the knot lets its waiting context go on with ST_OK. A timeout takes the
context off the list with ST_TIMEOUT. KAT completes once the lanyard has its value. -/
def Obligations.KnotWaits : Prop :=
  (∀ k w s i, knotReady s k w i → w.rc = 0 → (s.knot i).target ≤ (s.knot i).count → w.tf = false →
    Goes (.kwait k w) s (fun t =>
      (s.ctx k).wrote (t.ctx k) 0 0 w.sd.toNat (if (s.knot i).taint then 8 else 0) ∧ (s.ctx k).wentOn (t.ctx k)
      ∧ (∀ j, t.knot j = s.knot j) ∧ memRegsKept s t))
  ∧ (∀ k w s i, knotReady s k w i → w.rc = 0 → (s.knot i).count < (s.knot i).target →
    Goes (.kwait k w) s (fun t =>
      (t.ctx k).wait = .kwait i (if (s.ctx k).gr w.rb.toNat = 0 then none
        else some (s.lanyard.toNat + ((s.ctx k).gr w.rb.toNat).toNat)) w
      ∧ knotsBecome s t i { s.knot i with waiters := (s.knot i).waiters ++ [.ctx k.tile k.ctx] }
      ∧ (t.ctx k).pc = (s.ctx k).pc ∧ regsKept (s.ctx k) (t.ctx k) ∧ memRegsKept s t))
  ∧ (∀ k w k' w' d s i, knotReady s k w i → w.rb = 0 → w.rc = 0 → s.svcKnot i = false → (s.knot i).count + 1 < 2 ^ 48 →
    (s.knot i).target = (s.knot i).count + 1 → k' ≠ k → (s.knot i).waiters = [.ctx k'.tile k'.ctx] → (s.ctx k').wait = .kwait i d w' →
    (s.ctx k').task = none → (s.knot i).taint = false → s.ctxTaint k = false →
    Goes (.karrive k w) s (fun t => (t.knot i).count = (s.knot i).count + 1 ∧ (t.knot i).waiters = []
      ∧ (t.ctx k').wait = .none ∧ (s.ctx k').wrote (t.ctx k') 0 0 w'.sd.toNat 0 ∧ (s.ctx k').wentOn (t.ctx k')
      ∧ s.completed t k w 0 0 ∧ memRegsKept s t))
  ∧ (∀ k w s i due, (s.ctx k).wait = .kwait i (some due) w → due ≤ s.lanyard.toNat → w.tf = false →
    Goes (.kwaitTimeout k) s (fun t => (t.ctx k).wait = .none ∧ (s.ctx k).wrote (t.ctx k) 0 0 w.sd.toNat 9
      ∧ (s.ctx k).wentOn (t.ctx k)
      ∧ knotsBecome s t i { s.knot i with waiters := (s.knot i).waiters.filter (· != .ctx k.tile k.ctx) } ∧ memRegsKept s t))
  ∧ (∀ k w s, ReadyB s k w → w.rd = 0 → w.rc = 0 → w.opx = 0 → ((s.ctx k).gr w.ra.toNat).toNat ≤ s.lanyard.toNat →
    Goes (.kat k w) s (fun t => s.completed t k w 0 0 ∧ s.onlyRegs t k))
  ∧ (∀ k w s v r, ReadyB s k w → w.rd = 0 → w.rc = 0 → w.opx = 0 → v = ((s.ctx k).gr w.ra.toNat).toNat → r = ((s.ctx k).gr w.rb.toNat).toNat →
    s.lanyard.toNat < v →
    (v - s.lanyard.toNat ≤ (if r = 0 then 10000000 else r) →
      Goes (.kat k w) s (fun t => (t.ctx k).wait = .kat v w ∧ (t.ctx k).pc = (s.ctx k).pc ∧ regsKept (s.ctx k) (t.ctx k)))
    ∧ ((if r = 0 then 10000000 else r) < v - s.lanyard.toNat → w.tf = false →
      Goes (.kat k w) s (fun t => refused s t k w ST_TIMEOUT)))
  ∧ (∀ k w s v, (s.ctx k).wait = .kat v w → v ≤ s.lanyard.toNat →
    Goes (.katWake k) s (fun t => (t.ctx k).wait = .none ∧ s.completed t k w 0 0 ∧ s.outsideKept t))

/-- R77, R231, R232, R238: PALLOC takes the head buffer of a READY pool of the glove; PHOLD and PFREE change its count; INIT,
RELEASE and RESET move a pool between its states. -/
def Obligations.BufferPools : Prop :=
  (∀ k w s p h next, ReadyB s k w → w.rb = 0 → w.rc = 0 → w.opx = 0 → p = ((s.ctx k).gr w.ra.toNat).toNat → p < 256 →
    s.poolState p = 2 → s.poolSvc p = false → s.poolSlot p = (s.ctx k).glove → h = s.poolHead p → h ≠ poolEnd →
    s.poolMapped p h = true → s.bufCount p h = 0 → next = s.poolRead p (s.bufAddr p h) 8 → next < s.poolBufs p ∨ next = poolEnd →
    Goes (.palloc k w) s (fun t => s.completed t k w w.rd.toNat (BitVec.ofNat 64 (s.bufAddr p h)) ∧ t.poolHead p = next
      ∧ t.poolState p = 2 ∧ t.fget (POOL_STAT p) POOL_STAT_FREE = s.fget (POOL_STAT p) POOL_STAT_FREE - 1
      ∧ ∀ a, t.byte a = (s.poolWrite p (s.poolCounts p + 2 * h) 2 1).byte a))
  ∧ (∀ k w s p, ReadyB s k w → w.rb = 0 → w.rc = 0 → w.opx = 0 → w.tf = false → p = ((s.ctx k).gr w.ra.toNat).toNat → p < 256 →
    s.poolState p = 2 → s.poolSvc p = false → s.poolSlot p = (s.ctx k).glove → s.poolHead p = poolEnd →
    Goes (.palloc k w) s (fun t => refused s t k w ST_POOL_EMPTY))
  ∧ (∀ k w s p i, ReadyB s k w → raWord w → w.opx = 0 → s.bufOf (s.ctx k).glove ((s.ctx k).gr w.ra.toNat).toNat = some (p, i) →
    s.bufCount p i ≠ 65535 →
    Goes (.phold k w) s (fun t => s.completed t k w 0 0 ∧ (∀ o, t.reg o = s.reg o)
      ∧ ∀ a, t.byte a = (s.poolWrite p (s.poolCounts p + 2 * i) 2 (s.bufCount p i + 1)).byte a))
  ∧ (∀ k w s p i, ReadyB s k w → raWord w → w.opx = 0 → w.tf = false →
    s.bufOf (s.ctx k).glove ((s.ctx k).gr w.ra.toNat).toNat = some (p, i) → s.bufCount p i = 65535 →
    Goes (.phold k w) s (fun t => refused s t k w ST_REF_SAT))
  ∧ (∀ k w s p i, ReadyB s k w → raWord w → w.opx = 0 → s.quiet k = true →
    s.bufOf (s.ctx k).glove ((s.ctx k).gr w.ra.toNat).toNat = some (p, i) →
    Goes (.pfree k w) s (fun t => s.completed t k w 0 0
      ∧ t.poolHead p = (if s.bufCount p i ≤ 1 then i else s.poolHead p)
      ∧ t.fget (POOL_STAT p) POOL_STAT_FREE
        = (s.fget (POOL_STAT p) POOL_STAT_FREE + (if s.bufCount p i ≤ 1 then 1 else 0)) % 2 ^ 32))
  ∧ (∀ p s, s.poolState p.val = 0 → 8 ≤ s.fget (POOL_CFG1 p.val) POOL_CFG1_SIZE_LOG2 → s.fget (POOL_CFG1 p.val) POOL_CFG1_SIZE_LOG2 ≤ 26 →
    s.poolBufs p.val ≠ 0 → s.poolBase p.val % s.poolSize p.val = 0 → s.poolOverlap p.val = false →
    s.poolSvc p.val = true ∨ s.gstate (s.poolSlot p.val) = gACTIVE →
    Goes (.poolInit p) s (fun t => t.poolState p.val = 1 ∧ t.fget (POOL_STAT p.val) POOL_STAT_STATUS = ST_OK ∧ ∀ a, t.byte a = s.byte a))
  ∧ (∀ p s, s.poolState p.val = 1 → s.poolWritable p.val = true →
    Goes (.poolInitDone p) s (fun t => t.poolState p.val = 2 ∧ t.fget (POOL_STAT p.val) POOL_STAT_FREE = s.poolBufs p.val ∧ t.poolHead p.val = 0))
  ∧ (∀ p s, s.poolState p.val = 2 → s.fget (POOL_STAT p.val) POOL_STAT_FREE = s.poolBufs p.val →
    Goes (.poolRelease p) s (fun t => t.poolState p.val = 0 ∧ t.fget (POOL_STAT p.val) POOL_STAT_FREE = 0
      ∧ t.fget (POOL_STAT p.val) POOL_STAT_STATUS = ST_OK ∧ t.poolHead p.val = poolEnd ∧ ∀ a, t.byte a = s.byte a))
  ∧ (∀ p s, s.poolState p.val = 3 →
    Goes (.poolReset p) s (fun t => t.poolState p.val = 0 ∧ t.fget (POOL_STAT p.val) POOL_STAT_STATUS = ST_OK
      ∧ t.poolHead p.val = poolEnd ∧ ∀ a, t.byte a = s.byte a))
  ∧ (∀ p v s i, s.poolSvc p.val = true → s.bufAt p.val (bits v 56 0) = some i →
    Goes (.poolSvcFree p v) s (fun t => t.poolHead p.val = (if s.bufCount p.val i ≤ 1 then i else s.poolHead p.val)
      ∧ t.fget (POOL_STAT p.val) POOL_STAT_FREE
        = (s.fget (POOL_STAT p.val) POOL_STAT_FREE + (if s.bufCount p.val i ≤ 1 then 1 else 0)) % 2 ^ 32))

namespace Sys2Proof.Claims

open Machine Reg

/-- Packet p of type ty heads input queue x, is for this device and passes the destination's checks of R274: the state is then u,
and its glove's slot n (64 where it carries no glove). -/
def accepts (s : State) (x : Rx) (ty : Nat) (p : Packet) (u : State) (n : Nat) : Prop :=
  s.headOf x = some p ∧ p.ty = ty ∧ p.dest = s.self ∧ s.screen x p = (u, some (p, n))

/-- The bytes of memory are as before. -/
def memKept (s t : State) : Prop := ∀ a, t.byte a = s.byte a

/-- The event log's next record: code, unit, glove slot and the two words (R341, R342). -/
def raised (s t : State) (code unit slot w2 w3 : Nat) : Prop :=
  Tab.look (fun _ => ({} : EvRec)) t.svc.evlog (s.fget SVC_EVLOG SVC_EVLOG_HEAD % 8192)
    = ⟨s.lanyard, BitVec.ofNat 64 (code % 65536 + code / 256 * 65536 + unit % 65536 * 2 ^ 24 + slot % 64 * 2 ^ 40),
       BitVec.ofNat 64 w2, BitVec.ofNat 64 w3⟩

/-- The journal has gained an entry of type ty about a slot with this payload (R376). -/
def journalled (s t : State) (ty slot : Nat) (payload : List Byte) : Prop :=
  ∃ e ∈ t.sec.journal.drop s.sec.journal.length, e.ty = ty ∧ e.slot = slot ∧ e.payload = payload

/-- Every register but those of a list of offsets is as before. -/
def regsBut (s t : State) (os : List Nat) : Prop := ∀ o, o ∉ os → t.reg o = s.reg o

/-- A glove that was ACTIVE goes down with a cause (R42): its state, its first cause, its contexts stopped; memory as before. -/
def goesDown (s t : State) (n cause : Nat) : Prop :=
  t.gstate n = gTEARDOWN ∧ t.fget (KNOT_GLOVE_CTL n) KNOT_GLOVE_CTL_CAUSE = cause ∧ memKept s t
    ∧ ∀ k, (s.ctx k).task ≠ none → (s.ctx k).glove = n →
        (t.ctx k).stopped = true ∧ (t.ctx k).moves = [] ∧ (t.ctx k).wait = .none

/-- A knot that an increment from outside changes. -/
def knotGains (v : Knot) (n : Nat) (taint : Bool) : Knot :=
  { v with count := (v.count + n) % 2 ^ 48, taint := v.taint || taint, compare := false }

/-- The fields of a KNOT_OP (R427): index, amount and taint. -/
def knotOpIx (p : Packet) : Nat := bits (p.word 0) 29 16
def knotOpBy (p : Packet) : Nat := if bits (p.word 0) 7 0 = 1 then 1 else (p.word 1).toNat
def knotOpTaint (p : Packet) : Bool := (p.word 0).getLsbD 8

/-- No glove holds a range that meets knots b to b + c - 1 (R346). -/
def clearOfGloves (s : State) (b c : Nat) : Prop :=
  ∀ n, n < 64 → s.gstate n = gFREE ∨ s.gstate n = gRETIRED ∨ c = 0 ∨ s.kcount n = 0 ∨ s.kbase n + s.kcount n ≤ b
    ∨ b + c ≤ s.kbase n

/-- Nothing of the service complex uses its knots: every ring and the telemetry stream is disabled. -/
def svcKnotsIdle (s : State) : Prop :=
  s.fget SNS_TELEM0 SNS_TELEM0_ENABLE ≠ 1
    ∧ ∀ m d r, m < 2 → d < 2 → r < 16 → s.fget (SVC_ETH_RING1 m d r) SVC_ETH_RING1_ENABLE ≠ 1

/-- A task's run has lasted ns nanoseconds on a tile and context that a debugger does not hold. -/
def running (s : State) (q : Nat) (t : Task) (tile c ns : Nat) : Prop :=
  s.task q = some t ∧ t.ph = .running tile c ∧ s.runOf t = ns

end Sys2Proof.Claims

/-- R40, R42, R44, R46: CREATE makes the glove of a free slot, its knots at 0, and journals it; on a slot going down it
completes ST_BUSY, on an ACTIVE one ST_DENIED. TEARDOWN stops an ACTIVE glove's contexts; with nothing left at an output the
scrub starts, and after it the slot is RETIRED under the next epoch. -/
def Obligations.GloveLife : Prop :=
  (∀ n s, s.createStatus n.val = ST_OK →
    Goes (.create n) s (fun t => t.gstate n = gACTIVE ∧ t.fget (KNOT_GLOVE_CTL n) KNOT_GLOVE_CTL_STATUS = ST_OK
      ∧ t.fget (KNOT_GLOVE_CTL n) KNOT_GLOVE_CTL_CAUSE = 0 ∧ t.fget (KNOT_GLOVE_ADM1 n) KNOT_GLOVE_ADM1_TAKEN = 0
      ∧ (∀ i, t.knot i = if s.ownsKnot n i then {} else s.knot i) ∧ (∀ k, t.ctx k = s.ctx k) ∧ memKept s t
      ∧ journalled s t 5 n (leBytes 2 (s.fget (KNOT_GLOVE_CFG0 n) KNOT_GLOVE_CFG0_CLIENT) ++ leBytes 2 (s.gid n) ++ leBytes 2 (s.gepoch n))))
  ∧ (∀ n s, s.gstate n.val = gTEARDOWN ∨ s.gstate n.val = gSCRUB →
    Goes (.create n) s (fun t => t.fget (KNOT_GLOVE_CTL n) KNOT_GLOVE_CTL_STATUS = ST_BUSY ∧ t.gstate n = s.gstate n
      ∧ regsBut s t [KNOT_GLOVE_CTL n] ∧ memKept s t ∧ (∀ i, t.knot i = s.knot i) ∧ ∀ k, t.ctx k = s.ctx k))
  ∧ (∀ n s, s.gstate n.val = gACTIVE → (∀ m, m < 64 → s.gid m = s.gid n.val → s.gstate m ≠ gTEARDOWN ∧ s.gstate m ≠ gSCRUB) →
    Goes (.create n) s (fun t => t.fget (KNOT_GLOVE_CTL n) KNOT_GLOVE_CTL_STATUS = ST_DENIED ∧ t.gstate n = gACTIVE
      ∧ regsBut s t [KNOT_GLOVE_CTL n] ∧ memKept s t ∧ (∀ i, t.knot i = s.knot i) ∧ ∀ k, t.ctx k = s.ctx k))
  ∧ (∀ n s, s.gstate n.val = gFREE ∨ s.gstate n.val = gRETIRED →
    Goes (.teardown n) s (fun t => t.fget (KNOT_GLOVE_CTL n) KNOT_GLOVE_CTL_STATUS = ST_RANGE ∧ t.gstate n = s.gstate n
      ∧ regsBut s t [KNOT_GLOVE_CTL n] ∧ memKept s t ∧ ∀ k, t.ctx k = s.ctx k))
  ∧ (∀ n s, s.gstate n.val = gACTIVE →
    Goes (.teardown n) s (fun t => goesDown s t n causeCOMMAND
      ∧ t.fget (KNOT_GLOVE_CTL n) KNOT_GLOVE_CTL_STATUS = ST_OK ∧ ∀ i, t.knot i = s.knot i))
  ∧ (∀ n s, s.gstate n.val = gTEARDOWN → s.outboundLeft (s.gid n) (s.gepoch n) = false →
    Goes (.gloveDrainDone n) s (fun t => t.gstate n = gSCRUB
      ∧ t.fget (BRM_DIR_CUREP n) BRM_DIR_CUREP_VALID = 0 ∧ t.fget (BRM_DIR_NEXTEP n) BRM_DIR_NEXTEP_ARMED = 0))
  ∧ (∀ n s, s.gstate n.val = gSCRUB →
    Goes (.gloveScrubDone n) s (fun t => t.gstate n = gRETIRED ∧ t.gid n = s.gid n ∧ t.gepoch n = (s.gepoch n + 1) % 65536
      ∧ t.record n = some (s.gid n, (s.gepoch n + 1) % 65536) ∧ (∀ i, s.ownsKnot n i = true → t.knot i = {})
      ∧ ∀ k, (s.ctx k).task ≠ none → (s.ctx k).glove = n → t.ctx k = {}))

/-- R15, R19, R340, R346, R46: increments of knots from outside, by a KNOT_OP packet and by a service core; where the service
knots lie; and the job counters cleared. -/
def Obligations.KnotCommands : Prop :=
  (∀ x s p u n, accepts s x tKNOT_OP p u n → knotOpOk p = true → u.ownsKnot n (knotOpIx p) = true → 0 < knotOpBy p →
    u.svcKnot (knotOpIx p) = false → (u.knot (knotOpIx p)).count + knotOpBy p < 2 ^ 48 →
    releasesNone (knotGains (u.knot (knotOpIx p)) (knotOpBy p) (knotOpTaint p)) →
    Goes (.knotOpReceive x) s (fun t =>
      knotsBecome u t (knotOpIx p) (knotGains (u.knot (knotOpIx p)) (knotOpBy p) (knotOpTaint p)) ∧ memRegsKept u t))
  ∧ (∀ i v core s n, s.gstate n = gACTIVE → n < 64 → s.ownsKnot n i.val = true → s.svcKnot i.val = false → 0 < v.toNat → v.toNat < 2 ^ 32 →
    (s.knot i.val).count + v.toNat < 2 ^ 48 → releasesNone (knotGains (s.knot i.val) v.toNat false) →
    Goes (.knotRel i v core) s (fun t => knotsBecome s t i.val (knotGains (s.knot i.val) v.toNat false) ∧ memRegsKept s t))
  ∧ (∀ i v core s, s.svcKnot i.val = true → 0 < v.toNat → v.toNat < 2 ^ 32 → releasesNone (knotGains (s.knot i.val) v.toNat false) →
    Goes (.knotRel i v core) s (fun t => knotsBecome s t i.val (knotGains (s.knot i.val) v.toNat false) ∧ memRegsKept s t))
  ∧ (∀ i v core s, 2 ^ 32 ≤ v.toNat ∨ ((∀ n, n < 64 → s.gstate n = gACTIVE → s.ownsKnot n i.val = false) ∧ s.svcKnot i.val = false) →
    Goes (.knotRel i v core) s (fun t => (∀ j, t.knot j = s.knot j) ∧ memKept s t))
  ∧ (∀ v s, clearOfGloves s (bits v 13 0) (bits v 28 14) → svcKnotsIdle s →
    Goes (.knotSvcWrite v) s (fun t => t.fget KNOT_SVC KNOT_SVC_BASE = bits v 13 0 ∧ t.fget KNOT_SVC KNOT_SVC_COUNT = bits v 28 14
      ∧ regsBut s t [KNOT_SVC] ∧ memKept s t ∧ ∀ j, t.knot j = s.knot j))
  ∧ (∀ s, Goes .knotJobctlClear s (fun t =>
      (∀ m, m < 256 → t.reg (KNOT_JOBCLI m) = 0 ∧ t.reg (KNOT_JOBCNT m) = 0)
      ∧ regsBut s t ((List.range 256).flatMap (fun m => [KNOT_JOBCLI m, KNOT_JOBCNT m])) ∧ memKept s t))

/-- R34: a task that has run 10 ms faults its glove with cause WATCHDOG; one past MAXRUN microseconds raises
EV_TASK_MAXRUN once and goes on; R27: a hold of 10 ms without progress faults the glove with cause ADMIT_STALL. -/
def Obligations.TaskLimits : Prop :=
  (∀ q s t tile c ns, running s q.val t tile c ns → 10000000 ≤ ns → s.gstate t.glove = gACTIVE → t.glove < 64 →
    Goes (.taskWatchdog q) s (fun u => goesDown s u t.glove causeWATCHDOG))
  ∧ (∀ q s t tile c ns, running s q.val t tile c ns → ns < 10000000 →
    Goes (.taskWatchdog q) s (fun u => u.gstate t.glove = s.gstate t.glove ∧ memRegsKept s u ∧ ∀ k, u.ctx k = s.ctx k))
  ∧ (∀ q s t tile c ns, running s q.val t tile c ns → t.longRaised = false → t.maxrun * 1000 < ns →
    Goes (.taskMaxrunExceeded q) s (fun u => u.task q.val = some { t with longRaised := true }
      ∧ raised s u 0x0604 tile t.glove q.val (ns / 1000) ∧ memKept s u ∧ ∀ k, u.ctx k = s.ctx k))
  ∧ (∀ q s t tile c ns, running s q.val t tile c ns → t.longRaised = true →
    Goes (.taskMaxrunExceeded q) s (fun u => u.task q.val = some t ∧ memRegsKept s u ∧ ∀ k, u.ctx k = s.ctx k))
  ∧ (∀ n s h, Tab.look (fun _ => none) s.kn.holds n.val = some h → h.since + 10000000 ≤ s.lanyard.toNat → s.gstate n.val = gACTIVE →
    Goes (.admitStall n) s (fun t => goesDown s t n causeADMIT_STALL))
  ∧ (∀ n s h, Tab.look (fun _ => none) s.kn.holds n.val = some h → s.lanyard.toNat < h.since + 10000000 →
    Goes (.admitStall n) s (fun t => t.gstate n = s.gstate n ∧ memRegsKept s t))

namespace Sys2Proof.Claims

open Machine Reg

/-- The next ring entry of glove n, which its admission knot allows, names the graph list g, whose pages are readable and whose
header's are writable (R24, R25). -/
def graphNext (s : State) (n : Nat) (g : GraphList) : Prop :=
  s.gstate n = gACTIVE ∧ s.taken n < (s.knot (s.fget (KNOT_GLOVE_ADM1 n) KNOT_GLOVE_ADM1_ADM_KNOT)).count
    ∧ s.readWords n (s.fget (KNOT_GLOVE_ADM0 n) KNOT_GLOVE_ADM0_RING_BASE + 8 * s.ringIx n) 1 = some [BitVec.ofNat 64 g.addr]
    ∧ g.addr ≠ 0 ∧ g.addr % 64 = 0 ∧ g.addr < 2 ^ 57 ∧ s.readWords n g.addr 8 = some g.head ∧ s.mapped n g.addr 64 .W = true
    ∧ ∃ ws, s.readWords n (g.addr + 0x40) (16 * g.ntask + 2 * g.nkinit) = some ws ∧ g.tasks = chunks 16 g.ntask ws
      ∧ g.inits = chunks 2 g.nkinit (ws.drop (16 * g.ntask))

/-- The graph that admission makes of a list. -/
def graphMade (s : State) (n : Nat) (g : GraphList) : Graph :=
  { glove := n, stepId := g.head.getD 2 0, doneKnot := g.doneKnot, stepEnd := (g.head.getD 3 0).getLsbD 32,
    remaining := g.ntask, ordinal := s.taken n, order := s.kn.order }

end Sys2Proof.Claims

/-- R24 to R27: ADMIT_GRAPH takes the next ring entry: a graph that passes its checks and finds room is admitted with its tasks
still to retire; one that does not find room is held, with nothing taken; with the admission knot not ahead, nothing happens. -/
def Obligations.GraphAdmission : Prop :=
  (∀ n s g, graphNext s n.val g → s.graphCheck n.val g = ST_OK → s.graphHeld n.val g = false →
    Goes (.admitGraph n) s (fun t => t.taken n.val = (s.taken n.val + 1) % 2 ^ 48
      ∧ t.graph s.kn.order = some (graphMade s n.val g) ∧ Tab.look (fun _ => none) t.kn.holds n.val = none))
  ∧ (∀ n s g, graphNext s n.val g → s.graphCheck n.val g = ST_OK → s.graphHeld n.val g = true →
    Tab.look (fun _ => none) s.kn.holds n.val = none →
    Goes (.admitGraph n) s (fun t => Tab.look (fun _ => none) t.kn.holds n.val = some ⟨s.lanyard.toNat, g.inits.map initKnot⟩
      ∧ (∀ j, t.knot j = s.knot j) ∧ memRegsKept s t))
  ∧ (∀ n s g, graphNext s n.val g → s.graphCheck n.val g ≠ ST_OK → s.ownsKnot n.val g.doneKnot = false →
    Goes (.admitGraph n) s (fun t => t.taken n.val = (s.taken n.val + 1) % 2 ^ 48 ∧ ∀ j, t.knot j = s.knot j))
  ∧ (∀ n s, s.gstate n.val ≠ gACTIVE ∨ (s.knot (s.fget (KNOT_GLOVE_ADM1 n) KNOT_GLOVE_ADM1_ADM_KNOT)).count ≤ s.taken n.val →
    Goes (.admitGraph n) s (fun t => (∀ j, t.knot j = s.knot j) ∧ memRegsKept s t ∧ t.kn.graphs = s.kn.graphs))

/-- R31, R32, R394: TASK_DISPATCH places the task that pick chooses on the tile that bestTile gives, in the tile's lowest free
context, with its registers set and the banks it needs claimed; nothing is placed outside P0 and P1. -/
def Obligations.TaskPlacement : Prop :=
  (∀ s q t tile c g, s.fget PWR_STATE PWR_STATE_STATE ≤ 1 → s.pwr.goal = none → s.pick = some (q, t) → s.bestTile q t = some tile →
    (List.range 16).find? (fun c => ((s.tile tile).ctx c).task.isNone) = some c → s.graph t.graph = some g →
    Goes .taskDispatch s (fun u =>
      (∃ r, u.task q = some r ∧ r.ph = .running tile c ∧ r.desc = t.desc ∧ r.glove = t.glove ∧ r.runStart = s.lanyard.toNat)
      ∧ (u.ctx (ctxId tile c)).task = some q ∧ (u.ctx (ctxId tile c)).glove = t.glove
      ∧ (u.ctx (ctxId tile c)).pc = BitVec.ofNat 57 (bits (t.desc.getD 0 0) 56 0)
      ∧ (∀ r, (u.ctx (ctxId tile c)).gr r = if r = 1 then t.desc.getD 1 0
          else if r = 2 then BitVec.ofNat 64 (bits (t.desc.getD 15 0) 31 0) else if r = 3 then g.stepId else 0)
      ∧ (u.ctx (ctxId tile c)).banks = (s.tile tile).freeBanks.take t.accNeed
      ∧ (∀ k, k ≠ ctxId tile c → u.ctx k = s.ctx k) ∧ memRegsKept s u))
  ∧ (∀ s, 2 ≤ s.fget PWR_STATE PWR_STATE_STATE ∨ s.pwr.goal ≠ none →
    Goes .taskDispatch s (fun u => (∀ q, u.task q = s.task q) ∧ (∀ k, u.ctx k = s.ctx k) ∧ memRegsKept s u))
  ∧ (∀ (s : State) q t tile, s.bestTile q t = some tile → tile < 256 ∧ s.candidate q t tile = true
      ∧ ∀ i, i < 256 → s.candidate q t i = true → s.score t i ≤ s.score t tile)
  ∧ (∀ (s : State) q t, s.pick = some (q, t) → s.mayDispatch t = true ∧ (q, some t) ∈ s.kn.tasks
      ∧ (s.gurgent t.glove = false → ∀ r y, (r, some y) ∈ s.kn.tasks → s.mayDispatch y = true → y.glove < 64 → s.gurgent y.glove = true →
          s.bestTile r y = none))

namespace Sys2Proof.Claims

open Machine Reg

/-- Context k runs task t of slot q, outside twin mode, has nothing queued and no move open, and reaches HALT. -/
def halting (s : State) (k : CtxId) (w : FmtA) (q : Nat) (t : Task) : Prop :=
  ReadyA s k w ∧ bareWord w ∧ w.imm = 0 ∧ s.quiet k = true ∧ (s.ctx k).moves = [] ∧ (s.ctx k).task = some q ∧ s.task q = some t
    ∧ s.twin t.glove = false

/-- No increment of knot i by up to n overflows or releases anyone. -/
def calm (s : State) (i n : Nat) : Prop := (s.knot i).count + n < 2 ^ 48 ∧ (s.knot i).waiters = []

end Sys2Proof.Claims

/-- R33: HALT frees the context and the task's slot, adds 1 to each output knot, and brings its graph nearer to its end; after
the last task the graph is gone and its DONE_KNOT has gained 1. -/
def Obligations.TaskRetirement : Prop :=
  (∀ k w s q t g, halting s k w q t → s.graph t.graph = some g → 1 < g.remaining → (∀ i ∈ t.outs, calm s i t.outs.length) →
    Goes (.halt k w) s (fun u => u.task q = none ∧ u.ctx k = {} ∧ (∀ k', k' ≠ k → u.ctx k' = s.ctx k')
      ∧ (∀ i, (u.knot i).count = (s.knot i).count + t.outs.count i)
      ∧ (∃ h, u.graph t.graph = some h ∧ h.remaining = g.remaining - 1) ∧ memRegsKept s u))
  ∧ (∀ k w s q t g, halting s k w q t → s.graph t.graph = some g → g.remaining = 1 → g.stepEnd = false →
    (∀ i ∈ g.doneKnot :: t.outs, calm s i (t.outs.length + 1)) →
    Goes (.halt k w) s (fun u => u.task q = none ∧ u.ctx k = {} ∧ u.graph t.graph = none
      ∧ (∀ i, (u.knot i).count = (s.knot i).count + (g.doneKnot :: t.outs).count i) ∧ memRegsKept s u))
  ∧ (∀ k w s, ReadyA s k w → bareWord w → w.imm = 0 → s.quiet k = false ∨ (s.ctx k).moves ≠ [] →
    Goes (.halt k w) s (fun u => (∀ k', u.ctx k' = s.ctx k') ∧ (∀ q, u.task q = s.task q) ∧ memRegsKept s u))

namespace Sys2Proof.Claims

open Machine Reg

/-- Nothing but the fabric, counters and the logs has changed: memory, knots and tasks, tiles, exact cells, memory tiers,
routing engines and power are as before. -/
def netKept (s t : State) : Prop :=
  t.mem = s.mem ∧ t.kn = s.kn ∧ t.tiles = s.tiles ∧ t.slice = s.slice ∧ t.mm = s.mm ∧ t.brm = s.brm ∧ t.pwr = s.pwr

/-- No request waits in the arbiter for the register at an offset, and no round is under way (R360). -/
def arbCalm (s : State) (off : Nat) : Prop := s.svc.round = [] ∧ ∀ x ∈ s.svc.slots, x.off ≠ off

/-- The lanes of a port that are good after one more fails. -/
def lanesAfter (v : Port) (lane : Nat) : BitVec 4 := ~~~(v.failedLanes ||| BitVec.ofNat 4 (2 ^ lane))

/-- Whether a write to PORT_FI_CTL holds no reserved value. -/
def injectorWord (v : W64) : Prop := bits v 17 16 < 2 ∧ bits v 13 12 ≠ 3

end Sys2Proof.Claims

/-- R243, R275, R276, R280: a lane that fails narrows an UP port, or takes it DOWN below its least width; retraining ends UP, or
DOWN after 1 ms; 10 microseconds of silence retrain; and the four commands take a port to TRAINING, DOWN, FENCED and back. -/
def Obligations.PortStates : Prop :=
  (∀ p lane s, s.pstate p.val = 2 → (s.lanes p.val).getLsbD lane.val = true →
    (laneCount (lanesAfter (s.port p.val) lane.val) < s.minWidth p.val →
      Goes (.portLaneFail p lane) s (fun t => t.pstate p = 0 ∧ netKept s t))
    ∧ (s.minWidth p.val ≤ laneCount (lanesAfter (s.port p.val) lane.val) →
      Goes (.portLaneFail p lane) s (fun t => t.pstate p = 3 ∧ (t.port p).goodLanes = lanesAfter (s.port p) lane ∧ netKept s t)))
  ∧ (∀ p s, s.pstate p.val = 3 →
    Goes (.portRetrainDone p) s (fun t => t.pstate p = 2 ∧ t.lanes p = (s.port p).goodLanes ∧ netKept s t))
  ∧ (∀ p s, s.pstate p.val = 3 → (s.port p.val).retrainAt + 1000000 ≤ s.lanyard.toNat →
    Goes (.portRetrainTimeout p) s (fun t => t.pstate p = 0 ∧ netKept s t))
  ∧ (∀ p s, s.pstate p.val = 2 → (s.port p.val).lastRx + 10000 ≤ s.lanyard.toNat →
    Goes (.portRxSilence p) s (fun t => t.pstate p = 3 ∧ netKept s t))
  ∧ (∀ p src s, arbCalm s (PORT_CFG p.val) → s.pstate p.val = 0 →
    Goes (.portEnable p src) s (fun t => t.pstate p = 1 ∧ (t.port p).enabled = true ∧ netKept s t))
  ∧ (∀ p src s, arbCalm s (PORT_CFG p.val) →
    Goes (.portDisable p src) s (fun t => t.pstate p = 0 ∧ (t.port p).enabled = false ∧ netKept s t))
  ∧ (∀ p src s, arbCalm s (PORT_CFG p.val) → Goes (.portFence p src) s (fun t => t.pstate p = 5 ∧ netKept s t))
  ∧ (∀ p src s, arbCalm s (PORT_CFG p.val) → s.pstate p.val = 4 ∨ s.pstate p.val = 5 →
    Goes (.portRelease p src) s (fun t => t.pstate p = 1 ∧ netKept s t))

/-- R278, R279: ARM arms a port's injector where injection is permitted, and journals it; elsewhere it is DENIED; a reserved
value is answered ST_RANGE; STOP disarms; a delayed packet goes out once its time has passed. -/
def Obligations.FaultInjector : Prop :=
  (∀ p v s, injectorWord v → s.fiAllowed = true →
    Goes (.portFiArm p v) s (fun t => t.fget (PORT_FI_CTL p) PORT_FI_CTL_ARMED = 1 ∧ t.fget (PORT_FI_CTL p) PORT_FI_CTL_STATUS = ST_OK
      ∧ t.fget (PORT_FI_CTL p) PORT_FI_CTL_ACTION = bits v 15 14 ∧ t.fget (PORT_FI_CTL p) PORT_FI_CTL_TRIGGER = bits v 13 12
      ∧ (t.port p).inj.fired = 0
      ∧ journalled s t 0x0011 0x3F (leBytes 1 p ++ leBytes 1 (bits v 15 14) ++ leBytes 1 (bits v 13 12)) ∧ netKept s t))
  ∧ (∀ p v s, injectorWord v → s.fiAllowed = false →
    Goes (.portFiArm p v) s (fun t => t.fget (PORT_FI_CTL p) PORT_FI_CTL_ARMED = 0
      ∧ t.fget (PORT_FI_CTL p) PORT_FI_CTL_STATUS = ST_DENIED ∧ regsBut s t [PORT_FI_CTL p] ∧ netKept s t))
  ∧ (∀ p v s, ¬ injectorWord v →
    Goes (.portFiArm p v) s (fun t => t.fget (PORT_FI_CTL p) PORT_FI_CTL_STATUS = ST_RANGE
      ∧ t.fget (PORT_FI_CTL p) PORT_FI_CTL_ARMED = s.fget (PORT_FI_CTL p) PORT_FI_CTL_ARMED ∧ regsBut s t [PORT_FI_CTL p] ∧ netKept s t))
  ∧ (∀ p s, Goes (.portFiStop p) s (fun t => t.fget (PORT_FI_CTL p) PORT_FI_CTL_ARMED = 0 ∧ regsBut s t [PORT_FI_CTL p] ∧ netKept s t))
  ∧ (∀ p s due q r, (s.port p.val).inj.delayed = (due, q) :: r → due ≤ s.lanyard.toNat → (s.port p.val).hasCredit q = true →
    Goes (.fiDelayExpire p) s (fun t => (t.port p).inj.delayed = r
      ∧ (∃ n, (t.port p).inFlight = (s.port p).inFlight ++ [(n, q)]) ∧ netKept s t))

namespace Sys2Proof.Claims

open Machine Reg

/-- The initialisation record of an INIT frame (R247). -/
def initRecord (f : LinkFrame) : Nat := ((frameFlits f).headD 0).toNat

/-- A well-formed initialisation record: a device's, with at least 65 flits of reserved credit (R247). -/
def initOk (n : Nat) : Prop := hf n 31 25 = 0 ∧ 65 ≤ hf n 47 32 ∧ hf n 511 80 = 0 ∧ (hf n 24 24 = 0 → hf n 23 0 < 64)

/-- A frame after INIT whose three credit returns are empty, that acknowledges the newest frame sent, and that asks neither
for a replay nor for retraining. -/
def plainFrame (s : State) (p : Nat) (f : LinkFrame) : Prop :=
  frameCtlOk f = true ∧ frameFlitsOk f = true ∧ cf f.ctl 50 48 = 0 ∧ cf f.ctl 31 16 = (s.port p).txSeq.toNat
    ∧ cf f.ctl 71 56 = 0xF000 ∧ cf f.ctl 87 72 = 0xF000 ∧ cf f.ctl 103 88 = 0xF000

/-- No injector acts on a port. -/
def noInjector (s : State) (p : Nat) : Prop := s.fget (PORT_FI_CTL p) PORT_FI_CTL_ARMED = 0 ∧ (s.port p).inj.reorder = []

end Sys2Proof.Claims

/-- R244 to R248, R258: a port that is DOWN or FENCED takes no frame; a good INIT brings a TRAINING port UP under its partner's
name; a frame with a bad control CRC asks for a replay and delivers nothing; a frame in order is acknowledged; and an UP port
sends the packet that is next at its output. -/
def Obligations.LinkLayer : Prop :=
  (∀ p f s, s.pstate p.val = 0 ∨ s.pstate p.val = 5 →
    Goes (.linkFrameReceive p f) s (fun t => t.rt = s.rt ∧ t.ports = s.ports ∧ (∀ o, t.reg o = s.reg o) ∧ netKept s t))
  ∧ (∀ p f s, s.pstate p.val = 1 → frameCtlOk f = true → frameFlitsOk f = true → cf f.ctl 50 50 = 1 → initOk (initRecord f) →
    (s.port p.val).initSent = true →
    Goes (.linkFrameReceive p f) s (fun t => t.pstate p = 2 ∧ t.fget (PORT_STAT p) PORT_STAT_PARTNER = hf (initRecord f) 23 0
      ∧ t.fget (PORT_STAT p) PORT_STAT_PDEV = hf (initRecord f) 24 24 ∧ (t.port p).advRsvd = hf (initRecord f) 47 32
      ∧ (t.port p).heldShared = hf (initRecord f) 63 48 ∧ netKept s t))
  ∧ (∀ p f s, s.pstate p.val = 2 → frameCtlOk f = false → (s.port p.val).badRun < 63 →
    Goes (.linkFrameReceive p f) s (fun t => (t.port p).nakReq = true ∧ (t.port p).badRun = (s.port p).badRun + 1
      ∧ (t.port p).rxAck = (s.port p).rxAck ∧ t.pstate p = 2 ∧ t.rt = s.rt ∧ netKept s t))
  ∧ (∀ p f s, s.pstate p.val = 2 → plainFrame s p.val f → cf f.ctl 47 32 = 0 →
    cf f.ctl 15 0 = ((s.port p.val).rxAck.toNat + 1) % 65536 → (s.port p.val).rxFlits = [] →
    Goes (.linkFrameReceive p f) s (fun t => (t.port p).rxAck.toNat = cf f.ctl 15 0 ∧ (t.port p).nakReq = false
      ∧ (t.port p).badRun = 0 ∧ t.rt = s.rt ∧ netKept s t))
  ∧ (∀ p s, s.pstate p.val ≠ 2 → s.hub.transfers = [] →
    Goes (.portOutputSend p) s (fun t => t.rt = s.rt ∧ t.ports = s.ports ∧ (∀ o, t.reg o = s.reg o) ∧ netKept s t))
  ∧ (∀ p s q how, s.pstate p.val = 2 → s.hub.transfers = [] → (s.port p.val).txFlits = [] → noInjector s p.val →
    s.nextOut p.val = some (q, how) → q.ty ≠ tTIME →
    Goes (.portOutputSend p) s (fun t => t.outq p q.vc = dropFirst q (s.outq p q.vc)
      ∧ (∃ n, (t.port p).inFlight = (s.port p).inFlight ++ [(n, q)])
      ∧ (∀ v, v ≠ q.vc → v < 8 → t.outq p v = s.outq p v) ∧ netKept s t))

namespace Sys2Proof.Claims

open Machine Reg

/-- Packet p heads input queue x, and r are those behind it. -/
def heads (s : State) (x : Rx) (p : Packet) (r : List Packet) : Prop := s.inq x.port x.vc = p :: r

/-- A packet as it leaves: the same but for its mark, its arrival time and what a clause names. -/
def sameBut (p q : Packet) : Prop :=
  q.ty = p.ty ∧ q.dest = p.dest ∧ q.src = p.src ∧ q.glove = p.glove ∧ q.epoch = p.epoch ∧ q.taddr = p.taddr ∧ q.len = p.len
    ∧ q.seq = p.seq ∧ q.body = p.body ∧ q.data = p.data

/-- An output queue gains one packet. -/
def queued (s t : State) (o vc : Nat) (E : Packet → Prop) : Prop := ∃ q, t.outq o vc = s.outq o vc ++ [q] ∧ q.vc = vc ∧ E q

end Sys2Proof.Claims

/-- R260 to R262, R274: a packet for another device goes to the output its route names; an adaptive one in transit without
credit for ESC_US escapes to VC7; packets held while a route drains go out when it has drained; a packet of a reserved type is
taken out and refused. -/
def Obligations.RouterForwards : Prop :=
  (∀ x s p r o, heads s x p r → p.dest ≠ s.self → p.ty ≠ tCIRC_SETUP → p.ty ≠ tCIRC_TEAR → p.ty ≠ 0 → p.ty < 0x17 → p.circ = 0 →
    p.vc < 8 → (s.popIn x).route p.dest p.vc p.adapt p.escaped = some o →
    Goes (.packetTransit x) s (fun t => t.inq x.port x.vc = r ∧ queued s t o p.vc (sameBut p) ∧ netKept s t))
  ∧ (∀ x s p r, heads s x p r → p.dest = s.self →
    Goes (.packetTransit x) s (fun t => t.rt = s.rt ∧ (∀ o, t.reg o = s.reg o) ∧ netKept s t))
  ∧ (∀ p vc s q r o, s.outq p.val vc.val = q :: r → vc.val ≠ 7 → q.adapt = true → q.escaped = false → q.src ≠ s.self →
    (s.port p.val).hasCredit q = false → q.since + max 1 (s.fget FAB_CFG FAB_CFG_ESC_US) * 1000 ≤ s.lanyard.toNat →
    s.route q.dest 7 true true = some o →
    Goes (.packetEscape p vc) s (fun t => t.outq p vc = r ∧ queued s t o 7 (fun e => sameBut q e ∧ e.escaped = true) ∧ netKept s t))
  ∧ (∀ slot s, Tab.look (fun _ => 0) s.rt.drain slot.val ≤ s.lanyard.toNat →
    Goes (.syncDrainExpire slot) s (fun t => t.rt.heldPkts = s.rt.heldPkts.filter (fun p => slotOf p.dest != slot.val)
      ∧ Tab.look (fun _ => 0) t.rt.drain slot = 0 ∧ netKept s t))
  ∧ (∀ x s p r, heads s x p r → p.ty = 0 ∨ 0x17 ≤ p.ty → p.src ≠ s.self →
    Goes (.packetBadTypeReceive x) s (fun t => t.inq x.port x.vc = r ∧ netKept s t))

/-- R265, R266: a CNP lowers the limiter of its source by DEC sixteenths, not below MIN; pending marks go out in one CNP of at
most 65,535; a limiter without an echo for RECOV_US gains INC and is dropped at full rate. -/
def Obligations.CongestionControl : Prop :=
  (∀ x s p u n l, accepts s x tCNP p u n → p.len = 8 → bits (p.word 0) 63 16 = 0 → bits (p.word 0) 15 0 ≠ 0 →
    u.limiter p.src = some l → l.lastDec + u.fget FAB_RATE FAB_RATE_HOLD_US * 1000 ≤ u.lanyard.toNat →
    Goes (.cnpReceive x) s (fun t => t.limiter p.src = some { l with
        rate := max (max 1 (u.fget FAB_RATE FAB_RATE_MIN)) (l.rate * (16 - max 1 (u.fget FAB_RATE FAB_RATE_DEC)) / 16),
        lastDec := u.lanyard.toNat, lastEcho := u.lanyard.toNat }
      ∧ (∀ d, d ≠ p.src → t.limiter d = u.limiter d) ∧ netKept u t))
  ∧ (∀ dev s n, Tab.look (fun _ => 0) s.rt.marks dev.toNat = n → 0 < n →
    Tab.look (fun _ => 0) s.rt.marksAt dev.toNat + max 1 (s.fget FAB_CM FAB_CM_CNP_GAP) ≤ s.lanyard.toNat →
    Goes (.cnpSend dev) s (fun t => Tab.look (fun _ => 0) t.rt.marks dev.toNat ≤ n - min n 65535 ∧ netKept s t))
  ∧ (∀ dev s l, s.limiter dev = some l → l.lastEcho + max 1 (s.fget FAB_RATE FAB_RATE_RECOV_US) * 1000 ≤ s.lanyard.toNat →
    Goes (.rateLimitRecover dev) s (fun t =>
      t.limiter dev = (if 1024 ≤ l.rate + max 1 (s.fget FAB_RATE FAB_RATE_INC) then none
        else some { l with rate := l.rate + max 1 (s.fget FAB_RATE FAB_RATE_INC), lastEcho := s.lanyard.toNat })
      ∧ (∀ d, d ≠ dev → t.limiter d = s.limiter d) ∧ (∀ o, t.reg o = s.reg o) ∧ netKept s t))

namespace Sys2Proof.Claims

open Machine Reg

/-- The number by which circuits name an input (R267): the port, or 63 for this device. -/
def inPort (x : Rx) : Nat := if x.port.val < 32 then x.port.val else 63

/-- The payload of a CIRC_SETUP that is no refresh (R268). -/
def setupOk (p : Packet) : Prop :=
  p.len = 16 ∧ bits (p.word 0) 63 39 = 0 ∧ p.word 1 = 0 ∧ 1 ≤ bits (p.word 0) 38 32 ∧ bits (p.word 0) 38 32 ≤ 64

end Sys2Proof.Claims

/-- R256: FAB_PROBE notes the PID it sends; a reply to the last probe sets the result registers; a probe of another device is
answered, at most one per microsecond and input. -/
def Obligations.Probes : Prop :=
  (∀ v s, Goes (.fabProbe v) s (fun t => t.rt.lastPid = some (BitVec.ofNat 32 (bits v 31 0)) ∧ netKept s t))
  ∧ (∀ x s p u n, accepts s x tPROBE p u n → p.len = 32 → bits (p.word 0) 63 38 = 0 → bits (p.word 3) 63 24 = 0 → p.reply = true →
    u.rt.lastPid = some (BitVec.ofNat 32 (bits (p.word 0) 31 0)) →
    Goes (.probeReceive x) s (fun t => t.fget FAB_PROBE_RES0 FAB_PROBE_RES0_VALID = 1
      ∧ t.fget FAB_PROBE_RES0 FAB_PROBE_RES0_PID = bits (p.word 0) 31 0
      ∧ t.fget FAB_PROBE_RES0 FAB_PROBE_RES0_IN_PORT = bits (p.word 0) 37 32
      ∧ t.fget FAB_PROBE_RES1 FAB_PROBE_RES1_RTT_NS = min (u.lanyard.toNat - (p.word 1).toNat) 0xFFFFFFFF
      ∧ regsBut u t [FAB_PROBE_RES0, FAB_PROBE_RES1] ∧ t.rt = u.rt ∧ netKept u t))
  ∧ (∀ x s p u n, accepts s x tPROBE p u n → p.len = 32 → bits (p.word 0) 63 38 = 0 → bits (p.word 3) 63 24 = 0 → p.reply = false →
    (∀ a, (u.port x.port).lastProbe = some a → a + 1000 ≤ u.lanyard.toNat) →
    Goes (.probeReceive x) s (fun t => (t.port x.port).lastProbe = some u.lanyard.toNat ∧ netKept u t))

/-- R267, R268, R270: a setup takes the lowest free slot of its route's port at each hop and goes on with that slot's number; a
teardown frees the slot it travels through; a circuit not acknowledged in 100 microseconds is torn down, one idle for 25 is
refreshed, and one that neither packet nor refresh has used for 100 is freed. -/
def Obligations.Circuits : Prop :=
  (∀ x s p r o c, heads s x p r → p.ty = tCIRC_SETUP → p.dest ≠ s.self → p.src ≠ s.self → setupOk p → p.circ < 128 → p.vc < 8 →
    (s.popIn x).route p.dest 0 false false = some o → (s.popIn x).slotFor o (bits (p.word 0) 38 32) = some c →
    Goes (.circSetupReceive x) s (fun t => t.fget (PORT_CIRC o c) PORT_CIRC_VALID = 1
      ∧ t.fget (PORT_CIRC o c) PORT_CIRC_IN_PORT = inPort x ∧ t.fget (PORT_CIRC o c) PORT_CIRC_IN_CIRC = p.circ
      ∧ t.fget (PORT_CIRC o c) PORT_CIRC_SHARE = bits (p.word 0) 38 32 ∧ t.fget (PORT_CIRC o c) PORT_CIRC_GLOVE = p.glove.toNat
      ∧ t.fget (PORT_CIRC o c) PORT_CIRC_EPOCH = p.epoch.toNat ∧ queued s t o p.vc (fun q => sameBut p q ∧ q.circ = c + 1)
      ∧ netKept s t))
  ∧ (∀ x s p u n, accepts s x tCIRC_SETUP p u n → setupOk p → Goes (.circSetupReceive x) s (fun t =>
      t.rt = (u.ack p (BitVec.ofNat 64 (bits (p.word 0) 31 0)) 0).rt ∧ netKept u t))
  ∧ (∀ x s p r o c, heads s x p r → p.ty = tCIRC_TEAR → p.dest ≠ s.self → p.vc < 8 → (s.popIn x).circSlot (inPort x) p.circ = some (o, c) →
    (s.popIn x).circOf o c p = true →
    Goes (.circTearReceive x) s (fun t => t.reg (PORT_CIRC o c) = 0 ∧ queued s t o p.vc (fun q => sameBut p q ∧ q.circ = c + 1)
      ∧ netKept s t))
  ∧ (∀ cid s c, s.rt.circs.find? (fun c => c.cid == cid) = some c → c.port < 32 → c.slot < 64 → c.usable = false → c.sentAt + 100000 ≤ s.lanyard.toNat →
    Goes (.circSetupTimeout cid) s (fun t => t.reg (PORT_CIRC c.port c.slot) = 0 ∧ (∀ d ∈ t.rt.circs, d.cid ≠ cid) ∧ netKept s t))
  ∧ (∀ cid s c, s.rt.circs.find? (fun c => c.cid == cid) = some c → c.share < 128 → c.usable = true →
    (Tab.look (fun _ => ({} : CircUse)) (s.port c.port).circ c.slot).lastUse + 25000 ≤ s.lanyard.toNat →
    Goes (.circRefresh cid) s (fun t => (Tab.look (fun _ => ({} : CircUse)) (t.port c.port).circ c.slot).lastUse = s.lanyard.toNat
      ∧ queued s t c.port 0 (fun q => q.ty = tCIRC_SETUP ∧ q.dest = c.dest ∧ q.circ = c.slot + 1 ∧ (q.word 0).getLsbD 39 = true)
      ∧ netKept s t))
  ∧ (∀ p c s, (s.reg (PORT_CIRC p.val c.val)).getLsbD 63 = true →
    (Tab.look (fun _ => ({} : CircUse)) (s.port p.val).circ c.val).lastUse + 100000 ≤ s.lanyard.toNat →
    Goes (.circLeaseExpire p c) s (fun t => t.reg (PORT_CIRC p c) = 0
      ∧ (∀ o ∈ t.rt.circs, ¬ (o.port = p.val ∧ o.slot = c.val)) ∧ netKept s t))

/-- R272: a branch's cast for a glove that this device's hitch entry serves is delivered here as a packet of its inner type; the
copy of a pod cast is delivered at every other device of the pod, and dropped at its source. -/
def Obligations.HitchCasts : Prop :=
  (∀ x s p r, heads s x p r → p.ty = tHITCH_CAST → bits (p.word 1) 6 6 = 1 → p.src ≠ s.self → x.port.val ≠ 32 →
    Goes (.hitchCastReceive x) s (fun t => t.inq x.port x.vc = r
      ∧ (∃ q, t.inq 32 (vcOf (bits (p.word 1) 5 0)) = s.inq 32 (vcOf (bits (p.word 1) 5 0)) ++ [q] ∧ q.ty = bits (p.word 1) 5 0
        ∧ q.dest = s.self ∧ q.src = p.src ∧ q.glove = p.glove) ∧ netKept s t))
  ∧ (∀ x s p r, heads s x p r → p.ty = tHITCH_CAST → bits (p.word 1) 6 6 = 1 → p.src = s.self →
    Goes (.hitchCastReceive x) s (fun t => t.inq x.port x.vc = r ∧ t.rt.outq = s.rt.outq ∧ netKept s t))

namespace Sys2Proof.Claims

open Machine Reg

/-- The router is as after sending packet q from state u. -/
def sends (u t : State) (q : Packet) : Prop := t.rt = (u.send q).rt

/-- Nothing but the fabric, counters, logs and the touched pages' places has changed. -/
def tilesKnotsKept (s t : State) : Prop := t.kn = s.kn ∧ t.tiles = s.tiles ∧ t.brm = s.brm ∧ t.pwr = s.pwr

/-- A STORE's payload lies within one line (R283). -/
def storeOk (p : Packet) : Prop := 1 ≤ p.len ∧ p.taddr.toNat % 64 + p.len ≤ 64

/-- A request of context k, the first that answer-matcher m finds. -/
def awaited (u : State) (m : PodReq → Bool) (r : PodReq) (k : CtxId) : Prop :=
  u.findReq m = some r ∧ r.owner = some (ctxNum k) ∧ (u.ctx k).wait = .none

/-- The LOAD_RSP that answers a LOAD_REQ with bytes (R284). -/
def loadAnswer (p : Packet) (poison : Bool) (bs : List Byte) : Packet :=
  { ty := tLOAD_RSP, vc := 2, dest := p.src, len := 8 + bits (p.word 0) 6 0, poison := poison,
    data := leBytes 8 (bits (p.word 0) 31 16) ++ bs }

/-- The requests that a LOAD_RSP answers. -/
def loadMatch (p : Packet) (n : Nat) (r : PodReq) : Bool :=
  r.tag == bits (p.word 0) 15 0 && (r.kind == 0 || r.kind == 2 || r.kind == 4) && r.glove == n && r.dest == p.src
    && p.len == 8 + r.bytes

/-- The value that a LOAD_RSP gives its load or atomic. -/
def loadGives (p : Packet) (r : PodReq) : W64 :=
  let v := leNat (p.data.drop 8)
  if r.kind = 0 ∧ r.w.ox 23 23 = 1 ∧ 2 ^ (8 * r.bytes - 1) ≤ v then BitVec.ofInt 64 ((v : Int) - 2 ^ (8 * r.bytes)) else BitVec.ofNat 64 v

end Sys2Proof.Claims

/-- R284, R287: a STORE that the target allows lands its bytes; one that it does not allow is refused with the code and changes
no memory. A LOAD_REQ is answered with the bytes of its line; an ATOMIC leaves the new value. -/
def Obligations.RemoteAccessTarget : Prop :=
  (∀ x s p u n v, accepts s x tSTORE p u n → storeOk p → u.targetCode n p.src p.taddr.toNat p.len false true = 0 →
    inCells (u.targetAddr n p.taddr.toNat) = false → u.setVbytes n p.taddr.toNat p.data = some v →
    Goes (.storeReceive x) s (fun t => t.mem = v.mem ∧ tilesKnotsKept u t))
  ∧ (∀ x s p u n c, accepts s x tSTORE p u n → storeOk p → u.targetCode n p.src p.taddr.toNat p.len false true = 0 →
    inCells (u.targetAddr n p.taddr.toNat) = true →
    (u.cell (u.targetAddr n p.taddr.toNat)).put (u.targetAddr n p.taddr.toNat % 64 / 8) (BitVec.ofNat 64 (leNat p.data)) = some c →
    Goes (.storeReceive x) s (fun t => t.cell (u.targetAddr n p.taddr.toNat) = c ∧ t.mem = u.mem ∧ tilesKnotsKept u t))
  ∧ (∀ x s p u n code, accepts s x tSTORE p u n → storeOk p → code = u.targetCode n p.src p.taddr.toNat p.len false true → code ≠ 0 →
    Goes (.storeReceive x) s (fun t => t.rt = (u.nak p code).rt ∧ netKept u t))
  ∧ (∀ x s p u n v b, accepts s x tLOAD_REQ p u n → loadReqOk p = true →
    u.targetCode n p.src p.taddr.toNat (bits (p.word 0) 6 0) true false = 0 → b = u.targetAddr n p.taddr.toNat → inCells b = false →
    u.touch (b / 65536) 0 true = some v →
    Goes (.loadReqReceive x) s (fun t =>
      sends v t (v.tagged n (loadAnswer p (u.poisoned b) (u.bytes b (bits (p.word 0) 6 0))))
      ∧ t.mem = u.mem ∧ tilesKnotsKept u t))
  ∧ (∀ x s p u n code, accepts s x tLOAD_REQ p u n → loadReqOk p = true →
    code = u.targetCode n p.src p.taddr.toNat (bits (p.word 0) 6 0) true false → code ≠ 0 →
    Goes (.loadReqReceive x) s (fun t => t.rt = (u.nak p code).rt ∧ netKept u t))
  ∧ (∀ x s p u n v b m, accepts s x tATOMIC p u n → atomicOk p = true →
    u.targetCode n p.src p.taddr.toNat (2 ^ bits (p.word 0) 5 4) true true = 0 → b = u.targetAddr n p.taddr.toNat → inCells b = false →
    u.poisoned b = false → bits (p.word 0) 2 0 ≤ 4 → u.touch (b / 65536) 0 true = some v → m = leNat (u.bytes b (2 ^ bits (p.word 0) 5 4)) →
    Goes (.atomicReceive x) s (fun t =>
      stored u t b (leBytes (2 ^ bits (p.word 0) 5 4) (atomLeaves (bits (p.word 0) 2 0) (bits (p.word 0) 3 3 == 1)
        (2 ^ bits (p.word 0) 5 4) m (p.word 1).toNat (p.word 2).toNat)) ∧ tilesKnotsKept u t))

/-- R283, R284, R291: the answer to a load or atomic gives its context the value and lets it go on; a store's ACK ends the
request; a refusal NOT_OWNER gives ST_OWN; an answer that does not come within RSP_US faults the glove with cause MEMORY. -/
def Obligations.RemoteAccessSource : Prop :=
  (∀ x s p u n r k, accepts s x tLOAD_RSP p u n → 9 ≤ p.len → bits (p.word 0) 63 16 = 0 → awaited u (loadMatch p n) r k →
    r.kind = 0 ∨ r.kind = 2 → (u.ctx k).podLoad = some r.tag → p.data.length = p.len →
    Goes (.loadRspReceive x) s (fun t => (t.ctx k).podLoad = none ∧ t.hub.reqs = dropReq (loadMatch p n) u.hub.reqs
      ∧ u.completed t k r.w r.w.rd.toNat (loadGives p r) ∧ memRegsKept u t))
  ∧ (∀ x s p u n r k, accepts s x tLOAD_RSP p u n → 9 ≤ p.len → bits (p.word 0) 63 16 = 0 → awaited u (loadMatch p n) r k → r.kind = 4 →
    Goes (.loadRspReceive x) s (fun t =>
      (∀ i, i < (p.data.drop 8).length → Tab.look (fun _ => 0) (t.ctx k).staged (r.line + i) = (p.data.drop 8).getD i 0)
      ∧ t.hub.reqs = dropReq (loadMatch p n) u.hub.reqs ∧ regsKept (u.ctx k) (t.ctx k) ∧ memRegsKept u t))
  ∧ (∀ tag s r k, s.findReq (fun r => r.tag == tag && decide (r.deadline ≤ s.lanyard.toNat)) = some r →
    r.owner = some (ctxNum k) → (s.ctx k).wait = .none → s.gstate r.glove = gACTIVE → r.glove < 64 →
    Goes (.podRspTimeout tag) s (fun t => goesDown s t r.glove causeMEMORY
      ∧ (s.fget HUB_POD_ERR HUB_POD_ERR_VALID = 0 → t.fget HUB_POD_ERR HUB_POD_ERR_VALID = 1
          ∧ t.fget HUB_POD_ERR HUB_POD_ERR_SLOT = r.glove)))
  ∧ (∀ x s p u n m r k, accepts s x tACK p u m → ackOk p = true → u.origSlot p = some n → bits (p.word 0) 5 0 = tSTORE →
    awaited u (fun r => (r.kind == 1 || r.kind == 5) && r.dest == p.src && r.glove == n) r k →
    Goes (.ackReceive x) s (fun t =>
      t.hub.reqs = dropReq (fun r => (r.kind == 1 || r.kind == 5) && r.dest == p.src && r.glove == n) u.hub.reqs
      ∧ (∀ c, t.ctx c = u.ctx c) ∧ memRegsKept u t))
  ∧ (∀ x s p u n m code, accepts s x tNAK p u m → nakOk p = true → u.origSlot p = some n → bits (p.word 0) 13 8 = tKNOT_OP →
    bits (p.word 0) 7 0 = code →
    Goes (.nakReceive x) s (fun t => t.fget (KNOT_GLOVE_CTL n) KNOT_GLOVE_CTL_REMOTE_NAK = code ∧ t.gstate n = u.gstate n
      ∧ netKept u t))
  ∧ (∀ x s p u m, accepts s x tNAK p u m → nakOk p = true → u.origSlot p = none →
    Goes (.nakReceive x) s (fun t => t.rt.naksLost = u.rt.naksLost + 1 ∧ t.hub = u.hub ∧ memRegsKept u t ∧ netKept u t))

namespace Sys2Proof.Claims

open Machine Reg

/-- An instruction word of PUT or GET: its one operand is RA. -/
def transferWord (w : FmtB) : Prop := w.rd = 0 ∧ w.rb = 0 ∧ w.rc = 0 ∧ w.opx = 0

/-- The descriptor that PUT or GET finds at gRA: in mapped memory, at a multiple of 64. -/
def transferAt (s : State) (k : CtxId) (w : FmtB) (d : List W64) : Prop :=
  ((s.ctx k).gr w.ra.toNat).toNat % 64 = 0
    ∧ (s.syncBytes (s.ctx k).glove ((s.ctx k).gr w.ra.toNat).toNat 64).map (bytesWords 8) = some d

/-- The transfer that PUT or GET enters: one chunk per 4,096 bytes outstanding. -/
def transferOf (s : State) (k : CtxId) (w : FmtB) (put : Bool) (d : List W64) : Transfer :=
  { xid := s.hub.nextXid % 2 ^ 32, put := put, glove := (s.ctx k).glove, owner := some (ctxNum k), desc := d,
    addr := ((s.ctx k).gr w.ra.toNat).toNat, waiting := chunkOffs (Transfer.bytes d) }

/-- PUT or GET with a descriptor that passes its checks and memory that allows it: the transfer is entered with one
chunk per 4,096 bytes outstanding, and the instruction goes on with ST_OK. -/
def startsTransfer (c : CtxId → FmtB → Instr) (put : Bool) : Prop :=
  ∀ k w s d u, ReadyB s k w → transferWord w → unlocked s k [.mem] [.mem] → transferAt s k w d → s.transferStatus k put d = ST_OK →
    Transfer.cast d = false → s.hub.transfers.length < 256 → s.twin (s.ctx k).glove = false →
    s.mapped (s.ctx k).glove (Transfer.local d) (Transfer.bytes d) (if put then .R else .W) = true →
    s.touchRange (s.ctx k).glove (k.tile / 64) true (Transfer.local d) (pagesMet (Transfer.local d) (Transfer.bytes d)) = some u →
    Goes (c k w) s (fun t => s.completed t k w 0 0
      ∧ t.hub.transfers = s.hub.transfers ++ [transferOf s k w put d]
      ∧ memKept s t ∧ s.othersKept t k)

/-- A refused PUT or GET gives its status. -/
def refusesTransfer (c : CtxId → FmtB → Instr) (put : Bool) : Prop :=
  ∀ k w s d st, ReadyB s k w → transferWord w → w.tf = false → unlocked s k [.mem] [.mem] → transferAt s k w d →
    st = s.transferStatus k put d → st ≠ ST_OK → Goes (c k w) s (fun t => refused s t k w st)

/-- A transfer's increment of its knot overflows nothing and releases nobody, and its context waits for nothing. -/
def endsCalm (u : State) (t : Transfer) : Prop :=
  u.knotOwner (Transfer.knot t.desc) = some t.glove ∧ calm u (Transfer.knot t.desc) 1 ∧ u.svcKnot (Transfer.knot t.desc) = false
    ∧ ∀ c, t.owner = some c → (u.ctx (ctxId (c / 16) (c % 16))).wait = .none

/-- A transfer has ended: it is no longer listed, and its knot has gained 1. -/
def transferEnded (u v : State) (t : Transfer) : Prop :=
  v.hub.transfers = u.hub.transfers.filter (fun x => x.xid != t.xid)
    ∧ (v.knot (Transfer.knot t.desc)).count = (u.knot (Transfer.knot t.desc)).count + 1
    ∧ (∀ i, i ≠ Transfer.knot t.desc → v.knot i = u.knot i) ∧ (∀ k, v.ctx k = u.ctx k)

/-- The transfer that a GET_RSP's XID names. -/
def getFor (u : State) (p : Packet) (n : Nat) (t : Transfer) (off : Nat) : Prop :=
  u.hub.transfers.find? (fun t => t.xid == bits (p.word 0) 31 0 && !t.put && t.glove == n && Transfer.device t.desc == p.src) = some t
    ∧ t.waiting.find? (fun off => (Transfer.local t.desc + off) % 2 ^ 57 == p.taddr.toNat && chunkLen (Transfer.bytes t.desc) off == p.len)
      = some off

end Sys2Proof.Claims

/-- R294 to R296: PUT and GET enter a transfer; its chunks land and are answered; the last answer ends it, and its knot gains 1. -/
def Obligations.Transfers : Prop :=
  startsTransfer .put true ∧ startsTransfer .get false ∧ refusesTransfer .put true ∧ refusesTransfer .get false
  ∧ (∀ x s p u n v, accepts s x tPUT p u n → putCtlOk p = true → u.rangeCode n p.src p.taddr.toNat p.len true = 0 →
    bits (p.word 0) 46 46 = 0 → u.setVbytes n p.taddr.toNat p.data = some v →
    Goes (.putReceive x) s (fun t => t.mem = v.mem ∧ tilesKnotsKept u t))
  ∧ (∀ x s p u n code, accepts s x tPUT p u n → putCtlOk p = true → code = u.rangeCode n p.src p.taddr.toNat p.len true → code ≠ 0 →
    Goes (.putReceive x) s (fun t => t.rt = (u.nak p code).rt ∧ netKept u t))
  ∧ (∀ x s p u n v, accepts s x tGET_REQ p u n → p.len = 16 → bits (p.word 0) 63 57 = 0 → bits (p.word 1) 31 13 = 0 →
    1 ≤ bits (p.word 1) 12 0 → bits (p.word 1) 12 0 ≤ 4096 → u.rangeCode n p.src p.taddr.toNat (bits (p.word 1) 12 0) false = 0 →
    u.touchRange n 0 true p.taddr.toNat (pagesMet p.taddr.toNat (bits (p.word 1) 12 0)) = some v →
    Goes (.getReqReceive x) s (fun t => t.mem = u.mem ∧ tilesKnotsKept u t))
  ∧ (∀ x s p u n t off v, accepts s x tGET_RSP p u n → putCtlOk p = true → getFor u p n t off → t.waiting = [off] → t.stopped = none →
    u.setVbytes n p.taddr.toNat p.data = some v → endsCalm u t →
    Goes (.getRspReceive x) s (fun r => transferEnded u r t
      ∧ r.mem = (v.setVbytesGo t.glove (t.addr + 0x20) (leBytes 2 ST_OK)).mem))
  ∧ (∀ xid s t st, s.hub.transfers.find? (fun t => t.xid == xid) = some t → t.stopped = some st → t.deadline ≤ s.lanyard.toNat →
    endsCalm s t →
    Goes (.transferRspTimeout xid) s (fun r => transferEnded s r t
      ∧ r.mem = (s.setVbytesGo t.glove (t.addr + 0x20) (leBytes 2 ST_TIMEOUT)).mem))

namespace Sys2Proof.Claims

open Machine Reg

/-- Two region entries of one glove and home overlap (R285). -/
def rgnClash (s : State) (i j : Nat) : Prop :=
  s.fget (HUB_RGN1 j) HUB_RGN1_VALID = 1 ∧ s.fget (HUB_RGN2 j) HUB_RGN2_GLOVE = s.fget (HUB_RGN2 i) HUB_RGN2_GLOVE
    ∧ s.rgnHome j = s.rgnHome i ∧ s.rgnBase j < s.rgnBase i + s.rgnLen i ∧ s.rgnBase i < s.rgnBase j + s.rgnLen j

/-- An entry whose region this device owns, at rest, in the mode of ownership. -/
def ownsRgn (s : State) (i : Nat) : Prop :=
  s.fget (HUB_RGN1 i) HUB_RGN1_VALID = 1 ∧ s.fget (HUB_RGN1 i) HUB_RGN1_MODE = 0 ∧ s.rgnOwner i = s.self
    ∧ s.fget (HUB_RGN1 i) HUB_RGN1_XSTATE = 0

/-- The status of the last region command. -/
def rgnStat (t : State) (st : Nat) : Prop := t.fget HUB_RGN_CMD HUB_RGN_CMD_STATUS = st

end Sys2Proof.Claims

/-- R285, R288 to R290: COMMIT makes an entry valid unless it overlaps another of its glove and home; CLEAR ends it; TRANSFER, by
the owner of a region at rest, makes the entry LEAVING; once the owner's writes are answered OWN_XFER goes out; the home records the new
owner and the next OSEQ; the new owner takes the region and its knot gains 1; OWN_DONE, or no answer in time, ends the exchange. -/
def Obligations.RegionOwnership : Prop :=
  (∀ (i : Fin 1024) s, (∀ j, j < 1024 → j ≠ i.val → ¬ rgnClash s i j) →
    Goes (.rgnCommit i) s (fun t => t.fget (HUB_RGN1 i) HUB_RGN1_VALID = 1 ∧ rgnStat t ST_OK
      ∧ regsBut s t [HUB_RGN1 i, HUB_RGN_CMD] ∧ netKept s t))
  ∧ (∀ (i : Fin 1024) s j, j < 1024 → j ≠ i.val → rgnClash s i j →
    Goes (.rgnCommit i) s (fun t => rgnStat t ST_RANGE ∧ regsBut s t [HUB_RGN_CMD] ∧ netKept s t))
  ∧ (∀ i s, Goes (.rgnClear i) s (fun t => t.fget (HUB_RGN1 i) HUB_RGN1_VALID = 0 ∧ t.fget (HUB_RGN1 i) HUB_RGN1_XSTATE = 0
      ∧ rgnStat t ST_OK ∧ (∀ x ∈ t.hub.xfers, x.entry ≠ i.val) ∧ regsBut s t [HUB_RGN1 i, HUB_RGN_CMD] ∧ netKept s t))
  ∧ (∀ i owner knot s, ownsRgn s i.val →
    Goes (.rgnTransfer i owner knot) s (fun t => t.fget (HUB_RGN1 i) HUB_RGN1_XSTATE = 1
      ∧ t.hub.xfers = s.hub.xfers ++ [⟨i, owner, knot.toNat, false, 0⟩]
      ∧ t.fget HUB_RGN_CMD HUB_RGN_CMD_NEW_OWNER = owner.toNat ∧ t.fget HUB_RGN_CMD HUB_RGN_CMD_KNOT = knot.toNat
      ∧ regsBut s t [HUB_RGN1 i, HUB_RGN_CMD] ∧ netKept s t))
  ∧ (∀ i owner knot s, ¬ ownsRgn s i.val →
    Goes (.rgnTransfer i owner knot) s (fun t => rgnStat t ST_DENIED ∧ t.hub.xfers = s.hub.xfers ∧ regsBut s t [HUB_RGN_CMD] ∧ netKept s t))
  ∧ (∀ i s x n, s.hub.xfers = [x] → x.entry = i.val → x.sent = false → s.slotOfGid (s.fget (HUB_RGN2 i.val) HUB_RGN2_GLOVE) = some n →
    s.rgnWriteOut n i = false →
    Goes (.rgnTransferFlushed i) s (fun t => t.hub.xfers = [{ x with sent := true, deadline := s.rspDue }] ∧ netKept s t))
  ∧ (∀ x s p u n i, accepts s x tMGMT p u n → isOwn 0x10 p = true → ownOk p = true →
    u.rgnFind p.glove.toNat u.self (p.word 1).toNat = some i → u.rgnOwner i = p.src → u.fget (HUB_RGN2 i) HUB_RGN2_OSEQ = p.ownOseq →
    Goes (.ownXferReceive x) s (fun t => t.rgnOwner i = p.ownNew ∧ t.fget (HUB_RGN2 i) HUB_RGN2_OSEQ = (p.ownOseq + 1) % 65536 ∧ netKept u t))
  ∧ (∀ x s p u n i, accepts s x tMGMT p u n → isOwn 0x10 p = true → ownOk p = true →
    u.rgnFind p.glove.toNat u.self (p.word 1).toNat = some i → u.rgnOwner i ≠ p.src →
    Goes (.ownXferReceive x) s (fun t => t.rt = (u.nak p nakNOT_OWNER).rt ∧ t.rgnOwner i = u.rgnOwner i ∧ netKept u t))
  ∧ (∀ x s p u n i, accepts s x tMGMT p u n → isOwn 0x11 p = true → ownOk p = true →
    u.rgnFind p.glove.toNat p.src (p.word 1).toNat = some i → u.ownsKnot n (p.word 2).toNat = true → n < 64 → u.gstate n = gACTIVE →
    u.knotOwner (p.word 2).toNat = some n → u.svcKnot (p.word 2).toNat = false → calm u (p.word 2).toNat 1 →
    Goes (.ownGrantReceive x) s (fun t => t.rgnOwner i = p.ownNew ∧ t.fget (HUB_RGN2 i) HUB_RGN2_OSEQ = p.ownOseq
      ∧ (t.knot (p.word 2).toNat).count = (u.knot (p.word 2).toNat).count + 1 ∧ memKept u t ∧ t.tiles = u.tiles))
  ∧ (∀ x s p u n y, accepts s x tMGMT p u n → isOwn 0x12 p = true → ownOk p = true → u.xferOf p.glove.toNat (p.word 1).toNat = some y →
    y.entry < 1024 →
    Goes (.ownDoneReceive x) s (fun t => t.rgnOwner y.entry = p.ownNew ∧ t.fget (HUB_RGN1 y.entry) HUB_RGN1_XSTATE = 0
      ∧ rgnStat t ST_OK ∧ (∀ z ∈ t.hub.xfers, z.entry ≠ y.entry) ∧ netKept u t))
  ∧ (∀ i s x, s.hub.xfers.find? (fun x => x.entry == i.val && x.sent) = some x → x.deadline ≤ s.lanyard.toNat →
    Goes (.ownXferTimeout i) s (fun t => rgnStat t ST_TIMEOUT ∧ t.fget (HUB_RGN1 i) HUB_RGN1_XSTATE = s.fget (HUB_RGN1 i) HUB_RGN1_XSTATE
      ∧ (∀ z ∈ t.hub.xfers, z.entry ≠ i.val) ∧ netKept s t))

namespace Sys2Proof.Claims

open Machine Reg

/-- Collective c of an ACTIVE glove is held in place h, outside twin mode. -/
def held (s : State) (h : Nat) (c : Coll) : Prop := s.coll h = some c ∧ s.gstate c.glove = gACTIVE ∧ s.twin c.glove = false

/-- A COLL packet p, well formed and of this kind, comes from the member it names, for the collective c in place h at its own
generation (R302). -/
def collComes (s : State) (x : Rx) (kind : Nat) (p : Packet) (u : State) (n h : Nat) (c : Coll) : Prop :=
  accepts s x tCOLL p u n ∧ clKind p = kind ∧ collOk p = true ∧ u.findColl n (clTag p) = some (h, c) ∧ c.gen = clGen p
    ∧ held u h c ∧ c.fromMember p = true

/-- The increment of a collective's DONE_KNOT overflows nothing and releases nobody, and no boundary waits for its glove. -/
def doneCalm (u : State) (c : Coll) : Prop :=
  u.knotOwner (cDone c.desc) = some c.glove ∧ calm u (cDone c.desc) 1 ∧ u.svcKnot (cDone c.desc) = false ∧ u.hub.boundaries = []

/-- A collective has left place h, and its DONE_KNOT has gained 1, with TAINT or without. -/
def collEnded (u t : State) (h : Nat) (c : Coll) (taint : Bool) : Prop :=
  t.coll h = none ∧ (t.knot (cDone c.desc)).count = (u.knot (cDone c.desc)).count + 1
    ∧ (t.knot (cDone c.desc)).taint = ((u.knot (cDone c.desc)).taint || taint)
    ∧ (∀ i, i ≠ cDone c.desc → t.knot i = u.knot i) ∧ t.tiles = u.tiles

/-- The status of the last submission. -/
def submitted (t : State) (st : Nat) : Prop := t.fget COLL_SUBMIT COLL_SUBMIT_STATUS = st

/-- The lowest place that holds no collective. -/
def freePlace (s : State) (h : Nat) : Prop := (List.range 64).find? (fun h => (s.coll h).isNone) = some h

/-- The descriptor at a submitted address. -/
def submittedAt (s : State) (addr : BitVec 57) : List W64 := s.words (addr.toNat / 64 * 64) 16

/-- The members that a member table names: distinct devices, with this one at SELF. -/
def membersOf (s : State) (d : List W64) (table : List Byte) (ms : List (BitVec 24)) : Prop :=
  ms = (List.range (cNmem d)).map (fun i => BitVec.ofNat 24 (leNat ((table.drop (4 * i)).take 4)))
    ∧ (∀ i, i < cNmem d → leNat ((table.drop (4 * i)).take 4) < 2 ^ 24) ∧ ms.getD (cSelf d) 0 = s.self
    ∧ ms.eraseDups.length = ms.length

/-- The collective that a submission enters. -/
def collMade (d : List W64) (ms : List (BitVec 24)) : Coll :=
  { glove := cGlove d, desc := d, members := ms, gen := cGen d, early := cEarly d, window := (cBlock d (cSelf d)).1 }

/-- A CONTRIB's elements lie in the home's block and in its window, and are new (R300, R302). -/
def contribFits (p : Packet) (c : Coll) (sz n : Nat) : Prop :=
  cReduces c.desc = true ∧ sz = cIn c.desc ∧ n * sz = p.len ∧ 0 < n ∧ (cBlock c.desc (cSelf c.desc)).1 ≤ clElem p
    ∧ clElem p + n ≤ (cBlock c.desc (cSelf c.desc)).1 + (cBlock c.desc (cSelf c.desc)).2 ∧ c.window ≤ clElem p
    ∧ stretchIn c.got (clMember p) (clElem p) n = false ∧ crc32c (p.data.take p.len) = clEcrc p ∧ cItype c.desc ≠ 2

end Sys2Proof.Claims

/-- R297, R298: a submission that finds a place and passes its checks is entered; the others are answered with the status of
their first failing check and enter nothing. A member whose START_KNOT is reached has started. -/
def Obligations.CollectiveSubmission : Prop :=
  (∀ addr s, (∀ h, h < 64 → s.coll h ≠ none) →
    Goes (.collSubmit addr) s (fun t => submitted t ST_BUSY ∧ t.hub = s.hub ∧ regsBut s t [COLL_SUBMIT] ∧ netKept s t))
  ∧ (∀ addr s h, freePlace s h → addr.toNat / 64 * 64 < localSize → collFmtOk (submittedAt s addr) = false →
    Goes (.collSubmit addr) s (fun t => submitted t ST_FMT ∧ t.hub = s.hub ∧ regsBut s t [COLL_SUBMIT] ∧ netKept s t))
  ∧ (∀ addr s h, freePlace s h → addr.toNat / 64 * 64 < localSize → collFmtOk (submittedAt s addr) = true →
    s.gstate (cGlove (submittedAt s addr)) ≠ gACTIVE →
    Goes (.collSubmit addr) s (fun t => submitted t ST_GLOVE_DEAD ∧ t.hub = s.hub ∧ regsBut s t [COLL_SUBMIT] ∧ netKept s t))
  ∧ (∀ addr s h, freePlace s h → addr.toNat / 64 * 64 < localSize → collFmtOk (submittedAt s addr) = true →
    s.gstate (cGlove (submittedAt s addr)) = gACTIVE → s.collRangeOk (submittedAt s addr) = false →
    Goes (.collSubmit addr) s (fun t => submitted t ST_RANGE ∧ t.hub = s.hub ∧ regsBut s t [COLL_SUBMIT] ∧ netKept s t))
  ∧ (∀ addr s h d u table ms, freePlace s h → addr.toNat / 64 * 64 < localSize → d = submittedAt s addr → collFmtOk d = true →
    s.gstate (cGlove d) = gACTIVE → s.collRangeOk d = true → s.engineRead (cGlove d) 0 (cMembers d) (4 * cNmem d) = some (u, table) →
    membersOf s d table ms →
    Goes (.collSubmit addr) s (fun t => submitted t ST_OK ∧ t.coll h = some (collMade d ms) ∧ (∀ i, i ≠ h → t.coll i = s.coll i)
      ∧ t.kn = s.kn ∧ t.tiles = s.tiles))
  ∧ (∀ h s c, held s h.val c → c.started = false → (s.knot (cStart c.desc)).reached = true → cOp c.desc = 5 →
    (∃ i, i < cNmem c.desc ∧ i ∉ c.arrived) →
    Goes (.collStart h) s (fun t => t.coll h = some { c.arrive (cSelf c.desc) s.lanyard.toNat with started := true, startedAt := s.lanyard.toNat }
      ∧ netKept s t))
  ∧ (∀ h s c, held s h.val c → (s.knot (cStart c.desc)).reached = false →
    Goes (.collStart h) s (fun t => t.coll h = some c ∧ (∀ o, t.reg o = s.reg o) ∧ netKept s t))

/-- R300, R302, R306: a home adds the terms of a CONTRIB to its window and refuses one beyond it with NAK BUSY; a chunk with a
wrong ECRC restarts the collective at the next generation; a full window is read out and the next one opens. -/
def Obligations.CollectiveReduction : Prop :=
  (∀ x s p u n h c sz k, collComes s x 0 p u n h c → contribFits p c sz k → clElem p + k ≤ u.windowEnd c →
    Goes (.collContribReceive x) s (fun t =>
      (∃ c', t.coll h = some c' ∧ c'.got = c.got ++ [(clMember p, clElem p, k)] ∧ c'.window = c.window ∧ c'.gen = c.gen
        ∧ c'.vals = ((c.arrive (clMember p) u.lanyard.toNat).addTerms sz (clElem p) p.data k).vals
        ∧ c'.cells = ((c.arrive (clMember p) u.lanyard.toNat).addTerms sz (clElem p) p.data k).cells)
      ∧ netKept u t))
  ∧ (∀ x s p u n h c sz k, collComes s x 0 p u n h c → contribFits p c sz k → u.windowEnd c < clElem p + k →
    Goes (.collContribReceive x) s (fun t => t.rt = (u.nak p nakBUSY).rt ∧ t.coll h = some c ∧ netKept u t))
  ∧ (∀ h s c, held s h.val c → cOp c.desc = 0 → 0 < s.windowEnd c - c.window →
    c.got.foldl (fun a x => a + x.2.2) 0 = (s.windowEnd c - c.window) * cNmem c.desc → c.allIn = false →
    Goes (.collWindowReadout h) s (fun t =>
      t.coll h = some { c with window := s.windowEnd c, cells := [], vals := [], got := [] } ∧ netKept s t))
  ∧ (∀ h s c, held s h.val c → c.got.foldl (fun a x => a + x.2.2) 0 ≠ (s.windowEnd c - c.window) * cNmem c.desc →
    Goes (.collWindowReadout h) s (fun t => t.coll h = some c ∧ t.rt = s.rt ∧ netKept s t))
  ∧ (∀ h s c k ks good, held s h.val c → c.checks = k :: ks → good = false ∨ crc32c (s.vbytesGo c.glove k.addr k.len) ≠ k.ecrc →
    c.released = false → c.started = false → c.retries < s.fget COLL_CFG COLL_CFG_RETRY →
    Goes (.collReadbackDone h good) s (fun t => ∃ c', t.coll h = some c' ∧ c'.gen = (c.gen + 1) % 65536
      ∧ c'.retries = c.retries + 1 ∧ c'.fails = c.fails + 1 ∧ c'.got = [] ∧ c'.landed = [] ∧ c'.checks = [] ∧ netKept s t))

/-- R301, R302, R304, R306, R308: results land at DST; ARRIVE, counts and grants are noted; FAIL and TIMEOUT end the
collective with TAINT; once every chunk has landed and been checked, DONE_KNOT gains 1. -/
def Obligations.CollectiveCompletion : Prop :=
  (∀ x s p u n h c lo len sz k v, collComes s x 1 p u n h c → c.resultRange (clMember p) = some (lo, len, sz) → k * sz = p.len → 0 < k →
    0 < sz → lo ≤ clElem p → clElem p + k ≤ lo + len → stretchIn c.landed (clMember p) (clElem p) k = false →
    u.setVbytes c.glove (cDst c.desc + clElem p * sz) (p.data.take p.len) = some v → c.started = false →
    Goes (.collResultReceive x) s (fun t => t.mem = v.mem
      ∧ (∃ c', t.coll h = some c' ∧ c'.landed = c.landed ++ [(clMember p, clElem p, k)]
        ∧ c'.checks = c.checks ++ [⟨cDst c.desc + clElem p * sz, clEcrc p, p.len⟩] ∧ c'.released = c.released)
      ∧ t.kn = u.kn ∧ t.tiles = u.tiles))
  ∧ (∀ x s p u n h c, collComes s x 2 p u n h c → c.released = false → doneCalm u c →
    Goes (.collFailReceive x) s (fun t => collEnded u t h c true))
  ∧ (∀ x s p u n h c, collComes s x 3 p u n h c → Goes (.collRetryReceive x) s (fun t => t.coll h = some c ∧ t.rt = u.rt ∧ netKept u t))
  ∧ (∀ x s p u n h c, collComes s x 4 p u n h c → cOp c.desc = 5 → c.started = false →
    Goes (.collArriveReceive x) s (fun t => (∃ c', t.coll h = some c' ∧ clMember p ∈ c'.arrived ∧ (∀ i ∈ c.arrived, i ∈ c'.arrived))
      ∧ netKept u t))
  ∧ (∀ x s p u n h c, accepts s x tCOUNTS p u n → bits (p.word 0) 63 62 = 2 → a2aOk p = true →
    u.findColl n (bits (p.word 0) 31 0) = some (h, c) → c.gen = bits (p.word 1) 15 0 → held u h c → c.fromMember p = true → cOp c.desc = 4 →
    Tab.look (fun _ => none) c.counts (clMember p) = none →
    (∃ i, i < cNmem c.desc ∧ i ≠ clMember p ∧ Tab.look (fun _ => none) c.counts i = none) →
    Goes (.alltoallvCountsReceive x) s (fun t => (∃ c', t.coll h = some c'
      ∧ Tab.look (fun _ => none) c'.counts (clMember p) = some (bits (p.word 2) 39 0)
      ∧ ∀ i, i ≠ clMember p → Tab.look (fun _ => none) c'.counts i = Tab.look (fun _ => none) c.counts i) ∧ netKept u t))
  ∧ (∀ x s p u n h c, accepts s x tCOUNTS p u n → bits (p.word 0) 63 62 = 3 → a2aOk p = true →
    u.findColl n (bits (p.word 0) 31 0) = some (h, c) → c.gen = bits (p.word 1) 15 0 → held u h c → c.fromMember p = true → cOp c.desc = 4 →
    c.started = true → clMember p ∉ c.granted → u.sendBytes c (clMember p) = 0 →
    Goes (.alltoallvGrantReceive x) s (fun t => t.coll h = some { c with granted := c.granted ++ [clMember p] } ∧ netKept u t))
  ∧ (∀ h s c k ks, held s h.val c → c.checks = k :: ks → crc32c (s.vbytesGo c.glove k.addr k.len) = k.ecrc → c.allIn = false →
    Goes (.collReadbackDone h true) s (fun t => t.coll h = some { c with checks := ks } ∧ netKept s t))
  ∧ (∀ h s c k, held s h.val c → c.checks = [k] → crc32c (s.vbytesGo c.glove k.addr k.len) = k.ecrc → c.allIn = true →
    c.released = false → c.checkSlot = none → doneCalm s c →
    Goes (.collReadbackDone h true) s (fun t => collEnded s t h c false))
  ∧ (∀ h s c, held s h.val c → c.started = true → c.released = false → c.twinHeld = false →
    c.startedAt + cTimeout c.desc ≤ s.lanyard.toNat → doneCalm s c →
    Goes (.collTimeout h) s (fun t => collEnded s t h c true))
  ∧ (∀ j s b, s.hub.busy[j]? = some b → s.lanyard.toNat ≤ b.limit → b.due ≤ s.lanyard.toNat →
    Goes (.nakBusyRetry j) s (fun t => t.hub.busy = s.hub.busy.eraseIdx j ∧ sends s t b.pkt ∧ netKept s t))
  ∧ (∀ j s b, s.hub.busy[j]? = some b → b.limit < s.lanyard.toNat →
    Goes (.nakBusyRetry j) s (fun t => t.hub.busy = s.hub.busy.eraseIdx j ∧ t.rt = s.rt ∧ netKept s t))

namespace Sys2Proof.Claims

open Machine Reg

/-- Engine e runs step t of an ACTIVE glove (R163). -/
def runs (s : State) (e : Nat) (t : Step) : Prop := s.route' e = some t ∧ t.ended = false ∧ s.gstate t.glove = gACTIVE

/-- Nothing but the routing engines, fabric, counters and logs has changed. -/
def stepOnly (s t : State) : Prop :=
  t.mem = s.mem ∧ t.kn = s.kn ∧ t.tiles = s.tiles ∧ t.slice = s.slice ∧ t.mm = s.mm ∧ t.pwr = s.pwr

/-- A word of ROUTE.GO: OPX[1:0] names engine 0 or 1, or 0 for either (R165). -/
def goWord (w : FmtB) : Prop := w.rb = 0 ∧ w.rc = 0 ∧ w.opx.toNat < 3

/-- ROUTE.GO reads its descriptor and member table: the state after that, the descriptor, and the table. -/
def goReads (s : State) (k : CtxId) (w : FmtB) (v : State) (d : List W64) (table : List Byte) : Prop :=
  unlocked s k [.mem] [] ∧ s.vpoison (s.ctx k).glove ((s.ctx k).gr w.ra.toNat).toNat 128 = false
    ∧ ∃ u bs, s.engineRead (s.ctx k).glove (k.tile / 64) ((s.ctx k).gr w.ra.toNat).toNat 128 = some (u, bs) ∧ d = bytesWords 16 bs
      ∧ u.engineRead (s.ctx k).glove (k.tile / 64) (dMembers d) (4 * dNmem d) = some (v, table)

/-- A member table names distinct devices, this one at SELF (R164). -/
def stepMembers (s : State) (d : List W64) (table : List Byte) (ms : List (BitVec 24)) : Prop :=
  ms = tableMembers (dNmem d) table ∧ (∀ i, i < dNmem d → leNat ((table.drop (4 * i)).take 4) < 2 ^ 24)
    ∧ ms.getD (dSelf d) 0 = s.self ∧ ms.eraseDups.length = ms.length

/-- The step that ROUTE.GO starts. -/
def stepMade (s : State) (n e : Nat) (d : List W64) (ms : List (BitVec 24)) (qs : List QueueEnt) : Step :=
  { glove := n, seq := (s.fget (BRM_ENG_STAT e) BRM_ENG_STAT_SEQ + 1) % 2 ^ 32, desc := d, members := ms,
    dirEpoch := s.fget (BRM_DIR_CUREP n) BRM_DIR_CUREP_EPOCH, queues := qs, startAt := s.lanyard.toNat, phase := 1 }

/-- A Format B instruction has completed with a status; of the registers only gSD is written, and of its tile only contexts. -/
def answered (s t : State) (k : CtxId) (w : FmtB) (st : Nat) : Prop :=
  (s.ctx k).wrote (t.ctx k) 0 0 w.sd.toNat (BitVec.ofNat 64 st) ∧ (s.ctx k).wentOn (t.ctx k) ∧ s.othersKept t k

end Sys2Proof.Claims

/-- R164 to R167, R171, R187, R188: ROUTE.GO starts a step on the engine it names and gives its handle, or is answered with the
status of its first failing check; SIEVE.FL sends the context's records to a step in its intake; ROUTE.STAT writes the
statistics block; a write of BRM_DIR_NEXTEP arms, disarms or installs a directory. -/
def Obligations.RoutingSteps : Prop :=
  (∀ k w s v d table ms qs e n, ReadyB s k w → goWord w → n = (s.ctx k).glove → goReads s k w v d table →
    s.goStatus k ((s.ctx k).gr w.ra.toNat).toNat w.opx.toNat d = ST_OK → s.pickEngine w.opx.toNat = some e →
    stepMembers s d table ms → v.layerQueues n (dLayer d) (dNexp d) ms = some qs → dNtok d ≠ 0 →
    Goes (.routeGo k w) s (fun t => s.completed t k w w.rd.toNat (s.goHandle e n) ∧ t.route' e = some (stepMade s n e d ms qs)
      ∧ (∀ i, i ≠ e → t.route' i = s.route' i) ∧ memKept s t ∧ t.kn = s.kn ∧ s.othersKept t k))
  ∧ (∀ k w s u bs st, ReadyB s k w → goWord w → w.tf = false → unlocked s k [.mem] [] →
    s.vpoison (s.ctx k).glove ((s.ctx k).gr w.ra.toNat).toNat 128 = false →
    s.engineRead (s.ctx k).glove (k.tile / 64) ((s.ctx k).gr w.ra.toNat).toNat 128 = some (u, bs) →
    st = s.goStatus k ((s.ctx k).gr w.ra.toNat).toNat w.opx.toNat (bytesWords 16 bs) → st ≠ ST_OK →
    Goes (.routeGo k w) s (fun t => answered s t k w st ∧ t.brm = s.brm ∧ memKept s t ∧ t.kn = s.kn))
  ∧ (∀ k w s e t, ReadyB s k w → raWord w → w.opx = 0 → s.quiet k = true → s.stepOf (s.ctx k).glove ((s.ctx k).gr w.ra.toNat) = some (e, t) →
    t.ended = false → t.phase = 1 → s.dying k = false →
    Goes (.sieveFl k w) s (fun u => s.completed u k w 0 0
      ∧ u.route' e = some { t with flushed := t.flushed ++ (s.tile k.tile).sieve.filter (fun r => r.ctx == k.ctx.val) }
      ∧ (u.tile k.tile).sieve = (s.tile k.tile).sieve.filter (fun r => r.ctx != k.ctx.val) ∧ memKept s u ∧ u.kn = s.kn))
  ∧ (∀ k w s, ReadyB s k w → raWord w → w.opx = 0 → w.tf = false → s.quiet k = true →
    (∀ e t, s.stepOf (s.ctx k).glove ((s.ctx k).gr w.ra.toNat) = some (e, t) → t.ended = true ∨ t.phase ≠ 1) →
    Goes (.sieveFl k w) s (fun t => refused s t k w ST_RANGE))
  ∧ (∀ k w s e t v a, ReadyB s k w → w.rd = 0 → w.rc = 0 → w.opx = 0 → unlocked s k [.mem] [.mem] →
    s.stepOf (s.ctx k).glove ((s.ctx k).gr w.ra.toNat) = some (e, t) → a = ((s.ctx k).gr w.rb.toNat).toNat → a % 64 = 0 → s.dying k = false →
    s.setVbytes (s.ctx k).glove a ((s.statWords t).flatMap (leBytes 8) ++ List.replicate 128 0) = some v →
    Goes (.routeStat k w) s (fun u => answered s u k w ST_OK ∧ u.mem = v.mem ∧ u.brm = s.brm ∧ u.kn = s.kn))
  ∧ (∀ k w s, ReadyB s k w → w.rd = 0 → w.rc = 0 → w.opx = 0 → w.tf = false → unlocked s k [.mem] [.mem] →
    s.stepOf (s.ctx k).glove ((s.ctx k).gr w.ra.toNat) = none → Goes (.routeStat k w) s (fun t => refused s t k w ST_RANGE))
  ∧ (∀ n v s, s.fget (BRM_DIR_NEXTEP n.val) BRM_DIR_NEXTEP_ARMED = 1 →
    Goes (.brmDirNextepWrite n v) s (fun t => t.fget (BRM_DIR_NEXTEP n) BRM_DIR_NEXTEP_ARMED = bits v 17 17
      ∧ t.fget (BRM_DIR_NEXTEP n) BRM_DIR_NEXTEP_EPOCH = s.fget (BRM_DIR_NEXTEP n) BRM_DIR_NEXTEP_EPOCH
      ∧ regsBut s t [BRM_DIR_NEXTEP n] ∧ netKept s t))
  ∧ (∀ n v s, s.fget (BRM_DIR_NEXTEP n.val) BRM_DIR_NEXTEP_ARMED = 0 → bits v 17 17 = 0 ∨ s.fget (BRM_DIR_CUREP n.val) BRM_DIR_CUREP_VALID = 1 →
    Goes (.brmDirNextepWrite n v) s (fun t => t.fget (BRM_DIR_NEXTEP n) BRM_DIR_NEXTEP_ARMED = bits v 17 17
      ∧ t.fget (BRM_DIR_NEXTEP n) BRM_DIR_NEXTEP_EPOCH = bits v 15 0 ∧ regsBut s t [BRM_DIR_NEXTEP n] ∧ netKept s t))
  ∧ (∀ n v s, s.fget (BRM_DIR_NEXTEP n.val) BRM_DIR_NEXTEP_ARMED = 0 → bits v 17 17 = 1 → s.fget (BRM_DIR_CUREP n.val) BRM_DIR_CUREP_VALID = 0 →
    Goes (.brmDirNextepWrite n v) s (fun t => t.fget (BRM_DIR_NEXTEP n) BRM_DIR_NEXTEP_ARMED = 0
      ∧ t.fget (BRM_DIR_CUREP n) BRM_DIR_CUREP_VALID = 1 ∧ t.fget (BRM_DIR_CUREP n) BRM_DIR_CUREP_EPOCH = bits v 15 0
      ∧ t.reg (BRM_DIR_CUR n) = s.reg (BRM_DIR_NEXT n)
      ∧ regsBut s t [BRM_DIR_NEXTEP n, BRM_DIR_CUREP n, BRM_DIR_CUR n] ∧ netKept s t))

namespace Sys2Proof.Claims

open Machine Reg

/-- Nothing of a step has been dispatched or landed, and the increments of its two knots overflow nothing and release nobody. -/
def failCalm (s : State) (t : Step) : Prop :=
  t.routed = false ∧ t.landingAt = none ∧ t.sends = [] ∧ calm s (dRouted t.desc) 2 ∧ calm s (dDone t.desc) 2
    ∧ s.knotOwner (dRouted t.desc) = some t.glove ∧ s.knotOwner (dDone t.desc) = some t.glove

/-- A step has failed (R184): it is over with a status and a reason, and ROUTED and DONE have each gained 1 with TAINT. -/
def stepFailed (s u : State) (e : Nat) (t : Step) (st why : Nat) : Prop :=
  (∃ r, u.route' e = some r ∧ r.ended = true ∧ r.status = st ∧ r.reason = why ∧ r.phase = 0)
    ∧ (∀ i, (u.knot i).count = (s.knot i).count + (if i = dRouted t.desc then 1 else 0) + (if i = dDone t.desc then 1 else 0))
    ∧ (u.knot (dRouted t.desc)).taint = true ∧ (u.knot (dDone t.desc)).taint = true ∧ u.mem = s.mem ∧ u.tiles = s.tiles

/-- A COUNTS packet of step t on engine e, for the glove in slot n, with no FAIL, that matches its step and is new. -/
def vecFits (u : State) (p : Packet) (n e size : Nat) (t : Step) : Prop :=
  u.gstate n = gACTIVE ∧ u.findStep n (bits (p.word 0) 31 0) = some (e, t) ∧ bits (p.word 0) 41 41 = 0
    ∧ t.mismatch p (if size = 4 then t.homeQ u.self else t.homeQ p.src).length = none
    ∧ vecDup (if size = 4 then t.counts else t.grants) ⟨bits (p.word 0) 40 40, bits (p.word 0) 53 42, bits (p.word 3) 31 0, vecEntries p size⟩ = false

/-- The part that a COUNTS packet brings. -/
def vecPart (p : Packet) (size : Nat) : VecPart :=
  ⟨bits (p.word 0) 40 40, bits (p.word 0) 53 42, bits (p.word 3) 31 0, vecEntries p size⟩

/-- A step that has taken list g in; its ranking begins once every token has its lists. -/
def listTaken (t : Step) (g : List SieveRec) : Step :=
  let r := { t with flushed := [], lists := t.lists ++ [g] }
  { r with phase := if r.allHeld false then 2 else 1 }

/-- A step that holds the grants of a packet too; its sort begins once it holds the last round's. -/
def granted (t : Step) (p : Packet) : Step :=
  let r := { t with grants := t.grants ++ [vecPart p 8] }
  { r with phase := if r.grantsIn (t.rounds - 1) then 5 else t.phase }

/-- A home holds every member's counts of its present round. -/
def countsIn (s : State) (t : Step) : Prop :=
  t.homeRounds < t.rounds
    ∧ ∀ i, i < dNmem t.desc → vecHeld t.counts t.homeRounds i ((t.homeQ s.self).length * dK t.desc) = true

/-- A home's step after admission of a round (R180). -/
def admittedTo (s : State) (t : Step) : Step :=
  let adm := t.admitRound (t.homeQ s.self).length t.homeRounds
  if t.homeRounds = 0 then { t with admit0 := adm, homeRounds := 1 } else { t with admit1 := adm, homeRounds := t.homeRounds + 1 }

/-- The memory after a home has opened its one queue q, for the step r: its row counts and tag, the pad rows, and their tags
(R194, R196). -/
def queueOpened (s v : State) (r : Step) (q : QueueEnt) : Prop :=
  let rows := r.rowsOf 0
  let pad := up16 rows
  ∃ a b, s.setVbytes r.glove (q.qbase + 0x10) (leBytes 4 rows ++ leBytes 4 pad ++ leBytes 8 (dTag r.desc + 2 ^ 32)) = some a
    ∧ a.setVbytes r.glove (q.qbase + 0x40 + rows * dRow r.desc) (List.replicate ((pad - rows) * dRow r.desc) 0) = some b
    ∧ b.setVbytes r.glove (q.qbase + 0x40 + qCap (s.qHead r.glove q) * dRow r.desc + 16 * rows)
        ((List.range (pad - rows)).flatMap (fun _ => List.replicate 8 0 ++ leBytes 8 0xFFFFFFFFFFF)) = some v

/-- The bytes of a queue that its step does not fill: its knot has them at once (R196). -/
def spareBytes (s : State) (r : Step) (q : QueueEnt) : Nat := (qCap (s.qHead r.glove q) - r.rowsOf 0) * dRow r.desc

/-- What a step leaves after its grants are applied and its refused choices have moved to spares (R182). -/
def reroutedChoices (t : Step) : List Choice :=
  t.tokens.flatMap (fun k => rerouteToken ((t.applyGrants 0).choices.filter (fun c => c.token == k)))

/-- Every rank of every token is admitted. -/
def allAdmitted (t : Step) : Prop := ∀ k ∈ t.tokens, ∀ r, r < dK t.desc → t.admitted.any (fun c => c.token == k && c.rank == r) = true

end Sys2Proof.Claims

/-- R172 to R184, R190, R194: a step takes its lists in, ranks them and sends its counts; it holds the counts and grants of its
members' parts and fails with what does not fit; a home admits; a source reroutes refused choices, and with its last grants
writes the weights, builds its send list and increments ROUTED; a step that does not finish in time fails. -/
def Obligations.RoutingExchange : Prop :=
  (∀ e s t g, runs s e.val t → t.phase = 1 → listsOf t.flushed [] = [g] → t.listBad g = none → g.any SieveRec.part = false →
    Goes (.brmListIntake e) s (fun u => u.route' e = some (listTaken t g) ∧ stepOnly s u))
  ∧ (∀ e s t g st why, runs s e.val t → t.phase = 1 → listsOf t.flushed [] = [g] → t.listBad g = some (st, why) → failCalm s t →
    Goes (.brmListIntake e) s (fun u => stepFailed s u e t st why))
  ∧ (∀ e s t cs, runs s e.val t → t.phase = 2 → t.tokens.mapM t.choicesOf = some cs →
    Goes (.brmRankingDone e) s (fun u => (∃ r, u.route' e = some r ∧ r.choices = cs.flatten ∧ r.ranked = true ∧ r.phase = 3
      ∧ r.nans = (t.tokens.filter (fun k => (t.merged k).2)).length) ∧ stepOnly s u))
  ∧ (∀ e s t, runs s e.val t → t.phase = 2 → t.tokens.mapM t.choicesOf = none → failCalm s t →
    Goes (.brmRankingDone e) s (fun u => stepFailed s u e t ST_RANGE rDIR_ENTRY))
  ∧ (∀ x s p u n e t, accepts s x tCOUNTS p u n → vecRouting p = true → s.vecGrant p = false → vecHeadOk p = true → vecIs p 4 = true →
    vecFits u p n e 4 t → e < 2 →
    Goes (.countsPartReceive x) s (fun v => (∃ r, v.route' e = some r ∧ r.counts = t.counts ++ [vecPart p 4] ∧ r.grants = t.grants
      ∧ r.phase = t.phase) ∧ stepOnly u v))
  ∧ (∀ x s p u n, accepts s x tCOUNTS p u n → vecRouting p = true → s.vecGrant p = false → vecHeadOk p = true → vecIs p 4 = true →
    u.findStep n (bits (p.word 0) 31 0) = none → u.endedStep n (bits (p.word 0) 31 0) = false →
    Goes (.countsPartReceive x) s (fun v => v.rt = (u.nak p nakBUSY).rt ∧ v.brm = u.brm ∧ netKept u v))
  ∧ (∀ x s p u n e t, accepts s x tCOUNTS p u n → vecRouting p = true → s.vecGrant p = false → vecHeadOk p = true → vecIs p 4 = true →
    u.gstate n = gACTIVE → u.findStep n (bits (p.word 0) 31 0) = some (e, t) → bits (p.word 0) 41 41 = 1 → failCalm u t →
    Goes (.countsPartReceive x) s (fun v => stepFailed u v e t (bits (p.word 0) 57 54) rFAIL_RECEIVED))
  ∧ (∀ x s p u n e t, accepts s x tCOUNTS p u n → vecRouting p = true → s.vecGrant p = true → vecHeadOk p = true → vecFits u p n e 8 t →
    Goes (.grantPartReceive x) s (fun v => v.route' e = some (granted t p) ∧ stepOnly u v))
  ∧ (∀ e s t, runs s e.val t → countsIn s t → s.queueHole t (t.homeQ s.self) = none →
    (t.homeRounds = 0 → (t.homeQ s.self).all (s.queueOk t) = true) → t.homeRounds + 1 < t.rounds →
    Goes (.homeAdmit e) s (fun u => u.route' e = some (admittedTo s t) ∧ stepOnly s u))
  ∧ (∀ e s t, runs s e.val t → countsIn s t → t.homeQ s.self = [] → dHstat t.desc = 0 → t.homeRounds + 1 = t.rounds →
    Goes (.homeAdmit e) s (fun u => u.route' e = some { admittedTo s t with landingAt := some s.lanyard.toNat } ∧ stepOnly s u))
  ∧ (∀ e s t q r v, runs s e.val t → countsIn s t → t.homeQ s.self = [q] → s.queueHole t [q] = none →
    (t.homeRounds = 0 → s.queueOk t q = true) → dHstat t.desc = 0 → t.homeRounds + 1 = t.rounds →
    r = { admittedTo s t with landingAt := some s.lanyard.toNat } →
    dCap t.desc ≠ 0 ∨ up16 (r.rowsOf 0) ≤ qCap (s.qHead t.glove q) → queueOpened s v r q →
    s.knotOwner (qKnot (s.qHead t.glove q)) = some t.glove → calm s (qKnot (s.qHead t.glove q)) (spareBytes s r q) →
    Goes (.homeAdmit e) s (fun u => u.route' e = some r ∧ u.mem = v.mem ∧ u.tiles = s.tiles
      ∧ ∀ i, (u.knot i).count = (s.knot i).count + (if i = qKnot (s.qHead t.glove q) then spareBytes s r q else 0)))
  ∧ (∀ e s t, runs s e.val t → countsIn s t → s.queueHole t (t.homeQ s.self) = none → t.homeRounds = 0 →
    (t.homeQ s.self).all (s.queueOk t) = false → failCalm s t →
    Goes (.homeAdmit e) s (fun u => stepFailed s u e t ST_RANGE rDIR_ENTRY))
  ∧ (∀ e s t, runs s e.val t → t.phase = 3 → t.rounds = 2 → t.grantsIn 0 = true →
    Goes (.sourceReroute e) s (fun u => u.route' e = some { t with choices := reroutedChoices t, rerouted := true, phase := 4 } ∧ stepOnly s u))
  ∧ (∀ e s t r v, runs s e.val t → t.phase = 5 → t.routed = false → t.retAt = none → r = t.applyGrants (t.rounds - 1) → allAdmitted r →
    s.setVbytes t.glove (dWeights t.desc) ((r.tokens.flatMap r.weightsOf).flatMap (fun w => leBytes 4 w.toNat)) = some v →
    calm s (dRouted t.desc) 1 → s.knotOwner (dRouted t.desc) = some t.glove →
    Goes (.sourceSort e) s (fun u => u.route' e = some { r with sends := r.sendRows, routed := true, rot := (dSelf t.desc + 1) % dNmem t.desc, phase := 6 }
      ∧ u.mem = v.mem ∧ (∀ i, (u.knot i).count = (s.knot i).count + (if i = dRouted t.desc then 1 else 0)) ∧ u.tiles = s.tiles))
  ∧ (∀ e s t m, runs s e.val t → t.startAt + dTimeout t.desc ≤ s.lanyard.toNat → s.missingMember t = some m → failCalm s t →
    Goes (.brmStepTimeout e) s (fun u => stepFailed s u e t ST_TIMEOUT rTIMEOUT))
  ∧ (∀ e s t, runs s e.val t → s.lanyard.toNat < t.startAt + dTimeout t.desc →
    Goes (.brmStepTimeout e) s (fun u => u.brm = s.brm ∧ memRegsKept s u ∧ netKept s u))

namespace Sys2Proof.Claims

open Machine Reg

/-- The length of the next fragment due to member m: of its rows to send, and of its rows to return. -/
def sendDue (t : Step) (m : Nat) : Option Nat := (t.sends.find? (fun r => r.member == m)).map (fun r => fragLen (dRow t.desc) r.sent)
def retDue (t : Step) (m : Nat) : Option Nat := (t.rets.find? (fun r => r.member == m)).map (fun r => fragLen (dRet t.desc) r.sent)

/-- Where the next bytes of a row to send lie (R198). -/
def sendFrom (t : Step) (r : SendRow) : Nat := dAct t.desc + (r.token - dToken0 t.desc) * dRow t.desc + r.sent

/-- The packet that carries them. -/
def rowPacket (s : State) (t : Step) (m : Nat) (r : SendRow) (bs : List Byte) : Packet :=
  s.splicePacket t false m (r.qbase + 0x40 + r.row * dRow t.desc + r.sent)
    (spliceCtl t r.rank 0 false r.q r.row r.token (t.slotOf r.token r.rank)) bs

/-- A SPLICE or RETURN packet p arrives for step t, which engine e runs. -/
def spliceComes (s : State) (x : Rx) (ty : Nat) (p : Packet) (u : State) (n e : Nat) (t : Step) : Prop :=
  accepts s x ty p u n ∧ spliceOk p = true ∧ u.findStep n (spTag p) = some (e, t) ∧ u.gstate n = gACTIVE

/-- A ROW fits its rank block, its row and what is still owed (R202). -/
def rowFits (u : State) (p : Packet) (t : Step) (q : QueueEnt) : Prop :=
  let off := t.offsetOf (spQ p) (spRank p) (spMember p)
  let adm := t.admitAll (spQ p) (spRank p) (spMember p)
  let start := q.qbase + 0x40 + spRow p * dRow t.desc
  (t.homeQ u.self)[spQ p]? = some q ∧ spMember p < dNmem t.desc ∧ spRank p < dK t.desc ∧ off ≤ spRow p ∧ spRow p < off + adm
    ∧ start ≤ p.taddr.toNat ∧ p.taddr.toNat - start < dRow t.desc ∧ (p.taddr.toNat - start) % 4096 = 0
    ∧ p.taddr.toNat - start + p.len ≤ dRow t.desc
    ∧ Tab.look (fun _ => 0) t.landed (t.blockKey (spQ p) (spRank p) (spMember p)) + p.len ≤ adm * dRow t.desc

/-- The memory after a ROW: its tag with its first byte, and its bytes (R199). -/
def rowLands (u v : State) (p : Packet) (t : Step) (q : QueueEnt) : Prop :=
  ∃ a, (if p.taddr.toNat = q.qbase + 0x40 + spRow p * dRow t.desc then
      u.setVbytes t.glove (q.qbase + 0x40 + qCap (u.qHead t.glove q) * dRow t.desc + 16 * spRow p)
        (leBytes 8 (spSlot p) ++ leBytes 8 (spToken p + spMember p * 2 ^ 32 + spRank p * 2 ^ 44))
    else some u) = some a
    ∧ a.setVbytes t.glove p.taddr.toNat (p.data.take p.len) = some v

/-- A RESULT names an admitted choice of this source and fits its combine slot (R205). -/
def resultFits (p : Packet) (t : Step) : Prop :=
  let start := t.slotOf (spToken p) (spRank p)
  dToken0 t.desc ≤ spToken p ∧ spToken p < dToken0 t.desc + dNtok t.desc
    ∧ t.admitted.any (fun c => c.token == spToken p && c.rank == spRank p && c.dest == p.src) = true
    ∧ start ≤ p.taddr.toNat ∧ p.taddr.toNat - start < dRet t.desc ∧ (p.taddr.toNat - start) % 4096 = 0
    ∧ p.taddr.toNat - start + p.len ≤ dRet t.desc
    ∧ Tab.look (fun _ => 0) t.got ((spToken p - dToken0 t.desc) * dK t.desc + spRank p) + p.len ≤ dRet t.desc

/-- A step after a RESULT. -/
def resulted (t : Step) (p : Packet) : Step :=
  let key := (spToken p - dToken0 t.desc) * dK t.desc + spRank p
  { t with got := Tab.store (fun _ => 0) t.got key (Tab.look (fun _ => 0) t.got key + p.len), retTaint := t.retTaint || spTaint p }

/-- A step's end: what it still owes is sent and its queues are full, and the increment of DONE is calm. -/
def endCalm (s : State) (t : Step) : Prop :=
  t.routed = true ∧ t.sends = [] ∧ (t.landingAt = none ∨ s.queuesReached t = true) ∧ calm s (dDone t.desc) 1
    ∧ s.knotOwner (dDone t.desc) = some t.glove

/-- A step is over with a status: DONE has gained 1, with TAINT or without, and INUSE is cleared in its queues (R206, R208). -/
def stepOver (s u : State) (e : Nat) (t : Step) (st : Nat) (taint : Bool) : Prop :=
  (∃ r, u.route' e = some r ∧ r.ended = true ∧ r.status = st) ∧ u.mem = (s.clearInuse t).mem
    ∧ (∀ i, (u.knot i).count = (s.knot i).count + (if i = dDone t.desc then 1 else 0))
    ∧ (u.knot (dDone t.desc)).taint = ((s.knot (dDone t.desc)).taint || taint) ∧ u.tiles = s.tiles

/-- ROUTE.RET reads its output list: the state after that, and the list. -/
def retReads (s : State) (k : CtxId) (w : FmtB) (e : Nat) (t : Step) (v : State) (ws : List W64) : Prop :=
  let a := ((s.ctx k).gr w.rb.toNat).toNat
  let nq := (t.homeQ s.self).length
  w.rd = 0 ∧ w.rc = 0 ∧ w.opx = 0 ∧ unlocked s k [.mem] [] ∧ s.stepOf (s.ctx k).glove ((s.ctx k).gr w.ra.toNat) = some (e, t)
    ∧ t.ended = false ∧ a % 64 = 0 ∧ s.vpoison (s.ctx k).glove a (64 + 8 * nq) = false
    ∧ ∃ bs, s.engineRead (s.ctx k).glove (k.tile / 64) a (64 + 8 * nq) = some (v, bs) ∧ ws = bytesWords (8 + nq) bs
    ∧ ws.getD 0 0 = BitVec.ofNat 64 nq ∧ (∀ i, 1 ≤ i → i < 8 → ws.getD i 0 = 0) ∧ ∀ i, i < nq → bits (ws.getD (8 + i) 0) 63 57 = 0

/-- The rows that a step returns. -/
def retsOf (s : State) (k : CtxId) (t : Step) (ws : List W64) : List RetRow :=
  (t.homeQ s.self).zipIdx.flatMap (fun q => s.retRows t q.1 q.2 (bits ((ws.drop 8).getD q.2 0) 56 0) (s.ctxTaint k))

end Sys2Proof.Claims

/-- R198 to R208: an engine's next fragment goes to the member whose turn it is; a ROW lands with its tag and its bytes in its
queue, an ABORT counts for the bytes that will not come, a RESULT lands in its combine slot, and the last one ends the step;
ROUTE.RET starts the return of the rows; a packet for no running step is refused; a queue or a return that is late ends the
step with TAINT. -/
def Obligations.SpliceEngine : Prop :=
  (∀ e s t m passed r v bs, runs s e.val t → t.routed = true → s.turn t (sendDue t) t.rot (dNmem t.desc) 0 = (some m, passed) →
    t.sends.find? (fun r => r.member == m) = some r → t.retAt = none →
    s.vpoison t.glove (sendFrom t r) (fragLen (dRow t.desc) r.sent) = false →
    s.engineRead t.glove 0 (sendFrom t r) (fragLen (dRow t.desc) r.sent) = some (v, bs) →
    Goes (.spliceSendFragment e) s (fun u => (∃ t', u.route' e = some t' ∧ t'.ended = false
        ∧ t'.sends = bumpSend m (fragLen (dRow t.desc) r.sent) (dRow t.desc) t.sends ∧ t'.rot = (m + 1) % dNmem t.desc)
      ∧ sends v u (rowPacket s t m r bs) ∧ memKept s u ∧ u.kn = s.kn ∧ u.tiles = s.tiles))
  ∧ (∀ e s t passed, runs s e.val t → t.routed = true → s.turn t (sendDue t) t.rot (dNmem t.desc) 0 = (none, passed) →
    Goes (.spliceSendFragment e) s (fun u => u.rt = s.rt ∧ netKept s u))
  ∧ (∀ x s p u n e t q v, spliceComes s x tSPLICE p u n e t → spKind p ≠ 1 → t.landingAt ≠ none → rowFits u p t q → rowLands u v p t q →
    u.knotOwner (qKnot (u.qHead t.glove q)) = some t.glove → calm u (qKnot (u.qHead t.glove q)) p.len →
    Goes (.spliceRowReceive x) s (fun y => y.mem = v.mem ∧ (∃ t', y.route' e = some t'
        ∧ t'.landed = Tab.store (fun _ => 0) t.landed (t.blockKey (spQ p) (spRank p) (spMember p))
            (Tab.look (fun _ => 0) t.landed (t.blockKey (spQ p) (spRank p) (spMember p)) + p.len))
      ∧ (∀ i, (y.knot i).count = (u.knot i).count + (if i = qKnot (u.qHead t.glove q) then p.len else 0)) ∧ y.tiles = u.tiles))
  ∧ (∀ x s p u n, accepts s x tSPLICE p u n → spKind p ≠ 1 → spliceOk p = true → u.findStep n (spTag p) = none →
    Goes (.spliceRowReceive x) s (fun y => y.rt = (u.nak p nakRANGE).rt ∧ netKept u y))
  ∧ (∀ x s p u n e t q, spliceComes s x tSPLICE p u n e t → spKind p = 1 → t.landingAt ≠ none → (t.homeQ u.self)[spQ p]? = some q →
    spMember p < dNmem t.desc → (t.memberBytes (spQ p) (spMember p)).2 + spBytes p ≤ (t.memberBytes (spQ p) (spMember p)).1 →
    0 < spBytes p → u.knotOwner (qKnot (u.qHead t.glove q)) = some t.glove → calm u (qKnot (u.qHead t.glove q)) (spBytes p) →
    Goes (.spliceAbortReceive x) s (fun y => (∃ t', y.route' e = some t' ∧ t'.sends = t.sends
        ∧ t'.landed = abortGo t (spQ p) (spMember p) (List.range (dK t.desc)) (spBytes p) t.landed)
      ∧ (y.knot (qKnot (u.qHead t.glove q))).taint = true ∧ y.mem = u.mem ∧ y.tiles = u.tiles
      ∧ ∀ i, (y.knot i).count = (u.knot i).count + (if i = qKnot (u.qHead t.glove q) then spBytes p else 0)))
  ∧ (∀ x s p u n e t v, spliceComes s x tRETURN p u n e t → t.routed = true → resultFits p t →
    u.setVbytes t.glove p.taddr.toNat (p.data.take p.len) = some v → t.sends ≠ [] ∨ t.retAt = none ∨ t.rets ≠ [] →
    Goes (.returnResultReceive x) s (fun y => y.mem = v.mem ∧ y.route' e = some (resulted t p) ∧ y.kn = u.kn ∧ y.tiles = u.tiles))
  ∧ (∀ x s p u n e t v, spliceComes s x tRETURN p u n e t → resultFits p t →
    u.setVbytes t.glove p.taddr.toNat (p.data.take p.len) = some v → endCalm v t → t.retAt ≠ none → t.rets = [] → t.twinHeld = false →
    u.twin t.glove = false → (resulted t p).got.foldl (fun a x => a + x.2) 0 = t.admitted.length * dRet t.desc →
    Goes (.returnResultReceive x) s (fun y => stepOver v y e t (if (resulted t p).retTaint then ST_TAINT else ST_OK) (resulted t p).retTaint))
  ∧ (∀ k w s e t v ws, ReadyB s k w → retReads s k w e t v ws → t.retAt = none → s.queuesReached t = true →
    (t.homeQ s.self ≠ [] → t.landingAt ≠ none) → s.dying k = false → (∀ q ∈ (t.homeQ s.self).zipIdx, s.tagsPoisoned t q.1 q.2 = false) →
    t.routed = false ∨ retsOf s k t ws ≠ [] →
    Goes (.routeRet k w) s (fun u => answered s u k w ST_OK ∧ u.route' e = some { t with rets := retsOf s k t ws, retAt := some s.lanyard.toNat, retRot := (dSelf t.desc + 1) % dNmem t.desc, phase := if t.routed then 7 else t.phase }
      ∧ memKept s u ∧ u.kn = s.kn))
  ∧ (∀ k w s e t v ws, ReadyB s k w → retReads s k w e t v ws → w.tf = false → t.retAt ≠ none ∨ s.queuesReached t = false →
    Goes (.routeRet k w) s (fun u => answered s u k w ST_RANGE ∧ u.brm = s.brm ∧ memKept s u ∧ u.kn = s.kn))
  ∧ (∀ e s t m passed r v bs, runs s e.val t → t.retAt ≠ none → s.turn t (retDue t) t.retRot (dNmem t.desc) 0 = (some m, passed) →
    t.rets.find? (fun r => r.member == m) = some r → bumpRet m (fragLen (dRet t.desc) r.sent) (dRet t.desc) t.rets ≠ [] →
    s.vpoison t.glove (r.src + r.sent) (fragLen (dRet t.desc) r.sent) = false →
    s.engineRead t.glove 0 (r.src + r.sent) (fragLen (dRet t.desc) r.sent) = some (v, bs) →
    Goes (.returnSendFragment e) s (fun u => (∃ t', u.route' e = some t' ∧ t'.ended = false
        ∧ t'.rets = bumpRet m (fragLen (dRet t.desc) r.sent) (dRet t.desc) t.rets ∧ t'.retRot = (m + 1) % dNmem t.desc)
      ∧ sends v u (s.splicePacket t true m (r.slot + r.sent) (spliceCtl t r.rank 2 r.taint r.q r.row r.token 0) bs)
      ∧ memKept s u ∧ u.kn = s.kn ∧ u.tiles = s.tiles))
  ∧ (∀ e s t a q n, runs s e.val t → t.landingAt = some a → a + dTimeout t.desc ≤ s.lanyard.toNat → t.homeQ s.self = [q] →
    (s.knot (qKnot (s.qHead t.glove q))).reached = false → t.routed = true → t.sends = [] → n = t.rowsOf 0 * dRow t.desc - t.landedOf 0 →
    qKnot (s.qHead t.glove q) ≠ dDone t.desc → calm s (qKnot (s.qHead t.glove q)) n → calm s (dDone t.desc) 1 →
    s.knotOwner (qKnot (s.qHead t.glove q)) = some t.glove → s.knotOwner (dDone t.desc) = some t.glove →
    Goes (.spliceLandingTimeout e) s (fun u => (∃ r, u.route' e = some r ∧ r.ended = true ∧ r.status = ST_TAINT)
      ∧ (u.knot (qKnot (s.qHead t.glove q))).count = (s.knot (qKnot (s.qHead t.glove q))).count + n
      ∧ (u.knot (dDone t.desc)).count = (s.knot (dDone t.desc)).count + 1 ∧ (u.knot (dDone t.desc)).taint = true ∧ u.tiles = s.tiles))
  ∧ (∀ e s t a, runs s e.val t → t.landingAt = some a → s.lanyard.toNat < a + dTimeout t.desc ∨ s.queuesReached t = true →
    Goes (.spliceLandingTimeout e) s (fun u => u.brm = s.brm ∧ memRegsKept s u ∧ netKept s u))
  ∧ (∀ e s t a, runs s e.val t → t.retAt = some a → a + dTimeout t.desc ≤ s.lanyard.toNat →
    t.got.foldl (fun a x => a + x.2) 0 < t.admitted.length * dRet t.desc → endCalm s t →
    Goes (.returnArrivalTimeout e) s (fun u => stepOver s u e t ST_TAINT true))

namespace Sys2Proof.Claims

open Machine Reg

/-- Nothing but the memory tiers, control registers, counters, logs and free values has changed. -/
def tiersKept (s t : State) : Prop :=
  t.mem = s.mem ∧ t.kn = s.kn ∧ t.tiles = s.tiles ∧ t.slice = s.slice ∧ t.rt = s.rt ∧ t.ports = s.ports ∧ t.hub = s.hub
    ∧ t.brm = s.brm ∧ t.pwr = s.pwr

/-- The status of the last migration command, with its page or channel (R216). -/
def migAnswer (t : State) (arg st : Nat) : Prop := t.fget MIG_CMD MIG_CMD_STATUS = st ∧ t.fget MIG_CMD MIG_CMD_ARG = arg

/-- A die's partition has a place free. -/
def roomOn (s : State) (die : Nat) : Prop := (s.residents die).length < dieCapacity s.resWays

/-- Pages that stream windows hold. -/
def streamPages (s : State) : Nat :=
  s.mm.streams.foldl (fun a x => a + (match x.2 with
    | some y => y.filled.length
    | none => 0)) 0

/-- A word of STREAM, and the record it reads (R220). -/
def streamReads (s : State) (k : CtxId) (w : FmtB) (x : List W64) : Prop :=
  w.rb = 0 ∧ w.rc = 0 ∧ w.opx = 0 ∧ unlocked s k [.mem] [] ∧ ((s.ctx k).gr w.ra.toNat).toNat % 64 = 0
    ∧ (s.syncBytes (s.ctx k).glove ((s.ctx k).gr w.ra.toNat).toNat 64).map (bytesWords 8) = some x

/-- The list of a stream record, its entries in order and none wider than the window. -/
def streamList (s : State) (k : CtxId) (x : List W64) (es : List (List W64)) : Prop :=
  let n := bits (x.getD 1 0) 16 0
  let fm := x.getD 2 0
  n ≠ 0 ∧ (∃ bs, s.syncBytes (s.ctx k).glove (bits (x.getD 0 0) 56 0) (32 * n) = some bs ∧ es = cut 4 n (bytesWords (4 * n) bs))
    ∧ es.all (streamBlkOk (bits fm 4 0) (bits fm 6 5) (bits fm 8 7)) = true
    ∧ ∀ e ∈ es, (StreamBlk.of e).pages.length ≤ bits (x.getD 1 0) 44 32

/-- The stream entry that STREAM makes. -/
def streamMade (s : State) (k : CtxId) (x : List W64) (es : List (List W64)) : StreamEnt :=
  { glove := (s.ctx k).glove, seq := (s.mm.streamSeq + 1) % 2 ^ 32, winPages := bits (x.getD 1 0) 44 32,
    loop := (x.getD 1 0).getLsbD 45, knot := bits (x.getD 3 0) 13 0, blocks := es.map StreamBlk.of }

end Sys2Proof.Claims

/-- R213, R216 to R218, R228, R236: translations are invalidated; a candidate at the threshold is made resident, on a full die in
place of another page; the candidates age; PIN, UNPIN and DISCARD change a page, VACATE and RESUME a channel, and all
of them answer ST_BUSY while a channel is being vacated; a lower RES_WAYS is refused where pinned pages would not fit. -/
def Obligations.Migration : Prop :=
  (∀ v s, Goes (.migTlbinvGo v) s (fun t => t.fget MIG_TLBINV MIG_TLBINV_SLOT = bits v 62 57 ∧ t.fget MIG_TLBINV MIG_TLBINV_VPAGE = bits v 56 16
      ∧ t.fget MIG_TLBINV MIG_TLBINV_COUNT_M1 = bits v 15 8 ∧ t.fget MIG_TLBINV MIG_TLBINV_ALL = bits v 1 1
      ∧ t.fget MIG_TLBINV MIG_TLBINV_DONE = 0 ∧ t.mm.invBusy = true ∧ regsBut s t [MIG_TLBINV] ∧ tiersKept s t))
  ∧ (∀ s, s.mm.invBusy = true → Goes .migTlbinvDone s (fun t => t.fget MIG_TLBINV MIG_TLBINV_DONE = 1 ∧ t.mm.invBusy = false
      ∧ regsBut s t [MIG_TLBINV] ∧ tiersKept s t))
  ∧ (∀ page s c ch f, s.mm.cands.find? (fun c => c.page == page.val) = some c → (s.page page.val).place = .hbm ch f →
    s.fget MIG_CFG MIG_CFG_PROMOTE ≠ 0 → s.fget MIG_CFG MIG_CFG_PROMOTE ≤ c.count → s.fget (HBM_CH_STAT ch) HBM_CH_STAT_STATE ≠ 2 →
    roomOn s c.die →
    Goes (.migPromote page) s (fun t => t.page page = { s.page page with place := .resident c.die, age := 0 }
      ∧ (∀ q, q ≠ page.val → t.page q = s.page q) ∧ t.freeIn ch = f :: s.freeIn ch ∧ (∀ x ∈ t.mm.cands, x.page ≠ page.val) ∧ tiersKept s t))
  ∧ (∀ page s c ch f q, s.mm.cands.find? (fun c => c.page == page.val) = some c → (s.page page.val).place = .hbm ch f →
    s.fget MIG_CFG MIG_CFG_PROMOTE ≠ 0 → s.fget MIG_CFG MIG_CFG_PROMOTE ≤ c.count → s.fget (HBM_CH_STAT ch) HBM_CH_STAT_STATE ≠ 2 →
    ¬ roomOn s c.die → s.victim c.die = some q → q ≠ page.val → s.freeChan 256 ≠ none →
    Goes (.migPromote page) s (fun t => (t.page page).place = .resident c.die ∧ (∃ c' f', (t.page q).place = .hbm c' f')
      ∧ (∀ r, r ≠ page.val → r ≠ q → t.page r = s.page r) ∧ tiersKept s t))
  ∧ (∀ page s c, s.mm.cands.find? (fun c => c.page == page.val) = some c →
    s.fget MIG_CFG MIG_CFG_PROMOTE = 0 ∨ c.count < s.fget MIG_CFG MIG_CFG_PROMOTE →
    Goes (.migPromote page) s (fun t => t.mm = s.mm ∧ (∀ o, t.reg o = s.reg o) ∧ tiersKept s t))
  ∧ (∀ s, s.mm.lastAge + max 1 (s.fget MIG_CFG MIG_CFG_AGE_US) * 1000 ≤ s.lanyard.toNat →
    Goes .migAgeTick s (fun t => t.mm.cands = s.mm.cands.map (fun c => { c with count := c.count / 2 }) ∧ t.mm.lastAge = s.lanyard.toNat
      ∧ (∀ p d, (s.page p).place = .resident d → t.page p = { s.page p with age := min 255 ((s.page p).age + 1) })
      ∧ (∀ p, (∀ d, (s.page p).place ≠ .resident d) → t.page p = s.page p) ∧ (∀ o, t.reg o = s.reg o) ∧ tiersKept s t))
  ∧ (∀ s, s.lanyard.toNat < s.mm.lastAge + max 1 (s.fget MIG_CFG MIG_CFG_AGE_US) * 1000 →
    Goes .migAgeTick s (fun t => t.mm = s.mm ∧ (∀ o, t.reg o = s.reg o) ∧ tiersKept s t))
  ∧ (∀ die page s, s.migBusy = false → (s.page page.val).pinned = false → (s.page page.val).place ≠ .resident die.val →
    ((s.residents die.val).filter (fun e => e.2.pinned)).length < dieCapacity s.resWays / 4 → roomOn s die.val →
    Goes (.pin die page) s (fun t => t.page page = { s.page page with place := .resident die, age := 0, pinned := true }
      ∧ migAnswer t page ST_OK ∧ t.fget MIG_CMD MIG_CMD_DIE = die ∧ (∀ q, q ≠ page.val → t.page q = s.page q) ∧ tiersKept s t))
  ∧ (∀ die page s, s.migBusy = false → (s.page page.val).pinned = false →
    dieCapacity s.resWays / 4 ≤ ((s.residents die.val).filter (fun e => e.2.pinned)).length →
    Goes (.pin die page) s (fun t => t.mm = s.mm ∧ migAnswer t page ST_DENIED ∧ regsBut s t [MIG_CMD] ∧ tiersKept s t))
  ∧ (∀ page s, s.migBusy = false →
    Goes (.unpin page) s (fun t => t.page page = (if (s.page page).pinned then { s.page page with pinned := false, age := 255 } else s.page page)
      ∧ migAnswer t page ST_OK ∧ (∀ q, q ≠ page.val → t.page q = s.page q) ∧ regsBut s t [MIG_CMD] ∧ tiersKept s t))
  ∧ (∀ page s, s.migBusy = false →
    Goes (.discard page) s (fun t => t.page page = { place := .discarded } ∧ migAnswer t page ST_OK
      ∧ (∀ q, q ≠ page.val → t.page q = s.page q)
      ∧ (∀ a, t.byte a = if page.val * 65536 ≤ a ∧ a < page.val * 65536 + 65536 then 0 else s.byte a)
      ∧ t.kn = s.kn ∧ t.tiles = s.tiles ∧ t.slice = s.slice ∧ regsBut s t [MIG_CMD]))
  ∧ (∀ c s, s.migBusy = false → s.fget (HBM_CH_STAT c.val) HBM_CH_STAT_STATE ≤ 1 →
    Goes (.vacate c) s (fun t => t.fget (HBM_CH_STAT c) HBM_CH_STAT_STATE = 2 ∧ t.migBusy = true ∧ migAnswer t c ST_OK
      ∧ regsBut s t [MIG_CMD, HBM_CH_STAT c] ∧ tiersKept s t))
  ∧ (∀ c s, s.migBusy = false → 1 < s.fget (HBM_CH_STAT c.val) HBM_CH_STAT_STATE →
    Goes (.vacate c) s (fun t => t.mm = s.mm ∧ migAnswer t c ST_RANGE ∧ regsBut s t [MIG_CMD] ∧ tiersKept s t))
  ∧ (∀ c s, s.migBusy = false → s.fget (HBM_CH_STAT c.val) HBM_CH_STAT_STATE = 4 →
    Goes (.resume c) s (fun t => t.fget (HBM_CH_STAT c) HBM_CH_STAT_STATE = 3 ∧ t.fget (HBM_TG_RES c) HBM_TG_RES_RUNNING = 0
      ∧ migAnswer t c ST_OK ∧ regsBut s t [MIG_CMD, HBM_CH_STAT c, HBM_TG_RES c] ∧ tiersKept s t))
  ∧ (∀ (page : Fin 8388608) (c : Fin 256) die s, s.migBusy = true →
    Goes (.pin die page) s (fun t => migAnswer t page ST_BUSY ∧ t.mm = s.mm ∧ tiersKept s t)
    ∧ Goes (.unpin page) s (fun t => migAnswer t page ST_BUSY ∧ t.mm = s.mm ∧ tiersKept s t)
    ∧ Goes (.discard page) s (fun t => migAnswer t page ST_BUSY ∧ t.mm = s.mm ∧ tiersKept s t)
    ∧ Goes (.vacate c) s (fun t => migAnswer t c ST_BUSY ∧ t.mm = s.mm ∧ tiersKept s t)
    ∧ Goes (.resume c) s (fun t => migAnswer t c ST_BUSY ∧ t.mm = s.mm ∧ tiersKept s t))
  ∧ (∀ v s, (∀ d, d < 4 → (s.residents d).length ≤ dieCapacity (min 10 (bits v 19 16))) →
    Goes (.migCfgWrite v) s (fun t => t.fget MIG_CFG MIG_CFG_STREAM_PAGES = bits v 44 32 ∧ t.fget MIG_CFG MIG_CFG_AGE_US = bits v 31 24
      ∧ t.fget MIG_CFG MIG_CFG_PROMOTE = bits v 23 20 ∧ t.fget MIG_CFG MIG_CFG_RES_WAYS = bits v 19 16
      ∧ t.mm = s.mm ∧ regsBut s t [MIG_CFG] ∧ tiersKept s t))
  ∧ (∀ v s d, d < 4 → dieCapacity (min 10 (bits v 19 16)) < ((s.residents d).filter (fun e => e.2.pinned)).length →
    Goes (.migCfgWrite v) s (fun t => t.fget MIG_CMD MIG_CMD_STATUS = ST_DENIED ∧ t.mm = s.mm ∧ regsBut s t [MIG_CMD] ∧ tiersKept s t))

/-- R220 to R222, R227, R230, R235: STREAM enters a stream and gives its handle, or is answered ST_FMT or ST_RANGE; its
window fills and closes; HBM4 channels drain, retrain, retire and degrade; the traffic generator starts, is refused, and ends;
a NAND die fails after two retries. -/
def Obligations.MemoryChannels : Prop :=
  (∀ k w s x es e, ReadyB s k w → streamReads s k w x → s.streamStatus (s.ctx k).glove x = ST_OK → streamList s k x es →
    (List.range 64).find? (fun e => (s.stream e).isNone) = some e → s.dying k = false →
    Goes (.stream k w) s (fun t => s.completed t k w w.rd.toNat (streamHandle e (s.ctx k).glove ((s.mm.streamSeq + 1) % 2 ^ 32))
      ∧ t.stream e = some (streamMade s k x es) ∧ (∀ i, i ≠ e → t.stream i = s.stream i) ∧ memRegsKept s t))
  ∧ (∀ k w s x st, ReadyB s k w → streamReads s k w x → w.tf = false → st = s.streamStatus (s.ctx k).glove x → st ≠ ST_OK →
    Goes (.stream k w) s (fun t => refused s t k w st))
  ∧ (∀ n s st, s.stream n.val = some st → st.loop = false → st.blocks.length ≤ (s.knot st.knot).count →
    Goes (.streamFill n) s (fun t => t.stream n = none ∧ (∀ i, i ≠ n.val → t.stream i = s.stream i) ∧ (∀ o, t.reg o = s.reg o) ∧ tiersKept s t))
  ∧ (∀ n s st p die, s.stream n.val = some st → st.loop = true ∨ (s.knot st.knot).count < st.blocks.length → st.filled = [] →
    s.windowPages st = [(p, die)] → (s.page p).pinned = false → streamPages (s.setStream n st) < s.fget MIG_CFG MIG_CFG_STREAM_PAGES →
    roomOn s (s.dieFor p die) →
    Goes (.streamFill n) s (fun t => t.stream n = some { st with filled := [p] } ∧ (t.page p).place = .resident (s.dieFor p die)
      ∧ (∀ q, q ≠ p → t.page q = s.page q) ∧ tiersKept s t))
  ∧ (∀ n s, s.stream n.val = none → Goes (.streamFill n) s (fun t => t.mm = s.mm ∧ (∀ o, t.reg o = s.reg o) ∧ tiersKept s t))
  ∧ (∀ c s, s.fget (HBM_CH_STAT c.val) HBM_CH_STAT_STATE = 1 ∨ s.fget (HBM_CH_STAT c.val) HBM_CH_STAT_STATE = 2 →
    (s.pagesIn c).length < s.freeElsewhere c →
    Goes (.hbmChannelDrain c) s (fun t =>
      t.fget (HBM_CH_STAT c) HBM_CH_STAT_STATE = (if Tab.look (fun _ => false) s.mm.vacating c then 4 else 3)
      ∧ Tab.look (fun _ => false) t.mm.vacating c = false ∧ regsBut s t [HBM_CH_STAT c] ∧ tiersKept s t))
  ∧ (∀ c s, s.freeElsewhere c ≤ (s.pagesIn c).length →
    Goes (.hbmChannelDrain c) s (fun t => t.mm = s.mm ∧ (∀ o, t.reg o = s.reg o) ∧ tiersKept s t))
  ∧ (∀ c s, s.fget (HBM_CH_STAT c.val) HBM_CH_STAT_STATE = 3 → s.fget (HBM_CH_STAT c.val) HBM_CH_STAT_FAILED_LANE ≠ 0xFF →
    0 < s.fget (HBM_CH_STAT c.val) HBM_CH_STAT_SPARES →
    Goes (.hbmChannelRetrainDone c true) s (fun t => t.fget (HBM_CH_STAT c) HBM_CH_STAT_STATE = 0
      ∧ t.fget (HBM_CH_STAT c) HBM_CH_STAT_SPARES = s.fget (HBM_CH_STAT c) HBM_CH_STAT_SPARES - 1
      ∧ t.fget (HBM_CH_STAT c) HBM_CH_STAT_FAILED_LANE = 0xFF ∧ t.mm = s.mm ∧ regsBut s t [HBM_CH_STAT c] ∧ tiersKept s t))
  ∧ (∀ c s, s.fget (HBM_CH_STAT c.val) HBM_CH_STAT_STATE = 3 → s.fget (HBM_CH_STAT c.val) HBM_CH_STAT_FAILED_LANE = 0xFF →
    Goes (.hbmChannelRetrainDone c true) s (fun t => t.fget (HBM_CH_STAT c) HBM_CH_STAT_STATE = 0 ∧ t.mm = s.mm
      ∧ regsBut s t [HBM_CH_STAT c] ∧ tiersKept s t))
  ∧ (∀ c ok s, s.fget (HBM_CH_STAT c.val) HBM_CH_STAT_STATE = 3 → ok = false ∨ (s.fget (HBM_CH_STAT c.val) HBM_CH_STAT_FAILED_LANE ≠ 0xFF
      ∧ s.fget (HBM_CH_STAT c.val) HBM_CH_STAT_SPARES = 0) →
    Goes (.hbmChannelRetrainDone c ok) s (fun t => t.fget (HBM_CH_STAT c) HBM_CH_STAT_STATE = 5 ∧ t.mm = s.mm ∧ tiersKept s t))
  ∧ (∀ (c : Fin 256) retries s, Goes (.hbmParityError c retries) s (fun t => raised s t 0x0903 c 0x3F retries 0 ∧ t.mm = s.mm ∧ tiersKept s t))
  ∧ (∀ (c : Fin 256) s, s.fget (HBM_CH_STAT c.val) HBM_CH_STAT_STATE = 0 →
    Goes (.hbmParityError c 3) s (fun t => t.fget (HBM_CH_STAT c) HBM_CH_STAT_STATE = 1 ∧ t.mm = s.mm ∧ tiersKept s t))
  ∧ (∀ c s, s.fget (HBM_CH_STAT c.val) HBM_CH_STAT_STATE = 4 → s.fget (HBM_TG_RES c.val) HBM_TG_RES_RUNNING = 0 → s.fiAllowed = true →
    s.fget (HBM_TG_CTL c.val) HBM_TG_CTL_PATTERN ≤ 3 →
    Goes (.hbmTgStart c) s (fun t => t.fget (HBM_TG_CTL c) HBM_TG_CTL_STATUS = ST_OK ∧ t.fget (HBM_TG_RES c) HBM_TG_RES_RUNNING = 1
      ∧ t.fget (HBM_TG_RES c) HBM_TG_RES_ERRORS = 0 ∧ t.reg (HBM_TG_LANES c) = 0
      ∧ (∃ e ∈ t.sec.journal.drop s.sec.journal.length, e.ty = 0x0012) ∧ t.mm = s.mm ∧ tiersKept s t))
  ∧ (∀ c s, s.fget (HBM_CH_STAT c.val) HBM_CH_STAT_STATE ≠ 4 ∨ s.fget (HBM_TG_RES c.val) HBM_TG_RES_RUNNING = 1 →
    Goes (.hbmTgStart c) s (fun t => t.fget (HBM_TG_CTL c) HBM_TG_CTL_STATUS = ST_BUSY ∧ t.mm = s.mm ∧ regsBut s t [HBM_TG_CTL c] ∧ tiersKept s t))
  ∧ (∀ c s, s.fget (HBM_CH_STAT c.val) HBM_CH_STAT_STATE = 4 → s.fget (HBM_TG_RES c.val) HBM_TG_RES_RUNNING = 0 → s.fiAllowed = false →
    Goes (.hbmTgStart c) s (fun t => t.fget (HBM_TG_CTL c) HBM_TG_CTL_STATUS = ST_DENIED ∧ t.mm = s.mm ∧ regsBut s t [HBM_TG_CTL c] ∧ tiersKept s t))
  ∧ (∀ c s, s.fget (HBM_TG_RES c.val) HBM_TG_RES_RUNNING = 1 →
    Goes (.hbmTgStop c) s (fun t => t.fget (HBM_TG_RES c) HBM_TG_RES_RUNNING = 0 ∧ t.mm = s.mm
      ∧ regsBut s t [HBM_TG_RES c, HBM_TG_LANES c] ∧ tiersKept s t))
  ∧ (∀ c errors lanes s, s.fget (HBM_TG_RES c.val) HBM_TG_RES_RUNNING = 1 →
    Goes (.hbmTgRunDone c errors lanes) s (fun t => t.fget (HBM_TG_RES c) HBM_TG_RES_RUNNING = 0
      ∧ t.fget (HBM_TG_RES c) HBM_TG_RES_ERRORS = errors.toNat ∧ t.reg (HBM_TG_LANES c) = lanes ∧ t.mm = s.mm
      ∧ regsBut s t [HBM_TG_RES c, HBM_TG_LANES c] ∧ tiersKept s t))
  ∧ (∀ (die : Fin 2) cmd s, Tab.look (fun _ => false) s.mm.dieFailed die = false → Tab.look (fun _ => 0) s.mm.dieRetries die < 2 →
    Goes (.nvsDieTimeout die cmd) s (fun t => Tab.look (fun _ => 0) t.mm.dieRetries die = Tab.look (fun _ => 0) s.mm.dieRetries die + 1
      ∧ Tab.look (fun _ => false) t.mm.dieFailed die = false ∧ (∀ o, t.reg o = s.reg o) ∧ t.sec = s.sec ∧ tiersKept s t))
  ∧ (∀ (die : Fin 2) cmd s, Tab.look (fun _ => false) s.mm.dieFailed die = false → 2 ≤ Tab.look (fun _ => 0) s.mm.dieRetries die →
    Goes (.nvsDieTimeout die cmd) s (fun t => Tab.look (fun _ => false) t.mm.dieFailed die = true ∧ t.fget NVS_STAT NVS_STAT_DIE_FAIL = 1
      ∧ raised s t 0x1202 die 0x3F cmd.toNat 0 ∧ memKept s t ∧ t.kn = s.kn ∧ t.tiles = s.tiles))
  ∧ (∀ src v s, arbCalm s HBM_QOS →
    Goes (.hbmQosWrite src v) s (fun t => t.fget HBM_QOS HBM_QOS_URG_MAX = bits v 31 24
      ∧ t.fget HBM_QOS HBM_QOS_W_NORMAL = bits v 23 16 ∧ t.fget HBM_QOS HBM_QOS_W_STREAM = bits v 15 8
      ∧ t.fget HBM_QOS HBM_QOS_W_BACKGROUND = bits v 7 0 ∧ t.mm = s.mm ∧ tiersKept s t))

namespace Sys2Proof.Claims

open Machine Reg

/-- A TWIN packet (R124) of kind MKIND arrives, of its length and with its first three words well formed. -/
def twinComes (s : State) (x : Rx) (kind len : Nat) (p : Packet) (u : State) (n : Nat) : Prop :=
  accepts s x tMGMT p u n ∧ mgKind p = kind ∧ p.len = len ∧ twinHeadOk p = true

/-- The digest that a packet brings. -/
def digestOf (u : State) (p : Packet) (n : Nat) : TwinDigest :=
  ⟨n, bits (p.word 0) 9 8, bits (p.word 0) 21 10, p.word 1, bits (p.word 2) 47 0, [p.word 3, p.word 4, p.word 5, p.word 6],
    u.lanyard.toNat⟩

/-- A held subject has diverged in a stream (R125): it stays held, its glove stands still, and the record names it unless it
holds an earlier one. -/
def twinDiverged (s t : State) (h : TwinHeld) (stream : Nat) (theirs : W64) : Prop :=
  t.kn.twins = s.kn.twins.map (fun x => if x.what = h.what then { x with diverged := true } else x)
    ∧ Tab.look (fun _ => false) t.kn.still h.glove = true ∧ t.fget KNOT_TWIN_DIV0 KNOT_TWIN_DIV0_VALID = 1
    ∧ (s.fget KNOT_TWIN_DIV0 KNOT_TWIN_DIV0_VALID = 0 →
        t.fget KNOT_TWIN_DIV0 KNOT_TWIN_DIV0_GLOVE_SLOT = h.glove ∧ t.fget KNOT_TWIN_DIV0 KNOT_TWIN_DIV0_STREAM = stream
        ∧ t.fget KNOT_TWIN_DIV0 KNOT_TWIN_DIV0_TASK = h.task ∧ t.fget KNOT_TWIN_DIV0 KNOT_TWIN_DIV0_SUBJECT = h.subject
        ∧ t.reg KNOT_TWIN_DIV1 = h.id ∧ t.reg KNOT_TWIN_DIV2 = BitVec.ofNat 64 h.graph ∧ t.reg KNOT_TWIN_DIV4 = theirs)
    ∧ t.mem = s.mem ∧ t.tiles = s.tiles ∧ t.kn.knots = s.kn.knots ∧ t.kn.tasks = s.kn.tasks

/-- A held subject whose numbers fit its record. -/
def heldFits (h : TwinHeld) : Prop := h.glove < 64 ∧ h.task < 4096 ∧ h.subject < 4 ∧ h.diverged = false

/-- The divergence that KNOT_TWIN_DIV0 and DIV1 record is that of h. -/
def divNames (s : State) (n : Nat) (h : TwinHeld) : Prop :=
  s.fget KNOT_TWIN_DIV0 KNOT_TWIN_DIV0_GLOVE_SLOT = n ∧ s.reg KNOT_TWIN_DIV1 = h.id
    ∧ s.fget KNOT_TWIN_DIV0 KNOT_TWIN_DIV0_TASK = h.task ∧ s.fget KNOT_TWIN_DIV0 KNOT_TWIN_DIV0_SUBJECT = h.subject

/-- The checkpoints of a RING packet, oldest first. -/
def ringOf (p : Packet) : List (W64 × W64 × W64) :=
  (List.range 64).map (fun i => (p.word (4 + 3 * i), p.word (5 + 3 * i), p.word (6 + 3 * i)))

/-- Tile t is fenced, and its units have given up their work. -/
def tileFenced (u : State) (t : Nat) : Prop :=
  u.fget (TILE_CTL t) TILE_CTL_FENCE = 1 ∧ u.fget (TILE_CAP t) TILE_CAP_FENCED = 1 ∧ (u.tile t).mmaQ = [] ∧ (u.tile t).vecQ = []
    ∧ (u.tile t).spmQ = [] ∧ (u.tile t).sieveQ = []

/-- Nothing but control registers, counters and logs has changed. -/
def ctlOnly (s t : State) : Prop := tiersKept s t ∧ t.mm = s.mm

end Sys2Proof.Claims

/-- R36, R94, R100: the self-test of a fenced, empty tile starts, and on another it answers ST_BUSY; its end sets the result, the
column map and the width, and a tile below grade stays fenced; TILE_CTL fences a tile and releases it. -/
def Obligations.TileFencesAndTests : Prop :=
  (∀ t s, s.fenced t.val = true → (s.tile t.val).occupied = 0 →
    Goes (.tileTestStart t) s (fun u => u.fget (TILE_TEST t) TILE_TEST_RUNNING = 1 ∧ u.fget (TILE_TEST t) TILE_TEST_RESULT = 0
      ∧ u.fget (TILE_TEST t) TILE_TEST_STATUS = ST_OK ∧ regsBut s u [TILE_TEST t] ∧ ctlOnly s u))
  ∧ (∀ t s, s.fenced t.val = false ∨ (s.tile t.val).occupied ≠ 0 →
    Goes (.tileTestStart t) s (fun u => u.fget (TILE_TEST t) TILE_TEST_STATUS = ST_BUSY
      ∧ u.fget (TILE_TEST t) TILE_TEST_RUNNING = s.fget (TILE_TEST t) TILE_TEST_RUNNING ∧ regsBut s u [TILE_TEST t] ∧ ctlOnly s u))
  ∧ (∀ t s, s.fget (TILE_TEST t.val) TILE_TEST_RUNNING = 1 →
    Goes (.tileSelfTestDone t 0) s (fun u => u.fget (TILE_TEST t) TILE_TEST_RUNNING = 0 ∧ u.fget (TILE_TEST t) TILE_TEST_RESULT = 1
      ∧ u.reg (TILE_TESTMAP t) = 0 ∧ u.reg (TILE_COLMAP t) = s.reg (TILE_COLMAP t)
      ∧ (s.fget (TILE_CTL t) TILE_CTL_FENCE = 0 → u.fget (TILE_CAP t) TILE_CAP_FENCED = 0) ∧ ctlOnly s u))
  ∧ (∀ t map s, s.fget (TILE_TEST t.val) TILE_TEST_RUNNING = 1 → map ≠ 0 → popCount (s.reg (TILE_COLMAP t.val) ||| map) ≤ 4 →
    Goes (.tileSelfTestDone t map) s (fun u => u.fget (TILE_TEST t) TILE_TEST_RUNNING = 0 ∧ u.fget (TILE_TEST t) TILE_TEST_RESULT = 2
      ∧ u.reg (TILE_TESTMAP t) = map ∧ u.reg (TILE_COLMAP t) = s.reg (TILE_COLMAP t) ||| map
      ∧ u.fget (TILE_CAP t) TILE_CAP_WIDTH = 64 - popCount (s.reg (TILE_COLMAP t) ||| map) ∧ ctlOnly s u))
  ∧ (∀ t map s, s.fget (TILE_TEST t.val) TILE_TEST_RUNNING = 1 → map ≠ 0 → 4 < popCount (s.reg (TILE_COLMAP t.val) ||| map) →
    Goes (.tileSelfTestDone t map) s (fun u => u.fget (TILE_TEST t) TILE_TEST_RUNNING = 0 ∧ u.fget (TILE_TEST t) TILE_TEST_RESULT = 3
      ∧ u.reg (TILE_TESTMAP t) = map ∧ u.reg (TILE_COLMAP t) = s.reg (TILE_COLMAP t)
      ∧ u.fget (TILE_CAP t) TILE_CAP_FENCED = s.fget (TILE_CAP t) TILE_CAP_FENCED ∧ raised s u 0x0104 t 0x3F map.toNat 0 ∧ ctlOnly s u))
  ∧ (∀ t src v s, arbCalm s (TILE_CTL t.val) → v.getLsbD 0 = true → s.fget (TILE_CTL t.val) TILE_CTL_FENCE = 0 →
    (∀ c, c < 16 → ((s.tile t.val).ctx c).task = none) →
    Goes (.tileCtlWrite t src v) s (fun u => tileFenced u t ∧ (∀ c, u.ctx c = s.ctx c) ∧ netKept { s with tiles := u.tiles } u))
  ∧ (∀ (t : Fin 256) src v s k q r c, arbCalm s (TILE_CTL t.val) → v.getLsbD 0 = true → s.fget (TILE_CTL t.val) TILE_CTL_FENCE = 0 → k = ctxId t c →
    c < 16 → (∀ d, d < 16 → d ≠ c → ((s.tile t.val).ctx d).task = none) → (s.ctx k).task = some q → s.gstate (s.ctx k).glove = gACTIVE →
    s.task q = some r → r.restartable = true →
    Goes (.tileCtlWrite t src v) s (fun u => tileFenced u t ∧ (∃ y, u.task q = some y ∧ y.ph = .ready ∧ y.desc = r.desc) ∧ u.ctx k = {}
      ∧ (∀ c, c ≠ k → u.ctx c = s.ctx c) ∧ memKept s u))
  ∧ (∀ t src v s, arbCalm s (TILE_CTL t.val) → v.getLsbD 0 = false →
    Goes (.tileCtlWrite t src v) s (fun u => u.fget (TILE_CTL t) TILE_CTL_FENCE = 0
      ∧ u.fget (TILE_CAP t) TILE_CAP_FENCED = (if s.fget (TILE_TEST t) TILE_TEST_RUNNING = 0 ∧ s.fget (TILE_TEST t) TILE_TEST_RESULT ≠ 3
          then 0 else s.fget (TILE_CAP t) TILE_CAP_FENCED) ∧ ctlOnly s u))

/-- R123 to R125: a DIGEST that matches no held subject waits; one that agrees with a held task lets it retire; one that differs,
or one that does not come within 10 ms, makes a divergence; a RING names the first window that differs; a digest without a subject
is discarded after 10 ms. -/
def Obligations.TwinMode : Prop :=
  (∀ x s p u n, twinComes s x 0x20 64 p u n → p.word 7 = 0 → u.kn.twins = [] →
    Goes (.twinDigestReceive x) s (fun t => t.kn.digests = u.kn.digests ++ [digestOf u p n] ∧ t.kn.twins = [] ∧ t.kn.tasks = u.kn.tasks
      ∧ memRegsKept u t ∧ t.tiles = u.tiles))
  ∧ (∀ x s p u n h q t g, twinComes s x 0x20 64 p u n → p.word 7 = 0 → u.kn.twins = [h] → u.kn.digests = [] → heldFits h →
    (digestOf u p n).matches' h = true → diffStream h.digs (digestOf u p n).digs = none → h.what = .task q → u.task q = some t →
    u.graph t.graph = some g → 1 < g.remaining → (∀ i ∈ t.outs, calm u i t.outs.length) →
    Goes (.twinDigestReceive x) s (fun y => y.task q = none ∧ y.kn.twins = [] ∧ y.kn.digests = []
      ∧ (∀ i, (y.knot i).count = (u.knot i).count + t.outs.count i) ∧ y.mem = u.mem))
  ∧ (∀ x s p u n h i, twinComes s x 0x20 64 p u n → p.word 7 = 0 → u.kn.twins = [h] → u.kn.digests = [] → heldFits h →
    (digestOf u p n).matches' h = true → diffStream h.digs (digestOf u p n).digs = some i →
    Goes (.twinDigestReceive x) s (fun t => twinDiverged u t h i ((digestOf u p n).digs.getD i 0) ∧ t.kn.digests = []))
  ∧ (∀ x s p, s.headOf x = some p → p.ty = tMGMT → p.dest = s.self → mgKnown p = false →
    Goes (.twinDigestReceive x) s (fun t => t.rt = ((((s.popIn x).seqCheck p).2).nak p nakMALFORMED).rt ∧ netKept s t))
  ∧ (∀ x s p u n h w, twinComes s x 0x21 1568 p u n → bits (p.word 3) 63 7 = 0 →
    u.kn.twins.find? (fun h => h.glove == n && h.subject == bits (p.word 0) 9 8 && h.task == bits (p.word 0) 21 10
      && h.id == p.word 1 && h.graph == bits (p.word 2) 47 0 && h.diverged) = some h → divNames u n h → w < 64 →
    firstDiff h.ring.reverse ((ringOf p).take h.ring.length) h.oldest (bits (p.word 3) 5 0) = some w →
    Goes (.twinRingReceive x) s (fun t => t.fget KNOT_TWIN_DIV0 KNOT_TWIN_DIV0_WINDOW = w
      ∧ t.fget KNOT_TWIN_DIV0 KNOT_TWIN_DIV0_WRAPPED = (if h.wrapped || (p.word 3).getLsbD 6 then 1 else 0)
      ∧ regsBut u t [KNOT_TWIN_DIV0] ∧ netKept u t))
  ∧ (∀ q s h, s.kn.twins[q]? = some h → heldFits h → h.since + 10000000 ≤ s.lanyard.toNat →
    Goes (.twinDigestMissing q) s (fun t => twinDiverged s t h 4 0))
  ∧ (∀ q s h, s.kn.twins[q]? = some h → s.lanyard.toNat < h.since + 10000000 →
    Goes (.twinDigestMissing q) s (fun t => netKept s t ∧ memRegsKept s t))
  ∧ (∀ j s d, s.kn.digests[j]? = some d → d.since + 10000000 ≤ s.lanyard.toNat →
    Goes (.twinDigestDiscard j) s (fun t => t.kn.digests = s.kn.digests.eraseIdx j ∧ t.kn.twins = s.kn.twins ∧ t.kn.tasks = s.kn.tasks
      ∧ t.mem = s.mem ∧ t.tiles = s.tiles))
  ∧ (∀ j s d, s.kn.digests[j]? = some d → s.lanyard.toNat < d.since + 10000000 →
    Goes (.twinDigestDiscard j) s (fun t => netKept s t ∧ memRegsKept s t))

namespace Sys2Proof.Claims

open Machine Reg

/-- A TIME packet of a kind arrives, well formed (R316). -/
def timeComes (s : State) (x : Rx) (kind : Nat) (p : Packet) (u : State) (n : Nat) : Prop :=
  accepts s x tTIME p u n ∧ tmKind p = kind ∧ timeOk p = true

/-- The exchange that a SYNC opens. -/
def syncExchange (x : Rx) (p : Packet) : Exchange := ⟨x.port, tmSeq p, p.word 1, p.word 2, BitVec.ofNat 64 p.since, 0⟩

/-- A RESP completes exchange e with an offset (R317). -/
def respCompletes (u : State) (x : Rx) (p : Packet) (e : Exchange) (off : Int) : Prop :=
  u.fromMaster x p = true ∧ u.time.xchg.find? (fun e => e.port == x.port.val && e.tseq == bits (p.word 3) 15 0) = some e
    ∧ off = xchgOffset e (p.word 1) (p.word 2)

/-- The last sixteen offsets with a new one. -/
def offsetsWith (u : State) (off : Int) : List Int := (u.time.offsets ++ [off]).drop (u.time.offsets.length + 1 - 16)

/-- A LAUNCH packet of a kind arrives, well formed (R324). -/
def launchComes (s : State) (x : Rx) (kind : Nat) (p : Packet) (u : State) (n : Nat) : Prop :=
  accepts s x tLAUNCH p u n ∧ lhKind p.words8 = kind ∧ lhPktOk p = true

/-- It names the launch that entry i holds. -/
def launchNamed (u : State) (p : Packet) (n i : Nat) : Prop := u.findLaunch n (lhLid p.words8) = some i

/-- Of the launch entries only entry i has changed, to l. -/
def entryBecomes (s t : State) (i : Nat) (l : Launch) : Prop :=
  t.launch i = l ∧ ∀ j, j ≠ i → t.launch j = s.launch j

/-- A child with its answer noted. -/
def answeredChild (c : Child) (count refused missing first : Nat) : Child :=
  let f := if 0 < missing ∨ (0 < refused ∧ first ≠ 0) then first else 0xFFFFFF
  { c with acked := true, count := count, refused := refused, missing := missing, firstMissing := f }

/-- A launch entry with the answer of a child noted. -/
def childNoted (l : Launch) (src : BitVec 24) (count refused missing first : Nat) : Launch :=
  { l with kids := l.kids.map (fun c => if c.dev = src ∧ !c.gone then answeredChild c count refused missing first else c) }

/-- A launch entry that the root has decided (R328). -/
def launchDecided (l : Launch) (commit : Bool) : Launch := { l with state := if commit then 2 else 4, decided := some commit }

/-- The root of launch l can commit: every device is ready, none refuses, and the deadline has not passed. -/
def canCommit (s : State) (l : Launch) : Prop :=
  l.state = 1 ∧ l.head = true ∧ l.root = true ∧ (s.tally l).refused = 0 ∧ (s.tally l).missing = 0 ∧ (s.tally l).count = l.ndev
    ∧ s.lanyard.toNat < l.d

/-- The journal has gained an entry on the launch of a glove (R328, R329). -/
def launchJournalled (s t : State) (slot : Nat) : Prop := ∃ e ∈ t.sec.journal.drop s.sec.journal.length, e.ty = 0x0008 ∧ e.slot = slot

/-- The descriptor of a launch that may start (R323). -/
def lchStarts (s : State) (a : Nat) (ws : List W64) (n i : Nat) : Prop :=
  a + 64 ≤ localSize ∧ ws = s.words a 8 ∧ n = lhSlot ws ∧ lhOk ws = true ∧ lhKind ws = 0 ∧ s.gstate n = gACTIVE
    ∧ s.ownsKnot n (lhKnot ws) = true ∧ s.ownsKnot n (lhReady ws) = true ∧ lhCount ws ≠ 0
    ∧ s.hitchOk (lhHitch ws) (s.gid n) (s.gepoch n) = true ∧ s.lanyard.toNat + 100000 ≤ lhD ws ∧ lhD ws + 100000 ≤ lhT ws
    ∧ s.jnlLow = false ∧ s.freeLaunch = some i

end Sys2Proof.Claims

/-- R315, R317 to R321, R335: a master's SYNC goes out by each of its ports; a SYNC from the master opens an exchange; a REQ is
answered; a RESP completes an exchange, which locks, slews or steps the lanyard, or shows a jump; holdover, PTP, PPS and a silent
source. -/
def Obligations.TimeAlignment : Prop :=
  (∀ s, s.role = 1 ∨ s.role = 2 → s.time.lastSync + 10000 ≤ s.lanyard.toNat →
    Goes .timeSyncTick s (fun t => t.time = { s.time with lastSync := s.lanyard.toNat, syncSeq := (s.time.syncSeq + 1) % 65536 }
      ∧ (∀ p, p < 32 → s.alignPort p = true → s.up p = true →
          queued s t p 0 (fun q => q.ty = tTIME ∧ q.dest = BitVec.ofNat 24 (s.fget (PORT_STAT p) PORT_STAT_PARTNER)))
      ∧ (∀ p, p < 32 → s.alignPort p = false ∨ s.up p = false → t.outq p 0 = s.outq p 0) ∧ netKept s t))
  ∧ (∀ s, (s.role ≠ 1 ∧ s.role ≠ 2) ∨ s.lanyard.toNat < s.time.lastSync + 10000 →
    Goes .timeSyncTick s (fun t => t.time = s.time ∧ t.rt = s.rt ∧ (∀ o, t.reg o = s.reg o) ∧ netKept s t))
  ∧ (∀ x s p u n, timeComes s x 0 p u n → u.fromMaster x p = true →
    Goes (.timeSyncReceive x) s (fun t => t.tstate = (if u.tstate = 0 then 1 else u.tstate)
      ∧ t.reg TIME_UTC0 = (if (p.word 0).getLsbD 2 then p.word 3 else u.reg TIME_UTC0) ∧ t.time.masterGm = (p.word 0).getLsbD 2
      ∧ t.time.xchg = u.time.xchg.filter (fun (y : Exchange) => y.port != x.port.val) ++ [syncExchange x p]
      ∧ queued u t x.port 0 (fun q => q.ty = tTIME ∧ q.dest = p.src ∧ tmKind q = 1 ∧ tmSeq q = tmSeq p) ∧ netKept u t))
  ∧ (∀ x s p u n, timeComes s x 0 p u n → u.fromMaster x p = false →
    Goes (.timeSyncReceive x) s (fun t => t.time = u.time ∧ t.rt = u.rt ∧ t.tstate = u.tstate ∧ netKept u t))
  ∧ (∀ x s p u n, timeComes s x 1 p u n → u.role = 1 ∨ u.role = 2 → x.port.val < 32 →
    Goes (.timeReqReceive x) s (fun t => t.time = u.time
      ∧ queued u t x.port 0 (fun q => q.ty = tTIME ∧ q.dest = p.src ∧ tmKind q = 2 ∧ q.word 1 = BitVec.ofNat 64 p.since ∧ q.word 2 = p.word 2)
      ∧ netKept u t))
  ∧ (∀ x s p u n e off, timeComes s x 2 p u n → respCompletes u x p e off → u.time.firstLock = true →
    u.tstate ≠ 2 ∨ (off ≤ 32000 ∧ -32000 ≤ off) →
    Goes (.timeRespReceive x) s (fun t => t.tstate = 2 ∧ t.lanyard = u.lanyard ∧ t.time.offsets = offsetsWith u off
      ∧ t.time.slew = -(avgOffset (offsetsWith u off)) ∧ t.time.lastDone = u.lanyard.toNat ∧ e ∉ t.time.xchg ∧ netKept u t))
  ∧ (∀ x s p u n e off, timeComes s x 2 p u n → respCompletes u x p e off → u.time.firstLock = false → u.anyActive = false → u.tstate ≠ 2 →
    Goes (.timeRespReceive x) s (fun t => t.tstate = 2 ∧ t.fget TIME_STAT TIME_STAT_STEPPED = 1
      ∧ t.lanyard = u.lanyard - BitVec.ofInt 64 (avgOffset (offsetsWith u off)) ∧ t.time.slew = 0 ∧ netKept u t))
  ∧ (∀ x s p u n e off, timeComes s x 2 p u n → respCompletes u x p e off → u.tstate = 2 → 32000 < off ∨ off < -32000 →
    u.fget TIME_CFG TIME_CFG_STEP_OK = 0 ∨ u.anyActive = true →
    Goes (.timeRespReceive x) s (fun t => t.tstate = 3 ∧ t.lanyard = u.lanyard ∧ t.time.slew = u.time.slew ∧ netKept u t))
  ∧ (∀ s, s.tstate = 2 → s.role ≠ 2 → s.time.lastDone + 1000000 ≤ s.lanyard.toNat →
    Goes .timeHoldover s (fun t => t.tstate = 3 ∧ raised s t 0x1103 0 0x3F (s.fget TIME_STAT TIME_STAT_OFFSET) 0 ∧ t.time = s.time ∧ netKept s t))
  ∧ (∀ s, Goes (.ptpMessageReceive .other) s (fun t => t.time = s.time ∧ t.reg TIME_UTC0 = s.reg TIME_UTC0 ∧ netKept s t))
  ∧ (∀ tai (off : BitVec 16) l61 l59 s, s.role = 2 → s.fget TIME_CFG TIME_CFG_UTC_SRC = 1 ∨ s.fget TIME_CFG TIME_CFG_UTC_SRC = 2 → s.utcState = 0 →
    Goes (.ptpMessageReceive (.sync tai off l61 l59)) s (fun t => t.reg TIME_UTC0 = tai - s.lanyard ∧ t.utcState = 2
      ∧ t.fget TIME_UTC1 TIME_UTC1_UTC_OFFSET = off.toNat ∧ t.fget TIME_UTC1 TIME_UTC1_VALID = 1 ∧ t.lanyard = s.lanyard ∧ netKept s t))
  ∧ (∀ tai off l61 l59 s d, s.role = 2 → s.fget TIME_CFG TIME_CFG_UTC_SRC = 1 ∨ s.fget TIME_CFG TIME_CFG_UTC_SRC = 2 → s.utcState ≠ 0 →
    d = (tai - s.lanyard - s.reg TIME_UTC0).toInt → -1000000 ≤ d → d ≤ 1000000 →
    Goes (.ptpMessageReceive (.sync tai off l61 l59)) s (fun t => t.reg TIME_UTC0 = s.reg TIME_UTC0 ∧ t.utcState = 2 ∧ t.time.slew = d
      ∧ t.lanyard = s.lanyard ∧ netKept s t))
  ∧ (∀ s, s.role = 2 → s.fget TIME_CFG TIME_CFG_UTC_SRC = 3 →
    Goes .ppsInEdge s (fun t => t.utcState = 2 ∧ t.time.lastUtc = s.lanyard.toNat ∧ t.lanyard = s.lanyard
      ∧ t.time.slew = (if s.utc.toNat % 1000000000 < 500000000 then -((s.utc.toNat % 1000000000 : Nat) : Int)
          else 1000000000 - ((s.utc.toNat % 1000000000 : Nat) : Int)) ∧ netKept s t))
  ∧ (∀ s, s.role ≠ 2 ∨ s.fget TIME_CFG TIME_CFG_UTC_SRC ≠ 3 →
    Goes .ppsInEdge s (fun t => t.time = s.time ∧ (∀ o, t.reg o = s.reg o) ∧ netKept s t))
  ∧ (∀ s, s.fget TIME_CFG TIME_CFG_PPS_OUT = 1 → s.utc.toNat / 1000000000 ≠ s.time.ppsSecond →
    Goes .ppsOutEdge s (fun t => t.pwr = { s.pwr with ppsOut := true } ∧ t.time.ppsSecond = s.utc.toNat / 1000000000 ∧ memRegsKept s t))
  ∧ (∀ s, s.role = 2 → s.fget TIME_CFG TIME_CFG_UTC_SRC ≠ 0 → s.utcState = 1 ∨ s.utcState = 2 → s.time.lastUtc + 4000000000 ≤ s.lanyard.toNat →
    Goes .utcSourceSilent s (fun t => t.utcState = 3 ∧ t.time = s.time ∧ regsBut s t [TIME_STAT] ∧ netKept s t))

/-- R323 to R329: TIME_LCH_GO starts a launch or is answered with its status; PREPARE, HOLD, ACK, COMMIT, CANCEL and QUERY change
the entry they name; a ready device answers, a root decides, a child that does not answer is tried again and then counts as missing;
at T a COMMITTED entry increments its knot and a PREPARED one is orphaned. -/
def Obligations.Launches : Prop :=
  (∀ addr s ws n i, lchStarts s (addr.toNat / 64 * 64) ws n i →
    Goes (.timeLchGo addr) s (fun t => t.fget TIME_LCH_GO TIME_LCH_GO_STATUS = ST_OK
      ∧ entryBecomes s t i { launchOf ws n with root := true, head := true, hitch := lhHitch ws, parent := s.self, kids := s.kidsOf (lhHitch ws) }
      ∧ netKept s t))
  ∧ (∀ addr s, localSize < addr.toNat / 64 * 64 + 64 →
    Goes (.timeLchGo addr) s (fun t => t.fget TIME_LCH_GO TIME_LCH_GO_STATUS = ST_RANGE ∧ t.time = s.time ∧ regsBut s t [TIME_LCH_GO] ∧ netKept s t))
  ∧ (∀ addr s, addr.toNat / 64 * 64 + 64 ≤ localSize → lhOk (s.words (addr.toNat / 64 * 64) 8) = false →
    Goes (.timeLchGo addr) s (fun t => t.fget TIME_LCH_GO TIME_LCH_GO_STATUS = ST_FMT ∧ t.time = s.time ∧ regsBut s t [TIME_LCH_GO] ∧ netKept s t))
  ∧ (∀ x s p u n i, launchComes s x 0 p u n → u.findLaunch n (lhLid p.words8) = none → p.src ≠ u.self → u.freeLaunch = some i →
    u.ownsKnot n (lhKnot p.words8) = true → u.ownsKnot n (lhReady p.words8) = true → u.lanyard.toNat + 10000 ≤ lhD p.words8 → p.stage0 = none →
    Goes (.launchPrepareReceive x) s (fun t => entryBecomes u t i { launchOf p.words8 n with parent := p.src } ∧ netKept u t))
  ∧ (∀ x s p u n, launchComes s x 0 p u n → u.findLaunch n (lhLid p.words8) = none → p.src ≠ u.self → u.freeLaunch = none →
    Goes (.launchPrepareReceive x) s (fun t => sends u t (u.launchPkt (launchOf p.words8 n) p.src 2 0 1 0 0) ∧ t.time = u.time ∧ netKept u t))
  ∧ (∀ x s p u n i, launchComes s x 1 p u n → launchNamed u p n i →
    (u.launch i).kids.any (fun c => c.branch && c.dev == p.src && !c.gone) = true →
    Goes (.launchHoldReceive x) s (fun t => entryBecomes u t i { u.launch i with kids := (u.launch i).kids.map (fun c => if c.branch ∧ c.dev = p.src ∧ !c.gone then { c with held := true } else c) } ∧ netKept u t))
  ∧ (∀ (i : Fin 16) s l, s.launch i.val = l → l.state = 1 → l.ready = false → (s.knot l.readyKnot).reached = true → l.head = false →
    Goes (.launchReady i) s (fun t => entryBecomes s t i { l with ready := true, acked := true } ∧ netKept s t))
  ∧ (∀ (i : Fin 16) s l, s.launch i.val = l → l.ready = false → (s.knot l.readyKnot).reached = true → canCommit s { l with ready := true } →
    Goes (.launchReady i) s (fun t => entryBecomes s t i (launchDecided { l with ready := true } true) ∧ launchJournalled s t l.glove ∧ netKept s t))
  ∧ (∀ x s p u n i l, launchComes s x 2 p u n → launchNamed u p n i → (u.launch i).kids.any (fun c => c.dev == p.src && !c.gone) = true →
    l = childNoted (u.launch i) p.src (lhCount p.words8) (lhRefused p.words8) (lhMissing p.words8) (lhFirst p.words8) → canCommit u l →
    Goes (.launchAckReceive x) s (fun t => entryBecomes u t i (launchDecided l true) ∧ launchJournalled u t l.glove ∧ netKept u t))
  ∧ (∀ x s p u n i l, launchComes s x 2 p u n → launchNamed u p n i → (u.launch i).kids.any (fun c => c.dev == p.src && !c.gone) = true →
    l = childNoted (u.launch i) p.src (lhCount p.words8) (lhRefused p.words8) (lhMissing p.words8) (lhFirst p.words8) → l.state = 1 →
    l.head = true → l.root = true → 0 < (u.tally l).refused ∨ 0 < (u.tally l).missing →
    Goes (.launchAckReceive x) s (fun t => entryBecomes u t i (launchDecided l false) ∧ launchJournalled u t l.glove ∧ netKept u t))
  ∧ (∀ x s p u n i, launchComes s x 3 p u n → launchNamed u p n i → (u.launch i).state = 1 → u.lanyard.toNat < (u.launch i).t →
    Goes (.launchCommitReceive x) s (fun t => entryBecomes u t i { u.launch i with state := 2 } ∧ netKept u t))
  ∧ (∀ x s p u n i, launchComes s x 3 p u n → launchNamed u p n i → (u.launch i).t ≤ u.lanyard.toNat →
    Goes (.launchCommitReceive x) s (fun t => t.time = u.time ∧ t.rt = u.rt ∧ netKept u t))
  ∧ (∀ x s p u n i, launchComes s x 4 p u n → launchNamed u p n i → u.lanyard.toNat < lhT p.words8 →
    Goes (.launchCancelReceive x) s (fun t => entryBecomes u t i { u.launch i with state := 4 } ∧ launchJournalled u t n ∧ netKept u t))
  ∧ (∀ x s p u n, launchComes s x 4 p u n → lhT p.words8 ≤ u.lanyard.toNat →
    Goes (.launchCancelReceive x) s (fun t => t.time = u.time ∧ t.rt = u.rt ∧ netKept u t))
  ∧ (∀ x s p u n i l c, launchComes s x 5 p u n → (List.range 16).find? (fun i =>
      (u.launch i).root && (u.launch i).glove == n && (u.launch i).lid == lhLid p.words8 && (u.launch i).decided.isSome) = some i →
    u.launch i = l → l.decided = some c →
    Goes (.launchQueryReceive x) s (fun t => sends u t (u.launchPkt l p.src (if c then 3 else 4) l.ndev 0 0 0) ∧ t.time = u.time ∧ netKept u t))
  ∧ (∀ (i : Fin 16) j s l c, s.launch i.val = l → l.kids[j]? = some c → l.state = 1 → l.head = true → c.acked = false → c.gone = false →
    c.held = false → c.since + l.reach * 1000 ≤ s.lanyard.toNat → c.resent = false → c.branch = false →
    Goes (.launchReachTimeout i j) s (fun t =>
      entryBecomes s t i { l with kids := l.kids.set j { c with resent := true, since := s.lanyard.toNat } } ∧ netKept s t))
  ∧ (∀ (i : Fin 16) j s l c, s.launch i.val = l → l.kids[j]? = some c → l.state = 1 → l.head = true → l.root = true → c.acked = false →
    c.gone = false → c.held = false → c.since + l.reach * 1000 ≤ s.lanyard.toNat → c.resent = true →
    0 < (s.tally { l with kids := l.kids.set j { c with gone := true } }).missing →
    Goes (.launchReachTimeout i j) s (fun t =>
      entryBecomes s t i (launchDecided { l with kids := l.kids.set j { c with gone := true } } false) ∧ netKept s t))
  ∧ (∀ (i : Fin 16) s l, s.launch i.val = l → l.state = 1 → l.root = true → l.d ≤ s.lanyard.toNat →
    Goes (.launchDeadline i) s (fun t => entryBecomes s t i (launchDecided l false) ∧ launchJournalled s t l.glove ∧ netKept s t))
  ∧ (∀ (i : Fin 16) s l, s.launch i.val = l → l.state = 1 → l.queried = false → l.d + (l.t - l.d) / 2 ≤ s.lanyard.toNat →
    Goes (.launchQueryTimer i) s (fun t => entryBecomes s t i { l with queried := true } ∧ sends s t (s.launchPkt l l.rootDev 5 0 0 0 0)
      ∧ netKept s t))
  ∧ (∀ (i : Fin 16) s l, s.launch i.val = l → l.t ≤ s.lanyard.toNat → l.state = 2 → s.knotOwner l.knot = some l.glove → calm s l.knot 1 →
    Goes (.launchRelease i) s (fun t => entryBecomes s t i { l with state := 3 } ∧ (t.knot l.knot).count = (s.knot l.knot).count + 1
      ∧ (∀ j, j ≠ l.knot → t.knot j = s.knot j) ∧ t.mem = s.mem ∧ t.tiles = s.tiles))
  ∧ (∀ (i : Fin 16) s l, s.launch i.val = l → l.t ≤ s.lanyard.toNat → l.state = 1 →
    Goes (.launchRelease i) s (fun t => entryBecomes s t i { l with state := 5 } ∧ raised s t 0x1102 i l.glove l.lid.toNat l.t ∧ netKept s t))
  ∧ (∀ (i : Fin 16) s, s.lanyard.toNat < (s.launch i.val).t →
    Goes (.launchRelease i) s (fun t => t.time = s.time ∧ (∀ o, t.reg o = s.reg o) ∧ netKept s t))

namespace Sys2Proof.Claims

open Machine Reg

/-- Nothing but control registers, counters, logs and the service complex has changed. -/
def svcOnly (s t : State) : Prop := netKept s t ∧ t.rt = s.rt ∧ t.ports = s.ports ∧ t.hub = s.hub ∧ t.time = s.time

/-- A service core is fenced (R338): its bits are set, the management role lies with an unfenced core, and the event is raised. -/
def corefenced (s t : State) (c why : Nat) : Prop :=
  t.fget (SVC_CORE_CTL c) SVC_CORE_CTL_FENCED = 1 ∧ t.fget SVC_ROLE ⟨4 + c, 4 + c⟩ = 1
    ∧ (∀ m, t.roleHolder = some m → t.fget SVC_ROLE SVC_ROLE_MGMT_CORE = m % 16) ∧ raised s t 0x1301 c 0x3F why 0

/-- A register in a window without a rule of its own for writes, which no command carries and which does not arbitrate. -/
def plainRegister (o src : Nat) : Prop :=
  0x120 ≤ o / 0x100000 ∧ o / 0x100000 ∉ [0x200, 0x201, 0x204, 0x205, 0x206, 0x207, 0x208, 0x20F, 0x210] ∧ o ≠ RST_BLOCK
    ∧ arbitrated o = false ∧ (o / 0x100000 = 0x20C → o = SEC_MBOX_ARG ∨ o = SEC_MBOX_CMD ∨ src = 3 ∨ src = 4)

/-- Nothing waits on the transmit rings of MAC m. -/
def ringsEmpty (s : State) (m : Nat) : Prop := ∀ r, r < 16 → s.ringWaiting m r = 0

/-- A transmit ring has a frame to take, and its DONE_KNOT can count it. -/
def txReady (s : State) (m r : Nat) : Prop :=
  s.ringWaiting m r ≠ 0 ∧ s.ethUp m = true
    ∧ (let k := s.fget (SVC_ETH_RING1 m 0 r) SVC_ETH_RING1_DONE_KNOT
       (s.knotOwner k ≠ none ∨ s.svcKnot k = true) ∧ calm s k 1)

/-- The frame's priority is not paused. -/
def notPaused (s : State) (m r : Nat) : Prop :=
  s.txStatus m r ≠ 0 ∨ m ≠ 0
    ∨ Tab.look (fun _ => 0) (s.mac 0).pausedUntil (ethPrio (s.bytes (s.rd (s.ringDesc m 0 r) 8)
        (bits (BitVec.ofNat 64 (s.rd (s.ringDesc m 0 r + 8) 8)) 13 0))) ≤ s.lanyard.toNat

/-- A frame for a receiver that takes it: good, of an allowed length, and no MAC control frame. -/
def dataFrame (s : State) (m : Nat) (f : EthFrame) : Prop :=
  s.ethUp m = true ∧ f.good = true ∧ 64 ≤ f.bytes.length + 4 ∧ f.bytes.length + 4 ≤ 9216 ∧ macControl f.bytes ≠ some 0x0101
    ∧ macControl f.bytes ≠ some 0x0001

/-- The receive ring and its service pool take a frame into buffer i, which leaves the free list: the state is then w. -/
def rxTakes (s : State) (m r : Nat) (bs : List Byte) (p i : Nat) (w : State) : Prop :=
  p = s.fget (SVC_ETH_RING1 m 1 r) SVC_ETH_RING1_POOL ∧ s.fget (SVC_ETH_RING1 m 1 r) SVC_ETH_RING1_ENABLE = 1
    ∧ bits (BitVec.ofNat 64 (s.rd (s.ringDesc m 1 r + 8) 8)) 15 15 = 0 ∧ s.poolState p = 2 ∧ bs.length ≤ s.poolSize p
    ∧ s.poolHead p ≠ poolEnd ∧ s.poolMapped p (s.poolHead p) = true ∧ s.poolSvc p = true ∧ s.poolTake p = .buf i w

end Sys2Proof.Claims

/-- R6, R8, R338, R339, R357 to R361, R391: a core refreshes its own watchdog and the device's; a core that does not, or that has
a cache error, is fenced; a register write takes the fields that software may write; a write to the SEC_ window is a
violation; an arbitrated write joins its round, of which the higher rank wins; a released field takes its reset value; a
counter clear clears the counters of one window. -/
def Obligations.ServiceControl : Prop :=
  (∀ (c : Fin 16) s, s.coreFenced c = false →
    Goes (.svcCoreRefresh c c) s (fun t => Tab.look (fun _ => 0) t.svc.refreshed c = s.lanyard.toNat
      ∧ (∀ d, d ≠ c.val → Tab.look (fun _ => 0) t.svc.refreshed d = Tab.look (fun _ => 0) s.svc.refreshed d) ∧ (∀ o, t.reg o = s.reg o) ∧ svcOnly s t))
  ∧ (∀ (c d : Fin 16) s, c ≠ d ∨ s.coreFenced c = true →
    Goes (.svcCoreRefresh c d) s (fun t => t.svc = s.svc ∧ (∀ o, t.reg o = s.reg o) ∧ svcOnly s t))
  ∧ (∀ (c : Fin 16) s, Goes (.svcWdogRefresh c) s (fun t => t.svc.wdog = (if s.coreFenced c then s.svc.wdog else s.lanyard.toNat)
      ∧ (∀ o, t.reg o = s.reg o) ∧ svcOnly s t))
  ∧ (∀ (c : Fin 16) s, s.coreFenced c = false → Tab.look (fun _ => 0) s.svc.refreshed c + s.wdogPeriod c ≤ s.lanyard.toNat →
    Goes (.svcCoreWatchdog c) s (fun t => corefenced s t c 0 ∧ svcOnly s t))
  ∧ (∀ (c : Fin 16) s, s.lanyard.toNat < Tab.look (fun _ => 0) s.svc.refreshed c + s.wdogPeriod c →
    Goes (.svcCoreWatchdog c) s (fun t => t.svc = s.svc ∧ (∀ o, t.reg o = s.reg o) ∧ svcOnly s t))
  ∧ (∀ (c : Fin 16) s, s.coreFenced c = false → Goes (.svcCoreCacheUe c) s (fun t => corefenced s t c 1 ∧ svcOnly s t))
  ∧ (∀ off (src : Fin 22) v s r, plainRegister off.toNat src → regAt off.toNat = some r →
    Goes (.registerWrite off src v) s (fun t => t.reg off.toNat = r.fields.foldl (fieldWrite v) (s.reg off.toNat)
      ∧ regsBut s t [off.toNat] ∧ t.svc = s.svc ∧ svcOnly s t))
  ∧ (∀ off (src : Fin 22) v s, off.toNat / 0x100000 = 0x20C → off.toNat ≠ SEC_MBOX_ARG → off.toNat ≠ SEC_MBOX_CMD → src ≠ 3 → src ≠ 4 →
    s.fget SEC_CNT0 SEC_CNT0_VIOLATIONS < 2 ^ 15 - 1 → off.toNat ≠ SEC_CNT0 → off.toNat ≠ SEC_JNL_HEAD →
    Goes (.registerWrite off src v) s (fun t => raised s t 0x1006 0 0x3F (off.toNat % 0x100000) src ∧ t.reg off.toNat = s.reg off.toNat
      ∧ t.fget SEC_CNT0 SEC_CNT0_VIOLATIONS = s.fget SEC_CNT0 SEC_CNT0_VIOLATIONS + 1 ∧ svcOnly s t))
  ∧ (∀ off src v s, arbitrated off.toNat = true → off.toNat ≠ PWR_STATE → isPortCfg off.toNat = false →
    Goes (.arbitratedControlWrite off src v) s (fun t => t.svc.round = s.svc.round ++ [⟨off.toNat, src, v⟩] ∧ t.svc.slots = s.svc.slots
      ∧ (∀ o, t.reg o = s.reg o) ∧ svcOnly s t))
  ∧ (∀ off src v s, arbitrated off.toNat = false →
    Goes (.arbitratedControlWrite off src v) s (fun t => t.svc = s.svc ∧ (∀ o, t.reg o = s.reg o) ∧ svcOnly s t))
  ∧ (∀ a b v w s, s.svc.round = [⟨FAB_CM, a, v⟩, ⟨FAB_CM, b, w⟩] → s.svc.slots = [] → rankOf a < rankOf b → a < 22 → b < 22 →
    bits v 15 0 ≠ bits w 15 0 →
    Goes .arbRoundEnd s (fun t => t.svc.round = [] ∧ t.fget FAB_CM FAB_CM_THRESH = bits v 15 0 ∧ t.fget FAB_CM FAB_CM_CNP_GAP = bits v 31 16
      ∧ t.fget (SVC_ARB_LAST a) SVC_ARB_LAST_SUPERSEDED = 0 ∧ t.fget (SVC_ARB_LAST b) SVC_ARB_LAST_SUPERSEDED = 1
      ∧ t.fget (SVC_ARB_LAST b) SVC_ARB_LAST_WINNER = a ∧ t.fget (SVC_ARB_LAST b) SVC_ARB_LAST_OFFSET = FAB_CM
      ∧ raised s t 0x2201 0 0x3F FAB_CM (b + a * 256) ∧ svcOnly s t))
  ∧ (∀ (src : Fin 22) v s x, bits v 31 0 = FAB_CM → s.svc.slots = [x] → x.off = FAB_CM → x.lo = 0 → x.src = src.val →
    x.val ≠ bits (regReset FAB_CM) 15 0 →
    Goes (.svcArbRel src v) s (fun t => t.svc.slots = [] ∧ t.fget FAB_CM FAB_CM_THRESH = bits (regReset FAB_CM) 15 0
      ∧ regsBut s t [FAB_CM] ∧ svcOnly s t))
  ∧ (∀ (window : Fin 4096) s, ctlWf s.ctl = true →
    Goes (.ctrClear window) s (fun t =>
      (∀ o, t.reg o = if o / 0x100000 = window.val ∧ clearKeeps o = false ∧ s.reg o ≠ regReset o then clearedCtrs o (s.reg o) else s.reg o)
      ∧ (∀ k, k / 64 / 0x100000 = window.val → clearKeeps (k / 64) = false → Tab.look (fun _ => false) t.svc.satRaised k = false)
      ∧ svcOnly s t))

/-- R343 to R348, R422: a ring is enabled when its fields and knots allow it; a frame is taken from a transmit ring, completed and
counted; a received frame lands in a buffer, or is counted as bad or as having none; the link goes down and up, is held down, and
is retried; a pause storm of one priority is ignored. -/
def Obligations.Ethernet : Prop :=
  (∀ (m d : Fin 2) (r : Fin 16) v s, s.fget (SVC_ETH_RING1 m d r) SVC_ETH_RING1_ENABLE = 1 →
    Goes (.ethRingEnable m d r v) s (fun t => t.fget (SVC_ETH_RING1 m d r) SVC_ETH_RING1_ENABLE = bits v 63 63
      ∧ t.fget (SVC_ETH_RING1 m d r) SVC_ETH_RING1_KNOT = s.fget (SVC_ETH_RING1 m d r) SVC_ETH_RING1_KNOT
      ∧ regsBut s t [SVC_ETH_RING1 m d r] ∧ svcOnly s t))
  ∧ (∀ (m : Fin 2) (r : Fin 16) v s, s.fget (SVC_ETH_RING1 m 0 r) SVC_ETH_RING1_ENABLE = 0 → bits v 63 63 = 1 → 6 ≤ bits v 62 59 →
    bits v 62 59 ≤ 14 → s.fget (SVC_ETH_RING0 m 0 r) SVC_ETH_RING0_BASE + 32 * 2 ^ bits v 62 59 ≤ localSize →
    s.svcKnot (bits v 36 23) = true → s.svcKnot (bits v 50 37) = true →
    Goes (.ethRingEnable m 0 r v) s (fun t => t.fget (SVC_ETH_RING1 m 0 r) SVC_ETH_RING1_ENABLE = 1
      ∧ t.fget (SVC_ETH_RING1 m 0 r) SVC_ETH_RING1_LOG2 = bits v 62 59 ∧ t.fget (SVC_ETH_RING1 m 0 r) SVC_ETH_RING1_KNOT = bits v 36 23
      ∧ t.fget (SVC_ETH_RING1 m 0 r) SVC_ETH_RING1_DONE_KNOT = bits v 50 37
      ∧ t.fget (SVC_ETH_RING1 m 0 r) SVC_ETH_RING1_TAKEN = s.fget (SVC_ETH_RING1 m 0 r) SVC_ETH_RING1_TAKEN
      ∧ regsBut s t [SVC_ETH_RING1 m 0 r] ∧ svcOnly s t))
  ∧ (∀ (m d : Fin 2) (r : Fin 16) v s, s.fget (SVC_ETH_RING1 m d r) SVC_ETH_RING1_ENABLE = 0 → bits v 62 59 < 6 ∨ 14 < bits v 62 59 →
    Goes (.ethRingEnable m d r v) s (fun t => t.fget (SVC_ETH_RING1 m d r) SVC_ETH_RING1_ENABLE = 0
      ∧ regsBut s t [SVC_ETH_RING1 m d r] ∧ svcOnly s t))
  ∧ (∀ (m : Fin 2) (r : Fin 16) s, txReady s m r → notPaused s m r →
    Goes (.ethTxFrame m r) s (fun t =>
      t.rd (s.ringDesc m 0 r + 8) 8 = (withBits (BitVec.ofNat 64 (s.rd (s.ringDesc m 0 r + 8) 8)) 19 16 (s.txStatus m r)).toNat
      ∧ (∀ a, a < s.ringDesc m 0 r + 8 ∨ s.ringDesc m 0 r + 24 ≤ a → t.byte a = s.byte a)
      ∧ t.fget (SVC_ETH_RING1 m 0 r) SVC_ETH_RING1_TAKEN = (s.fget (SVC_ETH_RING1 m 0 r) SVC_ETH_RING1_TAKEN + 1) % 2 ^ 23
      ∧ (∀ i, (t.knot i).count = (s.knot i).count + (if i = s.fget (SVC_ETH_RING1 m 0 r) SVC_ETH_RING1_DONE_KNOT then 1 else 0))
      ∧ t.tiles = s.tiles))
  ∧ (∀ (m : Fin 2) (r : Fin 16) s, s.ringWaiting m r = 0 ∨ s.ethUp m = false →
    Goes (.ethTxFrame m r) s (fun t => (∀ o, t.reg o = s.reg o) ∧ t.svc = s.svc ∧ svcOnly s t))
  ∧ (∀ (m : Fin 2) f s r rule p i w d, dataFrame s m f → s.classify m f.bytes = (r, rule) → rxTakes s m r f.bytes p i w →
    d = s.ringDesc m 1 r → s.svcKnot (s.fget (SVC_ETH_RING1 m 1 r) SVC_ETH_RING1_KNOT) = true →
    calm s (s.fget (SVC_ETH_RING1 m 1 r) SVC_ETH_RING1_KNOT) 1 → (∀ n, n < 64 → s.ownsKnot n (s.fget (SVC_ETH_RING1 m 1 r) SVC_ETH_RING1_KNOT) = false) →
    Goes (.ethRxFrame m f) s (fun t =>
      t.mem = (((((w.setBytes (s.bufAddr p i) f.bytes).wr d 8 (s.bufAddr p i)).wr (d + 8) 8 (f.bytes.length + 2 ^ 15 + rule * 2 ^ 20)).wr
          (d + 16) 8 s.lanyard.toNat).wr (d + 24) 8 0).mem
      ∧ (t.knot (s.fget (SVC_ETH_RING1 m 1 r) SVC_ETH_RING1_KNOT)).count = (s.knot (s.fget (SVC_ETH_RING1 m 1 r) SVC_ETH_RING1_KNOT)).count + 1
      ∧ t.tiles = s.tiles))
  ∧ (∀ (m : Fin 2) f s r rule, dataFrame s m f → s.classify m f.bytes = (r, rule) → s.fget (SVC_ETH_RING1 m 1 r) SVC_ETH_RING1_ENABLE = 0 →
    s.fget (SVC_ETH_CNT1 m) SVC_ETH_CNT1_RX_NOBUF < 2 ^ 48 - 1 →
    Goes (.ethRxFrame m f) s (fun t => t.fget (SVC_ETH_CNT1 m) SVC_ETH_CNT1_RX_NOBUF = s.fget (SVC_ETH_CNT1 m) SVC_ETH_CNT1_RX_NOBUF + 1
      ∧ regsBut s t [SVC_ETH_CNT1 m] ∧ svcOnly s t))
  ∧ (∀ (m : Fin 2) f s, s.ethUp m = true → f.good = false ∨ f.bytes.length + 4 < 64 ∨ 9216 < f.bytes.length + 4 →
    s.fget (SVC_ETH_CNT0 m) SVC_ETH_CNT0_RX_BAD < 2 ^ 48 - 1 →
    Goes (.ethRxFrame m f) s (fun t => t.fget (SVC_ETH_CNT0 m) SVC_ETH_CNT0_RX_BAD = s.fget (SVC_ETH_CNT0 m) SVC_ETH_CNT0_RX_BAD + 1
      ∧ regsBut s t [SVC_ETH_CNT0 m] ∧ svcOnly s t))
  ∧ (∀ (m : Fin 2) s, s.ethUp m = true → ringsEmpty s m →
    Goes (.ethLinkDown m) s (fun t => t.ethUp m = false ∧ (t.mac m).linkSince = s.lanyard.toNat ∧ regsBut s t [SVC_ETH_STAT m] ∧ svcOnly s t))
  ∧ (∀ (m : Fin 2) s, s.ethUp m = false → Goes (.ethLinkDown m) s (fun t => (∀ o, t.reg o = s.reg o) ∧ t.svc = s.svc ∧ svcOnly s t))
  ∧ (∀ (m : Fin 2) s, (s.mac m).holdUntil = none → s.powerState ≠ 5 →
    Goes (.ethLinkUp m) s (fun t => t.ethUp m = true ∧ t.pwr = { s.pwr with etherRef := true } ∧ regsBut s t [SVC_ETH_STAT m] ∧ memKept s t))
  ∧ (∀ (m : Fin 2) s, (s.mac m).holdUntil ≠ none → Goes (.ethLinkUp m) s (fun t => (∀ o, t.reg o = s.reg o) ∧ svcOnly s t))
  ∧ (∀ (prio : Fin 8) s a, Tab.look (fun _ => none) (s.mac 0).pausedSince prio = some a → a + 100000000 < s.lanyard.toNat →
    s.lanyard.toNat < Tab.look (fun _ => 0) (s.mac 0).pausedUntil prio → s.fget (SVC_ETH_CNT2 0) SVC_ETH_CNT2_PFC_STORMS < 2 ^ 15 - 1 →
    Goes (.ethPfcStorm prio) s (fun t => Tab.look (fun _ => none) (t.mac 0).ignoreUntil prio = some (s.lanyard.toNat + 1000000000)
      ∧ Tab.look (fun _ => 0) (t.mac 0).pausedUntil prio = 0 ∧ raised s t 0x2301 0 0x3F prio 0
      ∧ t.fget (SVC_ETH_CNT2 0) SVC_ETH_CNT2_PFC_STORMS = s.fget (SVC_ETH_CNT2 0) SVC_ETH_CNT2_PFC_STORMS + 1 ∧ svcOnly s t))
  ∧ (∀ (prio : Fin 8) s a, Tab.look (fun _ => none) (s.mac 0).ignoreUntil prio = some a → a ≤ s.lanyard.toNat →
    Goes (.ethPfcIgnoreEnd prio) s (fun t => Tab.look (fun _ => none) (t.mac 0).ignoreUntil prio = none ∧ (∀ o, t.reg o = s.reg o) ∧ svcOnly s t))
  ∧ (∀ (m : Fin 2) s n, n = ((s.mac m).downs.filter (fun t => decide (s.lanyard.toNat < t + 1000000000))).length → 10 < n →
    (s.mac m).holdUntil = none → ringsEmpty s m →
    Goes (.ethFlap m) s (fun t => t.ethUp m = false ∧ t.fget (SVC_ETH_STAT m) SVC_ETH_STAT_HOLDDOWN = 1
      ∧ (t.mac m).holdUntil = some (s.lanyard.toNat + 1000000000) ∧ raised s t 0x2302 m 0x3F n 0 ∧ svcOnly s t))
  ∧ (∀ (m : Fin 2) s a, (s.mac m).holdUntil = some a → a ≤ s.lanyard.toNat →
    Goes (.ethHolddownEnd m) s (fun t => (t.mac m).holdUntil = none ∧ t.fget (SVC_ETH_STAT m) SVC_ETH_STAT_HOLDDOWN = 0
      ∧ regsBut s t [SVC_ETH_STAT m] ∧ svcOnly s t))
  ∧ (∀ (m : Fin 2) s, s.ethUp m = false → (s.mac m).holdUntil = none → (s.mac m).linkSince + 5000000000 ≤ s.lanyard.toNat →
    (s.mac m).linkEvent = false →
    Goes (.ethLinkRetry m) s (fun t => (t.mac m).linkEvent = true ∧ (t.mac m).linkSince = s.lanyard.toNat ∧ raised s t 0x2303 m 0x3F 0 0 ∧ svcOnly s t))
  ∧ (∀ s, ringsEmpty s 0 → ringsEmpty s 1 →
    Goes .ethrefClkLost s (fun t => t.ethUp 0 = false ∧ t.ethUp 1 = false ∧ t.pwr = { s.pwr with etherRef := false } ∧ memKept s t))

namespace Sys2Proof.Claims

open Machine Reg

/-- The rails are being sequenced, n of them enabled. -/
def railsAt (s : State) (n : Nat) : Prop := s.sequencing = true ∧ s.railCount = n

/-- The rail sequence fails at a rail (R356): every rail goes off; the first time it is tried again, the second time the T9 stays
in P4. -/
def railFails (s t : State) (rail why : Nat) : Prop :=
  t.svc.vrEn = [] ∧ t.svc.pgood = [] ∧ raised s t 0x0D01 0 0x3F rail why
    ∧ (s.svc.seqRetried = false → t.svc.seqRetried = true ∧ t.fget PWR_STATE PWR_STATE_STATE = s.fget PWR_STATE PWR_STATE_STATE)
    ∧ (s.svc.seqRetried = true → t.fget PWR_STATE PWR_STATE_STATE = 4 ∧ t.fget PWR_STAT PWR_STAT_SEQ_FAIL = rail + 1)

end Sys2Proof.Claims

/-- R350 to R355: a sample sets its sensor's register; at TJ_LIMIT the thermal monitor requests a power limit, again each
millisecond; a telemetry record lands at its place and its knot counts it; the power-cap loop keeps its last 10 ms; a voltage
that reads back at its target raises the clock, and one that does not holds the die at 275 MHz; droop stretches a clock. -/
def Obligations.SensorsAndLoops : Prop :=
  (∀ (i : Fin 256) v s, v.toInt < 1840 → v.toInt < (s.tjLimit : Int) → s.svc.thermal = none →
    Goes (.sensorSample (.temp i v)) s (fun t => t.fget (SNS_TEMP i) SNS_TEMP_TEMP = v.toNat
      ∧ t.fget (SNS_TEMP i) SNS_TEMP_PEAK
        = (if tempOf (s.fget (SNS_TEMP i) SNS_TEMP_PEAK) < v.toInt then v.toNat else s.fget (SNS_TEMP i) SNS_TEMP_PEAK)
      ∧ regsBut s t [SNS_TEMP i] ∧ t.svc = s.svc ∧ svcOnly s t))
  ∧ (∀ (i : Fin 256) v s, v.toInt < 1840 → (s.tjLimit : Int) ≤ v.toInt → s.svc.thermal = none → arbCalm s PWR_LIMIT →
    Goes (.sensorSample (.temp i v)) s (fun t => t.fget (SNS_TEMP i) SNS_TEMP_TEMP = v.toNat ∧ t.svc.hotwarn = true
      ∧ t.svc.thermal = some s.lanyard.toNat
      ∧ t.fget PWR_LIMIT PWR_LIMIT_LIMIT_W = min 1500 (max 300 (s.packagePower / 16 - 50)) ∧ svcOnly s t))
  ∧ (∀ (i : Fin 256) v s, 1840 ≤ v.toInt → s.powerState ≠ 5 →
    Goes (.sensorSample (.temp i v)) s (fun t => t.svc.thermtrip = true ∧ t.fget PWR_STATE PWR_STATE_STATE = 4 ∧ t.tiles = [] ∧ t.mem = []))
  ∧ (∀ (i : Fin 256) v s, Goes (.sensorSample (.tilePower i v)) s (fun t => t.fget (SNS_TILE_PWR i) SNS_TILE_PWR_POWER = v.toNat
      ∧ regsBut s t [SNS_TILE_PWR i] ∧ t.svc = s.svc ∧ svcOnly s t))
  ∧ (∀ (i : Fin 8) v s, v.toInt < 1520 →
    Goes (.sensorSample (.hbmTemp i v)) s (fun t => t.fget (SNS_HBM_TEMP i) SNS_HBM_TEMP_TEMP = v.toNat
      ∧ Tab.look (fun _ => false) t.mm.hot i = false ∧ regsBut s t [SNS_HBM_TEMP i] ∧ t.mem = s.mem ∧ t.kn = s.kn ∧ t.tiles = s.tiles))
  ∧ (∀ (i : Fin 8) v s, 1520 ≤ v.toInt → Tab.look (fun _ => false) s.mm.hot i = false →
    Goes (.sensorSample (.hbmTemp i v)) s (fun t => t.fget (SNS_HBM_TEMP i) SNS_HBM_TEMP_TEMP = v.toNat
      ∧ Tab.look (fun _ => false) t.mm.hot i = true ∧ raised s t 0x0905 i 0x3F v.toNat 0 ∧ t.mem = s.mem ∧ t.kn = s.kn ∧ t.tiles = s.tiles))
  ∧ (∀ (l : Fin 132) h w s, Goes (.sensorSample (.eye l h w)) s (fun t => t.fget (SNS_EYE l) SNS_EYE_VALID = 1
      ∧ t.fget (SNS_EYE l) SNS_EYE_HEIGHT = h.toNat ∧ t.fget (SNS_EYE l) SNS_EYE_WIDTH = w.toNat ∧ regsBut s t [SNS_EYE l] ∧ svcOnly s t))
  ∧ (∀ c mv s, Goes (.sensorSample (.hold c mv)) s (fun t => t.fget SNS_HOLD SNS_HOLD_CODE = c.toNat
      ∧ t.fget SNS_HOLD SNS_HOLD_VHOLD_MV = mv.toNat ∧ regsBut s t [SNS_HOLD] ∧ svcOnly s t))
  ∧ (∀ s a, s.svc.thermal = some a → a + 1000000 ≤ s.lanyard.toNat → arbCalm s PWR_LIMIT →
    Goes .thermalRequestRepeat s (fun t => t.svc.thermal = some s.lanyard.toNat ∧ t.svc.hotwarn = true
      ∧ t.fget PWR_LIMIT PWR_LIMIT_LIMIT_W = min 1500 (max 300 (s.packagePower / 16 - 50)) ∧ svcOnly s t))
  ∧ (∀ s a, s.svc.thermal = some a → s.lanyard.toNat < a + 1000000 →
    Goes .thermalRequestRepeat s (fun t => t.svc = s.svc ∧ (∀ o, t.reg o = s.reg o) ∧ svcOnly s t))
  ∧ (∀ s a k, s.fget SNS_TELEM0 SNS_TELEM0_ENABLE = 1 →
    s.svc.lastTelem + max 10 (s.fget SNS_TELEM1 SNS_TELEM1_PERIOD_US) * 1000 ≤ s.lanyard.toNat →
    a = s.fget SNS_TELEM0 SNS_TELEM0_BASE
      + s.fget SNS_TELEM1 SNS_TELEM1_WRITTEN % 2 ^ max 4 (s.fget SNS_TELEM1 SNS_TELEM1_LOG2) * s.telemRecord.length →
    a + s.telemRecord.length ≤ localSize → k = s.fget SNS_TELEM1 SNS_TELEM1_KNOT → s.svcKnot k = true → calm s k 1 →
    Goes .telemetryRecord s (fun t =>
      (∀ i, t.byte i = if a ≤ i ∧ i < a + s.telemRecord.length then s.telemRecord.getD (i - a) 0 else s.byte i)
      ∧ t.fget SNS_TELEM1 SNS_TELEM1_WRITTEN = (s.fget SNS_TELEM1 SNS_TELEM1_WRITTEN + 1) % 2 ^ 23 ∧ t.svc.lastTelem = s.lanyard.toNat
      ∧ (t.knot k).count = (s.knot k).count + 1 ∧ (∀ i, i ≠ k → t.knot i = s.knot i) ∧ regsBut s t [SNS_TELEM1] ∧ t.tiles = s.tiles))
  ∧ (∀ s, s.fget SNS_TELEM0 SNS_TELEM0_ENABLE = 0 →
    Goes .telemetryRecord s (fun t => t.svc = s.svc ∧ (∀ o, t.reg o = s.reg o) ∧ svcOnly s t))
  ∧ (∀ est s, Goes (.powerCapTick est) s (fun t =>
      t.svc.power = s.svc.power.filter (fun e => decide (s.lanyard.toNat < e.1 + 10000000))
        ++ [(s.lanyard.toNat, if (List.range 8).any s.railStale then s.estimated else est)]
      ∧ (∀ o, t.reg o = s.reg o) ∧ svcOnly s t))
  ∧ (∀ (rail : Fin 6) mv s a, Tab.look (fun _ => none) s.svc.avsAt rail = some a → s.avsNear rail mv = true → rail.val < 4 →
    Goes (.avsReadback rail mv) s (fun t => Tab.look (fun _ => none) t.svc.avsAt rail = none
      ∧ t.aclk rail = Tab.look (fun _ => 0) s.svc.aclkWant rail ∧ (∀ d, d ≠ rail.val → t.aclk d = s.aclk d) ∧ (∀ o, t.reg o = s.reg o) ∧ svcOnly s t))
  ∧ (∀ (rail : Fin 6) mv s a, Tab.look (fun _ => none) s.svc.avsAt rail = some a → s.avsNear rail mv = false →
    Goes (.avsReadback rail mv) s (fun t => t.svc = s.svc ∧ (∀ o, t.reg o = s.reg o) ∧ svcOnly s t))
  ∧ (∀ (rail : Fin 6) mv s a, Tab.look (fun _ => none) s.svc.avsAt rail = some a → a + 1000000 ≤ s.lanyard.toNat →
    s.avsNear rail mv = false → rail.val < 4 →
    Goes (.avsReadbackTimeout rail mv) s (fun t => t.avsHeld rail = true ∧ t.aclk rail = 275 ∧ Tab.look (fun _ => none) t.svc.avsAt rail = none
      ∧ raised s t 0x2501 rail 0x3F 2 mv ∧ svcOnly s t))
  ∧ (∀ (die : Fin 4) s, s.fget PWR_STAT PWR_STAT_DROOPS < 2 ^ 48 - 1 →
    Goes (.droopTrip die) s (fun t => Tab.look (fun _ => false) t.svc.stretched die = true
      ∧ t.fget PWR_STAT PWR_STAT_DROOPS = s.fget PWR_STAT PWR_STAT_DROOPS + 1 ∧ regsBut s t [PWR_STAT] ∧ svcOnly s t))
  ∧ (∀ (die : Fin 4) s, Goes (.droopRecover die) s (fun t => Tab.look (fun _ => false) t.svc.stretched die = false
      ∧ (∀ o, t.reg o = s.reg o) ∧ svcOnly s t))

/-- R356: a plausible PMBus reading is taken, the third implausible one in a row or a failed exchange makes the telemetry stale, for
100 ms after a failure; a stuck bus and an alert raise their events; the rails are enabled one after the other, each once the one
before it reads its voltage, and a rail that does not ends the sequence. -/
def Obligations.RailsAndPmbus : Prop :=
  (∀ (rail : Fin 8) vout iout temp s, s.plausible rail vout.toNat iout.toNat = true → Tab.look (fun _ => none) s.svc.staleUntil rail = none →
    Goes (.pmbusPoll rail (.values vout iout temp)) s (fun t => t.fget (SNS_RAIL rail) SNS_RAIL_VOUT = vout.toNat
      ∧ t.fget (SNS_RAIL rail) SNS_RAIL_IOUT = iout.toNat ∧ t.fget (SNS_RAIL rail) SNS_RAIL_TEMP = temp.toNat ∧ t.railStale rail = false
      ∧ Tab.look (fun _ => 0) t.svc.badReads rail = 0 ∧ regsBut s t [SNS_RAIL rail] ∧ svcOnly s t))
  ∧ (∀ (rail : Fin 8) vout iout temp s, Tab.look (fun _ => false) s.svc.vrEn rail = true → s.plausible rail vout.toNat iout.toNat = false →
    Goes (.pmbusPoll rail (.values vout iout temp)) s (fun t =>
      t.railStale rail = (s.railStale rail || decide (2 ≤ Tab.look (fun _ => 0) s.svc.badReads rail))
      ∧ Tab.look (fun _ => 0) t.svc.badReads rail = min 3 (Tab.look (fun _ => 0) s.svc.badReads rail + 1)
      ∧ t.fget (SNS_RAIL rail) SNS_RAIL_VOUT = s.fget (SNS_RAIL rail) SNS_RAIL_VOUT ∧ regsBut s t [SNS_RAIL rail] ∧ svcOnly s t))
  ∧ (∀ (rail : Fin 8) kind cmd s, Goes (.pmbusPoll rail (.failed kind cmd)) s (fun t => t.railStale rail = true
      ∧ Tab.look (fun _ => none) t.svc.staleUntil rail = some (s.lanyard.toNat + 100000000) ∧ raised s t 0x2401 rail 0x3F kind cmd.toNat ∧ svcOnly s t))
  ∧ (∀ (rail : Fin 8) s a, Tab.look (fun _ => none) s.svc.staleUntil rail = some a → a ≤ s.lanyard.toNat →
    Goes (.pmbusStaleEnd rail) s (fun t => t.railStale rail = false ∧ Tab.look (fun _ => none) t.svc.staleUntil rail = none
      ∧ regsBut s t [SNS_RAIL rail] ∧ svcOnly s t))
  ∧ (∀ (rail : Fin 8) s a, Tab.look (fun _ => none) s.svc.staleUntil rail = some a → s.lanyard.toNat < a →
    Goes (.pmbusStaleEnd rail) s (fun t => t.svc = s.svc ∧ (∀ o, t.reg o = s.reg o) ∧ svcOnly s t))
  ∧ (∀ scl s, Goes (.pmbusBusStuck scl) s (fun t => t.svc.busClears = s.svc.busClears + 1
      ∧ raised s t 0x2402 0 0x3F (if scl then 1 else 0) 0 ∧ svcOnly s t))
  ∧ (∀ w s, s.svc.alertMask = none → Goes (.pmbAlert [w] true) s (fun t => t.svc.alertMask = some (s.lanyard.toNat + 1000000000)
      ∧ raised s t 0x2403 0 0x3F w.toNat 0 ∧ svcOnly s t))
  ∧ (∀ ws stays s, s.svc.alertMask ≠ none → Goes (.pmbAlert ws stays) s (fun t => t.svc = s.svc ∧ (∀ o, t.reg o = s.reg o) ∧ svcOnly s t))
  ∧ (∀ s a, s.svc.alertMask = some a → a ≤ s.lanyard.toNat →
    Goes .pmbAlertUnmask s (fun t => t.svc.alertMask = none ∧ (∀ o, t.reg o = s.reg o) ∧ svcOnly s t))
  ∧ (∀ vout s, railsAt s 0 → Goes (.railEnableStep vout) s (fun t => Tab.look (fun _ => false) t.svc.vrEn 0 = true ∧ t.svc.pgood = s.svc.pgood
      ∧ Tab.look (fun _ => 0) t.svc.enabledAt 0 = s.lanyard.toNat ∧ (∀ o, t.reg o = s.reg o) ∧ svcOnly s t))
  ∧ (∀ v n s, railsAt s (n + 1) → n < 7 → v ≤ (railTarget n).1 + (railTarget n).2 → (railTarget n).1 ≤ v + (railTarget n).2 →
    Goes (.railEnableStep (some v)) s (fun t => Tab.look (fun _ => false) t.svc.vrEn (n + 1) = true ∧ Tab.look (fun _ => false) t.svc.pgood n = true
      ∧ (∀ o, t.reg o = s.reg o) ∧ svcOnly s t))
  ∧ (∀ n s, railsAt s (n + 1) → n < 8 → s.powerState ≤ 4 →
    Goes (.railEnableStep none) s (fun t => railFails s t n 1 ∧ memKept s t ∧ t.kn = s.kn ∧ t.tiles = s.tiles))
  ∧ (∀ n s, railsAt s (n + 1) → n < 8 → s.powerState ≤ 4 → Tab.look (fun _ => 0) s.svc.enabledAt n + 5000000 ≤ s.lanyard.toNat →
    Goes .railPgoodTimeout s (fun t => railFails s t n 0 ∧ memKept s t ∧ t.kn = s.kn ∧ t.tiles = s.tiles))
  ∧ (∀ n s, railsAt s (n + 1) → s.lanyard.toNat < Tab.look (fun _ => 0) s.svc.enabledAt n + 5000000 →
    Goes .railPgoodTimeout s (fun t => t.svc = s.svc ∧ (∀ o, t.reg o = s.reg o) ∧ svcOnly s t))

namespace Sys2Proof.Claims

open Machine Reg

/-- The address of a mailbox command's request block (R390). -/
def boxAt (s : State) : Nat := s.fget SEC_MBOX_ARG SEC_MBOX_ARG_ADDR * 64

/-- A mailbox command of a core is carried out (R378, R388, R390): the core is not fenced, no command is BUSY, no save runs, the
core holds the management role where the command asks for it, and the journal has the room the command needs. -/
def boxOpen (s : State) (core : Fin 16) (cmd : Nat) (mgmt : Bool) : Prop :=
  s.coreFenced core = false ∧ s.fget SEC_MBOX_CMD SEC_MBOX_CMD_BUSY = 0 ∧ s.powerState ≠ 5 ∧ (mgmt = true → core.val = s.mgmtCore)
    ∧ (s.jnlFull = false ∨ cmd = 11 ∨ cmd = 12) ∧ (s.jnlLow = false ∨ cmd ∉ [4, 6, 7, 10])

/-- A mailbox command has finished (R390): its STATUS, BUSY back to 0, and its event the last in the log. -/
def boxAnswers (t : State) (cmd st : Nat) : Prop :=
  t.fget SEC_MBOX_CMD SEC_MBOX_CMD_STATUS = st ∧ t.fget SEC_MBOX_CMD SEC_MBOX_CMD_BUSY = 0
    ∧ Tab.look (fun _ => ({} : EvRec)) t.svc.evlog ((t.fget SVC_EVLOG SVC_EVLOG_HEAD + 2 ^ 32 - 1) % 8192)
      = ⟨t.lanyard, BitVec.ofNat 64 (0x1003 + 0x10 * 65536 + 0x3F * 2 ^ 40), BitVec.ofNat 64 cmd, BitVec.ofNat 64 st⟩

/-- The mailbox commands of a core, with their numbers. -/
def boxCommands (core : Fin 16) (good : Bool × Bool) : List (Instr × Nat) :=
  [(.nonce core, 1), (.quote core, 2), (.extend core, 3), (.dbgOpen core, 4), (.dbgClose core, 5), (.cfgWrite core good, 6),
   (.stage core, 7), (.activate core, 8), (.verify core, 9), (.lifecycle core, 10), (.jread core, 11), (.exported core, 12)]

/-- The bytes bs stand from address a on, and every other byte is as before. -/
def wroteAt (s t : State) (a : Nat) (bs : List Byte) : Prop :=
  ∀ i, t.byte i = if a ≤ i ∧ i < a + bs.length then bs.getD (i - a) 0 else s.byte i

/-- The slots of a quote request that hold a glove, and the signed quote (R374). -/
def quoted (s : State) : List Nat :=
  (List.range 64).filter (fun n => (BitVec.ofNat 64 (s.rd (boxAt s + 64) 8)).getLsbD n && s.gstate n != gFREE)
def quoteMade (s : State) : List Byte :=
  s.quoteBody (s.bytes (boxAt s) 64) (quoted s) ++ edSign identitySeed (s.quoteBody (s.bytes (boxAt s) 64) (quoted s))

/-- The entries a JREAD asks for, in bytes. -/
def jreadBytes (s : State) : List Byte :=
  (s.sec.journal.filter (fun e => decide (s.rd (boxAt s) 8 ≤ e.seq ∧ e.seq < s.rd (boxAt s) 8 + s.rd (boxAt s + 8) 8))).flatMap JEntry.bytes

/-- A checkpoint of the journal is due (R376). -/
def checkpointDue (s : State) : Prop :=
  1024 ≤ s.sec.sinceCheck ∨ ∃ a, s.sec.firstOpen = some a ∧ a + 1000000000 ≤ s.lanyard.toNat

end Sys2Proof.Claims

/-- R374 to R376, R378, R379, R390, R391: the mailbox takes one command at a time, refuses them in a save, and denies those of the
management role to other cores; NONCE draws a nonce, which is invalid after 10 minutes; QUOTE, EXTEND, JREAD, EXPORTED and
LIFECYCLE; the journal's checkpoint and its way to the NVS; a write to the rest of the SEC_ window is ignored and counted. -/
def Obligations.SecurityMailbox : Prop :=
  (∀ core good c n s, (c, n) ∈ boxCommands core good → s.coreFenced core = true →
    Goes c s (fun t => t.sec = s.sec ∧ t.svc = s.svc ∧ (∀ o, t.reg o = s.reg o) ∧ svcOnly s t))
  ∧ (∀ core good c n s, (c, n) ∈ boxCommands core good → s.coreFenced core = false → s.fget SEC_MBOX_CMD SEC_MBOX_CMD_BUSY = 1 →
    Goes c s (fun t => t.fget SEC_MBOX_CMD SEC_MBOX_CMD_STATUS = ST_BUSY ∧ t.fget SEC_MBOX_CMD SEC_MBOX_CMD_BUSY = 1 ∧ t.sec = s.sec
      ∧ regsBut s t [SEC_MBOX_CMD] ∧ svcOnly s t))
  ∧ (∀ core good c n s, (c, n) ∈ boxCommands core good → s.coreFenced core = false → s.fget SEC_MBOX_CMD SEC_MBOX_CMD_BUSY = 0 →
    s.powerState = 5 → Goes c s (fun t => boxAnswers t n ST_BUSY ∧ t.sec = s.sec ∧ svcOnly s t))
  ∧ (∀ core good c n s, (c, n) ∈ boxCommands core good → n ∈ [4, 5, 7, 8, 10] → boxOpen s core n false → core.val ≠ s.mgmtCore →
    s.fget SEC_CNT0 SEC_CNT0_DENIED < 2 ^ 48 - 1 →
    Goes c s (fun t => boxAnswers t n ST_DENIED ∧ t.sec = s.sec ∧ t.fget SEC_CNT0 SEC_CNT0_DENIED = s.fget SEC_CNT0 SEC_CNT0_DENIED + 1
      ∧ svcOnly s t))
  ∧ (∀ core (cmd : BitVec 5) s, cmd = 0 ∨ 13 ≤ cmd.toNat → boxOpen s core cmd.toNat false →
    Goes (.mboxReservedCmd core cmd) s (fun t => boxAnswers t cmd.toNat ST_RANGE ∧ t.sec = s.sec ∧ svcOnly s t))
  ∧ (∀ core s, boxOpen s core 1 false → Goes (.nonce core) s (fun t => boxAnswers t 1 ST_OK
      ∧ t.sec.nonce = (List.range 4).flatMap (fun j => leBytes 8 (Config.freeWord (s.free + j)).toNat) ∧ t.sec.nonceAt = some s.lanyard.toNat
      ∧ (∀ j, j < 4 → t.reg (SEC_DBG_NONCE j) = Config.freeWord (s.free + j)) ∧ t.free = s.free + 4 ∧ svcOnly s t))
  ∧ (∀ s a, s.sec.nonceAt = some a → a + 600000000000 ≤ s.lanyard.toNat →
    Goes .nonceExpire s (fun t => t.sec.nonceAt = none ∧ (∀ bs, t.nonceIs bs = false) ∧ (∀ j, j < 4 → t.reg (SEC_DBG_NONCE j) = 0)
      ∧ regsBut s t [SEC_DBG_NONCE 0, SEC_DBG_NONCE 1, SEC_DBG_NONCE 2, SEC_DBG_NONCE 3] ∧ svcOnly s t))
  ∧ (∀ s, (∀ a, s.sec.nonceAt = some a → s.lanyard.toNat < a + 600000000000) →
    Goes .nonceExpire s (fun t => t.sec = s.sec ∧ (∀ o, t.reg o = s.reg o) ∧ svcOnly s t))
  ∧ (∀ core s, boxOpen s core 2 false → boxAt s + 80 ≤ localSize →
    s.rd (boxAt s + 72) 8 + (s.quoteBody (s.bytes (boxAt s) 64) (quoted s)).length + 64 ≤ localSize →
    Goes (.quote core) s (fun t => boxAnswers t 2 ST_OK ∧ wroteAt s t (s.rd (boxAt s + 72) 8) (quoteMade s) ∧ t.sec = s.sec ∧ t.kn = s.kn
      ∧ t.tiles = s.tiles))
  ∧ (∀ core s, boxOpen s core 2 false → localSize < boxAt s + 80 → Goes (.quote core) s (fun t => boxAnswers t 2 ST_FMT ∧ t.sec = s.sec ∧ svcOnly s t))
  ∧ (∀ core s n, boxOpen s core 3 false → boxAt s + 72 ≤ localSize → n = s.rd (boxAt s) 8 → n < 64 → s.gstate n = gACTIVE →
    Goes (.extend core) s (fun t => boxAnswers t 3 ST_OK
      ∧ (∀ j, j < 8 → t.reg (SEC_GLOVE_MEAS n j) = wordAt (sha512 (s.measure n ++ s.bytes (boxAt s + 8) 64)) j)
      ∧ journalled s t 0x0007 n (s.bytes (boxAt s + 8) 64) ∧ svcOnly s t))
  ∧ (∀ core s, boxOpen s core 3 false → boxAt s + 72 ≤ localSize → 64 ≤ s.rd (boxAt s) 8 ∨ s.gstate (s.rd (boxAt s) 8) ≠ gACTIVE →
    Goes (.extend core) s (fun t => boxAnswers t 3 ST_RANGE ∧ t.sec = s.sec ∧ svcOnly s t))
  ∧ (∀ core s b, boxOpen s core 10 true → boxAt s + 136 ≤ localSize → b = s.bytes (boxAt s) 136 → s.lifecycleOk b = true → s.debugLevel = 0 →
    Goes (.lifecycle core) s (fun t => boxAnswers t 10 ST_OK ∧ t.fget SEC_STAT SEC_STAT_LIFECYCLE = fieldOf b 0 8 ∧ t.sec.nonceAt = none
      ∧ (∀ i, t.byte i = if boxAt s ≤ i ∧ i < boxAt s + 8 then (leBytes 8 (fieldOf b 0 8)).getD (i - boxAt s) 0
          else if fieldOf b 0 8 = 3 then 0 else s.byte i)
      ∧ (fieldOf b 0 8 = 3 → t.slice = [] ∧ ∀ n, n < 64 → t.gstate n ≠ gACTIVE) ∧ (fieldOf b 0 8 ≠ 3 → t.tiles = s.tiles ∧ t.kn = s.kn)
      ∧ journalled s t 0x0002 0x3F (leBytes 8 s.lifecycle ++ leBytes 8 (fieldOf b 0 8))))
  ∧ (∀ core s b, boxOpen s core 10 true → boxAt s + 136 ≤ localSize → b = s.bytes (boxAt s) 136 → s.lifecycleOk b = false →
    Goes (.lifecycle core) s (fun t => boxAnswers t 10 ST_DENIED ∧ t.fget SEC_STAT SEC_STAT_LIFECYCLE = s.fget SEC_STAT SEC_STAT_LIFECYCLE
      ∧ t.sec.ownerKey = s.sec.ownerKey ∧ journalled s t 0x0002 0x3F (leBytes 8 s.lifecycle ++ leBytes 8 0xFF ++ b.take 8) ∧ svcOnly s t))
  ∧ (∀ core s, boxOpen s core 11 false → boxAt s + 24 ≤ localSize → s.rd (boxAt s + 16) 8 + (jreadBytes s).length ≤ localSize →
    Goes (.jread core) s (fun t => boxAnswers t 11 ST_OK ∧ wroteAt s t (s.rd (boxAt s + 16) 8) (jreadBytes s) ∧ t.sec = s.sec ∧ t.kn = s.kn
      ∧ t.tiles = s.tiles))
  ∧ (∀ core s, boxOpen s core 12 false → boxAt s + 8 ≤ localSize → (s.reg SEC_JNL_EXPORTED).toNat ≤ s.rd (boxAt s) 8 →
    s.rd (boxAt s) 8 ≤ (s.reg SEC_JNL_HEAD).toNat →
    Goes (.exported core) s (fun t => boxAnswers t 12 ST_OK ∧ (t.reg SEC_JNL_EXPORTED).toNat = s.rd (boxAt s) 8 ∧ t.sec = s.sec ∧ svcOnly s t))
  ∧ (∀ core s, boxOpen s core 12 false → boxAt s + 8 ≤ localSize →
    s.rd (boxAt s) 8 < (s.reg SEC_JNL_EXPORTED).toNat ∨ (s.reg SEC_JNL_HEAD).toNat < s.rd (boxAt s) 8 →
    Goes (.exported core) s (fun t => boxAnswers t 12 ST_RANGE ∧ t.reg SEC_JNL_EXPORTED = s.reg SEC_JNL_EXPORTED ∧ t.sec = s.sec ∧ svcOnly s t))
  ∧ (∀ s, checkpointDue s → Goes .journalCheckpoint s (fun t => t.sec.sinceCheck = 0 ∧ t.sec.firstOpen = none
      ∧ journalled s t 0x0001 0x3F (leBytes 8 (s.reg SEC_JNL_HEAD).toNat
        ++ edSign identitySeed (leBytes 64 s.sec.lastHash.toNat ++ leBytes 8 (s.reg SEC_JNL_HEAD).toNat))
      ∧ t.reg SEC_JNL_HEAD = s.reg SEC_JNL_HEAD + 1 ∧ regsBut s t [SEC_JNL_HEAD] ∧ svcOnly s t))
  ∧ (∀ s, ¬ checkpointDue s → Goes .journalCheckpoint s (fun t => t.sec = s.sec ∧ (∀ o, t.reg o = s.reg o) ∧ svcOnly s t))
  ∧ (∀ s, s.fget NVS_STAT NVS_STAT_READONLY = 0 → s.jnlLow = false → Goes .journalNvsWrite s (fun t =>
      t.sec.inNvs = (s.reg SEC_JNL_HEAD).toNat ∧ t.sec.journal = s.sec.journal ∧ t.sec.lowRaised = false ∧ svcOnly s t))
  ∧ (∀ s, s.fget NVS_STAT NVS_STAT_READONLY = 1 → arbCalm s PWR_STATE → Goes .journalNvsWrite s (fun t =>
      t.sec.inNvs = s.sec.inNvs ∧ t.fget PWR_STATE PWR_STATE_REQ = 4 ∧ memKept s t))
  ∧ (∀ (off : BitVec 20) (src : Fin 22) s, off.toNat ≠ 0x100 → off.toNat ≠ 0x108 → src.val ≠ 3 → src.val ≠ 4 →
    s.fget SEC_CNT0 SEC_CNT0_VIOLATIONS < 2 ^ 15 - 1 →
    Goes (.secWriteViolation off src) s (fun t => t.fget SEC_CNT0 SEC_CNT0_VIOLATIONS = s.fget SEC_CNT0 SEC_CNT0_VIOLATIONS + 1
      ∧ raised s t 0x1006 0 0x3F off.toNat src ∧ regsBut s t [SEC_CNT0, SVC_EVLOG, SVC_EVLOG_LOST, SEC_JNL_HEAD] ∧ svcOnly s t))

namespace Sys2Proof.Claims

open Machine Reg

/-- The token of a DBG_OPEN (R382). -/
def tokenAt (s : State) : List Byte := s.bytes (boxAt s) 256

/-- A session of no gloves is open (R383): D1, or D2 without a glove made since. -/
def bareSession (s : State) : Prop := s.debugLevel ≠ 0 ∧ s.sec.d2Ending = false ∧ s.sec.d2Gloves = []

/-- The session has ended (R383, R388): D0, and its end journalled with the token's hash: 1 closed, 2 revoked. -/
def sessionOver (s t : State) (what : Nat) : Prop :=
  t.debugLevel = 0 ∧ t.reg SEC_DBG_EXP = 0 ∧ t.fget SEC_STAT SEC_STAT_DBG_GLOVES = 0 ∧ t.sec.inject = false
    ∧ journalled s t 0x0010 0x3F (leBytes 8 what ++ leBytes 64 s.sec.tokenHash.toNat)

/-- The configuration slot n holds the record r (R369). -/
def cfgHeld (t : State) (n : Nat) : CfgRec := if n = 0 then t.sec.cfgA else t.sec.cfgB

/-- A journal entry of an image (R366, R377): 0 staged, 1 activation started, 2 unit switched. -/
def imageJournalled (s t : State) (what kind arg : Nat) : Prop :=
  journalled s t 0x0004 0x3F (leBytes 8 what ++ leBytes 8 kind ++ leBytes 8 arg)

/-- A STAGE or VERIFY request's bytes: the image at an address, of a length. -/
def stageBytes (s : State) : List Byte := s.bytes (s.rd (boxAt s) 8) (s.rd (boxAt s + 8) 8)
def stageFits (s : State) : Prop :=
  boxAt s + 16 ≤ localSize ∧ s.rd (boxAt s) 8 + s.rd (boxAt s + 8) 8 ≤ localSize ∧ 512 ≤ s.rd (boxAt s + 8) 8
    ∧ 1 ≤ fieldOf (stageBytes s) 4 2 ∧ fieldOf (stageBytes s) 4 2 ≤ 5
def verifyBytes (s : State) : List Byte := s.bytes (s.rd (boxAt s) 8) (imageLen (s.bytes (s.rd (boxAt s) 8) 512))
def verifyFits (s : State) : Prop :=
  boxAt s + 72 ≤ localSize ∧ s.rd (boxAt s) 8 + 512 ≤ localSize
    ∧ s.rd (boxAt s) 8 + imageLen (s.bytes (s.rd (boxAt s) 8) 512) ≤ localSize

/-- The other slot of a KIND holds an image that may be activated (R366). -/
def mayActivate (s : State) (kind : Nat) : Prop :=
  (s.image kind (1 - s.runSlot kind)).accepted = true ∧ (s.image kind (1 - s.runSlot kind)).failed = false
    ∧ (s.image kind (1 - s.runSlot kind)).bytes ≠ []

end Sys2Proof.Claims

/-- R365, R366, R372, R382 to R384, R388, R390, R391: DBG_OPEN opens D1 at once, tears the gloves down for D2, refuses a token and
waits for no power transition; D2 opens when the gloves have gone; a session ends by DBG_CLOSE or when it expires; CFG_WRITE, STAGE,
VERIFY and ACTIVATE, the switch of a unit, and the image the boot ROM takes. -/
def Obligations.ImagesAndSessions : Prop :=
  (∀ core s, boxOpen s core 4 true → localSize < boxAt s + 256 ∨ s.tokenOk (tokenAt s) = false →
    Goes (.dbgOpen core) s (fun t => boxAnswers t 4 ST_DENIED ∧ t.debugLevel = s.debugLevel
      ∧ journalled s t 0x0010 0x3F (leBytes 8 3 ++ leBytes 64 (sha512v (tokenAt s)).toNat) ∧ svcOnly s t))
  ∧ (∀ core s, boxOpen s core 4 true → boxAt s + 256 ≤ localSize → s.tokenOk (tokenAt s) = true → s.pwr.goal = some 3 ∨ s.pwr.goal = some 4 →
    Goes (.dbgOpen core) s (fun t => boxAnswers t 4 ST_BUSY ∧ t.sec = s.sec ∧ svcOnly s t))
  ∧ (∀ core s, boxOpen s core 4 true → boxAt s + 256 ≤ localSize → s.tokenOk (tokenAt s) = true → s.pwr.goal ≠ some 3 → s.pwr.goal ≠ some 4 →
    fieldOf (tokenAt s) 6 1 = 1 → s.debugLevel = 0 →
    Goes (.dbgOpen core) s (fun t => boxAnswers t 4 ST_OK ∧ t.debugLevel = 1 ∧ t.sec.inject = false ∧ t.sec.nonceAt = none
      ∧ t.reg SEC_DBG_EXP = s.lanyard + BitVec.ofNat 64 (fieldOf (tokenAt s) 12 4 * 1000000000) ∧ t.sec.tokenHash = sha512v (tokenAt s)
      ∧ journalled s t 0x0010 0x3F (leBytes 8 0 ++ leBytes 64 (sha512v (tokenAt s)).toNat) ∧ svcOnly s t))
  ∧ (∀ core s, boxOpen s core 4 true → boxAt s + 256 ≤ localSize → s.tokenOk (tokenAt s) = true → s.pwr.goal ≠ some 3 → s.pwr.goal ≠ some 4 →
    fieldOf (tokenAt s) 6 1 = 2 → s.debugLevel = 0 →
    Goes (.dbgOpen core) s (fun t => t.fget SEC_MBOX_CMD SEC_MBOX_CMD_BUSY = 1 ∧ t.debugLevel = 0
      ∧ t.sec.d2Pending = some (fieldOf (tokenAt s) 12 4, fieldOf (tokenAt s) 7 1 == 1)
      ∧ (∀ n, n < 64 → s.gstate n = gACTIVE → t.gstate n = gTEARDOWN ∧ t.fget (KNOT_GLOVE_CTL n) KNOT_GLOVE_CTL_CAUSE = causeDEBUG) ∧ memKept s t))
  ∧ (∀ s dur inj, s.sec.d2Pending = some (dur, inj) → s.allGone = true →
    Goes .dbgD2GlovesGone s (fun t => boxAnswers t 4 ST_OK ∧ t.debugLevel = 2 ∧ t.sec.inject = inj ∧ t.sec.d2Pending = none
      ∧ t.reg SEC_DBG_EXP = s.lanyard + BitVec.ofNat 64 (dur * 1000000000)
      ∧ journalled s t 0x0010 0x3F (leBytes 8 0 ++ leBytes 64 s.sec.tokenHash.toNat) ∧ svcOnly s t))
  ∧ (∀ s, s.allGone = false → Goes .dbgD2GlovesGone s (fun t => t.sec = s.sec ∧ (∀ o, t.reg o = s.reg o) ∧ svcOnly s t))
  ∧ (∀ core s, boxOpen s core 5 true → bareSession s →
    Goes (.dbgClose core) s (fun t => boxAnswers t 5 ST_OK ∧ sessionOver s t 1 ∧ svcOnly s t))
  ∧ (∀ core s, boxOpen s core 5 true → s.debugLevel = 0 →
    Goes (.dbgClose core) s (fun t => boxAnswers t 5 ST_OK ∧ t.debugLevel = 0 ∧ t.sec = s.sec ∧ svcOnly s t))
  ∧ (∀ s, bareSession s → s.reg SEC_DBG_EXP ≠ 0 → (s.reg SEC_DBG_EXP).toNat ≤ s.lanyard.toNat →
    Goes .debugSessionExpire s (fun t => sessionOver s t 1 ∧ svcOnly s t))
  ∧ (∀ s n, s.debugLevel ≠ 0 → s.sec.d2Ending = false → s.sec.d2Gloves = [n] → n < 64 → s.gstate n = gACTIVE → s.reg SEC_DBG_EXP ≠ 0 →
    (s.reg SEC_DBG_EXP).toNat ≤ s.lanyard.toNat →
    Goes .debugSessionExpire s (fun t => goesDown s t n causeDEBUG ∧ t.debugLevel = s.debugLevel ∧ t.sec.d2Ending = true ∧ t.sec.inject = false
      ∧ journalled s t 0x0010 0x3F (leBytes 8 1 ++ leBytes 64 s.sec.tokenHash.toNat)))
  ∧ (∀ s, s.debugLevel = 0 ∨ s.lanyard.toNat < (s.reg SEC_DBG_EXP).toNat →
    Goes .debugSessionExpire s (fun t => t.sec = s.sec ∧ (∀ o, t.reg o = s.reg o) ∧ svcOnly s t))
  ∧ (∀ core good s st, boxOpen s core 6 false → s.cfgRequest (boxAt s) (core == s.mgmtCore) = .inr st →
    Goes (.cfgWrite core good) s (fun t => boxAnswers t 6 st ∧ t.sec = s.sec ∧ svcOnly s t))
  ∧ (∀ core good s r, boxOpen s core 6 false → s.cfgRequest (boxAt s) (core == s.mgmtCore) = .inl r → (good.1 || good.2) = true →
    Goes (.cfgWrite core good) s (fun t => boxAnswers t 6 ST_OK ∧ wroteAt s t (boxAt s) (leBytes 8 r.seq)
      ∧ cfgHeld t s.cfgTarget = { r with valid := true } ∧ cfgHeld t (1 - s.cfgTarget) = cfgHeld s (1 - s.cfgTarget)
      ∧ journalled s t 0x0003 0x3F (leBytes 8 s.cfgTarget ++ leBytes 8 r.seq ++ leBytes 8 1) ∧ t.kn = s.kn ∧ t.tiles = s.tiles))
  ∧ (∀ core s r, boxOpen s core 6 false → s.cfgRequest (boxAt s) (core == s.mgmtCore) = .inl r →
    Goes (.cfgWrite core (false, false)) s (fun t => boxAnswers t 6 ST_BUSY ∧ cfgHeld t s.cfgTarget = { r with valid := false }
      ∧ cfgHeld t (1 - s.cfgTarget) = cfgHeld s (1 - s.cfgTarget) ∧ svcOnly s t))
  ∧ (∀ core s k v, boxOpen s core 7 true → stageFits s → s.acceptImage (stageBytes s) = some (k, v) →
    ((k = 3 ∨ k = 4) → fieldOf (stageBytes s) 0x18 8 ≤ (s.image k (s.runSlot k)).version) →
    Goes (.stage core) s (fun t => boxAnswers t 7 ST_OK ∧ t.image k (1 - s.runSlot k) = v ∧ t.sec.running = s.sec.running
      ∧ imageJournalled s t 0 k (1 - s.runSlot k) ∧ svcOnly s t))
  ∧ (∀ core s k, boxOpen s core 7 true → stageFits s → k = fieldOf (stageBytes s) 4 2 → k = 3 ∨ k = 4 →
    (s.image k (s.runSlot k)).version < fieldOf (stageBytes s) 0x18 8 →
    Goes (.stage core) s (fun t => boxAnswers t 7 ST_FMT ∧ t.sec = s.sec ∧ svcOnly s t))
  ∧ (∀ core s k v, boxOpen s core 9 false → verifyFits s → s.acceptImage (verifyBytes s) = some (k, v) →
    Goes (.verify core) s (fun t => boxAnswers t 9 ST_OK ∧ wroteAt s t (boxAt s) (leBytes 64 v.digest.toNat ++ leBytes 8 k) ∧ t.sec = s.sec
      ∧ t.kn = s.kn ∧ t.tiles = s.tiles))
  ∧ (∀ core s, boxOpen s core 9 false → verifyFits s → s.acceptImage (verifyBytes s) = none →
    Goes (.verify core) s (fun t => boxAnswers t 9 ST_FMT ∧ t.sec = s.sec ∧ svcOnly s t))
  ∧ (∀ core s k, boxOpen s core 8 true → boxAt s + 8 ≤ localSize → k = s.rd (boxAt s) 8 → 1 ≤ k → k ≤ 4 → mayActivate s k → s.sec.activation = none →
    Goes (.activate core) s (fun t => boxAnswers t 8 ST_OK ∧ t.sec.activation = some ⟨k, kindUnits k, s.lanyard.toNat⟩
      ∧ t.sec.running = s.sec.running ∧ imageJournalled s t 1 k 0 ∧ svcOnly s t))
  ∧ (∀ core s, boxOpen s core 8 true → boxAt s + 8 ≤ localSize → s.rd (boxAt s) 8 = 5 → mayActivate s 5 → s.sec.activation = none →
    Goes (.activate core) s (fun t => boxAnswers t 8 ST_OK ∧ t.sec.activation = none ∧ t.runSlot 5 = 1 - s.runSlot 5
      ∧ imageJournalled s t 1 5 0 ∧ svcOnly s t))
  ∧ (∀ core s k, boxOpen s core 8 true → boxAt s + 8 ≤ localSize → k = s.rd (boxAt s) 8 → 1 ≤ k → k ≤ 5 → ¬ mayActivate s k →
    Goes (.activate core) s (fun t => boxAnswers t 8 ST_RANGE ∧ t.sec = s.sec ∧ svcOnly s t))
  ∧ (∀ unit s act, s.sec.activation = some act → unit ∈ act.units → s.unitIdle act.kind unit = true → act.units.filter (· != unit) ≠ [] →
    Goes (.activateUnitSwitch unit) s (fun t => t.sec.activation = some { act with units := act.units.filter (· != unit) }
      ∧ t.sec.running = s.sec.running ∧ imageJournalled s t 2 act.kind unit ∧ svcOnly s t))
  ∧ (∀ unit s act, s.sec.activation = some act → unit ∈ act.units → s.unitIdle act.kind unit = true → act.units.filter (· != unit) = [] →
    Goes (.activateUnitSwitch unit) s (fun t => t.sec.activation = none ∧ t.runSlot act.kind = 1 - s.runSlot act.kind
      ∧ imageJournalled s t 2 act.kind unit ∧ svcOnly s t))
  ∧ (∀ unit s, (∀ act, s.sec.activation = some act → unit ∉ act.units ∨ s.unitIdle act.kind unit = false) →
    Goes (.activateUnitSwitch unit) s (fun t => t.sec = s.sec ∧ t.svc = s.svc ∧ (∀ o, t.reg o = s.reg o) ∧ svcOnly s t))
  ∧ (∀ image s v, s.sec.uartBoot = true → s.acceptImage image = some (1, v) →
    Goes (.bootUartImage image) s (fun t => t.sec.uartBoot = false ∧ t.image 1 (s.runSlot 1) = v
      ∧ t.fget (SEC_FW_SVN 0) SEC_FW_SVN_SVN = v.svn % 2 ^ (SEC_FW_SVN_SVN.hi + 1 - SEC_FW_SVN_SVN.lo) ∧ regsBut s t [SEC_FW_SVN 0] ∧ svcOnly s t))
  ∧ (∀ image s, s.sec.uartBoot = false ∨ (∀ v, s.acceptImage image ≠ some (1, v)) →
    Goes (.bootUartImage image) s (fun t => t.sec = s.sec ∧ (∀ o, t.reg o = s.reg o) ∧ svcOnly s t))

namespace Sys2Proof.Claims

open Machine Reg

/-- A context runs a task and no debugger holds it. -/
def debuggable (s : State) (k : CtxId) : Prop := (s.ctx k).task ≠ none ∧ (s.ctx k).stopped = false ∧ (s.ctx k).held = false

/-- Nothing has changed. -/
def nothing (s t : State) : Prop := t = s

/-- The debugger's hold on context k of tile n becomes h, everything else of every context as before (R381). -/
def haltBecomes (s u : State) (n : Fin 256) (k : CtxId) (h : DbgHalt) : Prop :=
  u.ctx k = { s.ctx k with halt := h } ∧ (∀ k', k' ≠ k → u.ctx k' = s.ctx k') ∧ (∀ m, (u.tile m).rest = (s.tile m).rest)
    ∧ regsBut s u [TILE_DBG n] ∧ memKept s u

/-- A held context runs on: the time it was held does not count as its task's run. -/
def runsOn (s u : State) (n : Fin 256) (k : CtxId) (h : DbgHalt) : Prop :=
  haltBecomes s u n k h
    ∧ ((s.ctx k).wait = .none → k.ctx.val ∈ (u.tile k.tile).window ++ (u.tile k.tile).entry)
    ∧ ∀ q a x, (s.ctx k).task = some q → (s.ctx k).heldSince = some a → s.task q = some x →
        u.task q = some { x with paused := x.paused + (s.lanyard.toNat - a) }

/-- The test access port holds an instruction and its data register a word; nothing else has changed (R385). -/
def tapHolds (s t : State) (ir : Nat) (dr : W64) : Prop :=
  t.sec = { s.sec with tapIr := ir, tapDr := dr } ∧ (∀ o, t.reg o = s.reg o) ∧ t.svc = s.svc ∧ svcOnly s t

end Sys2Proof.Claims

/-- R380, R381, R385, R399: at D2 a debugger halts a context that runs a task, steps it, lets it run on, and writes the register it
selects, and below D2 nothing of this happens; the TAP's IDCODE, BYPASS and boundary scan; DBGRD and DBGRW read and write where
their level allows and act as BYPASS elsewhere; TRST_N resets the TAP alone. -/
def Obligations.DebugAccess : Prop :=
  (∀ (n : Fin 256) (c : Fin 16) s, s.debugLevel = 2 → debuggable s ⟨n, c⟩ →
    Goes (.tileDbgHalt n c) s (fun u => haltBecomes s u n ⟨n, c⟩ (.halted s.lanyard.toNat) ∧ u.fget (TILE_DBG n) TILE_DBG_CTX = c
      ∧ u.canIssue ⟨n, c⟩ = false ∧ c.val ∉ (u.tile n).window ++ (u.tile n).entry ∧ u.kn = s.kn))
  ∧ (∀ (n : Fin 256) (c : Fin 16) s, s.debugLevel = 2 → ¬ debuggable s ⟨n, c⟩ →
    Goes (.tileDbgHalt n c) s (fun u => u.fget (TILE_DBG n) TILE_DBG_CTX = c ∧ regsBut s u [TILE_DBG n] ∧ u.tiles = s.tiles ∧ u.kn = s.kn))
  ∧ (∀ (n : Fin 256) (c : Fin 16) s, s.debugLevel = 2 → (s.ctx ⟨n, c⟩).held = true →
    Goes (.tileDbgStep n c) s (fun u => runsOn s u n ⟨n, c⟩ .stepping ∧ u.fget (TILE_DBG n) TILE_DBG_CTX = c))
  ∧ (∀ (n : Fin 256) (c : Fin 16) s, s.debugLevel = 2 → (s.ctx ⟨n, c⟩).held = true →
    Goes (.tileDbgResume n c) s (fun u => runsOn s u n ⟨n, c⟩ .none ∧ u.fget (TILE_DBG n) TILE_DBG_CTX = c))
  ∧ (∀ (n : Fin 256) (c : Fin 16) v s x, s.debugLevel ≠ 2 →
    x ∈ [Instr.tileDbgHalt n c, .tileDbgStep n c, .tileDbgResume n c, .tileDbgValWrite n v] → Goes x s (nothing s))
  ∧ (∀ (n : Fin 256) v s k i, s.debugLevel = 2 → k = ctxId n (s.dbgCtx n) → (s.ctx k).held = true →
    i = s.fget (TILE_DBG_SEL n) TILE_DBG_SEL_INDEX →
    Goes (.tileDbgValWrite n v) s (fun u =>
      (i < 0x20 → ∀ q, (u.ctx k).gr q = if q = 0 then 0 else if q = i then v else (s.ctx k).gr q)
      ∧ (0x20 ≤ i → i < 0x28 → ∀ q, (u.ctx k).pr q = if q = 0 then true else if q = i - 0x20 then v.getLsbD 0 else (s.ctx k).pr q)
      ∧ (0x100 ≤ i → i < 0x180 → ∀ q, Tab.look (fun _ => 0) (u.ctx k).t q = if q = i - 0x100 then v else Tab.look (fun _ => 0) (s.ctx k).t q)
      ∧ (0x28 ≤ i → ∀ q, (u.ctx k).gr q = (s.ctx k).gr q) ∧ (u.ctx k).pc = (s.ctx k).pc ∧ (u.ctx k).halt = (s.ctx k).halt
      ∧ (∀ k', k' ≠ k → u.ctx k' = s.ctx k') ∧ (∀ m, (u.tile m).rest = (s.tile m).rest) ∧ (∀ o, u.reg o = s.reg o) ∧ memKept s u))
  ∧ (∀ (n : Fin 256) v s, s.debugLevel = 2 → (s.ctx (ctxId n (s.dbgCtx n))).held = false → Goes (.tileDbgValWrite n v) s (nothing s))
  ∧ (∀ s, Goes .idcode s (fun t => tapHolds s t 0x01 0x174905E3))
  ∧ (∀ s, Goes .bypass s (fun t => tapHolds s t 0xFF 0))
  ∧ (∀ s x ir, (x, ir) ∈ [(Instr.extest, 0x00), (.samplePreload, 0x02)] → s.scanOpen = true →
    Goes x s (fun t => tapHolds s t ir (Config.freeWord s.free) ∧ t.free = s.free + 1))
  ∧ (∀ s x ir, (x, ir) ∈ [(Instr.extest, 0x00), (.samplePreload, 0x02)] → s.scanOpen = false →
    Goes x s (fun t => tapHolds s t ir 0 ∧ t.free = s.free))
  ∧ (∀ s, Goes .trstN s (fun t => t.sec = { s.sec with tapIr := 1, tapDr := 0 } ∧ t.fget RST_CAUSE RST_CAUSE_TRST = 1
      ∧ regsBut s t [RST_CAUSE] ∧ t.svc = s.svc ∧ svcOnly s t))
  ∧ (∀ off s, s.debugLevel = 0 → Goes (.dbgrd off) s (fun t => tapHolds s t 0x10 0))
  ∧ (∀ (off : W32) s, s.debugLevel ≠ 0 → off.toNat / 0x100000 = 0x20C → Goes (.dbgrd off) s (fun t => tapHolds s t 0x10 0))
  ∧ (∀ (off : W32) s, s.debugLevel ≠ 0 → off.toNat / 0x100000 ≠ 0x20C → s.gloveEntry (off.toNat / 8 * 8) = false →
    Goes (.dbgrd off) s (fun t => tapHolds s t 0x10 (s.readCtl (off.toNat / 8 * 8))))
  ∧ (∀ (off : W32) s (i : Fin 256), s.debugLevel ≠ 0 → off.toNat = SNS_TEMP i → Goes (.dbgrd off) s (fun t => tapHolds s t 0x10 (s.reg (SNS_TEMP i))))
  ∧ (∀ a v s, s.debugLevel ≠ 2 → Goes (.dbgrw a v) s (fun t => tapHolds s t 0x11 0))
  ∧ (∀ (a : BitVec 57) s, s.debugLevel = 2 → a.toNat < localSize →
    Goes (.dbgrw a none) s (fun t => tapHolds s t 0x11 (BitVec.ofNat 64 (s.rd (a.toNat / 8 * 8) 8))))
  ∧ (∀ (a : BitVec 57) v s, s.debugLevel = 2 → a.toNat < localSize →
    Goes (.dbgrw a (some v)) s (fun t => wroteAt s t (a.toNat / 8 * 8) (leBytes 8 v.toNat) ∧ t.sec.tapIr = 0x11 ∧ t.sec.tapDr = v
      ∧ (∀ o, t.reg o = s.reg o) ∧ t.tiles = s.tiles ∧ t.kn = s.kn))

namespace Sys2Proof.Claims

open Machine Reg

/-- A power request of a source, with the state it asks for (R394). -/
def powerAsks (src : Fin 22) : List (Instr × Nat) :=
  [(.pwrReqP0 src, 0), (.pwrReqP2 src, 2), (.pwrReqP3 src, 3), (.pwrReqP4 src, 4)]

/-- A power request can take effect at once: no other request stands, and no transition runs (R360, R394). -/
def powerFree (s : State) : Prop := arbCalm s PWR_STATE ∧ s.pwr.goal = none ∧ s.powerState ≤ 4

/-- A request's status, and what it asked for. -/
def asked (t : State) (want st : Nat) : Prop := t.fget PWR_STATE PWR_STATE_STATUS = st ∧ t.fget PWR_STATE PWR_STATE_REQ = want

/-- The power state and the transition are as before. -/
def powerKept (s t : State) : Prop := t.powerState = s.powerState ∧ t.pwr = s.pwr

/-- A transition to a state is under way. -/
def headsFor (t : State) (goal : Nat) (wait : Bool) : Prop :=
  t.pwr.goal = some goal ∧ t.pwr.waitGloves = wait ∧ t.fget PWR_STATE PWR_STATE_BUSY = 1

/-- The T9 runs: P0, or P1 below a limit of 1,500 W (R393). -/
def runState (t : State) (s : State) : Prop :=
  t.powerState = (if min 1500 (max 300 (s.fget PWR_LIMIT PWR_LIMIT_LIMIT_W)) < 1500 then 1 else 0)

/-- A transition has ended. -/
def arrived (t : State) : Prop := t.pwr.goal = none ∧ t.fget PWR_STATE PWR_STATE_BUSY = 0

end Sys2Proof.Claims

/-- R393 to R395, R422: a power request completes ST_BUSY while a transition runs, ST_OK for the present state, and otherwise as the
table of transitions says; a transition ends when its condition holds; a PLL that loses lock holds its domain and fences its
tiles, and a lost fabric reference takes its ports DOWN. -/
def Obligations.PowerStates : Prop :=
  (∀ src c want s, (c, want) ∈ powerAsks src → arbCalm s PWR_STATE → s.pwr.goal ≠ none ∨ s.powerState = 5 →
    Goes c s (fun t => asked t want ST_BUSY ∧ powerKept s t ∧ memKept s t ∧ t.kn = s.kn ∧ t.tiles = s.tiles))
  ∧ (∀ src c want s, (c, want) ∈ powerAsks src → powerFree s → want = (if s.powerState = 1 then 0 else s.powerState) →
    Goes c s (fun t => asked t want ST_OK ∧ powerKept s t ∧ memKept s t ∧ t.kn = s.kn ∧ t.tiles = s.tiles))
  ∧ (∀ src s, powerFree s → s.powerState = 2 → Goes (.pwrReqP0 src) s (fun t => asked t 0 ST_OK ∧ runState t s ∧ arrived t
      ∧ t.pwr.gated = false ∧ memKept s t ∧ t.kn = s.kn ∧ t.tiles = s.tiles))
  ∧ (∀ (src : Fin 22) s, powerFree s → s.powerState = 3 ∨ s.powerState = 4 → s.svc.thermtrip = false ∨ (rankOf src ≤ 3 ∧ s.cool = true) →
    Goes (.pwrReqP0 src) s (fun t => asked t 0 ST_OK ∧ headsFor t 0 false ∧ t.powerState = s.powerState ∧ t.svc.thermtrip = false
      ∧ t.fget PWR_STAT PWR_STAT_SEQ_FAIL = 0 ∧ memKept s t ∧ t.kn = s.kn))
  ∧ (∀ (src : Fin 22) s, powerFree s → s.powerState = 4 → s.svc.thermtrip = true → 3 < rankOf src ∨ s.cool = false →
    Goes (.pwrReqP0 src) s (fun t => asked t 0 ST_BUSY ∧ powerKept s t ∧ t.svc.thermtrip = true))
  ∧ (∀ src s, powerFree s → s.powerState ≤ 1 → Goes (.pwrReqP2 src) s (fun t => asked t 2 ST_OK ∧ headsFor t 2 false
      ∧ t.powerState = s.powerState ∧ memKept s t ∧ t.kn = s.kn ∧ t.tiles = s.tiles))
  ∧ (∀ src s, powerFree s → s.powerState = 3 ∨ s.powerState = 4 → Goes (.pwrReqP2 src) s (fun t => asked t 2 ST_RANGE ∧ powerKept s t))
  ∧ (∀ src s, powerFree s → s.powerState = 3 → Goes (.pwrReqP4 src) s (fun t => asked t 4 ST_OK ∧ headsFor t 4 false ∧ t.powerState = 3 ∧ memKept s t))
  ∧ (∀ src s, powerFree s → s.powerState = 4 → Goes (.pwrReqP3 src) s (fun t => asked t 3 ST_RANGE ∧ powerKept s t ∧ memKept s t))
  ∧ (∀ src c want s, (c, want) ∈ [(Instr.pwrReqP3 src, 3), (.pwrReqP4 src, 4)] → powerFree s → s.powerState ≤ 2 → s.allGone = true →
    s.sec.d2Pending = none → s.debugLevel ≠ 2 →
    Goes c s (fun t => asked t want ST_OK ∧ headsFor t want false ∧ (∀ p, p < 32 → t.pstate p = 0) ∧ t.debugLevel = s.debugLevel
      ∧ memKept s t ∧ t.kn = s.kn))
  ∧ (∀ (src : Fin 22) c want s, (c, want) ∈ [(Instr.pwrReqP3 src, 3), (.pwrReqP4 src, 4)] → powerFree s → s.powerState ≤ 2 → s.allGone = false →
    3 ≤ rankOf src → Goes c s (fun t => asked t want ST_BUSY ∧ powerKept s t ∧ memKept s t ∧ t.kn = s.kn ∧ t.tiles = s.tiles))
  ∧ (∀ (src : Fin 22) c want s, (c, want) ∈ [(Instr.pwrReqP3 src, 3), (.pwrReqP4 src, 4)] → powerFree s → s.powerState ≤ 2 → s.allGone = false →
    rankOf src ≤ 2 → s.sec.d2Pending = none →
    Goes c s (fun t => asked t want ST_OK ∧ headsFor t want true ∧ memKept s t
      ∧ (∀ n, n < 64 → s.gstate n = gACTIVE → t.gstate n = gTEARDOWN ∧ t.fget (KNOT_GLOVE_CTL n) KNOT_GLOVE_CTL_CAUSE = causeSECURITY)))
  ∧ (∀ s, s.pwr.goal = some 2 → s.anyRunning = false →
    Goes .p2TileGate s (fun t => t.powerState = 2 ∧ arrived t ∧ t.pwr.gated = true ∧ memKept s t ∧ t.kn = s.kn ∧ t.tiles = s.tiles))
  ∧ (∀ s, s.pwr.goal ≠ some 2 ∨ s.anyRunning = true → Goes .p2TileGate s (nothing s))
  ∧ (∀ s, s.powerState = 2 → s.pwr.goal = none → s.fget PWR_STATE PWR_STATE_AUTOWAKE = 1 → s.anyReady = true →
    Goes .p2Autowake s (fun t => runState t s ∧ arrived t ∧ t.pwr.gated = false ∧ memKept s t ∧ t.kn = s.kn ∧ t.tiles = s.tiles))
  ∧ (∀ s, s.fget PWR_STATE PWR_STATE_AUTOWAKE = 0 ∨ s.anyReady = false → Goes .p2Autowake s (nothing s))
  ∧ (∀ s, s.pwr.goal = some 0 → s.railsUp = true → Goes .powerTransitionDone s (fun t => runState t s ∧ arrived t ∧ memKept s t ∧ t.kn = s.kn))
  ∧ (∀ s g, s.pwr.goal = some g → g = 3 ∨ g = 4 → s.pwr.waitGloves = false → Goes .powerTransitionDone s (fun t => t.powerState = g ∧ arrived t
      ∧ t.tiles = [] ∧ t.slice = [] ∧ t.svc.vrEn = [] ∧ (∀ a, t.byte a = if g = 4 then 0 else s.byte a)))
  ∧ (∀ s g, s.pwr.goal = some g → g = 3 ∨ g = 4 → s.pwr.waitGloves = true → s.allGone = true → s.debugLevel ≠ 2 →
    Goes .powerTransitionDone s (fun t => headsFor t g false ∧ (∀ p, p < 32 → t.pstate p = 0) ∧ memKept s t))
  ∧ (∀ s, s.pwr.goal = none ∨ s.pwr.goal = some 2 ∨ (s.pwr.goal = some 0 ∧ s.railsUp = false) → Goes .powerTransitionDone s (nothing s))
  ∧ (∀ (i : Fin 12) s, Goes (.pllUnlock i) s (fun t => (t.reg CLK_STAT).getLsbD i = false ∧ (t.reg CLK_STAT).getLsbD (12 + i) = true
      ∧ Tab.look (fun _ => false) t.pwr.held i = true ∧ raised s t 0x0E01 0 0x3F i 0
      ∧ (∀ j : Fin 256, i.val < 4 → j.val / 64 = i.val → tileFenced t j)
      ∧ (4 ≤ i.val → t.tiles = s.tiles ∧ t.kn = s.kn) ∧ memKept s t))
  ∧ (∀ (i : Fin 12) s, Goes (.pllRelock i) s (fun t => (t.reg CLK_STAT).getLsbD i = true ∧ Tab.look (fun _ => false) t.pwr.held i = false
      ∧ (t.reg CLK_STAT).getLsbD (12 + i) = (s.reg CLK_STAT).getLsbD (12 + i) ∧ regsBut s t [CLK_STAT] ∧ memKept s t ∧ t.tiles = s.tiles ∧ t.kn = s.kn))
  ∧ (∀ (e : Fin 2) s, Goes (.fabrefClkLost e) s (fun t => Tab.look (fun _ => false) t.pwr.fabLost e = true
      ∧ (∀ p, p < 32 → p / 16 = e.val → t.pstate p = 0) ∧ memKept s t ∧ t.kn = s.kn ∧ t.tiles = s.tiles))

namespace Sys2Proof.Claims

open Machine Reg

/-- A save's record is being programmed (R400, R406). -/
def saving (s : State) : Prop := s.powerState = 5 ∧ s.pwr.building ≠ none

/-- What a reset with RST_CAUSE's bit b leaves (R388, R399): memory, tiles, caches, queues and engines at their reset values, D0
without a nonce, what the eMRAM and the NVS hold as before, and every register without a sticky field or a home in always-on logic
at its reset value. -/
def resetTaken (s t : State) (b : Nat) : Prop :=
  t.mem = [] ∧ t.tiles = [] ∧ t.slice = [] ∧ t.kn = {} ∧ t.hub = {} ∧ t.brm = {} ∧ t.rt = {} ∧ t.time = {} ∧ t.ports = [] ∧ t.lanyard = 0
    ∧ t.svc = {} ∧ t.debugLevel = 0 ∧ t.sec.nonceAt = none ∧ t.sec.inject = false ∧ t.pwr.cause = b ∧ t.pwr.released = 0 ∧ t.powerState = 0
    ∧ t.lifecycle = s.lifecycle ∧ t.sec.images = s.sec.images ∧ t.sec.cfgA = s.sec.cfgA ∧ t.sec.cfgB = s.sec.cfgB
    ∧ t.sec.ownerKey = s.sec.ownerKey ∧ t.sec.inNvs = s.sec.inNvs ∧ t.pwr.sagA = s.pwr.sagA ∧ t.pwr.sagB = s.pwr.sagB
    ∧ (∀ o, o ∈ [SEC_CFG_FLOOR, NVS_CNT1, SEC_FW_SVN 0, SEC_FW_SVN 1, SEC_FW_SVN 2, SEC_FW_SVN 3, SEC_FW_SVN 4, SEC_JNL_EXPORTED] → t.reg o = s.reg o)
    ∧ (∀ o, o ∉ keptRegs → o ∉ [SEC_STAT, SEC_JNL_HEAD, PWR_SAG_STAT, RST_CAUSE, RST_CTL, PWR_STATE] → stickyBits o (s.reg o) = 0 →
        t.reg o = regReset o)

/-- A reset other than PORST_N keeps the causes of earlier ones and adds its own. -/
def causeAdded (s t : State) (b : Nat) : Prop :=
  ∀ i, (t.reg RST_CAUSE).getLsbD i = (decide (i = b) || (s.reg RST_CAUSE).getLsbD i)

/-- A reset is held until the save ends (R400); nothing else changes. -/
def resetHeld (s t : State) (b : Nat) : Prop := t = { s with pwr := { s.pwr with heldResets := s.pwr.heldResets ++ [b] } }

/-- A save has started (R404 to R407): SAVE, the record under way, rails and tiles off, every port without its link, D0, and the
local range as before. -/
def saveStarted (s t : State) (cause : Nat) : Prop :=
  t.powerState = 5 ∧ t.fget PWR_STATE PWR_STATE_BUSY = 0 ∧ t.fget PWR_SAG_STAT PWR_SAG_STAT_DONE = 0 ∧ t.debugLevel = 0
    ∧ (∃ r, t.pwr.building = some r ∧ r.seq = max (sagSeq s.pwr.sagA) (sagSeq s.pwr.sagB) + 1 ∧ r.cause = cause ∧ r.lanyard = s.lanyard
        ∧ r.gloves = ((List.range 64).filter (fun n => s.gstate n != gFREE)).map s.sagGlove)
    ∧ t.svc.vrEn = [] ∧ t.tiles = [] ∧ t.slice = [] ∧ t.kn.tasks = [] ∧ (∀ p, p < 32 → t.pstate p = 0)
    ∧ t.pwr.sagA = s.pwr.sagA ∧ t.pwr.sagB = s.pwr.sagB ∧ memKept s t

/-- A release goes on to the service (R363, R401): the security and service firmware boot, and a configuration record is valid. -/
def bootable (s : State) : Prop :=
  s.pwr.released ≠ 8 ∧ s.powerState ≠ 5 ∧ s.sec.uartBoot = false ∧ s.bootSlot 1 ≠ none ∧ s.bootSlot 2 ≠ none
    ∧ (s.cfgValid s.sec.cfgA = true ∨ s.cfgValid s.sec.cfgB = true)

/-- A block reset's answer in RST_BLOCK (R403). -/
def blockAnswer (t : State) (unit st : Nat) : Prop := t.fget RST_BLOCK RST_BLOCK_UNIT = unit ∧ t.fget RST_BLOCK RST_BLOCK_STATUS = st

/-- A unit that is not idle is not reset: nothing but the answer changes. -/
def blockRefused (s t : State) (unit : Nat) : Prop :=
  blockAnswer t unit ST_BUSY ∧ t = { s with ctl := t.ctl } ∧ regsBut s t [RST_BLOCK]

/-- A unit is reset: the answer, and the event. -/
def blockReset (s t : State) (kind unit : Nat) : Prop := blockAnswer t unit ST_OK ∧ raised s t 0x0F01 0 0x3F kind unit ∧ memKept s t

end Sys2Proof.Claims

/-- R338, R399 to R403, R406, R408, R410 to R413: each reset source and what it clears and keeps; a reset in a save waits for its end;
the release after a reset, with and without firmware, and the resume from a sag record; block resets; the start of a save, its
end, its failure, and the restart after it. -/
def Obligations.ResetsAndSags : Prop :=
  (∀ s, Canonical s → Goes .porstN s (fun t => resetTaken s t 0 ∧ t.reg RST_CAUSE = 1 ∧ t.sec.seedHeld = false ∧ t.pwr.building = none))
  ∧ (∀ s, Canonical s → ¬ saving s → Goes .sysrstN s (fun t => resetTaken s t 1 ∧ causeAdded s t 1 ∧ t.sec.seedHeld = s.sec.seedHeld))
  ∧ (∀ s, saving s → Goes .sysrstN s (fun t => resetHeld s t 1))
  ∧ (∀ s, Canonical s → Goes .securityViolation s (fun t => resetTaken s t 4 ∧ causeAdded s t 4 ∧ t.sec.seedHeld = false))
  ∧ (∀ (src : Fin 22) s, Canonical s → ¬ saving s → rankOf src ≤ 3 →
    Goes (.softwareFullReset src) s (fun t => resetTaken s t 6 ∧ causeAdded s t 6 ∧ t.fget RST_CTL RST_CTL_STATUS = ST_OK))
  ∧ (∀ (src : Fin 22) s, 3 < rankOf src → Goes (.softwareFullReset src) s (fun t => t.fget RST_CTL RST_CTL_STATUS = ST_DENIED
      ∧ regsBut s t [RST_CTL] ∧ t = { s with ctl := t.ctl }))
  ∧ (∀ s, Canonical s → ¬ saving s → s.svc.wdog + 2000000000 ≤ s.lanyard.toNat → s.sec.firstRun = [] →
    Goes .serviceWatchdog s (fun t => resetTaken s t 2 ∧ causeAdded s t 2 ∧ t.sec.seedHeld = s.sec.seedHeld))
  ∧ (∀ s k a, 1 ≤ k → k ≤ 5 → s.svc.wdog + 2000000000 ≤ s.lanyard.toNat → Tab.look (fun _ => none) s.sec.firstRun k = some a →
    s.lanyard.toNat < a + 60000000000 → Goes .serviceWatchdog s (fun t => (t.image k (s.runSlot k)).failed = true))
  ∧ (∀ s, s.lanyard.toNat < s.svc.wdog + 2000000000 → Goes .serviceWatchdog s (nothing s))
  ∧ (∀ r s, bootable s → s.sagToResume = none → s.svc.thermtrip = false → Goes (.resetRelease r) s (fun t => t.pwr.released = 8
      ∧ t.fget RST_CTL RST_CTL_READY = 1 ∧ t.fget RST_CTL RST_CTL_PART_READY = 1 ∧ t.railsUp = true ∧ t.sec.seedHeld = true
      ∧ (∀ c ∈ r.badChannels, t.fget (HBM_CH_STAT c) HBM_CH_STAT_STATE = 5) ∧ (∀ p ∈ r.badPorts, t.pstate p = s.pstate p) ∧ memKept s t))
  ∧ (∀ r s q g, bootable s → s.sagToResume = some q → q.tail = [] → q.counters = [] → q.gloves = [g] → g.slot < 64 →
    Goes (.resetRelease r) s (fun t => t.lanyard = q.lanyard ∧ t.sec.lastResumed = q.seq ∧ t.fget RST_CAUSE RST_CAUSE_SAG = 1
      ∧ t.gstate g.slot = gRETIRED ∧ t.gid g.slot = g.gid % 65536 ∧ t.gepoch g.slot = (g.epoch + 1) % 65536
      ∧ t.reg (KNOT_GLOVE_STEP g.slot) = g.lastStep
      ∧ journalled s t 0x0016 0x3F (leBytes 8 q.seq ++ leBytes 8 q.cause ++ leBytes 8 q.lanyard.toNat)))
  ∧ (∀ r s, s.pwr.released ≠ 8 → s.powerState ≠ 5 → s.sec.uartBoot = false → s.bootSlot 1 = none →
    Goes (.resetRelease r) s (fun t => t.sec.uartBoot = true ∧ t.fget RST_CTL RST_CTL_READY = s.fget RST_CTL RST_CTL_READY ∧ memKept s t))
  ∧ (∀ r s, s.pwr.released ≠ 8 → s.powerState ≠ 5 → s.sec.uartBoot = false → s.bootSlot 1 ≠ none → s.bootSlot 2 = none → s.sagToResume = none →
    Goes (.resetRelease r) s (fun t => t.sec.bootFail = true ∧ t.powerState = 4 ∧ t.fget RST_CTL RST_CTL_READY = s.fget RST_CTL RST_CTL_READY ∧ memKept s t))
  ∧ (∀ r s, s.pwr.released = 8 ∨ s.powerState = 5 ∨ s.sec.uartBoot = true → Goes (.resetRelease r) s (nothing s))
  ∧ (∀ (n : Fin 256) s, s.fenced n = true → (s.tile n).occupied = 0 → s.fget (TILE_TEST n) TILE_TEST_RUNNING = 0 →
    Goes (.rstBlockTile n) s (fun t => blockReset s t 1 n ∧ t.tile n = {} ∧ (∀ m, m ≠ n.val → t.tile m = s.tile m)
      ∧ t.reg (TILE_CAP n) = s.reg (TILE_CAP n) ∧ t.reg (TILE_COLMAP n) = s.reg (TILE_COLMAP n)))
  ∧ (∀ (n : Fin 256) s, s.fenced n = false ∨ (s.tile n).occupied ≠ 0 ∨ s.fget (TILE_TEST n) TILE_TEST_RUNNING = 1 →
    Goes (.rstBlockTile n) s (fun t => blockRefused s t n))
  ∧ (∀ (p : Fin 32) s, s.pstate p = 0 ∨ s.pstate p = 5 → Goes (.rstBlockPort p) s (fun t => blockReset s t 2 p ∧ (t.port p).replay = []
      ∧ t.reg (PORT_FI_CTL p) = regReset (PORT_FI_CTL p) ∧ t.reg (PORT_CREDIT p) = regReset (PORT_CREDIT p)
      ∧ (∀ c, c < 64 → t.reg (PORT_CIRC p c) = 0) ∧ t.pstate p = s.pstate p ∧ (∀ q, q ≠ p.val → t.port q = s.port q)))
  ∧ (∀ (p : Fin 32) s, s.pstate p ≠ 0 → s.pstate p ≠ 5 → Goes (.rstBlockPort p) s (fun t => blockRefused s t p))
  ∧ (∀ (c : Fin 256) s, s.fget (HBM_CH_STAT c) HBM_CH_STAT_STATE = 4 ∨ s.fget (HBM_CH_STAT c) HBM_CH_STAT_STATE = 5 →
    Goes (.rstBlockHbmChannel c) s (fun t => blockReset s t 3 c ∧ t.fget (HBM_CH_STAT c) HBM_CH_STAT_STATE = 4 ∧ t.reg (HBM_TG_CTL c) = 0))
  ∧ (∀ (c : Fin 256) s, s.fget (HBM_CH_STAT c) HBM_CH_STAT_STATE ≤ 3 → Goes (.rstBlockHbmChannel c) s (fun t => blockRefused s t c))
  ∧ (∀ (e : Fin 2) s, s.fget (BRM_ENG_STAT e) BRM_ENG_STAT_PHASE = 0 → Goes (.rstBlockBrimir e) s (fun t => blockReset s t 4 e
      ∧ t.reg (BRM_ENG_STAT e) = regReset (BRM_ENG_STAT e) ∧ Tab.look (fun _ => none) t.brm.eng e = none
      ∧ ∀ f, f ≠ e.val → Tab.look (fun _ => none) t.brm.eng f = Tab.look (fun _ => none) s.brm.eng f))
  ∧ (∀ (e : Fin 2) s, s.fget (BRM_ENG_STAT e) BRM_ENG_STAT_PHASE ≠ 0 → Goes (.rstBlockBrimir e) s (fun t => blockRefused s t e))
  ∧ (∀ s, s.hub.colls = [] → s.hub.slots = [] → Goes .rstBlockColl s (fun t => blockReset s t 5 0 ∧ t.hub.past = [] ∧ t.hub.transfers = s.hub.transfers))
  ∧ (∀ s k c, (k, some c) ∈ s.hub.colls → Goes .rstBlockColl s (fun t => blockRefused s t 0))
  ∧ (∀ (cause : BitVec 4) s, s.powerState ≠ 5 → Goes (.sagDetect cause) s (fun t => saveStarted s t cause.toNat))
  ∧ (∀ (cause : BitVec 4) s, s.powerState = 5 → Goes (.sagDetect cause) s (nothing s))
  ∧ (∀ (rail : Fin 8) s, s.powerState ≤ 2 → Goes (.railPgoodLost rail) s (fun t => raised s t 0x0D02 0 0x3F rail 0 ∧ saveStarted s t 8))
  ∧ (∀ (rail : Fin 8) s, 2 < s.powerState → Goes (.railPgoodLost rail) s (nothing s))
  ∧ (∀ s r, s.pwr.building = some r → s.pwr.heldResets = [] → Goes .sagSaveComplete s (fun t => t.pwr.building = none
      ∧ t.fget PWR_SAG_STAT PWR_SAG_STAT_DONE = 1 ∧ regsBut s t [PWR_SAG_STAT] ∧ memKept s t
      ∧ (if sagSeq s.pwr.sagA ≤ sagSeq s.pwr.sagB then t.pwr.sagA = some r ∧ t.pwr.sagB = none else t.pwr.sagB = some r ∧ t.pwr.sagA = none)))
  ∧ (∀ s r b, s.pwr.building = some r → s.pwr.heldResets = [b] → b = 1 ∨ b = 2 ∨ b = 3 ∨ b = 6 →
    Goes .sagSaveComplete s (fun t => t.mem = [] ∧ t.pwr.cause = b ∧ t.pwr.building = none ∧ causeAdded s t b ∧ t.fget PWR_SAG_STAT PWR_SAG_STAT_DONE = 1))
  ∧ (∀ s r, s.pwr.building = some r → s.pwr.heldResets = [] → Goes .sagEnergyShort s (fun t => t.pwr.building = none ∧ t.pwr.sagA = s.pwr.sagA
      ∧ t.pwr.sagB = s.pwr.sagB ∧ t.fget PWR_SAG_STAT PWR_SAG_STAT_SHORT = 1 ∧ regsBut s t [PWR_SAG_STAT] ∧ memKept s t))
  ∧ (∀ s, s.pwr.building = none → Goes .sagSaveComplete s (nothing s) ∧ Goes .sagEnergyShort s (nothing s))
  ∧ (∀ s, Canonical s → s.powerState = 5 → s.pwr.building = none → Goes .sagRestart s (fun t => resetTaken s t 5 ∧ t.reg RST_CAUSE = s.reg RST_CAUSE))
  ∧ (∀ s, s.powerState ≠ 5 ∨ s.pwr.building ≠ none → Goes .sagRestart s (nothing s))
  ∧ (∀ s, s.fget PWR_SAG_STAT PWR_SAG_STAT_GLITCHES < 2 ^ 48 - 1 → Goes .pwrwarnGlitch s (fun t =>
      t.fget PWR_SAG_STAT PWR_SAG_STAT_GLITCHES = s.fget PWR_SAG_STAT PWR_SAG_STAT_GLITCHES + 1 ∧ regsBut s t [PWR_SAG_STAT] ∧ svcOnly s t))


/-- A step with command c at the front of the queue is the command's effect with the rest of the queue still waiting
(assumption 1). -/
def Obligations.StepRunsFront : Prop :=
  ∀ (c : Instr) (r : List Instr) (s : State), s.pending = c :: r → step s = exec c { s with pending := r }

/-- The model's choice of assumption 2: a step with no command waiting is one tick of TCLK, and leaves the queue empty. -/
def Obligations.EmptyQueueTicks : Prop :=
  ∀ s : State, s.pending = [] → ∃ t, step s = .next t ∧ t.pending = []

/-- The model's choice of assumption 1: every command is carried out in every state: exec answers a next state and leaves the
queue as it is. No command of the table ends in a fault or is turned away. -/
def Obligations.EveryCommandAnswers : Prop :=
  ∀ (c : Instr) (s : State), Goes c s (fun _ => True)

/-- The memory's form: every step keeps the canonical form of the memory, of the control registers and of the slices'
exact cells. -/
def Obligations.CanonicalKept : Prop :=
  ∀ s t : State, Canonical s → step s = .next t → Canonical t

/-- The state after reset has the canonical form. -/
def Obligations.CanonicalAtReset : Prop := Canonical State.reset
end

