-- ==== Sys2Proof/Laws/Tab.lean ====
section
/-! SUPPORT. Laws of sparse tables: a read after a write, and that every operation keeps the canonical form. -/

namespace Sys2Proof.Machine

variable {α : Type}

theorem Tab.look_enter (d : Nat → α) (k : Nat) (v : α) (t : Tab α) (j : Nat) :
    Tab.look d (Tab.enter k v t) j = if j = k then v else Tab.look d t j := by
  induction t with
  | nil => simp [Tab.enter, Tab.look]
  | cons e t ih =>
    obtain ⟨i, w⟩ := e
    simp only [Tab.enter]
    split
    · rename_i h; subst h
      simp only [Tab.look]; split <;> simp_all
    · split
      · simp only [Tab.look]
      · simp only [Tab.look, ih]
        split <;> split <;> simp_all

theorem Tab.look_drop (d : Nat → α) (k : Nat) (t : Tab α) (j : Nat) :
    Tab.look d (Tab.drop k t) j = if j = k then d j else Tab.look d t j := by
  induction t with
  | nil => simp [Tab.drop, Tab.look]
  | cons e t ih =>
    obtain ⟨i, w⟩ := e
    simp only [Tab.drop]
    split
    · rename_i h; subst h
      simp only [ih, Tab.look]; split <;> simp_all
    · simp only [Tab.look, ih]
      split <;> split <;> simp_all

theorem Tab.look_dropIf (d : Nat → α) (p : Nat → Bool) (t : Tab α) (j : Nat) :
    Tab.look d (Tab.dropIf p t) j = if p j then d j else Tab.look d t j := by
  induction t with
  | nil => simp [Tab.dropIf, Tab.look]
  | cons e t ih =>
    obtain ⟨i, w⟩ := e
    simp only [Tab.dropIf]
    split
    · simp only [ih, Tab.look]
      by_cases e : j = i
      · subst e; simp [*]
      · simp [e]
    · simp only [Tab.look, ih]
      split <;> split <;> simp_all

/-- A read after a write gives the value written at its key, and the earlier value at every other. -/
theorem Tab.look_store [DecidableEq α] (d : Nat → α) (t : Tab α) (k : Nat) (v : α) (j : Nat) :
    Tab.look d (Tab.store d t k v) j = if j = k then v else Tab.look d t j := by
  unfold Tab.store
  split
  · rename_i h; rw [Tab.look_drop]; split
    · rename_i e; rw [e, h]
    · rfl
  · exact Tab.look_enter d k v t j

@[simp] theorem Tab.look_store_same [DecidableEq α] (d : Nat → α) (t : Tab α) (k : Nat) (v : α) :
    Tab.look d (Tab.store d t k v) k = v := by simp [Tab.look_store]

@[simp] theorem Tab.look_nil (d : Nat → α) (k : Nat) : Tab.look d [] k = d k := rfl

theorem Tab.above_trans {i k : Nat} {t : Tab α} (h : i < k) (ht : Tab.above k t = true) : Tab.above i t = true := by
  induction t with
  | nil => rfl
  | cons e t ih => simp only [Tab.above, Bool.and_eq_true, decide_eq_true_eq] at *; exact ⟨by omega, ih ht.2⟩

theorem Tab.above_enter {i k : Nat} {v : α} {t : Tab α} (h : i < k) (ht : Tab.above i t = true) :
    Tab.above i (Tab.enter k v t) = true := by
  induction t with
  | nil => simp [Tab.enter, Tab.above, h]
  | cons e t ih =>
    simp only [Tab.above, Bool.and_eq_true, decide_eq_true_eq] at ht
    simp only [Tab.enter]
    split
    · simp [Tab.above, h, ht.2]
    · split <;> simp [Tab.above, h, ht.1, ht.2, ih ht.2]

theorem Tab.above_drop {i k : Nat} {t : Tab α} (ht : Tab.above i t = true) : Tab.above i (Tab.drop k t) = true := by
  induction t with
  | nil => rfl
  | cons e t ih =>
    simp only [Tab.above, Bool.and_eq_true, decide_eq_true_eq] at ht
    simp only [Tab.drop]
    split
    · exact ih ht.2
    · simp [Tab.above, ht.1, ih ht.2]

theorem Tab.above_dropIf {i : Nat} {p : Nat → Bool} {t : Tab α} (ht : Tab.above i t = true) :
    Tab.above i (Tab.dropIf p t) = true := by
  induction t with
  | nil => rfl
  | cons e t ih =>
    simp only [Tab.above, Bool.and_eq_true, decide_eq_true_eq] at ht
    simp only [Tab.dropIf]
    split
    · exact ih ht.2
    · simp [Tab.above, ht.1, ih ht.2]

theorem Tab.look_above {d : Nat → α} {t : Tab α} {k : Nat} (h : Tab.above k t = true) (j : Nat) (hj : j ≤ k) : Tab.look d t j = d j := by
  induction t with
  | nil => rfl
  | cons e t ih =>
    simp only [Tab.above, Bool.and_eq_true, decide_eq_true_eq] at h
    simp only [Tab.look]
    rw [if_neg (by omega), ih h.2]

variable [DecidableEq α] {d : Nat → α}

@[simp] theorem Tab.wf_nil : Tab.wf d [] = true := rfl

@[simp] theorem Tab.wf_drop {k : Nat} {t : Tab α} (h : Tab.wf d t = true) : Tab.wf d (Tab.drop k t) = true := by
  induction t with
  | nil => rfl
  | cons e t ih =>
    simp only [Tab.wf, Bool.and_eq_true, decide_eq_true_eq] at h
    simp only [Tab.drop]
    split
    · exact ih h.2
    · simp [Tab.wf, h.1.1, Tab.above_drop h.1.2, ih h.2]

@[simp] theorem Tab.wf_dropIf {p : Nat → Bool} {t : Tab α} (h : Tab.wf d t = true) : Tab.wf d (Tab.dropIf p t) = true := by
  induction t with
  | nil => rfl
  | cons e t ih =>
    simp only [Tab.wf, Bool.and_eq_true, decide_eq_true_eq] at h
    simp only [Tab.dropIf]
    split
    · exact ih h.2
    · simp [Tab.wf, h.1.1, Tab.above_dropIf h.1.2, ih h.2]

theorem Tab.wf_enter {k : Nat} {v : α} {t : Tab α} (hv : v ≠ d k) (h : Tab.wf d t = true) :
    Tab.wf d (Tab.enter k v t) = true := by
  induction t with
  | nil => simp [Tab.enter, Tab.wf, Tab.above, hv]
  | cons e t ih =>
    obtain ⟨i, w⟩ := e
    simp only [Tab.wf, Bool.and_eq_true, decide_eq_true_eq] at h
    simp only [Tab.enter]
    split
    · rename_i e; subst e; simp [Tab.wf, hv, h.1.2, h.2]
    · split
      · rename_i l
        simp [Tab.wf, Tab.above, hv, l, Tab.above_trans l h.1.2, h.1.1, h.1.2, h.2]
      · have l : i < k := by omega
        simp [Tab.wf, h.1.1, Tab.above_enter l h.1.2, ih h.2]

/-- A write keeps the canonical form. -/
@[simp] theorem Tab.wf_store {t : Tab α} {k : Nat} {v : α} (h : Tab.wf d t = true) : Tab.wf d (Tab.store d t k v) = true := by
  unfold Tab.store
  split
  · exact Tab.wf_drop h
  · exact Tab.wf_enter ‹_› h

/-- Two tables in the canonical form that read alike are the same data. -/
theorem Tab.ext_look {t u : Tab α} (ht : Tab.wf d t = true) (hu : Tab.wf d u = true)
    (h : ∀ k, Tab.look d t k = Tab.look d u k) : t = u := by
  induction t generalizing u with
  | nil =>
    cases u with
    | nil => rfl
    | cons e u =>
      obtain ⟨i, w⟩ := e
      simp only [Tab.wf, Bool.and_eq_true, decide_eq_true_eq] at hu
      have := h i
      simp only [Tab.look, if_pos] at this
      exact absurd this.symm hu.1.1
  | cons e t ih =>
    obtain ⟨i, w⟩ := e
    simp only [Tab.wf, Bool.and_eq_true, decide_eq_true_eq] at ht
    cases u with
    | nil =>
      have := h i
      simp only [Tab.look, if_pos] at this
      exact absurd this ht.1.1
    | cons e u =>
      obtain ⟨j, x⟩ := e
      simp only [Tab.wf, Bool.and_eq_true, decide_eq_true_eq] at hu
      have hi := h i
      have hj := h j
      simp only [Tab.look, if_pos] at hi hj
      rcases Nat.lt_trichotomy i j with l | l | l
      · rw [if_neg (by omega), Tab.look_above hu.1.2 i (by omega)] at hi
        exact absurd hi ht.1.1
      · subst l
        simp only [if_pos] at hi
        subst hi
        refine congrArg _ (ih ht.2 hu.2 fun k => ?_)
        have hk := h k
        simp only [Tab.look] at hk
        by_cases e : k = i
        · subst e; rw [Tab.look_above ht.1.2 k (by omega), Tab.look_above hu.1.2 k (by omega)]
        · simpa [e] using hk
      · rw [if_neg (by omega), Tab.look_above ht.1.2 j (by omega)] at hj
        exact absurd hj.symm hu.1.1

end Sys2Proof.Machine
end

