-- ==== Sys2Proof/Laws/State.lean ====
section
/-! SUPPORT. What each update of the state leaves alone, one lemma per field and update and per named read and update, and
what a read gives after a write of the same kind. -/

namespace Sys2Proof.Machine

variable {s : State}

/-- What holds of a read on both branches holds of it on either. -/
theorem at_ite {α : Type} (f : State → α) {c : Prop} [Decidable c] {t u : State} {a : α} (ht : f t = a) (hu : f u = a) :
    f (if c then t else u) = a := by split <;> assumption

/-! ### setReg -/

@[simp] theorem State.setReg_pending (o : Nat) (v : W64) : (s.setReg o v).pending = s.pending := rfl
@[simp] theorem State.setReg_free (o : Nat) (v : W64) : (s.setReg o v).free = s.free := rfl
@[simp] theorem State.setReg_lanyard (o : Nat) (v : W64) : (s.setReg o v).lanyard = s.lanyard := rfl
@[simp] theorem State.setReg_mem (o : Nat) (v : W64) : (s.setReg o v).mem = s.mem := rfl
@[simp] theorem State.setReg_slice (o : Nat) (v : W64) : (s.setReg o v).slice = s.slice := rfl
@[simp] theorem State.setReg_kn (o : Nat) (v : W64) : (s.setReg o v).kn = s.kn := rfl
@[simp] theorem State.setReg_tiles (o : Nat) (v : W64) : (s.setReg o v).tiles = s.tiles := rfl
@[simp] theorem State.setReg_ports (o : Nat) (v : W64) : (s.setReg o v).ports = s.ports := rfl
@[simp] theorem State.setReg_rt (o : Nat) (v : W64) : (s.setReg o v).rt = s.rt := rfl
@[simp] theorem State.setReg_mm (o : Nat) (v : W64) : (s.setReg o v).mm = s.mm := rfl
@[simp] theorem State.setReg_hub (o : Nat) (v : W64) : (s.setReg o v).hub = s.hub := rfl
@[simp] theorem State.setReg_brm (o : Nat) (v : W64) : (s.setReg o v).brm = s.brm := rfl
@[simp] theorem State.setReg_time (o : Nat) (v : W64) : (s.setReg o v).time = s.time := rfl
@[simp] theorem State.setReg_svc (o : Nat) (v : W64) : (s.setReg o v).svc = s.svc := rfl
@[simp] theorem State.setReg_sec (o : Nat) (v : W64) : (s.setReg o v).sec = s.sec := rfl
@[simp] theorem State.setReg_pwr (o : Nat) (v : W64) : (s.setReg o v).pwr = s.pwr := rfl
@[simp] theorem State.byte_setReg (o : Nat) (v : W64) (a' : Nat) : (s.setReg o v).byte a' = s.byte a' := rfl
@[simp] theorem State.knot_setReg (o : Nat) (v : W64) (k' : Nat) : (s.setReg o v).knot k' = s.knot k' := rfl
@[simp] theorem State.task_setReg (o : Nat) (v : W64) (q' : Nat) : (s.setReg o v).task q' = s.task q' := rfl
@[simp] theorem State.tile_setReg (o : Nat) (v : W64) (t' : Nat) : (s.setReg o v).tile t' = s.tile t' := rfl
@[simp] theorem State.ctx_setReg (o : Nat) (v : W64) (k' : CtxId) : (s.setReg o v).ctx k' = s.ctx k' := rfl
@[simp] theorem State.page_setReg (o : Nat) (v : W64) (p' : Nat) : (s.setReg o v).page p' = s.page p' := rfl
@[simp] theorem State.port_setReg (o : Nat) (v : W64) (p' : Nat) : (s.setReg o v).port p' = s.port p' := rfl
@[simp] theorem State.poisoned_setReg (o : Nat) (v : W64) (a' : Nat) : (s.setReg o v).poisoned a' = s.poisoned a' := rfl

/-! ### fset -/

@[simp] theorem State.fset_pending (o : Nat) (f : Fld) (n : Nat) : (s.fset o f n).pending = s.pending := rfl
@[simp] theorem State.fset_free (o : Nat) (f : Fld) (n : Nat) : (s.fset o f n).free = s.free := rfl
@[simp] theorem State.fset_lanyard (o : Nat) (f : Fld) (n : Nat) : (s.fset o f n).lanyard = s.lanyard := rfl
@[simp] theorem State.fset_mem (o : Nat) (f : Fld) (n : Nat) : (s.fset o f n).mem = s.mem := rfl
@[simp] theorem State.fset_slice (o : Nat) (f : Fld) (n : Nat) : (s.fset o f n).slice = s.slice := rfl
@[simp] theorem State.fset_kn (o : Nat) (f : Fld) (n : Nat) : (s.fset o f n).kn = s.kn := rfl
@[simp] theorem State.fset_tiles (o : Nat) (f : Fld) (n : Nat) : (s.fset o f n).tiles = s.tiles := rfl
@[simp] theorem State.fset_ports (o : Nat) (f : Fld) (n : Nat) : (s.fset o f n).ports = s.ports := rfl
@[simp] theorem State.fset_rt (o : Nat) (f : Fld) (n : Nat) : (s.fset o f n).rt = s.rt := rfl
@[simp] theorem State.fset_mm (o : Nat) (f : Fld) (n : Nat) : (s.fset o f n).mm = s.mm := rfl
@[simp] theorem State.fset_hub (o : Nat) (f : Fld) (n : Nat) : (s.fset o f n).hub = s.hub := rfl
@[simp] theorem State.fset_brm (o : Nat) (f : Fld) (n : Nat) : (s.fset o f n).brm = s.brm := rfl
@[simp] theorem State.fset_time (o : Nat) (f : Fld) (n : Nat) : (s.fset o f n).time = s.time := rfl
@[simp] theorem State.fset_svc (o : Nat) (f : Fld) (n : Nat) : (s.fset o f n).svc = s.svc := rfl
@[simp] theorem State.fset_sec (o : Nat) (f : Fld) (n : Nat) : (s.fset o f n).sec = s.sec := rfl
@[simp] theorem State.fset_pwr (o : Nat) (f : Fld) (n : Nat) : (s.fset o f n).pwr = s.pwr := rfl
@[simp] theorem State.byte_fset (o : Nat) (f : Fld) (n : Nat) (a' : Nat) : (s.fset o f n).byte a' = s.byte a' := rfl
@[simp] theorem State.knot_fset (o : Nat) (f : Fld) (n : Nat) (k' : Nat) : (s.fset o f n).knot k' = s.knot k' := rfl
@[simp] theorem State.task_fset (o : Nat) (f : Fld) (n : Nat) (q' : Nat) : (s.fset o f n).task q' = s.task q' := rfl
@[simp] theorem State.tile_fset (o : Nat) (f : Fld) (n : Nat) (t' : Nat) : (s.fset o f n).tile t' = s.tile t' := rfl
@[simp] theorem State.ctx_fset (o : Nat) (f : Fld) (n : Nat) (k' : CtxId) : (s.fset o f n).ctx k' = s.ctx k' := rfl
@[simp] theorem State.page_fset (o : Nat) (f : Fld) (n : Nat) (p' : Nat) : (s.fset o f n).page p' = s.page p' := rfl
@[simp] theorem State.port_fset (o : Nat) (f : Fld) (n : Nat) (p' : Nat) : (s.fset o f n).port p' = s.port p' := rfl
@[simp] theorem State.poisoned_fset (o : Nat) (f : Fld) (n : Nat) (a' : Nat) : (s.fset o f n).poisoned a' = s.poisoned a' := rfl

/-! ### setByte -/

@[simp] theorem State.setByte_pending (a : Nat) (b : Byte) : (s.setByte a b).pending = s.pending := rfl
@[simp] theorem State.setByte_free (a : Nat) (b : Byte) : (s.setByte a b).free = s.free := rfl
@[simp] theorem State.setByte_lanyard (a : Nat) (b : Byte) : (s.setByte a b).lanyard = s.lanyard := rfl
@[simp] theorem State.setByte_ctl (a : Nat) (b : Byte) : (s.setByte a b).ctl = s.ctl := rfl
@[simp] theorem State.setByte_slice (a : Nat) (b : Byte) : (s.setByte a b).slice = s.slice := rfl
@[simp] theorem State.setByte_kn (a : Nat) (b : Byte) : (s.setByte a b).kn = s.kn := rfl
@[simp] theorem State.setByte_tiles (a : Nat) (b : Byte) : (s.setByte a b).tiles = s.tiles := rfl
@[simp] theorem State.setByte_ports (a : Nat) (b : Byte) : (s.setByte a b).ports = s.ports := rfl
@[simp] theorem State.setByte_rt (a : Nat) (b : Byte) : (s.setByte a b).rt = s.rt := rfl
@[simp] theorem State.setByte_mm (a : Nat) (b : Byte) : (s.setByte a b).mm = s.mm := rfl
@[simp] theorem State.setByte_hub (a : Nat) (b : Byte) : (s.setByte a b).hub = s.hub := rfl
@[simp] theorem State.setByte_brm (a : Nat) (b : Byte) : (s.setByte a b).brm = s.brm := rfl
@[simp] theorem State.setByte_time (a : Nat) (b : Byte) : (s.setByte a b).time = s.time := rfl
@[simp] theorem State.setByte_svc (a : Nat) (b : Byte) : (s.setByte a b).svc = s.svc := rfl
@[simp] theorem State.setByte_sec (a : Nat) (b : Byte) : (s.setByte a b).sec = s.sec := rfl
@[simp] theorem State.setByte_pwr (a : Nat) (b : Byte) : (s.setByte a b).pwr = s.pwr := rfl
@[simp] theorem State.reg_setByte (a : Nat) (b : Byte) (o' : Nat) : (s.setByte a b).reg o' = s.reg o' := rfl
@[simp] theorem State.fget_setByte (a : Nat) (b : Byte) (o' : Nat) (g : Fld) : (s.setByte a b).fget o' g = s.fget o' g := rfl
@[simp] theorem State.knot_setByte (a : Nat) (b : Byte) (k' : Nat) : (s.setByte a b).knot k' = s.knot k' := rfl
@[simp] theorem State.task_setByte (a : Nat) (b : Byte) (q' : Nat) : (s.setByte a b).task q' = s.task q' := rfl
@[simp] theorem State.tile_setByte (a : Nat) (b : Byte) (t' : Nat) : (s.setByte a b).tile t' = s.tile t' := rfl
@[simp] theorem State.ctx_setByte (a : Nat) (b : Byte) (k' : CtxId) : (s.setByte a b).ctx k' = s.ctx k' := rfl
@[simp] theorem State.page_setByte (a : Nat) (b : Byte) (p' : Nat) : (s.setByte a b).page p' = s.page p' := rfl
@[simp] theorem State.port_setByte (a : Nat) (b : Byte) (p' : Nat) : (s.setByte a b).port p' = s.port p' := rfl
@[simp] theorem State.gstate_setByte (a : Nat) (b : Byte) (n' : Nat) : (s.setByte a b).gstate n' = s.gstate n' := rfl
@[simp] theorem State.poisoned_setByte (a : Nat) (b : Byte) (a' : Nat) : (s.setByte a b).poisoned a' = s.poisoned a' := rfl
@[simp] theorem State.twin_setByte (a : Nat) (b : Byte) (n' : Nat) : (s.setByte a b).twin n' = s.twin n' := rfl

/-! ### setKnot -/

@[simp] theorem State.setKnot_pending (k : Nat) (v : Knot) : (s.setKnot k v).pending = s.pending := rfl
@[simp] theorem State.setKnot_free (k : Nat) (v : Knot) : (s.setKnot k v).free = s.free := rfl
@[simp] theorem State.setKnot_lanyard (k : Nat) (v : Knot) : (s.setKnot k v).lanyard = s.lanyard := rfl
@[simp] theorem State.setKnot_mem (k : Nat) (v : Knot) : (s.setKnot k v).mem = s.mem := rfl
@[simp] theorem State.setKnot_ctl (k : Nat) (v : Knot) : (s.setKnot k v).ctl = s.ctl := rfl
@[simp] theorem State.setKnot_slice (k : Nat) (v : Knot) : (s.setKnot k v).slice = s.slice := rfl
@[simp] theorem State.setKnot_tiles (k : Nat) (v : Knot) : (s.setKnot k v).tiles = s.tiles := rfl
@[simp] theorem State.setKnot_ports (k : Nat) (v : Knot) : (s.setKnot k v).ports = s.ports := rfl
@[simp] theorem State.setKnot_rt (k : Nat) (v : Knot) : (s.setKnot k v).rt = s.rt := rfl
@[simp] theorem State.setKnot_mm (k : Nat) (v : Knot) : (s.setKnot k v).mm = s.mm := rfl
@[simp] theorem State.setKnot_hub (k : Nat) (v : Knot) : (s.setKnot k v).hub = s.hub := rfl
@[simp] theorem State.setKnot_brm (k : Nat) (v : Knot) : (s.setKnot k v).brm = s.brm := rfl
@[simp] theorem State.setKnot_time (k : Nat) (v : Knot) : (s.setKnot k v).time = s.time := rfl
@[simp] theorem State.setKnot_svc (k : Nat) (v : Knot) : (s.setKnot k v).svc = s.svc := rfl
@[simp] theorem State.setKnot_sec (k : Nat) (v : Knot) : (s.setKnot k v).sec = s.sec := rfl
@[simp] theorem State.setKnot_pwr (k : Nat) (v : Knot) : (s.setKnot k v).pwr = s.pwr := rfl
@[simp] theorem State.reg_setKnot (k : Nat) (v : Knot) (o' : Nat) : (s.setKnot k v).reg o' = s.reg o' := rfl
@[simp] theorem State.fget_setKnot (k : Nat) (v : Knot) (o' : Nat) (g : Fld) : (s.setKnot k v).fget o' g = s.fget o' g := rfl
@[simp] theorem State.byte_setKnot (k : Nat) (v : Knot) (a' : Nat) : (s.setKnot k v).byte a' = s.byte a' := rfl
@[simp] theorem State.tile_setKnot (k : Nat) (v : Knot) (t' : Nat) : (s.setKnot k v).tile t' = s.tile t' := rfl
@[simp] theorem State.ctx_setKnot (k : Nat) (v : Knot) (k' : CtxId) : (s.setKnot k v).ctx k' = s.ctx k' := rfl
@[simp] theorem State.page_setKnot (k : Nat) (v : Knot) (p' : Nat) : (s.setKnot k v).page p' = s.page p' := rfl
@[simp] theorem State.port_setKnot (k : Nat) (v : Knot) (p' : Nat) : (s.setKnot k v).port p' = s.port p' := rfl
@[simp] theorem State.gstate_setKnot (k : Nat) (v : Knot) (n' : Nat) : (s.setKnot k v).gstate n' = s.gstate n' := rfl
@[simp] theorem State.poisoned_setKnot (k : Nat) (v : Knot) (a' : Nat) : (s.setKnot k v).poisoned a' = s.poisoned a' := rfl
@[simp] theorem State.twin_setKnot (k : Nat) (v : Knot) (n' : Nat) : (s.setKnot k v).twin n' = s.twin n' := rfl

/-! ### setTask -/

@[simp] theorem State.setTask_pending (q : Nat) (v : Option Task) : (s.setTask q v).pending = s.pending := rfl
@[simp] theorem State.setTask_free (q : Nat) (v : Option Task) : (s.setTask q v).free = s.free := rfl
@[simp] theorem State.setTask_lanyard (q : Nat) (v : Option Task) : (s.setTask q v).lanyard = s.lanyard := rfl
@[simp] theorem State.setTask_mem (q : Nat) (v : Option Task) : (s.setTask q v).mem = s.mem := rfl
@[simp] theorem State.setTask_ctl (q : Nat) (v : Option Task) : (s.setTask q v).ctl = s.ctl := rfl
@[simp] theorem State.setTask_slice (q : Nat) (v : Option Task) : (s.setTask q v).slice = s.slice := rfl
@[simp] theorem State.setTask_tiles (q : Nat) (v : Option Task) : (s.setTask q v).tiles = s.tiles := rfl
@[simp] theorem State.setTask_ports (q : Nat) (v : Option Task) : (s.setTask q v).ports = s.ports := rfl
@[simp] theorem State.setTask_rt (q : Nat) (v : Option Task) : (s.setTask q v).rt = s.rt := rfl
@[simp] theorem State.setTask_mm (q : Nat) (v : Option Task) : (s.setTask q v).mm = s.mm := rfl
@[simp] theorem State.setTask_hub (q : Nat) (v : Option Task) : (s.setTask q v).hub = s.hub := rfl
@[simp] theorem State.setTask_brm (q : Nat) (v : Option Task) : (s.setTask q v).brm = s.brm := rfl
@[simp] theorem State.setTask_time (q : Nat) (v : Option Task) : (s.setTask q v).time = s.time := rfl
@[simp] theorem State.setTask_svc (q : Nat) (v : Option Task) : (s.setTask q v).svc = s.svc := rfl
@[simp] theorem State.setTask_sec (q : Nat) (v : Option Task) : (s.setTask q v).sec = s.sec := rfl
@[simp] theorem State.setTask_pwr (q : Nat) (v : Option Task) : (s.setTask q v).pwr = s.pwr := rfl
@[simp] theorem State.reg_setTask (q : Nat) (v : Option Task) (o' : Nat) : (s.setTask q v).reg o' = s.reg o' := rfl
@[simp] theorem State.fget_setTask (q : Nat) (v : Option Task) (o' : Nat) (g : Fld) : (s.setTask q v).fget o' g = s.fget o' g := rfl
@[simp] theorem State.byte_setTask (q : Nat) (v : Option Task) (a' : Nat) : (s.setTask q v).byte a' = s.byte a' := rfl
@[simp] theorem State.tile_setTask (q : Nat) (v : Option Task) (t' : Nat) : (s.setTask q v).tile t' = s.tile t' := rfl
@[simp] theorem State.ctx_setTask (q : Nat) (v : Option Task) (k' : CtxId) : (s.setTask q v).ctx k' = s.ctx k' := rfl
@[simp] theorem State.page_setTask (q : Nat) (v : Option Task) (p' : Nat) : (s.setTask q v).page p' = s.page p' := rfl
@[simp] theorem State.port_setTask (q : Nat) (v : Option Task) (p' : Nat) : (s.setTask q v).port p' = s.port p' := rfl
@[simp] theorem State.gstate_setTask (q : Nat) (v : Option Task) (n' : Nat) : (s.setTask q v).gstate n' = s.gstate n' := rfl
@[simp] theorem State.poisoned_setTask (q : Nat) (v : Option Task) (a' : Nat) : (s.setTask q v).poisoned a' = s.poisoned a' := rfl
@[simp] theorem State.twin_setTask (q : Nat) (v : Option Task) (n' : Nat) : (s.setTask q v).twin n' = s.twin n' := rfl

/-! ### setTile -/

@[simp] theorem State.setTile_pending (t : Nat) (v : Tile) : (s.setTile t v).pending = s.pending := rfl
@[simp] theorem State.setTile_free (t : Nat) (v : Tile) : (s.setTile t v).free = s.free := rfl
@[simp] theorem State.setTile_lanyard (t : Nat) (v : Tile) : (s.setTile t v).lanyard = s.lanyard := rfl
@[simp] theorem State.setTile_mem (t : Nat) (v : Tile) : (s.setTile t v).mem = s.mem := rfl
@[simp] theorem State.setTile_ctl (t : Nat) (v : Tile) : (s.setTile t v).ctl = s.ctl := rfl
@[simp] theorem State.setTile_slice (t : Nat) (v : Tile) : (s.setTile t v).slice = s.slice := rfl
@[simp] theorem State.setTile_kn (t : Nat) (v : Tile) : (s.setTile t v).kn = s.kn := rfl
@[simp] theorem State.setTile_ports (t : Nat) (v : Tile) : (s.setTile t v).ports = s.ports := rfl
@[simp] theorem State.setTile_rt (t : Nat) (v : Tile) : (s.setTile t v).rt = s.rt := rfl
@[simp] theorem State.setTile_mm (t : Nat) (v : Tile) : (s.setTile t v).mm = s.mm := rfl
@[simp] theorem State.setTile_hub (t : Nat) (v : Tile) : (s.setTile t v).hub = s.hub := rfl
@[simp] theorem State.setTile_brm (t : Nat) (v : Tile) : (s.setTile t v).brm = s.brm := rfl
@[simp] theorem State.setTile_time (t : Nat) (v : Tile) : (s.setTile t v).time = s.time := rfl
@[simp] theorem State.setTile_svc (t : Nat) (v : Tile) : (s.setTile t v).svc = s.svc := rfl
@[simp] theorem State.setTile_sec (t : Nat) (v : Tile) : (s.setTile t v).sec = s.sec := rfl
@[simp] theorem State.setTile_pwr (t : Nat) (v : Tile) : (s.setTile t v).pwr = s.pwr := rfl
@[simp] theorem State.reg_setTile (t : Nat) (v : Tile) (o' : Nat) : (s.setTile t v).reg o' = s.reg o' := rfl
@[simp] theorem State.fget_setTile (t : Nat) (v : Tile) (o' : Nat) (g : Fld) : (s.setTile t v).fget o' g = s.fget o' g := rfl
@[simp] theorem State.byte_setTile (t : Nat) (v : Tile) (a' : Nat) : (s.setTile t v).byte a' = s.byte a' := rfl
@[simp] theorem State.knot_setTile (t : Nat) (v : Tile) (k' : Nat) : (s.setTile t v).knot k' = s.knot k' := rfl
@[simp] theorem State.task_setTile (t : Nat) (v : Tile) (q' : Nat) : (s.setTile t v).task q' = s.task q' := rfl
@[simp] theorem State.page_setTile (t : Nat) (v : Tile) (p' : Nat) : (s.setTile t v).page p' = s.page p' := rfl
@[simp] theorem State.port_setTile (t : Nat) (v : Tile) (p' : Nat) : (s.setTile t v).port p' = s.port p' := rfl
@[simp] theorem State.gstate_setTile (t : Nat) (v : Tile) (n' : Nat) : (s.setTile t v).gstate n' = s.gstate n' := rfl
@[simp] theorem State.poisoned_setTile (t : Nat) (v : Tile) (a' : Nat) : (s.setTile t v).poisoned a' = s.poisoned a' := rfl
@[simp] theorem State.twin_setTile (t : Nat) (v : Tile) (n' : Nat) : (s.setTile t v).twin n' = s.twin n' := rfl

/-! ### setCtx -/

@[simp] theorem State.setCtx_pending (k : CtxId) (x : Ctx) : (s.setCtx k x).pending = s.pending := rfl
@[simp] theorem State.setCtx_free (k : CtxId) (x : Ctx) : (s.setCtx k x).free = s.free := rfl
@[simp] theorem State.setCtx_lanyard (k : CtxId) (x : Ctx) : (s.setCtx k x).lanyard = s.lanyard := rfl
@[simp] theorem State.setCtx_mem (k : CtxId) (x : Ctx) : (s.setCtx k x).mem = s.mem := rfl
@[simp] theorem State.setCtx_ctl (k : CtxId) (x : Ctx) : (s.setCtx k x).ctl = s.ctl := rfl
@[simp] theorem State.setCtx_slice (k : CtxId) (x : Ctx) : (s.setCtx k x).slice = s.slice := rfl
@[simp] theorem State.setCtx_kn (k : CtxId) (x : Ctx) : (s.setCtx k x).kn = s.kn := rfl
@[simp] theorem State.setCtx_ports (k : CtxId) (x : Ctx) : (s.setCtx k x).ports = s.ports := rfl
@[simp] theorem State.setCtx_rt (k : CtxId) (x : Ctx) : (s.setCtx k x).rt = s.rt := rfl
@[simp] theorem State.setCtx_mm (k : CtxId) (x : Ctx) : (s.setCtx k x).mm = s.mm := rfl
@[simp] theorem State.setCtx_hub (k : CtxId) (x : Ctx) : (s.setCtx k x).hub = s.hub := rfl
@[simp] theorem State.setCtx_brm (k : CtxId) (x : Ctx) : (s.setCtx k x).brm = s.brm := rfl
@[simp] theorem State.setCtx_time (k : CtxId) (x : Ctx) : (s.setCtx k x).time = s.time := rfl
@[simp] theorem State.setCtx_svc (k : CtxId) (x : Ctx) : (s.setCtx k x).svc = s.svc := rfl
@[simp] theorem State.setCtx_sec (k : CtxId) (x : Ctx) : (s.setCtx k x).sec = s.sec := rfl
@[simp] theorem State.setCtx_pwr (k : CtxId) (x : Ctx) : (s.setCtx k x).pwr = s.pwr := rfl
@[simp] theorem State.reg_setCtx (k : CtxId) (x : Ctx) (o' : Nat) : (s.setCtx k x).reg o' = s.reg o' := rfl
@[simp] theorem State.fget_setCtx (k : CtxId) (x : Ctx) (o' : Nat) (g : Fld) : (s.setCtx k x).fget o' g = s.fget o' g := rfl
@[simp] theorem State.byte_setCtx (k : CtxId) (x : Ctx) (a' : Nat) : (s.setCtx k x).byte a' = s.byte a' := rfl
@[simp] theorem State.knot_setCtx (k : CtxId) (x : Ctx) (k' : Nat) : (s.setCtx k x).knot k' = s.knot k' := rfl
@[simp] theorem State.task_setCtx (k : CtxId) (x : Ctx) (q' : Nat) : (s.setCtx k x).task q' = s.task q' := rfl
@[simp] theorem State.page_setCtx (k : CtxId) (x : Ctx) (p' : Nat) : (s.setCtx k x).page p' = s.page p' := rfl
@[simp] theorem State.port_setCtx (k : CtxId) (x : Ctx) (p' : Nat) : (s.setCtx k x).port p' = s.port p' := rfl
@[simp] theorem State.gstate_setCtx (k : CtxId) (x : Ctx) (n' : Nat) : (s.setCtx k x).gstate n' = s.gstate n' := rfl
@[simp] theorem State.poisoned_setCtx (k : CtxId) (x : Ctx) (a' : Nat) : (s.setCtx k x).poisoned a' = s.poisoned a' := rfl
@[simp] theorem State.twin_setCtx (k : CtxId) (x : Ctx) (n' : Nat) : (s.setCtx k x).twin n' = s.twin n' := rfl

/-! ### mapCtx -/

@[simp] theorem State.mapCtx_pending (k : CtxId) (f : Ctx → Ctx) : (s.mapCtx k f).pending = s.pending := rfl
@[simp] theorem State.mapCtx_free (k : CtxId) (f : Ctx → Ctx) : (s.mapCtx k f).free = s.free := rfl
@[simp] theorem State.mapCtx_lanyard (k : CtxId) (f : Ctx → Ctx) : (s.mapCtx k f).lanyard = s.lanyard := rfl
@[simp] theorem State.mapCtx_mem (k : CtxId) (f : Ctx → Ctx) : (s.mapCtx k f).mem = s.mem := rfl
@[simp] theorem State.mapCtx_ctl (k : CtxId) (f : Ctx → Ctx) : (s.mapCtx k f).ctl = s.ctl := rfl
@[simp] theorem State.mapCtx_slice (k : CtxId) (f : Ctx → Ctx) : (s.mapCtx k f).slice = s.slice := rfl
@[simp] theorem State.mapCtx_kn (k : CtxId) (f : Ctx → Ctx) : (s.mapCtx k f).kn = s.kn := rfl
@[simp] theorem State.mapCtx_ports (k : CtxId) (f : Ctx → Ctx) : (s.mapCtx k f).ports = s.ports := rfl
@[simp] theorem State.mapCtx_rt (k : CtxId) (f : Ctx → Ctx) : (s.mapCtx k f).rt = s.rt := rfl
@[simp] theorem State.mapCtx_mm (k : CtxId) (f : Ctx → Ctx) : (s.mapCtx k f).mm = s.mm := rfl
@[simp] theorem State.mapCtx_hub (k : CtxId) (f : Ctx → Ctx) : (s.mapCtx k f).hub = s.hub := rfl
@[simp] theorem State.mapCtx_brm (k : CtxId) (f : Ctx → Ctx) : (s.mapCtx k f).brm = s.brm := rfl
@[simp] theorem State.mapCtx_time (k : CtxId) (f : Ctx → Ctx) : (s.mapCtx k f).time = s.time := rfl
@[simp] theorem State.mapCtx_svc (k : CtxId) (f : Ctx → Ctx) : (s.mapCtx k f).svc = s.svc := rfl
@[simp] theorem State.mapCtx_sec (k : CtxId) (f : Ctx → Ctx) : (s.mapCtx k f).sec = s.sec := rfl
@[simp] theorem State.mapCtx_pwr (k : CtxId) (f : Ctx → Ctx) : (s.mapCtx k f).pwr = s.pwr := rfl
@[simp] theorem State.reg_mapCtx (k : CtxId) (f : Ctx → Ctx) (o' : Nat) : (s.mapCtx k f).reg o' = s.reg o' := rfl
@[simp] theorem State.fget_mapCtx (k : CtxId) (f : Ctx → Ctx) (o' : Nat) (g : Fld) : (s.mapCtx k f).fget o' g = s.fget o' g := rfl
@[simp] theorem State.byte_mapCtx (k : CtxId) (f : Ctx → Ctx) (a' : Nat) : (s.mapCtx k f).byte a' = s.byte a' := rfl
@[simp] theorem State.knot_mapCtx (k : CtxId) (f : Ctx → Ctx) (k' : Nat) : (s.mapCtx k f).knot k' = s.knot k' := rfl
@[simp] theorem State.task_mapCtx (k : CtxId) (f : Ctx → Ctx) (q' : Nat) : (s.mapCtx k f).task q' = s.task q' := rfl
@[simp] theorem State.page_mapCtx (k : CtxId) (f : Ctx → Ctx) (p' : Nat) : (s.mapCtx k f).page p' = s.page p' := rfl
@[simp] theorem State.port_mapCtx (k : CtxId) (f : Ctx → Ctx) (p' : Nat) : (s.mapCtx k f).port p' = s.port p' := rfl
@[simp] theorem State.gstate_mapCtx (k : CtxId) (f : Ctx → Ctx) (n' : Nat) : (s.mapCtx k f).gstate n' = s.gstate n' := rfl
@[simp] theorem State.poisoned_mapCtx (k : CtxId) (f : Ctx → Ctx) (a' : Nat) : (s.mapCtx k f).poisoned a' = s.poisoned a' := rfl
@[simp] theorem State.twin_mapCtx (k : CtxId) (f : Ctx → Ctx) (n' : Nat) : (s.mapCtx k f).twin n' = s.twin n' := rfl

/-! ### setPage -/

@[simp] theorem State.setPage_pending (p : Nat) (v : Page) : (s.setPage p v).pending = s.pending := rfl
@[simp] theorem State.setPage_free (p : Nat) (v : Page) : (s.setPage p v).free = s.free := rfl
@[simp] theorem State.setPage_lanyard (p : Nat) (v : Page) : (s.setPage p v).lanyard = s.lanyard := rfl
@[simp] theorem State.setPage_mem (p : Nat) (v : Page) : (s.setPage p v).mem = s.mem := rfl
@[simp] theorem State.setPage_ctl (p : Nat) (v : Page) : (s.setPage p v).ctl = s.ctl := rfl
@[simp] theorem State.setPage_slice (p : Nat) (v : Page) : (s.setPage p v).slice = s.slice := rfl
@[simp] theorem State.setPage_kn (p : Nat) (v : Page) : (s.setPage p v).kn = s.kn := rfl
@[simp] theorem State.setPage_tiles (p : Nat) (v : Page) : (s.setPage p v).tiles = s.tiles := rfl
@[simp] theorem State.setPage_ports (p : Nat) (v : Page) : (s.setPage p v).ports = s.ports := rfl
@[simp] theorem State.setPage_rt (p : Nat) (v : Page) : (s.setPage p v).rt = s.rt := rfl
@[simp] theorem State.setPage_hub (p : Nat) (v : Page) : (s.setPage p v).hub = s.hub := rfl
@[simp] theorem State.setPage_brm (p : Nat) (v : Page) : (s.setPage p v).brm = s.brm := rfl
@[simp] theorem State.setPage_time (p : Nat) (v : Page) : (s.setPage p v).time = s.time := rfl
@[simp] theorem State.setPage_svc (p : Nat) (v : Page) : (s.setPage p v).svc = s.svc := rfl
@[simp] theorem State.setPage_sec (p : Nat) (v : Page) : (s.setPage p v).sec = s.sec := rfl
@[simp] theorem State.setPage_pwr (p : Nat) (v : Page) : (s.setPage p v).pwr = s.pwr := rfl
@[simp] theorem State.reg_setPage (p : Nat) (v : Page) (o' : Nat) : (s.setPage p v).reg o' = s.reg o' := rfl
@[simp] theorem State.fget_setPage (p : Nat) (v : Page) (o' : Nat) (g : Fld) : (s.setPage p v).fget o' g = s.fget o' g := rfl
@[simp] theorem State.byte_setPage (p : Nat) (v : Page) (a' : Nat) : (s.setPage p v).byte a' = s.byte a' := rfl
@[simp] theorem State.knot_setPage (p : Nat) (v : Page) (k' : Nat) : (s.setPage p v).knot k' = s.knot k' := rfl
@[simp] theorem State.task_setPage (p : Nat) (v : Page) (q' : Nat) : (s.setPage p v).task q' = s.task q' := rfl
@[simp] theorem State.tile_setPage (p : Nat) (v : Page) (t' : Nat) : (s.setPage p v).tile t' = s.tile t' := rfl
@[simp] theorem State.ctx_setPage (p : Nat) (v : Page) (k' : CtxId) : (s.setPage p v).ctx k' = s.ctx k' := rfl
@[simp] theorem State.port_setPage (p : Nat) (v : Page) (p' : Nat) : (s.setPage p v).port p' = s.port p' := rfl
@[simp] theorem State.gstate_setPage (p : Nat) (v : Page) (n' : Nat) : (s.setPage p v).gstate n' = s.gstate n' := rfl
@[simp] theorem State.twin_setPage (p : Nat) (v : Page) (n' : Nat) : (s.setPage p v).twin n' = s.twin n' := rfl

/-! ### setFreeIn -/

@[simp] theorem State.setFreeIn_pending (c : Nat) (l : List Nat) : (s.setFreeIn c l).pending = s.pending := rfl
@[simp] theorem State.setFreeIn_free (c : Nat) (l : List Nat) : (s.setFreeIn c l).free = s.free := rfl
@[simp] theorem State.setFreeIn_lanyard (c : Nat) (l : List Nat) : (s.setFreeIn c l).lanyard = s.lanyard := rfl
@[simp] theorem State.setFreeIn_mem (c : Nat) (l : List Nat) : (s.setFreeIn c l).mem = s.mem := rfl
@[simp] theorem State.setFreeIn_ctl (c : Nat) (l : List Nat) : (s.setFreeIn c l).ctl = s.ctl := rfl
@[simp] theorem State.setFreeIn_slice (c : Nat) (l : List Nat) : (s.setFreeIn c l).slice = s.slice := rfl
@[simp] theorem State.setFreeIn_kn (c : Nat) (l : List Nat) : (s.setFreeIn c l).kn = s.kn := rfl
@[simp] theorem State.setFreeIn_tiles (c : Nat) (l : List Nat) : (s.setFreeIn c l).tiles = s.tiles := rfl
@[simp] theorem State.setFreeIn_ports (c : Nat) (l : List Nat) : (s.setFreeIn c l).ports = s.ports := rfl
@[simp] theorem State.setFreeIn_rt (c : Nat) (l : List Nat) : (s.setFreeIn c l).rt = s.rt := rfl
@[simp] theorem State.setFreeIn_hub (c : Nat) (l : List Nat) : (s.setFreeIn c l).hub = s.hub := rfl
@[simp] theorem State.setFreeIn_brm (c : Nat) (l : List Nat) : (s.setFreeIn c l).brm = s.brm := rfl
@[simp] theorem State.setFreeIn_time (c : Nat) (l : List Nat) : (s.setFreeIn c l).time = s.time := rfl
@[simp] theorem State.setFreeIn_svc (c : Nat) (l : List Nat) : (s.setFreeIn c l).svc = s.svc := rfl
@[simp] theorem State.setFreeIn_sec (c : Nat) (l : List Nat) : (s.setFreeIn c l).sec = s.sec := rfl
@[simp] theorem State.setFreeIn_pwr (c : Nat) (l : List Nat) : (s.setFreeIn c l).pwr = s.pwr := rfl
@[simp] theorem State.reg_setFreeIn (c : Nat) (l : List Nat) (o' : Nat) : (s.setFreeIn c l).reg o' = s.reg o' := rfl
@[simp] theorem State.fget_setFreeIn (c : Nat) (l : List Nat) (o' : Nat) (g : Fld) : (s.setFreeIn c l).fget o' g = s.fget o' g := rfl
@[simp] theorem State.byte_setFreeIn (c : Nat) (l : List Nat) (a' : Nat) : (s.setFreeIn c l).byte a' = s.byte a' := rfl
@[simp] theorem State.knot_setFreeIn (c : Nat) (l : List Nat) (k' : Nat) : (s.setFreeIn c l).knot k' = s.knot k' := rfl
@[simp] theorem State.task_setFreeIn (c : Nat) (l : List Nat) (q' : Nat) : (s.setFreeIn c l).task q' = s.task q' := rfl
@[simp] theorem State.tile_setFreeIn (c : Nat) (l : List Nat) (t' : Nat) : (s.setFreeIn c l).tile t' = s.tile t' := rfl
@[simp] theorem State.ctx_setFreeIn (c : Nat) (l : List Nat) (k' : CtxId) : (s.setFreeIn c l).ctx k' = s.ctx k' := rfl
@[simp] theorem State.port_setFreeIn (c : Nat) (l : List Nat) (p' : Nat) : (s.setFreeIn c l).port p' = s.port p' := rfl
@[simp] theorem State.gstate_setFreeIn (c : Nat) (l : List Nat) (n' : Nat) : (s.setFreeIn c l).gstate n' = s.gstate n' := rfl
@[simp] theorem State.twin_setFreeIn (c : Nat) (l : List Nat) (n' : Nat) : (s.setFreeIn c l).twin n' = s.twin n' := rfl

/-! ### setPoison -/

@[simp] theorem State.setPoison_pending (l : Nat) (b : Bool) : (s.setPoison l b).pending = s.pending := rfl
@[simp] theorem State.setPoison_free (l : Nat) (b : Bool) : (s.setPoison l b).free = s.free := rfl
@[simp] theorem State.setPoison_lanyard (l : Nat) (b : Bool) : (s.setPoison l b).lanyard = s.lanyard := rfl
@[simp] theorem State.setPoison_mem (l : Nat) (b : Bool) : (s.setPoison l b).mem = s.mem := rfl
@[simp] theorem State.setPoison_ctl (l : Nat) (b : Bool) : (s.setPoison l b).ctl = s.ctl := rfl
@[simp] theorem State.setPoison_slice (l : Nat) (b : Bool) : (s.setPoison l b).slice = s.slice := rfl
@[simp] theorem State.setPoison_kn (l : Nat) (b : Bool) : (s.setPoison l b).kn = s.kn := rfl
@[simp] theorem State.setPoison_tiles (l : Nat) (b : Bool) : (s.setPoison l b).tiles = s.tiles := rfl
@[simp] theorem State.setPoison_ports (l : Nat) (b : Bool) : (s.setPoison l b).ports = s.ports := rfl
@[simp] theorem State.setPoison_rt (l : Nat) (b : Bool) : (s.setPoison l b).rt = s.rt := rfl
@[simp] theorem State.setPoison_hub (l : Nat) (b : Bool) : (s.setPoison l b).hub = s.hub := rfl
@[simp] theorem State.setPoison_brm (l : Nat) (b : Bool) : (s.setPoison l b).brm = s.brm := rfl
@[simp] theorem State.setPoison_time (l : Nat) (b : Bool) : (s.setPoison l b).time = s.time := rfl
@[simp] theorem State.setPoison_svc (l : Nat) (b : Bool) : (s.setPoison l b).svc = s.svc := rfl
@[simp] theorem State.setPoison_sec (l : Nat) (b : Bool) : (s.setPoison l b).sec = s.sec := rfl
@[simp] theorem State.setPoison_pwr (l : Nat) (b : Bool) : (s.setPoison l b).pwr = s.pwr := rfl
@[simp] theorem State.reg_setPoison (l : Nat) (b : Bool) (o' : Nat) : (s.setPoison l b).reg o' = s.reg o' := rfl
@[simp] theorem State.fget_setPoison (l : Nat) (b : Bool) (o' : Nat) (g : Fld) : (s.setPoison l b).fget o' g = s.fget o' g := rfl
@[simp] theorem State.byte_setPoison (l : Nat) (b : Bool) (a' : Nat) : (s.setPoison l b).byte a' = s.byte a' := rfl
@[simp] theorem State.knot_setPoison (l : Nat) (b : Bool) (k' : Nat) : (s.setPoison l b).knot k' = s.knot k' := rfl
@[simp] theorem State.task_setPoison (l : Nat) (b : Bool) (q' : Nat) : (s.setPoison l b).task q' = s.task q' := rfl
@[simp] theorem State.tile_setPoison (l : Nat) (b : Bool) (t' : Nat) : (s.setPoison l b).tile t' = s.tile t' := rfl
@[simp] theorem State.ctx_setPoison (l : Nat) (b : Bool) (k' : CtxId) : (s.setPoison l b).ctx k' = s.ctx k' := rfl
@[simp] theorem State.port_setPoison (l : Nat) (b : Bool) (p' : Nat) : (s.setPoison l b).port p' = s.port p' := rfl
@[simp] theorem State.gstate_setPoison (l : Nat) (b : Bool) (n' : Nat) : (s.setPoison l b).gstate n' = s.gstate n' := rfl
@[simp] theorem State.twin_setPoison (l : Nat) (b : Bool) (n' : Nat) : (s.setPoison l b).twin n' = s.twin n' := rfl

/-! ### setPort -/

@[simp] theorem State.setPort_pending (p : Nat) (v : Port) : (s.setPort p v).pending = s.pending := rfl
@[simp] theorem State.setPort_free (p : Nat) (v : Port) : (s.setPort p v).free = s.free := rfl
@[simp] theorem State.setPort_lanyard (p : Nat) (v : Port) : (s.setPort p v).lanyard = s.lanyard := rfl
@[simp] theorem State.setPort_mem (p : Nat) (v : Port) : (s.setPort p v).mem = s.mem := rfl
@[simp] theorem State.setPort_ctl (p : Nat) (v : Port) : (s.setPort p v).ctl = s.ctl := rfl
@[simp] theorem State.setPort_slice (p : Nat) (v : Port) : (s.setPort p v).slice = s.slice := rfl
@[simp] theorem State.setPort_kn (p : Nat) (v : Port) : (s.setPort p v).kn = s.kn := rfl
@[simp] theorem State.setPort_tiles (p : Nat) (v : Port) : (s.setPort p v).tiles = s.tiles := rfl
@[simp] theorem State.setPort_rt (p : Nat) (v : Port) : (s.setPort p v).rt = s.rt := rfl
@[simp] theorem State.setPort_mm (p : Nat) (v : Port) : (s.setPort p v).mm = s.mm := rfl
@[simp] theorem State.setPort_hub (p : Nat) (v : Port) : (s.setPort p v).hub = s.hub := rfl
@[simp] theorem State.setPort_brm (p : Nat) (v : Port) : (s.setPort p v).brm = s.brm := rfl
@[simp] theorem State.setPort_time (p : Nat) (v : Port) : (s.setPort p v).time = s.time := rfl
@[simp] theorem State.setPort_svc (p : Nat) (v : Port) : (s.setPort p v).svc = s.svc := rfl
@[simp] theorem State.setPort_sec (p : Nat) (v : Port) : (s.setPort p v).sec = s.sec := rfl
@[simp] theorem State.setPort_pwr (p : Nat) (v : Port) : (s.setPort p v).pwr = s.pwr := rfl
@[simp] theorem State.reg_setPort (p : Nat) (v : Port) (o' : Nat) : (s.setPort p v).reg o' = s.reg o' := rfl
@[simp] theorem State.fget_setPort (p : Nat) (v : Port) (o' : Nat) (g : Fld) : (s.setPort p v).fget o' g = s.fget o' g := rfl
@[simp] theorem State.byte_setPort (p : Nat) (v : Port) (a' : Nat) : (s.setPort p v).byte a' = s.byte a' := rfl
@[simp] theorem State.knot_setPort (p : Nat) (v : Port) (k' : Nat) : (s.setPort p v).knot k' = s.knot k' := rfl
@[simp] theorem State.task_setPort (p : Nat) (v : Port) (q' : Nat) : (s.setPort p v).task q' = s.task q' := rfl
@[simp] theorem State.tile_setPort (p : Nat) (v : Port) (t' : Nat) : (s.setPort p v).tile t' = s.tile t' := rfl
@[simp] theorem State.ctx_setPort (p : Nat) (v : Port) (k' : CtxId) : (s.setPort p v).ctx k' = s.ctx k' := rfl
@[simp] theorem State.page_setPort (p : Nat) (v : Port) (p' : Nat) : (s.setPort p v).page p' = s.page p' := rfl
@[simp] theorem State.gstate_setPort (p : Nat) (v : Port) (n' : Nat) : (s.setPort p v).gstate n' = s.gstate n' := rfl
@[simp] theorem State.poisoned_setPort (p : Nat) (v : Port) (a' : Nat) : (s.setPort p v).poisoned a' = s.poisoned a' := rfl
@[simp] theorem State.twin_setPort (p : Nat) (v : Port) (n' : Nat) : (s.setPort p v).twin n' = s.twin n' := rfl

/-! ### setMac -/

@[simp] theorem State.setMac_pending (m : Nat) (v : Mac) : (s.setMac m v).pending = s.pending := rfl
@[simp] theorem State.setMac_free (m : Nat) (v : Mac) : (s.setMac m v).free = s.free := rfl
@[simp] theorem State.setMac_lanyard (m : Nat) (v : Mac) : (s.setMac m v).lanyard = s.lanyard := rfl
@[simp] theorem State.setMac_mem (m : Nat) (v : Mac) : (s.setMac m v).mem = s.mem := rfl
@[simp] theorem State.setMac_ctl (m : Nat) (v : Mac) : (s.setMac m v).ctl = s.ctl := rfl
@[simp] theorem State.setMac_slice (m : Nat) (v : Mac) : (s.setMac m v).slice = s.slice := rfl
@[simp] theorem State.setMac_kn (m : Nat) (v : Mac) : (s.setMac m v).kn = s.kn := rfl
@[simp] theorem State.setMac_tiles (m : Nat) (v : Mac) : (s.setMac m v).tiles = s.tiles := rfl
@[simp] theorem State.setMac_ports (m : Nat) (v : Mac) : (s.setMac m v).ports = s.ports := rfl
@[simp] theorem State.setMac_rt (m : Nat) (v : Mac) : (s.setMac m v).rt = s.rt := rfl
@[simp] theorem State.setMac_mm (m : Nat) (v : Mac) : (s.setMac m v).mm = s.mm := rfl
@[simp] theorem State.setMac_hub (m : Nat) (v : Mac) : (s.setMac m v).hub = s.hub := rfl
@[simp] theorem State.setMac_brm (m : Nat) (v : Mac) : (s.setMac m v).brm = s.brm := rfl
@[simp] theorem State.setMac_time (m : Nat) (v : Mac) : (s.setMac m v).time = s.time := rfl
@[simp] theorem State.setMac_sec (m : Nat) (v : Mac) : (s.setMac m v).sec = s.sec := rfl
@[simp] theorem State.setMac_pwr (m : Nat) (v : Mac) : (s.setMac m v).pwr = s.pwr := rfl
@[simp] theorem State.reg_setMac (m : Nat) (v : Mac) (o' : Nat) : (s.setMac m v).reg o' = s.reg o' := rfl
@[simp] theorem State.fget_setMac (m : Nat) (v : Mac) (o' : Nat) (g : Fld) : (s.setMac m v).fget o' g = s.fget o' g := rfl
@[simp] theorem State.byte_setMac (m : Nat) (v : Mac) (a' : Nat) : (s.setMac m v).byte a' = s.byte a' := rfl
@[simp] theorem State.knot_setMac (m : Nat) (v : Mac) (k' : Nat) : (s.setMac m v).knot k' = s.knot k' := rfl
@[simp] theorem State.task_setMac (m : Nat) (v : Mac) (q' : Nat) : (s.setMac m v).task q' = s.task q' := rfl
@[simp] theorem State.tile_setMac (m : Nat) (v : Mac) (t' : Nat) : (s.setMac m v).tile t' = s.tile t' := rfl
@[simp] theorem State.ctx_setMac (m : Nat) (v : Mac) (k' : CtxId) : (s.setMac m v).ctx k' = s.ctx k' := rfl
@[simp] theorem State.page_setMac (m : Nat) (v : Mac) (p' : Nat) : (s.setMac m v).page p' = s.page p' := rfl
@[simp] theorem State.port_setMac (m : Nat) (v : Mac) (p' : Nat) : (s.setMac m v).port p' = s.port p' := rfl
@[simp] theorem State.gstate_setMac (m : Nat) (v : Mac) (n' : Nat) : (s.setMac m v).gstate n' = s.gstate n' := rfl
@[simp] theorem State.poisoned_setMac (m : Nat) (v : Mac) (a' : Nat) : (s.setMac m v).poisoned a' = s.poisoned a' := rfl
@[simp] theorem State.twin_setMac (m : Nat) (v : Mac) (n' : Nat) : (s.setMac m v).twin n' = s.twin n' := rfl

/-! ### Reads after writes of the same kind -/

/-- A register reads as written, and every other as before. -/
theorem State.reg_setReg (o o' : Nat) (v : W64) : (s.setReg o v).reg o' = if o' = o then v else s.reg o' :=
  Tab.look_store regReset s.ctl o v o'

@[simp] theorem State.reg_setReg_same (o : Nat) (v : W64) : (s.setReg o v).reg o = v := by simp [State.reg_setReg]

@[simp] theorem State.reg_setReg_ne {o o' : Nat} (h : o' ≠ o) (v : W64) : (s.setReg o v).reg o' = s.reg o' := by
  simp [State.reg_setReg, h]

@[simp] theorem State.fget_setReg_ne {o o' : Nat} (h : o' ≠ o) (v : W64) (f : Fld) : (s.setReg o v).fget o' f = s.fget o' f := by
  simp [State.fget, h]

@[simp] theorem State.reg_fset_ne {o o' : Nat} (h : o' ≠ o) (f : Fld) (n : Nat) : (s.fset o f n).reg o' = s.reg o' := by
  simp [State.fset, h]

@[simp] theorem State.fget_fset_ne {o o' : Nat} (h : o' ≠ o) (f g : Fld) (n : Nat) : (s.fset o f n).fget o' g = s.fget o' g := by
  simp [State.fset, h]

/-- The value of a word with a field replaced. -/
theorem withBits_toNat (v : W64) {hi lo : Nat} (n : Nat) (hl : lo ≤ hi) (hh : hi < 64) :
    (withBits v hi lo n).toNat =
      v.toNat % 2 ^ lo + 2 ^ lo * (n % 2 ^ (hi + 1 - lo)) + 2 ^ (hi + 1) * (v.toNat / 2 ^ (hi + 1)) := by
  have hp : 2 ^ (hi + 1) = 2 ^ lo * 2 ^ (hi + 1 - lo) := by rw [← Nat.pow_add]; congr 1; omega
  have hq : (2 : Nat) ^ 64 = 2 ^ (hi + 1) * 2 ^ (63 - hi) := by rw [← Nat.pow_add]; congr 1; omega
  have hv : v.toNat < 2 ^ 64 := v.isLt
  have e1 := Nat.div_add_mod v.toNat (2 ^ lo)
  have e2 := Nat.div_add_mod (v.toNat / 2 ^ lo) (2 ^ (hi + 1 - lo))
  rw [Nat.div_div_eq_div_mul, ← hp] at e2
  have hn : n % 2 ^ (hi + 1 - lo) < 2 ^ (hi + 1 - lo) := Nat.mod_lt _ (Nat.two_pow_pos _)
  have hm : v.toNat % 2 ^ lo < 2 ^ lo := Nat.mod_lt _ (Nat.two_pow_pos _)
  have hd : v.toNat / 2 ^ (hi + 1) < 2 ^ (63 - hi) := by
    rw [Nat.div_lt_iff_lt_mul (Nat.two_pow_pos _), Nat.mul_comm, ← hq]; exact hv
  have key : v.toNat - bits v hi lo * 2 ^ lo + n % 2 ^ (hi + 1 - lo) * 2 ^ lo =
      v.toNat % 2 ^ lo + 2 ^ lo * (n % 2 ^ (hi + 1 - lo)) + 2 ^ (hi + 1) * (v.toNat / 2 ^ (hi + 1)) := by
    have : v.toNat = 2 ^ (hi + 1) * (v.toNat / 2 ^ (hi + 1)) + 2 ^ lo * bits v hi lo + v.toNat % 2 ^ lo := by
      unfold bits; rw [hp, Nat.mul_assoc, ← Nat.mul_add, ← hp, e2, e1]
    rw [Nat.mul_comm (bits v hi lo), Nat.mul_comm (n % _)]
    omega
  rw [withBits, BitVec.toNat_ofNat, key]
  apply Nat.mod_eq_of_lt
  have h1 : v.toNat % 2 ^ lo + 2 ^ lo * (n % 2 ^ (hi + 1 - lo)) < 2 ^ (hi + 1) := by
    have : 2 ^ lo * (n % 2 ^ (hi + 1 - lo)) + 2 ^ lo ≤ 2 ^ (hi + 1) := by
      rw [hp, ← Nat.mul_succ]; exact Nat.mul_le_mul_left _ hn
    omega
  have h2 : 2 ^ (hi + 1) * (v.toNat / 2 ^ (hi + 1)) + 2 ^ (hi + 1) ≤ 2 ^ 64 := by
    rw [hq, ← Nat.mul_succ]; exact Nat.mul_le_mul_left _ hd
  omega

/-- A field reads as written. -/
@[simp] theorem bits_withBits (v : W64) {hi lo : Nat} (n : Nat) (hl : lo ≤ hi) (hh : hi < 64) :
    bits (withBits v hi lo n) hi lo = n % 2 ^ (hi + 1 - lo) := by
  have hp : 2 ^ (hi + 1) = 2 ^ lo * 2 ^ (hi + 1 - lo) := by rw [← Nat.pow_add]; congr 1; omega
  have hm : v.toNat % 2 ^ lo < 2 ^ lo := Nat.mod_lt _ (Nat.two_pow_pos _)
  rw [bits, withBits_toNat v n hl hh, hp, Nat.mul_assoc, Nat.add_assoc, ← Nat.mul_add,
    Nat.add_mul_div_left _ _ (Nat.two_pow_pos lo), Nat.div_eq_of_lt hm, Nat.zero_add, Nat.add_mul_mod_self_left, Nat.mod_mod]

/-- A field below the one written reads as before. -/
theorem bits_withBits_below (v : W64) {hi lo i j : Nat} (n : Nat) (hl : lo ≤ hi) (hh : hi < 64) (hi' : i < lo) (hj : j ≤ i) :
    bits (withBits v hi lo n) i j = bits v i j := by
  have hp : 2 ^ (hi + 1) = 2 ^ lo * 2 ^ (hi + 1 - lo) := by rw [← Nat.pow_add]; congr 1; omega
  have hb : ∀ x : Nat, x / 2 ^ j % 2 ^ (i + 1 - j) = (x % 2 ^ lo) / 2 ^ j % 2 ^ (i + 1 - j) := by
    intro x
    have h2 : 2 ^ lo = 2 ^ j * (2 ^ (i + 1 - j) * 2 ^ (lo - (i + 1))) := by
      rw [← Nat.pow_add, ← Nat.pow_add]; congr 1; omega
    rw [h2, Nat.mod_mul_right_div_self, Nat.mod_mul_right_mod]
  rw [bits, bits, hb (withBits v hi lo n).toNat, hb v.toNat]
  congr 2
  rw [withBits_toNat v n hl hh, hp, Nat.mul_assoc, Nat.add_assoc, ← Nat.mul_add, Nat.add_mul_mod_self_left, Nat.mod_mod]

/-- A field above the one written reads as before. -/
theorem bits_withBits_above (v : W64) {hi lo i j : Nat} (n : Nat) (hl : lo ≤ hi) (hh : hi < 64) (hj : hi < j) :
    bits (withBits v hi lo n) i j = bits v i j := by
  have hp : 2 ^ (hi + 1) = 2 ^ lo * 2 ^ (hi + 1 - lo) := by rw [← Nat.pow_add]; congr 1; omega
  have hm : v.toNat % 2 ^ lo < 2 ^ lo := Nat.mod_lt _ (Nat.two_pow_pos _)
  have hn : n % 2 ^ (hi + 1 - lo) < 2 ^ (hi + 1 - lo) := Nat.mod_lt _ (Nat.two_pow_pos _)
  have h1 : v.toNat % 2 ^ lo + 2 ^ lo * (n % 2 ^ (hi + 1 - lo)) < 2 ^ (hi + 1) := by
    have : 2 ^ lo * (n % 2 ^ (hi + 1 - lo)) + 2 ^ lo ≤ 2 ^ (hi + 1) := by
      rw [hp, ← Nat.mul_succ]; exact Nat.mul_le_mul_left _ hn
    omega
  have hj2 : 2 ^ j = 2 ^ (hi + 1) * 2 ^ (j - (hi + 1)) := by rw [← Nat.pow_add]; congr 1; omega
  rw [bits, bits, withBits_toNat v n hl hh, hj2, ← Nat.div_div_eq_div_mul, ← Nat.div_div_eq_div_mul,
    Nat.add_mul_div_left _ _ (Nat.two_pow_pos _), Nat.div_eq_of_lt h1, Nat.zero_add]

/-- A register field reads as written. -/
theorem State.fget_fset (o : Nat) (f : Fld) (n : Nat) (hl : f.lo ≤ f.hi) (hh : f.hi < 64) :
    (s.fset o f n).fget o f = n % 2 ^ (f.hi + 1 - f.lo) := by
  simp [State.fget, State.fset, hl, hh]

/-- A register field that shares no bit with the one written reads as before. -/
theorem State.fget_fset_apart (o : Nat) (f g : Fld) (n : Nat) (hl : f.lo ≤ f.hi) (hh : f.hi < 64) (hg : g.lo ≤ g.hi)
    (hd : f.hi < g.lo ∨ g.hi < f.lo) : (s.fset o f n).fget o g = s.fget o g := by
  simp only [State.fget, State.fset, State.reg_setReg_same]
  rcases hd with h | h
  · exact bits_withBits_above _ n hl hh h
  · exact bits_withBits_below _ n hl hh h hg

/-- A byte reads as written, and every other as before. -/
theorem State.byte_setByte (a a' : Nat) (b : Byte) : (s.setByte a b).byte a' = if a' = a then b else s.byte a' :=
  Tab.look_store (fun _ => 0) s.mem a b a'

/-- A tile reads as written, and every other as before. -/
theorem State.tile_setTile (t t' : Nat) (v : Tile) : (s.setTile t v).tile t' = if t' = t then v else s.tile t' :=
  Tab.look_store (fun _ => ({} : Tile)) s.tiles t v t'

@[simp] theorem State.tile_setTile_same (t : Nat) (v : Tile) : (s.setTile t v).tile t = v := by simp [State.tile_setTile]

/-- A context of a tile reads as written, and every other as before. -/
theorem Tile.ctx_setCtx (v : Tile) (c c' : Nat) (x : Ctx) : (v.setCtx c x).ctx c' = if c' = c then x else v.ctx c' :=
  Tab.look_store (fun _ => ({} : Ctx)) v.ctxs c x c'

@[simp] theorem Tile.ctx_setCtx_same (v : Tile) (c : Nat) (x : Ctx) : (v.setCtx c x).ctx c = x := by simp [Tile.ctx_setCtx]

@[simp] theorem State.ctx_setCtx_same (k : CtxId) (x : Ctx) : (s.setCtx k x).ctx k = x := by
  simp [State.ctx, State.setCtx]

@[simp] theorem State.ctx_mapCtx_same (k : CtxId) (f : Ctx → Ctx) : (s.mapCtx k f).ctx k = f (s.ctx k) := by
  simp [State.mapCtx]

/-- A context of another tile or of another number reads as before. -/
theorem State.ctx_setCtx_ne {k k' : CtxId} (h : k' ≠ k) (x : Ctx) : (s.setCtx k x).ctx k' = s.ctx k' := by
  obtain ⟨t, c⟩ := k
  obtain ⟨t', c'⟩ := k'
  simp only [State.ctx, State.setCtx, State.tile_setTile]
  split
  · rename_i ht
    have ht : t' = t := Fin.ext ht
    subst ht
    have hc : (c' : Nat) ≠ c := fun e => h (by rw [Fin.ext e])
    simp [Tile.ctx_setCtx, hc]
  · rfl

/-- A knot reads as written, and every other as before. -/
theorem State.knot_setKnot (k k' : Nat) (v : Knot) : (s.setKnot k v).knot k' = if k' = k then v else s.knot k' :=
  Tab.look_store (fun _ => ({} : Knot)) s.kn.knots k v k'

@[simp] theorem State.knot_setKnot_same (k : Nat) (v : Knot) : (s.setKnot k v).knot k = v := by simp [State.knot_setKnot]

/-- A task slot reads as written, and every other as before. -/
theorem State.task_setTask (q q' : Nat) (v : Option Task) : (s.setTask q v).task q' = if q' = q then v else s.task q' :=
  Tab.look_store (fun _ => none) s.kn.tasks q v q'

@[simp] theorem State.task_setTask_same (q : Nat) (v : Option Task) : (s.setTask q v).task q = v := by
  simp [State.task_setTask]

/-- A page's entry reads as written, and every other as before. -/
theorem State.page_setPage (p p' : Nat) (v : Page) : (s.setPage p v).page p' = if p' = p then v else s.page p' :=
  Tab.look_store homePage s.mm.pages p v p'

@[simp] theorem State.page_setPage_same (p : Nat) (v : Page) : (s.setPage p v).page p = v := by simp [State.page_setPage]

/-- A port reads as written, and every other as before. -/
theorem State.port_setPort (p p' : Nat) (v : Port) : (s.setPort p v).port p' = if p' = p then v else s.port p' :=
  Tab.look_store (fun _ => ({} : Port)) s.ports p v p'

@[simp] theorem State.port_setPort_same (p : Nat) (v : Port) : (s.setPort p v).port p = v := by simp [State.port_setPort]

/-- A line's poison mark reads as written, and every other as before. -/
theorem State.poisoned_setPoison (l : Nat) (b : Bool) (a : Nat) :
    (s.setPoison l b).poisoned a = if a / 64 = l then b else s.poisoned a :=
  Tab.look_store (fun _ => false) s.mm.poison l b (a / 64)

end Sys2Proof.Machine
end

