-- ==== Sys2Proof/Laws/Seq.lean ====
section
/-! SUPPORT. What the sequencer's operations do: the issue of an instruction that goes, the window's operations, which
touch no context, and the registers of a context. -/

namespace Sys2Proof.Machine

variable {s : State}

/-! ### Registers of a context -/

/-- A g-register reads as written; g0 reads 0, and every other as before. -/
theorem Ctx.gr_setG (x : Ctx) (r q : Nat) (v : W64) :
    (x.setG r v).gr q = if q = 0 then 0 else if q = r then v else x.gr q := by
  unfold Ctx.setG Ctx.gr
  by_cases hq : q = 0
  · simp [hq]
  · by_cases hr : r = 0
    · simp [hr, hq]
    · simp [hr, hq, Tab.look_store]

/-- A predicate reads as written; p0 reads 1, and every other as before. -/
theorem Ctx.pr_setP (x : Ctx) (r q : Nat) (v : Bool) :
    (x.setP r v).pr q = if q = 0 then true else if q = r then v else x.pr q := by
  unfold Ctx.setP Ctx.pr
  by_cases hq : q = 0
  · simp [hq]
  · by_cases hr : r = 0
    · simp [hr, hq]
    · simp [hr, hq, Tab.look_store]

@[simp] theorem Ctx.gr_zero (x : Ctx) : x.gr 0 = 0 := rfl
@[simp] theorem Ctx.pr_zero (x : Ctx) : x.pr 0 = true := rfl

/-- A control register of a context reads as written, and every other as before. -/
theorem Ctx.cs_setCs (x : Ctx) (i j : Nat) (v : W64) : (x.setCs i v).cs j = if j = i then v else x.cs j :=
  Tab.look_store (fun _ => 0) x.csr i v j

@[simp] theorem Ctx.cs_setG (x : Ctx) (r i : Nat) (v : W64) : (x.setG r v).cs i = x.cs i := by
  unfold Ctx.setG; split <;> rfl
@[simp] theorem Ctx.pr_setG (x : Ctx) (r q : Nat) (v : W64) : (x.setG r v).pr q = x.pr q := by
  unfold Ctx.setG; split <;> rfl
@[simp] theorem Ctx.gr_setP (x : Ctx) (r q : Nat) (v : Bool) : (x.setP r v).gr q = x.gr q := by
  unfold Ctx.setP; split <;> rfl

@[simp] theorem Ctx.setG_task (x : Ctx) (r : Nat) (v : W64) : (x.setG r v).task = x.task := by unfold Ctx.setG; split <;> rfl
@[simp] theorem Ctx.setG_glove (x : Ctx) (r : Nat) (v : W64) : (x.setG r v).glove = x.glove := by unfold Ctx.setG; split <;> rfl
@[simp] theorem Ctx.setG_p (x : Ctx) (r : Nat) (v : W64) : (x.setG r v).p = x.p := by unfold Ctx.setG; split <;> rfl
@[simp] theorem Ctx.setG_t (x : Ctx) (r : Nat) (v : W64) : (x.setG r v).t = x.t := by unfold Ctx.setG; split <;> rfl
@[simp] theorem Ctx.setG_v (x : Ctx) (r : Nat) (v : W64) : (x.setG r v).v = x.v := by unfold Ctx.setG; split <;> rfl
@[simp] theorem Ctx.setG_pc (x : Ctx) (r : Nat) (v : W64) : (x.setG r v).pc = x.pc := by unfold Ctx.setG; split <;> rfl
@[simp] theorem Ctx.setG_loops (x : Ctx) (r : Nat) (v : W64) : (x.setG r v).loops = x.loops := by unfold Ctx.setG; split <;> rfl
@[simp] theorem Ctx.setG_loopsAside (x : Ctx) (r : Nat) (v : W64) : (x.setG r v).loopsAside = x.loopsAside := by unfold Ctx.setG; split <;> rfl
@[simp] theorem Ctx.setG_lace (x : Ctx) (r : Nat) (v : W64) : (x.setG r v).lace = x.lace := by unfold Ctx.setG; split <;> rfl
@[simp] theorem Ctx.setG_csr (x : Ctx) (r : Nat) (v : W64) : (x.setG r v).csr = x.csr := by unfold Ctx.setG; split <;> rfl
@[simp] theorem Ctx.setG_moves (x : Ctx) (r : Nat) (v : W64) : (x.setG r v).moves = x.moves := by unfold Ctx.setG; split <;> rfl
@[simp] theorem Ctx.setG_banks (x : Ctx) (r : Nat) (v : W64) : (x.setG r v).banks = x.banks := by unfold Ctx.setG; split <;> rfl
@[simp] theorem Ctx.setG_wait (x : Ctx) (r : Nat) (v : W64) : (x.setG r v).wait = x.wait := by unfold Ctx.setG; split <;> rfl
@[simp] theorem Ctx.setG_podLoad (x : Ctx) (r : Nat) (v : W64) : (x.setG r v).podLoad = x.podLoad := by unfold Ctx.setG; split <;> rfl
@[simp] theorem Ctx.setG_staged (x : Ctx) (r : Nat) (v : W64) : (x.setG r v).staged = x.staged := by unfold Ctx.setG; split <;> rfl
@[simp] theorem Ctx.setG_issued (x : Ctx) (r : Nat) (v : W64) : (x.setG r v).issued = x.issued := by unfold Ctx.setG; split <;> rfl
@[simp] theorem Ctx.setG_stall (x : Ctx) (r : Nat) (v : W64) : (x.setG r v).stall = x.stall := by unfold Ctx.setG; split <;> rfl
@[simp] theorem Ctx.setG_dispatchedAt (x : Ctx) (r : Nat) (v : W64) : (x.setG r v).dispatchedAt = x.dispatchedAt := by unfold Ctx.setG; split <;> rfl
@[simp] theorem Ctx.setG_stopped (x : Ctx) (r : Nat) (v : W64) : (x.setG r v).stopped = x.stopped := by unfold Ctx.setG; split <;> rfl
@[simp] theorem Ctx.setG_halt (x : Ctx) (r : Nat) (v : W64) : (x.setG r v).halt = x.halt := by unfold Ctx.setG; split <;> rfl
@[simp] theorem Ctx.setG_digAcc (x : Ctx) (r : Nat) (v : W64) : (x.setG r v).digAcc = x.digAcc := by unfold Ctx.setG; split <;> rfl
@[simp] theorem Ctx.setG_digPkt (x : Ctx) (r : Nat) (v : W64) : (x.setG r v).digPkt = x.digPkt := by unfold Ctx.setG; split <;> rfl
@[simp] theorem Ctx.setG_digKnot (x : Ctx) (r : Nat) (v : W64) : (x.setG r v).digKnot = x.digKnot := by unfold Ctx.setG; split <;> rfl
@[simp] theorem Ctx.setG_digEng (x : Ctx) (r : Nat) (v : W64) : (x.setG r v).digEng = x.digEng := by unfold Ctx.setG; split <;> rfl
@[simp] theorem Ctx.setG_ring (x : Ctx) (r : Nat) (v : W64) : (x.setG r v).ring = x.ring := by unfold Ctx.setG; split <;> rfl
@[simp] theorem Ctx.setP_task (x : Ctx) (r : Nat) (v : Bool) : (x.setP r v).task = x.task := by unfold Ctx.setP; split <;> rfl
@[simp] theorem Ctx.setP_glove (x : Ctx) (r : Nat) (v : Bool) : (x.setP r v).glove = x.glove := by unfold Ctx.setP; split <;> rfl
@[simp] theorem Ctx.setP_g (x : Ctx) (r : Nat) (v : Bool) : (x.setP r v).g = x.g := by unfold Ctx.setP; split <;> rfl
@[simp] theorem Ctx.setP_t (x : Ctx) (r : Nat) (v : Bool) : (x.setP r v).t = x.t := by unfold Ctx.setP; split <;> rfl
@[simp] theorem Ctx.setP_v (x : Ctx) (r : Nat) (v : Bool) : (x.setP r v).v = x.v := by unfold Ctx.setP; split <;> rfl
@[simp] theorem Ctx.setP_pc (x : Ctx) (r : Nat) (v : Bool) : (x.setP r v).pc = x.pc := by unfold Ctx.setP; split <;> rfl
@[simp] theorem Ctx.setP_loops (x : Ctx) (r : Nat) (v : Bool) : (x.setP r v).loops = x.loops := by unfold Ctx.setP; split <;> rfl
@[simp] theorem Ctx.setP_loopsAside (x : Ctx) (r : Nat) (v : Bool) : (x.setP r v).loopsAside = x.loopsAside := by unfold Ctx.setP; split <;> rfl
@[simp] theorem Ctx.setP_lace (x : Ctx) (r : Nat) (v : Bool) : (x.setP r v).lace = x.lace := by unfold Ctx.setP; split <;> rfl
@[simp] theorem Ctx.setP_csr (x : Ctx) (r : Nat) (v : Bool) : (x.setP r v).csr = x.csr := by unfold Ctx.setP; split <;> rfl
@[simp] theorem Ctx.setP_moves (x : Ctx) (r : Nat) (v : Bool) : (x.setP r v).moves = x.moves := by unfold Ctx.setP; split <;> rfl
@[simp] theorem Ctx.setP_banks (x : Ctx) (r : Nat) (v : Bool) : (x.setP r v).banks = x.banks := by unfold Ctx.setP; split <;> rfl
@[simp] theorem Ctx.setP_wait (x : Ctx) (r : Nat) (v : Bool) : (x.setP r v).wait = x.wait := by unfold Ctx.setP; split <;> rfl
@[simp] theorem Ctx.setP_podLoad (x : Ctx) (r : Nat) (v : Bool) : (x.setP r v).podLoad = x.podLoad := by unfold Ctx.setP; split <;> rfl
@[simp] theorem Ctx.setP_staged (x : Ctx) (r : Nat) (v : Bool) : (x.setP r v).staged = x.staged := by unfold Ctx.setP; split <;> rfl
@[simp] theorem Ctx.setP_issued (x : Ctx) (r : Nat) (v : Bool) : (x.setP r v).issued = x.issued := by unfold Ctx.setP; split <;> rfl
@[simp] theorem Ctx.setP_stall (x : Ctx) (r : Nat) (v : Bool) : (x.setP r v).stall = x.stall := by unfold Ctx.setP; split <;> rfl
@[simp] theorem Ctx.setP_dispatchedAt (x : Ctx) (r : Nat) (v : Bool) : (x.setP r v).dispatchedAt = x.dispatchedAt := by unfold Ctx.setP; split <;> rfl
@[simp] theorem Ctx.setP_stopped (x : Ctx) (r : Nat) (v : Bool) : (x.setP r v).stopped = x.stopped := by unfold Ctx.setP; split <;> rfl
@[simp] theorem Ctx.setP_halt (x : Ctx) (r : Nat) (v : Bool) : (x.setP r v).halt = x.halt := by unfold Ctx.setP; split <;> rfl
@[simp] theorem Ctx.setP_digAcc (x : Ctx) (r : Nat) (v : Bool) : (x.setP r v).digAcc = x.digAcc := by unfold Ctx.setP; split <;> rfl
@[simp] theorem Ctx.setP_digPkt (x : Ctx) (r : Nat) (v : Bool) : (x.setP r v).digPkt = x.digPkt := by unfold Ctx.setP; split <;> rfl
@[simp] theorem Ctx.setP_digKnot (x : Ctx) (r : Nat) (v : Bool) : (x.setP r v).digKnot = x.digKnot := by unfold Ctx.setP; split <;> rfl
@[simp] theorem Ctx.setP_digEng (x : Ctx) (r : Nat) (v : Bool) : (x.setP r v).digEng = x.digEng := by unfold Ctx.setP; split <;> rfl
@[simp] theorem Ctx.setP_ring (x : Ctx) (r : Nat) (v : Bool) : (x.setP r v).ring = x.ring := by unfold Ctx.setP; split <;> rfl

/-! ### The window's operations touch no context -/

theorem State.ctx_setTile (t : Nat) (v : Tile) (k : CtxId) :
    (s.setTile t v).ctx k = if k.tile = t then v.ctx k.ctx else s.ctx k := by
  simp only [State.ctx, State.tile_setTile]; split <;> rfl

@[simp] theorem State.ctx_fillOne (t : Nat) (k : CtxId) : (s.fillOne t).ctx k = s.ctx k := by
  unfold State.fillOne
  dsimp only
  split
  · split
    · rw [State.ctx_setTile]; split
      · rename_i h; rw [State.ctx, h]; rfl
      · rfl
    · rfl
  · rfl

@[simp] theorem State.ctx_fillWindow (t : Nat) (k : CtxId) : (s.fillWindow t).ctx k = s.ctx k := by
  simp [State.fillWindow]

@[simp] theorem State.ctx_leave (k k' : CtxId) : (s.leave k).ctx k' = s.ctx k' := by
  rw [State.leave, State.ctx_fillWindow, State.ctx_setTile]
  split
  · rename_i h; rw [State.ctx, h]; rfl
  · rfl

@[simp] theorem State.ctx_join (k k' : CtxId) : (s.join k).ctx k' = s.ctx k' := by
  unfold State.join
  dsimp only
  split
  · rfl
  · rw [State.ctx_fillWindow, State.ctx_setTile]
    split
    · rename_i h; rw [State.ctx, h]; rfl
    · rfl

/-! ### What the sequencer's operations leave alone: everything but the tiles -/

@[simp] theorem State.fillOne_pending (t : Nat) : (s.fillOne t).pending = s.pending := by unfold State.fillOne; dsimp only; split; (split <;> rfl); rfl
@[simp] theorem State.fillOne_free (t : Nat) : (s.fillOne t).free = s.free := by unfold State.fillOne; dsimp only; split; (split <;> rfl); rfl
@[simp] theorem State.fillOne_lanyard (t : Nat) : (s.fillOne t).lanyard = s.lanyard := by unfold State.fillOne; dsimp only; split; (split <;> rfl); rfl
@[simp] theorem State.fillOne_mem (t : Nat) : (s.fillOne t).mem = s.mem := by unfold State.fillOne; dsimp only; split; (split <;> rfl); rfl
@[simp] theorem State.fillOne_ctl (t : Nat) : (s.fillOne t).ctl = s.ctl := by unfold State.fillOne; dsimp only; split; (split <;> rfl); rfl
@[simp] theorem State.fillOne_slice (t : Nat) : (s.fillOne t).slice = s.slice := by unfold State.fillOne; dsimp only; split; (split <;> rfl); rfl
@[simp] theorem State.fillOne_kn (t : Nat) : (s.fillOne t).kn = s.kn := by unfold State.fillOne; dsimp only; split; (split <;> rfl); rfl
@[simp] theorem State.fillOne_ports (t : Nat) : (s.fillOne t).ports = s.ports := by unfold State.fillOne; dsimp only; split; (split <;> rfl); rfl
@[simp] theorem State.fillOne_rt (t : Nat) : (s.fillOne t).rt = s.rt := by unfold State.fillOne; dsimp only; split; (split <;> rfl); rfl
@[simp] theorem State.fillOne_mm (t : Nat) : (s.fillOne t).mm = s.mm := by unfold State.fillOne; dsimp only; split; (split <;> rfl); rfl
@[simp] theorem State.fillOne_hub (t : Nat) : (s.fillOne t).hub = s.hub := by unfold State.fillOne; dsimp only; split; (split <;> rfl); rfl
@[simp] theorem State.fillOne_brm (t : Nat) : (s.fillOne t).brm = s.brm := by unfold State.fillOne; dsimp only; split; (split <;> rfl); rfl
@[simp] theorem State.fillOne_time (t : Nat) : (s.fillOne t).time = s.time := by unfold State.fillOne; dsimp only; split; (split <;> rfl); rfl
@[simp] theorem State.fillOne_svc (t : Nat) : (s.fillOne t).svc = s.svc := by unfold State.fillOne; dsimp only; split; (split <;> rfl); rfl
@[simp] theorem State.fillOne_sec (t : Nat) : (s.fillOne t).sec = s.sec := by unfold State.fillOne; dsimp only; split; (split <;> rfl); rfl
@[simp] theorem State.fillOne_pwr (t : Nat) : (s.fillOne t).pwr = s.pwr := by unfold State.fillOne; dsimp only; split; (split <;> rfl); rfl

@[simp] theorem State.fillWindow_pending (t : Nat) : (s.fillWindow t).pending = s.pending := by simp [State.fillWindow]
@[simp] theorem State.fillWindow_free (t : Nat) : (s.fillWindow t).free = s.free := by simp [State.fillWindow]
@[simp] theorem State.fillWindow_lanyard (t : Nat) : (s.fillWindow t).lanyard = s.lanyard := by simp [State.fillWindow]
@[simp] theorem State.fillWindow_mem (t : Nat) : (s.fillWindow t).mem = s.mem := by simp [State.fillWindow]
@[simp] theorem State.fillWindow_ctl (t : Nat) : (s.fillWindow t).ctl = s.ctl := by simp [State.fillWindow]
@[simp] theorem State.fillWindow_slice (t : Nat) : (s.fillWindow t).slice = s.slice := by simp [State.fillWindow]
@[simp] theorem State.fillWindow_kn (t : Nat) : (s.fillWindow t).kn = s.kn := by simp [State.fillWindow]
@[simp] theorem State.fillWindow_ports (t : Nat) : (s.fillWindow t).ports = s.ports := by simp [State.fillWindow]
@[simp] theorem State.fillWindow_rt (t : Nat) : (s.fillWindow t).rt = s.rt := by simp [State.fillWindow]
@[simp] theorem State.fillWindow_mm (t : Nat) : (s.fillWindow t).mm = s.mm := by simp [State.fillWindow]
@[simp] theorem State.fillWindow_hub (t : Nat) : (s.fillWindow t).hub = s.hub := by simp [State.fillWindow]
@[simp] theorem State.fillWindow_brm (t : Nat) : (s.fillWindow t).brm = s.brm := by simp [State.fillWindow]
@[simp] theorem State.fillWindow_time (t : Nat) : (s.fillWindow t).time = s.time := by simp [State.fillWindow]
@[simp] theorem State.fillWindow_svc (t : Nat) : (s.fillWindow t).svc = s.svc := by simp [State.fillWindow]
@[simp] theorem State.fillWindow_sec (t : Nat) : (s.fillWindow t).sec = s.sec := by simp [State.fillWindow]
@[simp] theorem State.fillWindow_pwr (t : Nat) : (s.fillWindow t).pwr = s.pwr := by simp [State.fillWindow]

@[simp] theorem State.leave_pending (k : CtxId) : (s.leave k).pending = s.pending := by simp [State.leave]
@[simp] theorem State.leave_free (k : CtxId) : (s.leave k).free = s.free := by simp [State.leave]
@[simp] theorem State.leave_lanyard (k : CtxId) : (s.leave k).lanyard = s.lanyard := by simp [State.leave]
@[simp] theorem State.leave_mem (k : CtxId) : (s.leave k).mem = s.mem := by simp [State.leave]
@[simp] theorem State.leave_ctl (k : CtxId) : (s.leave k).ctl = s.ctl := by simp [State.leave]
@[simp] theorem State.leave_slice (k : CtxId) : (s.leave k).slice = s.slice := by simp [State.leave]
@[simp] theorem State.leave_kn (k : CtxId) : (s.leave k).kn = s.kn := by simp [State.leave]
@[simp] theorem State.leave_ports (k : CtxId) : (s.leave k).ports = s.ports := by simp [State.leave]
@[simp] theorem State.leave_rt (k : CtxId) : (s.leave k).rt = s.rt := by simp [State.leave]
@[simp] theorem State.leave_mm (k : CtxId) : (s.leave k).mm = s.mm := by simp [State.leave]
@[simp] theorem State.leave_hub (k : CtxId) : (s.leave k).hub = s.hub := by simp [State.leave]
@[simp] theorem State.leave_brm (k : CtxId) : (s.leave k).brm = s.brm := by simp [State.leave]
@[simp] theorem State.leave_time (k : CtxId) : (s.leave k).time = s.time := by simp [State.leave]
@[simp] theorem State.leave_svc (k : CtxId) : (s.leave k).svc = s.svc := by simp [State.leave]
@[simp] theorem State.leave_sec (k : CtxId) : (s.leave k).sec = s.sec := by simp [State.leave]
@[simp] theorem State.leave_pwr (k : CtxId) : (s.leave k).pwr = s.pwr := by simp [State.leave]

@[simp] theorem State.join_pending (k : CtxId) : (s.join k).pending = s.pending := by unfold State.join; dsimp only; split <;> simp
@[simp] theorem State.join_free (k : CtxId) : (s.join k).free = s.free := by unfold State.join; dsimp only; split <;> simp
@[simp] theorem State.join_lanyard (k : CtxId) : (s.join k).lanyard = s.lanyard := by unfold State.join; dsimp only; split <;> simp
@[simp] theorem State.join_mem (k : CtxId) : (s.join k).mem = s.mem := by unfold State.join; dsimp only; split <;> simp
@[simp] theorem State.join_ctl (k : CtxId) : (s.join k).ctl = s.ctl := by unfold State.join; dsimp only; split <;> simp
@[simp] theorem State.join_slice (k : CtxId) : (s.join k).slice = s.slice := by unfold State.join; dsimp only; split <;> simp
@[simp] theorem State.join_kn (k : CtxId) : (s.join k).kn = s.kn := by unfold State.join; dsimp only; split <;> simp
@[simp] theorem State.join_ports (k : CtxId) : (s.join k).ports = s.ports := by unfold State.join; dsimp only; split <;> simp
@[simp] theorem State.join_rt (k : CtxId) : (s.join k).rt = s.rt := by unfold State.join; dsimp only; split <;> simp
@[simp] theorem State.join_mm (k : CtxId) : (s.join k).mm = s.mm := by unfold State.join; dsimp only; split <;> simp
@[simp] theorem State.join_hub (k : CtxId) : (s.join k).hub = s.hub := by unfold State.join; dsimp only; split <;> simp
@[simp] theorem State.join_brm (k : CtxId) : (s.join k).brm = s.brm := by unfold State.join; dsimp only; split <;> simp
@[simp] theorem State.join_time (k : CtxId) : (s.join k).time = s.time := by unfold State.join; dsimp only; split <;> simp
@[simp] theorem State.join_svc (k : CtxId) : (s.join k).svc = s.svc := by unfold State.join; dsimp only; split <;> simp
@[simp] theorem State.join_sec (k : CtxId) : (s.join k).sec = s.sec := by unfold State.join; dsimp only; split <;> simp
@[simp] theorem State.join_pwr (k : CtxId) : (s.join k).pwr = s.pwr := by unfold State.join; dsimp only; split <;> simp

@[simp] theorem State.count_pending (k : CtxId) : (s.count k).pending = s.pending := by rfl
@[simp] theorem State.count_free (k : CtxId) : (s.count k).free = s.free := by rfl
@[simp] theorem State.count_lanyard (k : CtxId) : (s.count k).lanyard = s.lanyard := by rfl
@[simp] theorem State.count_mem (k : CtxId) : (s.count k).mem = s.mem := by rfl
@[simp] theorem State.count_ctl (k : CtxId) : (s.count k).ctl = s.ctl := by rfl
@[simp] theorem State.count_slice (k : CtxId) : (s.count k).slice = s.slice := by rfl
@[simp] theorem State.count_kn (k : CtxId) : (s.count k).kn = s.kn := by rfl
@[simp] theorem State.count_ports (k : CtxId) : (s.count k).ports = s.ports := by rfl
@[simp] theorem State.count_rt (k : CtxId) : (s.count k).rt = s.rt := by rfl
@[simp] theorem State.count_mm (k : CtxId) : (s.count k).mm = s.mm := by rfl
@[simp] theorem State.count_hub (k : CtxId) : (s.count k).hub = s.hub := by rfl
@[simp] theorem State.count_brm (k : CtxId) : (s.count k).brm = s.brm := by rfl
@[simp] theorem State.count_time (k : CtxId) : (s.count k).time = s.time := by rfl
@[simp] theorem State.count_svc (k : CtxId) : (s.count k).svc = s.svc := by rfl
@[simp] theorem State.count_sec (k : CtxId) : (s.count k).sec = s.sec := by rfl
@[simp] theorem State.count_pwr (k : CtxId) : (s.count k).pwr = s.pwr := by rfl

@[simp] theorem State.checkpoint_pending (k : CtxId) : (s.checkpoint k).pending = s.pending := by unfold State.checkpoint; dsimp only; split <;> rfl
@[simp] theorem State.checkpoint_free (k : CtxId) : (s.checkpoint k).free = s.free := by unfold State.checkpoint; dsimp only; split <;> rfl
@[simp] theorem State.checkpoint_lanyard (k : CtxId) : (s.checkpoint k).lanyard = s.lanyard := by unfold State.checkpoint; dsimp only; split <;> rfl
@[simp] theorem State.checkpoint_mem (k : CtxId) : (s.checkpoint k).mem = s.mem := by unfold State.checkpoint; dsimp only; split <;> rfl
@[simp] theorem State.checkpoint_ctl (k : CtxId) : (s.checkpoint k).ctl = s.ctl := by unfold State.checkpoint; dsimp only; split <;> rfl
@[simp] theorem State.checkpoint_slice (k : CtxId) : (s.checkpoint k).slice = s.slice := by unfold State.checkpoint; dsimp only; split <;> rfl
@[simp] theorem State.checkpoint_kn (k : CtxId) : (s.checkpoint k).kn = s.kn := by unfold State.checkpoint; dsimp only; split <;> rfl
@[simp] theorem State.checkpoint_ports (k : CtxId) : (s.checkpoint k).ports = s.ports := by unfold State.checkpoint; dsimp only; split <;> rfl
@[simp] theorem State.checkpoint_rt (k : CtxId) : (s.checkpoint k).rt = s.rt := by unfold State.checkpoint; dsimp only; split <;> rfl
@[simp] theorem State.checkpoint_mm (k : CtxId) : (s.checkpoint k).mm = s.mm := by unfold State.checkpoint; dsimp only; split <;> rfl
@[simp] theorem State.checkpoint_hub (k : CtxId) : (s.checkpoint k).hub = s.hub := by unfold State.checkpoint; dsimp only; split <;> rfl
@[simp] theorem State.checkpoint_brm (k : CtxId) : (s.checkpoint k).brm = s.brm := by unfold State.checkpoint; dsimp only; split <;> rfl
@[simp] theorem State.checkpoint_time (k : CtxId) : (s.checkpoint k).time = s.time := by unfold State.checkpoint; dsimp only; split <;> rfl
@[simp] theorem State.checkpoint_svc (k : CtxId) : (s.checkpoint k).svc = s.svc := by unfold State.checkpoint; dsimp only; split <;> rfl
@[simp] theorem State.checkpoint_sec (k : CtxId) : (s.checkpoint k).sec = s.sec := by unfold State.checkpoint; dsimp only; split <;> rfl
@[simp] theorem State.checkpoint_pwr (k : CtxId) : (s.checkpoint k).pwr = s.pwr := by unfold State.checkpoint; dsimp only; split <;> rfl

@[simp] theorem State.issued_pending (k : CtxId) : (s.issued k).pending = s.pending := by unfold State.issued; dsimp only; split <;> simp
@[simp] theorem State.issued_free (k : CtxId) : (s.issued k).free = s.free := by unfold State.issued; dsimp only; split <;> simp
@[simp] theorem State.issued_lanyard (k : CtxId) : (s.issued k).lanyard = s.lanyard := by unfold State.issued; dsimp only; split <;> simp
@[simp] theorem State.issued_mem (k : CtxId) : (s.issued k).mem = s.mem := by unfold State.issued; dsimp only; split <;> simp
@[simp] theorem State.issued_ctl (k : CtxId) : (s.issued k).ctl = s.ctl := by unfold State.issued; dsimp only; split <;> simp
@[simp] theorem State.issued_slice (k : CtxId) : (s.issued k).slice = s.slice := by unfold State.issued; dsimp only; split <;> simp
@[simp] theorem State.issued_kn (k : CtxId) : (s.issued k).kn = s.kn := by unfold State.issued; dsimp only; split <;> simp
@[simp] theorem State.issued_ports (k : CtxId) : (s.issued k).ports = s.ports := by unfold State.issued; dsimp only; split <;> simp
@[simp] theorem State.issued_rt (k : CtxId) : (s.issued k).rt = s.rt := by unfold State.issued; dsimp only; split <;> simp
@[simp] theorem State.issued_mm (k : CtxId) : (s.issued k).mm = s.mm := by unfold State.issued; dsimp only; split <;> simp
@[simp] theorem State.issued_hub (k : CtxId) : (s.issued k).hub = s.hub := by unfold State.issued; dsimp only; split <;> simp
@[simp] theorem State.issued_brm (k : CtxId) : (s.issued k).brm = s.brm := by unfold State.issued; dsimp only; split <;> simp
@[simp] theorem State.issued_time (k : CtxId) : (s.issued k).time = s.time := by unfold State.issued; dsimp only; split <;> simp
@[simp] theorem State.issued_svc (k : CtxId) : (s.issued k).svc = s.svc := by unfold State.issued; dsimp only; split <;> simp
@[simp] theorem State.issued_sec (k : CtxId) : (s.issued k).sec = s.sec := by unfold State.issued; dsimp only; split <;> simp
@[simp] theorem State.issued_pwr (k : CtxId) : (s.issued k).pwr = s.pwr := by unfold State.issued; dsimp only; split <;> simp

@[simp] theorem State.advance_pending (k : CtxId) : (s.advance k).pending = s.pending := by rfl
@[simp] theorem State.advance_free (k : CtxId) : (s.advance k).free = s.free := by rfl
@[simp] theorem State.advance_lanyard (k : CtxId) : (s.advance k).lanyard = s.lanyard := by rfl
@[simp] theorem State.advance_mem (k : CtxId) : (s.advance k).mem = s.mem := by rfl
@[simp] theorem State.advance_ctl (k : CtxId) : (s.advance k).ctl = s.ctl := by rfl
@[simp] theorem State.advance_slice (k : CtxId) : (s.advance k).slice = s.slice := by rfl
@[simp] theorem State.advance_kn (k : CtxId) : (s.advance k).kn = s.kn := by rfl
@[simp] theorem State.advance_ports (k : CtxId) : (s.advance k).ports = s.ports := by rfl
@[simp] theorem State.advance_rt (k : CtxId) : (s.advance k).rt = s.rt := by rfl
@[simp] theorem State.advance_mm (k : CtxId) : (s.advance k).mm = s.mm := by rfl
@[simp] theorem State.advance_hub (k : CtxId) : (s.advance k).hub = s.hub := by rfl
@[simp] theorem State.advance_brm (k : CtxId) : (s.advance k).brm = s.brm := by rfl
@[simp] theorem State.advance_time (k : CtxId) : (s.advance k).time = s.time := by rfl
@[simp] theorem State.advance_svc (k : CtxId) : (s.advance k).svc = s.svc := by rfl
@[simp] theorem State.advance_sec (k : CtxId) : (s.advance k).sec = s.sec := by rfl
@[simp] theorem State.advance_pwr (k : CtxId) : (s.advance k).pwr = s.pwr := by rfl

@[simp] theorem State.resume_pending (k : CtxId) : (s.resume k).pending = s.pending := by simp [State.resume]
@[simp] theorem State.resume_free (k : CtxId) : (s.resume k).free = s.free := by simp [State.resume]
@[simp] theorem State.resume_lanyard (k : CtxId) : (s.resume k).lanyard = s.lanyard := by simp [State.resume]
@[simp] theorem State.resume_mem (k : CtxId) : (s.resume k).mem = s.mem := by simp [State.resume]
@[simp] theorem State.resume_ctl (k : CtxId) : (s.resume k).ctl = s.ctl := by simp [State.resume]
@[simp] theorem State.resume_slice (k : CtxId) : (s.resume k).slice = s.slice := by simp [State.resume]
@[simp] theorem State.resume_kn (k : CtxId) : (s.resume k).kn = s.kn := by simp [State.resume]
@[simp] theorem State.resume_ports (k : CtxId) : (s.resume k).ports = s.ports := by simp [State.resume]
@[simp] theorem State.resume_rt (k : CtxId) : (s.resume k).rt = s.rt := by simp [State.resume]
@[simp] theorem State.resume_mm (k : CtxId) : (s.resume k).mm = s.mm := by simp [State.resume]
@[simp] theorem State.resume_hub (k : CtxId) : (s.resume k).hub = s.hub := by simp [State.resume]
@[simp] theorem State.resume_brm (k : CtxId) : (s.resume k).brm = s.brm := by simp [State.resume]
@[simp] theorem State.resume_time (k : CtxId) : (s.resume k).time = s.time := by simp [State.resume]
@[simp] theorem State.resume_svc (k : CtxId) : (s.resume k).svc = s.svc := by simp [State.resume]
@[simp] theorem State.resume_sec (k : CtxId) : (s.resume k).sec = s.sec := by simp [State.resume]
@[simp] theorem State.resume_pwr (k : CtxId) : (s.resume k).pwr = s.pwr := by simp [State.resume]

/-! ### Storage of the tiles that they leave alone -/

@[simp] theorem State.fillOne_tls (t : Nat) (t' : Nat) : ((s.fillOne t).tile t').tls = (s.tile t').tls := by
  unfold State.fillOne; dsimp only; split
  · split
    · rw [State.tile_setTile]; split
      · rename_i h; rw [h]
      · rfl
    · rfl
  · rfl
@[simp] theorem State.fillOne_tlsBy (t : Nat) (t' : Nat) : ((s.fillOne t).tile t').tlsBy = (s.tile t').tlsBy := by
  unfold State.fillOne; dsimp only; split
  · split
    · rw [State.tile_setTile]; split
      · rename_i h; rw [h]
      · rfl
    · rfl
  · rfl
@[simp] theorem State.fillOne_banks (t : Nat) (t' : Nat) : ((s.fillOne t).tile t').banks = (s.tile t').banks := by
  unfold State.fillOne; dsimp only; split
  · split
    · rw [State.tile_setTile]; split
      · rename_i h; rw [h]
      · rfl
    · rfl
  · rfl
@[simp] theorem State.fillOne_deadBanks (t : Nat) (t' : Nat) : ((s.fillOne t).tile t').deadBanks = (s.tile t').deadBanks := by
  unfold State.fillOne; dsimp only; split
  · split
    · rw [State.tile_setTile]; split
      · rename_i h; rw [h]
      · rfl
    · rfl
  · rfl
@[simp] theorem State.fillOne_cells (t : Nat) (t' : Nat) : ((s.fillOne t).tile t').cells = (s.tile t').cells := by
  unfold State.fillOne; dsimp only; split
  · split
    · rw [State.tile_setTile]; split
      · rename_i h; rw [h]
      · rfl
    · rfl
  · rfl
@[simp] theorem State.fillOne_evq (t : Nat) (t' : Nat) : ((s.fillOne t).tile t').evq = (s.tile t').evq := by
  unfold State.fillOne; dsimp only; split
  · split
    · rw [State.tile_setTile]; split
      · rename_i h; rw [h]
      · rfl
    · rfl
  · rfl
@[simp] theorem State.fillOne_mmaQ (t : Nat) (t' : Nat) : ((s.fillOne t).tile t').mmaQ = (s.tile t').mmaQ := by
  unfold State.fillOne; dsimp only; split
  · split
    · rw [State.tile_setTile]; split
      · rename_i h; rw [h]
      · rfl
    · rfl
  · rfl
@[simp] theorem State.fillOne_vecQ (t : Nat) (t' : Nat) : ((s.fillOne t).tile t').vecQ = (s.tile t').vecQ := by
  unfold State.fillOne; dsimp only; split
  · split
    · rw [State.tile_setTile]; split
      · rename_i h; rw [h]
      · rfl
    · rfl
  · rfl
@[simp] theorem State.fillOne_spmQ (t : Nat) (t' : Nat) : ((s.fillOne t).tile t').spmQ = (s.tile t').spmQ := by
  unfold State.fillOne; dsimp only; split
  · split
    · rw [State.tile_setTile]; split
      · rename_i h; rw [h]
      · rfl
    · rfl
  · rfl
@[simp] theorem State.fillOne_sieveQ (t : Nat) (t' : Nat) : ((s.fillOne t).tile t').sieveQ = (s.tile t').sieveQ := by
  unfold State.fillOne; dsimp only; split
  · split
    · rw [State.tile_setTile]; split
      · rename_i h; rw [h]
      · rfl
    · rfl
  · rfl
@[simp] theorem State.fillOne_sieve (t : Nat) (t' : Nat) : ((s.fillOne t).tile t').sieve = (s.tile t').sieve := by
  unfold State.fillOne; dsimp only; split
  · split
    · rw [State.tile_setTile]; split
      · rename_i h; rw [h]
      · rfl
    · rfl
  · rfl
@[simp] theorem State.fillOne_arrayBusy (t : Nat) (t' : Nat) : ((s.fillOne t).tile t').arrayBusy = (s.tile t').arrayBusy := by
  unfold State.fillOne; dsimp only; split
  · split
    · rw [State.tile_setTile]; split
      · rename_i h; rw [h]
      · rfl
    · rfl
  · rfl
@[simp] theorem State.fillOne_spmBusy (t : Nat) (t' : Nat) : ((s.fillOne t).tile t').spmBusy = (s.tile t').spmBusy := by
  unfold State.fillOne; dsimp only; split
  · split
    · rw [State.tile_setTile]; split
      · rename_i h; rw [h]
      · rfl
    · rfl
  · rfl

@[simp] theorem State.fillWindow_tls (t : Nat) (t' : Nat) : ((s.fillWindow t).tile t').tls = (s.tile t').tls := by
  simp [State.fillWindow]
@[simp] theorem State.fillWindow_tlsBy (t : Nat) (t' : Nat) : ((s.fillWindow t).tile t').tlsBy = (s.tile t').tlsBy := by
  simp [State.fillWindow]
@[simp] theorem State.fillWindow_banks (t : Nat) (t' : Nat) : ((s.fillWindow t).tile t').banks = (s.tile t').banks := by
  simp [State.fillWindow]
@[simp] theorem State.fillWindow_deadBanks (t : Nat) (t' : Nat) : ((s.fillWindow t).tile t').deadBanks = (s.tile t').deadBanks := by
  simp [State.fillWindow]
@[simp] theorem State.fillWindow_cells (t : Nat) (t' : Nat) : ((s.fillWindow t).tile t').cells = (s.tile t').cells := by
  simp [State.fillWindow]
@[simp] theorem State.fillWindow_evq (t : Nat) (t' : Nat) : ((s.fillWindow t).tile t').evq = (s.tile t').evq := by
  simp [State.fillWindow]
@[simp] theorem State.fillWindow_mmaQ (t : Nat) (t' : Nat) : ((s.fillWindow t).tile t').mmaQ = (s.tile t').mmaQ := by
  simp [State.fillWindow]
@[simp] theorem State.fillWindow_vecQ (t : Nat) (t' : Nat) : ((s.fillWindow t).tile t').vecQ = (s.tile t').vecQ := by
  simp [State.fillWindow]
@[simp] theorem State.fillWindow_spmQ (t : Nat) (t' : Nat) : ((s.fillWindow t).tile t').spmQ = (s.tile t').spmQ := by
  simp [State.fillWindow]
@[simp] theorem State.fillWindow_sieveQ (t : Nat) (t' : Nat) : ((s.fillWindow t).tile t').sieveQ = (s.tile t').sieveQ := by
  simp [State.fillWindow]
@[simp] theorem State.fillWindow_sieve (t : Nat) (t' : Nat) : ((s.fillWindow t).tile t').sieve = (s.tile t').sieve := by
  simp [State.fillWindow]
@[simp] theorem State.fillWindow_arrayBusy (t : Nat) (t' : Nat) : ((s.fillWindow t).tile t').arrayBusy = (s.tile t').arrayBusy := by
  simp [State.fillWindow]
@[simp] theorem State.fillWindow_spmBusy (t : Nat) (t' : Nat) : ((s.fillWindow t).tile t').spmBusy = (s.tile t').spmBusy := by
  simp [State.fillWindow]

@[simp] theorem State.leave_tls (k : CtxId) (t' : Nat) : ((s.leave k).tile t').tls = (s.tile t').tls := by
  rw [State.leave, State.fillWindow_tls, State.tile_setTile]; split
  · rename_i h; rw [h]
  · rfl
@[simp] theorem State.leave_tlsBy (k : CtxId) (t' : Nat) : ((s.leave k).tile t').tlsBy = (s.tile t').tlsBy := by
  rw [State.leave, State.fillWindow_tlsBy, State.tile_setTile]; split
  · rename_i h; rw [h]
  · rfl
@[simp] theorem State.leave_banks (k : CtxId) (t' : Nat) : ((s.leave k).tile t').banks = (s.tile t').banks := by
  rw [State.leave, State.fillWindow_banks, State.tile_setTile]; split
  · rename_i h; rw [h]
  · rfl
@[simp] theorem State.leave_deadBanks (k : CtxId) (t' : Nat) : ((s.leave k).tile t').deadBanks = (s.tile t').deadBanks := by
  rw [State.leave, State.fillWindow_deadBanks, State.tile_setTile]; split
  · rename_i h; rw [h]
  · rfl
@[simp] theorem State.leave_cells (k : CtxId) (t' : Nat) : ((s.leave k).tile t').cells = (s.tile t').cells := by
  rw [State.leave, State.fillWindow_cells, State.tile_setTile]; split
  · rename_i h; rw [h]
  · rfl
@[simp] theorem State.leave_evq (k : CtxId) (t' : Nat) : ((s.leave k).tile t').evq = (s.tile t').evq := by
  rw [State.leave, State.fillWindow_evq, State.tile_setTile]; split
  · rename_i h; rw [h]
  · rfl
@[simp] theorem State.leave_mmaQ (k : CtxId) (t' : Nat) : ((s.leave k).tile t').mmaQ = (s.tile t').mmaQ := by
  rw [State.leave, State.fillWindow_mmaQ, State.tile_setTile]; split
  · rename_i h; rw [h]
  · rfl
@[simp] theorem State.leave_vecQ (k : CtxId) (t' : Nat) : ((s.leave k).tile t').vecQ = (s.tile t').vecQ := by
  rw [State.leave, State.fillWindow_vecQ, State.tile_setTile]; split
  · rename_i h; rw [h]
  · rfl
@[simp] theorem State.leave_spmQ (k : CtxId) (t' : Nat) : ((s.leave k).tile t').spmQ = (s.tile t').spmQ := by
  rw [State.leave, State.fillWindow_spmQ, State.tile_setTile]; split
  · rename_i h; rw [h]
  · rfl
@[simp] theorem State.leave_sieveQ (k : CtxId) (t' : Nat) : ((s.leave k).tile t').sieveQ = (s.tile t').sieveQ := by
  rw [State.leave, State.fillWindow_sieveQ, State.tile_setTile]; split
  · rename_i h; rw [h]
  · rfl
@[simp] theorem State.leave_sieve (k : CtxId) (t' : Nat) : ((s.leave k).tile t').sieve = (s.tile t').sieve := by
  rw [State.leave, State.fillWindow_sieve, State.tile_setTile]; split
  · rename_i h; rw [h]
  · rfl
@[simp] theorem State.leave_arrayBusy (k : CtxId) (t' : Nat) : ((s.leave k).tile t').arrayBusy = (s.tile t').arrayBusy := by
  rw [State.leave, State.fillWindow_arrayBusy, State.tile_setTile]; split
  · rename_i h; rw [h]
  · rfl
@[simp] theorem State.leave_spmBusy (k : CtxId) (t' : Nat) : ((s.leave k).tile t').spmBusy = (s.tile t').spmBusy := by
  rw [State.leave, State.fillWindow_spmBusy, State.tile_setTile]; split
  · rename_i h; rw [h]
  · rfl

@[simp] theorem State.join_tls (k : CtxId) (t' : Nat) : ((s.join k).tile t').tls = (s.tile t').tls := by
  unfold State.join; dsimp only; split
  · rfl
  · rw [State.fillWindow_tls, State.tile_setTile]; split
    · rename_i h; rw [h]
    · rfl
@[simp] theorem State.join_tlsBy (k : CtxId) (t' : Nat) : ((s.join k).tile t').tlsBy = (s.tile t').tlsBy := by
  unfold State.join; dsimp only; split
  · rfl
  · rw [State.fillWindow_tlsBy, State.tile_setTile]; split
    · rename_i h; rw [h]
    · rfl
@[simp] theorem State.join_banks (k : CtxId) (t' : Nat) : ((s.join k).tile t').banks = (s.tile t').banks := by
  unfold State.join; dsimp only; split
  · rfl
  · rw [State.fillWindow_banks, State.tile_setTile]; split
    · rename_i h; rw [h]
    · rfl
@[simp] theorem State.join_deadBanks (k : CtxId) (t' : Nat) : ((s.join k).tile t').deadBanks = (s.tile t').deadBanks := by
  unfold State.join; dsimp only; split
  · rfl
  · rw [State.fillWindow_deadBanks, State.tile_setTile]; split
    · rename_i h; rw [h]
    · rfl
@[simp] theorem State.join_cells (k : CtxId) (t' : Nat) : ((s.join k).tile t').cells = (s.tile t').cells := by
  unfold State.join; dsimp only; split
  · rfl
  · rw [State.fillWindow_cells, State.tile_setTile]; split
    · rename_i h; rw [h]
    · rfl
@[simp] theorem State.join_evq (k : CtxId) (t' : Nat) : ((s.join k).tile t').evq = (s.tile t').evq := by
  unfold State.join; dsimp only; split
  · rfl
  · rw [State.fillWindow_evq, State.tile_setTile]; split
    · rename_i h; rw [h]
    · rfl
@[simp] theorem State.join_mmaQ (k : CtxId) (t' : Nat) : ((s.join k).tile t').mmaQ = (s.tile t').mmaQ := by
  unfold State.join; dsimp only; split
  · rfl
  · rw [State.fillWindow_mmaQ, State.tile_setTile]; split
    · rename_i h; rw [h]
    · rfl
@[simp] theorem State.join_vecQ (k : CtxId) (t' : Nat) : ((s.join k).tile t').vecQ = (s.tile t').vecQ := by
  unfold State.join; dsimp only; split
  · rfl
  · rw [State.fillWindow_vecQ, State.tile_setTile]; split
    · rename_i h; rw [h]
    · rfl
@[simp] theorem State.join_spmQ (k : CtxId) (t' : Nat) : ((s.join k).tile t').spmQ = (s.tile t').spmQ := by
  unfold State.join; dsimp only; split
  · rfl
  · rw [State.fillWindow_spmQ, State.tile_setTile]; split
    · rename_i h; rw [h]
    · rfl
@[simp] theorem State.join_sieveQ (k : CtxId) (t' : Nat) : ((s.join k).tile t').sieveQ = (s.tile t').sieveQ := by
  unfold State.join; dsimp only; split
  · rfl
  · rw [State.fillWindow_sieveQ, State.tile_setTile]; split
    · rename_i h; rw [h]
    · rfl
@[simp] theorem State.join_sieve (k : CtxId) (t' : Nat) : ((s.join k).tile t').sieve = (s.tile t').sieve := by
  unfold State.join; dsimp only; split
  · rfl
  · rw [State.fillWindow_sieve, State.tile_setTile]; split
    · rename_i h; rw [h]
    · rfl
@[simp] theorem State.join_arrayBusy (k : CtxId) (t' : Nat) : ((s.join k).tile t').arrayBusy = (s.tile t').arrayBusy := by
  unfold State.join; dsimp only; split
  · rfl
  · rw [State.fillWindow_arrayBusy, State.tile_setTile]; split
    · rename_i h; rw [h]
    · rfl
@[simp] theorem State.join_spmBusy (k : CtxId) (t' : Nat) : ((s.join k).tile t').spmBusy = (s.tile t').spmBusy := by
  unfold State.join; dsimp only; split
  · rfl
  · rw [State.fillWindow_spmBusy, State.tile_setTile]; split
    · rename_i h; rw [h]
    · rfl

@[simp] theorem State.setCtx_tls (k : CtxId) (c : Ctx) (t' : Nat) : ((s.setCtx k c).tile t').tls = (s.tile t').tls := by
  rw [State.setCtx, State.tile_setTile]; split
  · rename_i h; rw [h]; rfl
  · rfl
@[simp] theorem State.setCtx_tlsBy (k : CtxId) (c : Ctx) (t' : Nat) : ((s.setCtx k c).tile t').tlsBy = (s.tile t').tlsBy := by
  rw [State.setCtx, State.tile_setTile]; split
  · rename_i h; rw [h]; rfl
  · rfl
@[simp] theorem State.setCtx_banks (k : CtxId) (c : Ctx) (t' : Nat) : ((s.setCtx k c).tile t').banks = (s.tile t').banks := by
  rw [State.setCtx, State.tile_setTile]; split
  · rename_i h; rw [h]; rfl
  · rfl
@[simp] theorem State.setCtx_deadBanks (k : CtxId) (c : Ctx) (t' : Nat) : ((s.setCtx k c).tile t').deadBanks = (s.tile t').deadBanks := by
  rw [State.setCtx, State.tile_setTile]; split
  · rename_i h; rw [h]; rfl
  · rfl
@[simp] theorem State.setCtx_cells (k : CtxId) (c : Ctx) (t' : Nat) : ((s.setCtx k c).tile t').cells = (s.tile t').cells := by
  rw [State.setCtx, State.tile_setTile]; split
  · rename_i h; rw [h]; rfl
  · rfl
@[simp] theorem State.setCtx_evq (k : CtxId) (c : Ctx) (t' : Nat) : ((s.setCtx k c).tile t').evq = (s.tile t').evq := by
  rw [State.setCtx, State.tile_setTile]; split
  · rename_i h; rw [h]; rfl
  · rfl
@[simp] theorem State.setCtx_mmaQ (k : CtxId) (c : Ctx) (t' : Nat) : ((s.setCtx k c).tile t').mmaQ = (s.tile t').mmaQ := by
  rw [State.setCtx, State.tile_setTile]; split
  · rename_i h; rw [h]; rfl
  · rfl
@[simp] theorem State.setCtx_vecQ (k : CtxId) (c : Ctx) (t' : Nat) : ((s.setCtx k c).tile t').vecQ = (s.tile t').vecQ := by
  rw [State.setCtx, State.tile_setTile]; split
  · rename_i h; rw [h]; rfl
  · rfl
@[simp] theorem State.setCtx_spmQ (k : CtxId) (c : Ctx) (t' : Nat) : ((s.setCtx k c).tile t').spmQ = (s.tile t').spmQ := by
  rw [State.setCtx, State.tile_setTile]; split
  · rename_i h; rw [h]; rfl
  · rfl
@[simp] theorem State.setCtx_sieveQ (k : CtxId) (c : Ctx) (t' : Nat) : ((s.setCtx k c).tile t').sieveQ = (s.tile t').sieveQ := by
  rw [State.setCtx, State.tile_setTile]; split
  · rename_i h; rw [h]; rfl
  · rfl
@[simp] theorem State.setCtx_sieve (k : CtxId) (c : Ctx) (t' : Nat) : ((s.setCtx k c).tile t').sieve = (s.tile t').sieve := by
  rw [State.setCtx, State.tile_setTile]; split
  · rename_i h; rw [h]; rfl
  · rfl
@[simp] theorem State.setCtx_arrayBusy (k : CtxId) (c : Ctx) (t' : Nat) : ((s.setCtx k c).tile t').arrayBusy = (s.tile t').arrayBusy := by
  rw [State.setCtx, State.tile_setTile]; split
  · rename_i h; rw [h]; rfl
  · rfl
@[simp] theorem State.setCtx_spmBusy (k : CtxId) (c : Ctx) (t' : Nat) : ((s.setCtx k c).tile t').spmBusy = (s.tile t').spmBusy := by
  rw [State.setCtx, State.tile_setTile]; split
  · rename_i h; rw [h]; rfl
  · rfl

@[simp] theorem State.mapCtx_tls (k : CtxId) (f : Ctx → Ctx) (t' : Nat) : ((s.mapCtx k f).tile t').tls = (s.tile t').tls := by
  exact State.setCtx_tls k _ t'
@[simp] theorem State.mapCtx_tlsBy (k : CtxId) (f : Ctx → Ctx) (t' : Nat) : ((s.mapCtx k f).tile t').tlsBy = (s.tile t').tlsBy := by
  exact State.setCtx_tlsBy k _ t'
@[simp] theorem State.mapCtx_banks (k : CtxId) (f : Ctx → Ctx) (t' : Nat) : ((s.mapCtx k f).tile t').banks = (s.tile t').banks := by
  exact State.setCtx_banks k _ t'
@[simp] theorem State.mapCtx_deadBanks (k : CtxId) (f : Ctx → Ctx) (t' : Nat) : ((s.mapCtx k f).tile t').deadBanks = (s.tile t').deadBanks := by
  exact State.setCtx_deadBanks k _ t'
@[simp] theorem State.mapCtx_cells (k : CtxId) (f : Ctx → Ctx) (t' : Nat) : ((s.mapCtx k f).tile t').cells = (s.tile t').cells := by
  exact State.setCtx_cells k _ t'
@[simp] theorem State.mapCtx_evq (k : CtxId) (f : Ctx → Ctx) (t' : Nat) : ((s.mapCtx k f).tile t').evq = (s.tile t').evq := by
  exact State.setCtx_evq k _ t'
@[simp] theorem State.mapCtx_mmaQ (k : CtxId) (f : Ctx → Ctx) (t' : Nat) : ((s.mapCtx k f).tile t').mmaQ = (s.tile t').mmaQ := by
  exact State.setCtx_mmaQ k _ t'
@[simp] theorem State.mapCtx_vecQ (k : CtxId) (f : Ctx → Ctx) (t' : Nat) : ((s.mapCtx k f).tile t').vecQ = (s.tile t').vecQ := by
  exact State.setCtx_vecQ k _ t'
@[simp] theorem State.mapCtx_spmQ (k : CtxId) (f : Ctx → Ctx) (t' : Nat) : ((s.mapCtx k f).tile t').spmQ = (s.tile t').spmQ := by
  exact State.setCtx_spmQ k _ t'
@[simp] theorem State.mapCtx_sieveQ (k : CtxId) (f : Ctx → Ctx) (t' : Nat) : ((s.mapCtx k f).tile t').sieveQ = (s.tile t').sieveQ := by
  exact State.setCtx_sieveQ k _ t'
@[simp] theorem State.mapCtx_sieve (k : CtxId) (f : Ctx → Ctx) (t' : Nat) : ((s.mapCtx k f).tile t').sieve = (s.tile t').sieve := by
  exact State.setCtx_sieve k _ t'
@[simp] theorem State.mapCtx_arrayBusy (k : CtxId) (f : Ctx → Ctx) (t' : Nat) : ((s.mapCtx k f).tile t').arrayBusy = (s.tile t').arrayBusy := by
  exact State.setCtx_arrayBusy k _ t'
@[simp] theorem State.mapCtx_spmBusy (k : CtxId) (f : Ctx → Ctx) (t' : Nat) : ((s.mapCtx k f).tile t').spmBusy = (s.tile t').spmBusy := by
  exact State.setCtx_spmBusy k _ t'

@[simp] theorem State.count_tls (k : CtxId) (t' : Nat) : ((s.count k).tile t').tls = (s.tile t').tls := by
  rw [State.count, State.tile_setTile]; split
  · rename_i h; rw [h]; rfl
  · rfl
@[simp] theorem State.count_tlsBy (k : CtxId) (t' : Nat) : ((s.count k).tile t').tlsBy = (s.tile t').tlsBy := by
  rw [State.count, State.tile_setTile]; split
  · rename_i h; rw [h]; rfl
  · rfl
@[simp] theorem State.count_banks (k : CtxId) (t' : Nat) : ((s.count k).tile t').banks = (s.tile t').banks := by
  rw [State.count, State.tile_setTile]; split
  · rename_i h; rw [h]; rfl
  · rfl
@[simp] theorem State.count_deadBanks (k : CtxId) (t' : Nat) : ((s.count k).tile t').deadBanks = (s.tile t').deadBanks := by
  rw [State.count, State.tile_setTile]; split
  · rename_i h; rw [h]; rfl
  · rfl
@[simp] theorem State.count_cells (k : CtxId) (t' : Nat) : ((s.count k).tile t').cells = (s.tile t').cells := by
  rw [State.count, State.tile_setTile]; split
  · rename_i h; rw [h]; rfl
  · rfl
@[simp] theorem State.count_evq (k : CtxId) (t' : Nat) : ((s.count k).tile t').evq = (s.tile t').evq := by
  rw [State.count, State.tile_setTile]; split
  · rename_i h; rw [h]; rfl
  · rfl
@[simp] theorem State.count_mmaQ (k : CtxId) (t' : Nat) : ((s.count k).tile t').mmaQ = (s.tile t').mmaQ := by
  rw [State.count, State.tile_setTile]; split
  · rename_i h; rw [h]; rfl
  · rfl
@[simp] theorem State.count_vecQ (k : CtxId) (t' : Nat) : ((s.count k).tile t').vecQ = (s.tile t').vecQ := by
  rw [State.count, State.tile_setTile]; split
  · rename_i h; rw [h]; rfl
  · rfl
@[simp] theorem State.count_spmQ (k : CtxId) (t' : Nat) : ((s.count k).tile t').spmQ = (s.tile t').spmQ := by
  rw [State.count, State.tile_setTile]; split
  · rename_i h; rw [h]; rfl
  · rfl
@[simp] theorem State.count_sieveQ (k : CtxId) (t' : Nat) : ((s.count k).tile t').sieveQ = (s.tile t').sieveQ := by
  rw [State.count, State.tile_setTile]; split
  · rename_i h; rw [h]; rfl
  · rfl
@[simp] theorem State.count_sieve (k : CtxId) (t' : Nat) : ((s.count k).tile t').sieve = (s.tile t').sieve := by
  rw [State.count, State.tile_setTile]; split
  · rename_i h; rw [h]; rfl
  · rfl
@[simp] theorem State.count_arrayBusy (k : CtxId) (t' : Nat) : ((s.count k).tile t').arrayBusy = (s.tile t').arrayBusy := by
  rw [State.count, State.tile_setTile]; split
  · rename_i h; rw [h]; rfl
  · rfl
@[simp] theorem State.count_spmBusy (k : CtxId) (t' : Nat) : ((s.count k).tile t').spmBusy = (s.tile t').spmBusy := by
  rw [State.count, State.tile_setTile]; split
  · rename_i h; rw [h]; rfl
  · rfl

@[simp] theorem State.checkpoint_tls (k : CtxId) (t' : Nat) : ((s.checkpoint k).tile t').tls = (s.tile t').tls := by
  unfold State.checkpoint; dsimp only; split
  · exact State.setCtx_tls k _ t'
  · rfl
@[simp] theorem State.checkpoint_tlsBy (k : CtxId) (t' : Nat) : ((s.checkpoint k).tile t').tlsBy = (s.tile t').tlsBy := by
  unfold State.checkpoint; dsimp only; split
  · exact State.setCtx_tlsBy k _ t'
  · rfl
@[simp] theorem State.checkpoint_banks (k : CtxId) (t' : Nat) : ((s.checkpoint k).tile t').banks = (s.tile t').banks := by
  unfold State.checkpoint; dsimp only; split
  · exact State.setCtx_banks k _ t'
  · rfl
@[simp] theorem State.checkpoint_deadBanks (k : CtxId) (t' : Nat) : ((s.checkpoint k).tile t').deadBanks = (s.tile t').deadBanks := by
  unfold State.checkpoint; dsimp only; split
  · exact State.setCtx_deadBanks k _ t'
  · rfl
@[simp] theorem State.checkpoint_cells (k : CtxId) (t' : Nat) : ((s.checkpoint k).tile t').cells = (s.tile t').cells := by
  unfold State.checkpoint; dsimp only; split
  · exact State.setCtx_cells k _ t'
  · rfl
@[simp] theorem State.checkpoint_evq (k : CtxId) (t' : Nat) : ((s.checkpoint k).tile t').evq = (s.tile t').evq := by
  unfold State.checkpoint; dsimp only; split
  · exact State.setCtx_evq k _ t'
  · rfl
@[simp] theorem State.checkpoint_mmaQ (k : CtxId) (t' : Nat) : ((s.checkpoint k).tile t').mmaQ = (s.tile t').mmaQ := by
  unfold State.checkpoint; dsimp only; split
  · exact State.setCtx_mmaQ k _ t'
  · rfl
@[simp] theorem State.checkpoint_vecQ (k : CtxId) (t' : Nat) : ((s.checkpoint k).tile t').vecQ = (s.tile t').vecQ := by
  unfold State.checkpoint; dsimp only; split
  · exact State.setCtx_vecQ k _ t'
  · rfl
@[simp] theorem State.checkpoint_spmQ (k : CtxId) (t' : Nat) : ((s.checkpoint k).tile t').spmQ = (s.tile t').spmQ := by
  unfold State.checkpoint; dsimp only; split
  · exact State.setCtx_spmQ k _ t'
  · rfl
@[simp] theorem State.checkpoint_sieveQ (k : CtxId) (t' : Nat) : ((s.checkpoint k).tile t').sieveQ = (s.tile t').sieveQ := by
  unfold State.checkpoint; dsimp only; split
  · exact State.setCtx_sieveQ k _ t'
  · rfl
@[simp] theorem State.checkpoint_sieve (k : CtxId) (t' : Nat) : ((s.checkpoint k).tile t').sieve = (s.tile t').sieve := by
  unfold State.checkpoint; dsimp only; split
  · exact State.setCtx_sieve k _ t'
  · rfl
@[simp] theorem State.checkpoint_arrayBusy (k : CtxId) (t' : Nat) : ((s.checkpoint k).tile t').arrayBusy = (s.tile t').arrayBusy := by
  unfold State.checkpoint; dsimp only; split
  · exact State.setCtx_arrayBusy k _ t'
  · rfl
@[simp] theorem State.checkpoint_spmBusy (k : CtxId) (t' : Nat) : ((s.checkpoint k).tile t').spmBusy = (s.tile t').spmBusy := by
  unfold State.checkpoint; dsimp only; split
  · exact State.setCtx_spmBusy k _ t'
  · rfl

@[simp] theorem State.issued_tls (k : CtxId) (t' : Nat) : ((s.issued k).tile t').tls = (s.tile t').tls := by
  unfold State.issued; dsimp only; split <;> simp
@[simp] theorem State.issued_tlsBy (k : CtxId) (t' : Nat) : ((s.issued k).tile t').tlsBy = (s.tile t').tlsBy := by
  unfold State.issued; dsimp only; split <;> simp
@[simp] theorem State.issued_banks (k : CtxId) (t' : Nat) : ((s.issued k).tile t').banks = (s.tile t').banks := by
  unfold State.issued; dsimp only; split <;> simp
@[simp] theorem State.issued_deadBanks (k : CtxId) (t' : Nat) : ((s.issued k).tile t').deadBanks = (s.tile t').deadBanks := by
  unfold State.issued; dsimp only; split <;> simp
@[simp] theorem State.issued_cells (k : CtxId) (t' : Nat) : ((s.issued k).tile t').cells = (s.tile t').cells := by
  unfold State.issued; dsimp only; split <;> simp
@[simp] theorem State.issued_evq (k : CtxId) (t' : Nat) : ((s.issued k).tile t').evq = (s.tile t').evq := by
  unfold State.issued; dsimp only; split <;> simp
@[simp] theorem State.issued_mmaQ (k : CtxId) (t' : Nat) : ((s.issued k).tile t').mmaQ = (s.tile t').mmaQ := by
  unfold State.issued; dsimp only; split <;> simp
@[simp] theorem State.issued_vecQ (k : CtxId) (t' : Nat) : ((s.issued k).tile t').vecQ = (s.tile t').vecQ := by
  unfold State.issued; dsimp only; split <;> simp
@[simp] theorem State.issued_spmQ (k : CtxId) (t' : Nat) : ((s.issued k).tile t').spmQ = (s.tile t').spmQ := by
  unfold State.issued; dsimp only; split <;> simp
@[simp] theorem State.issued_sieveQ (k : CtxId) (t' : Nat) : ((s.issued k).tile t').sieveQ = (s.tile t').sieveQ := by
  unfold State.issued; dsimp only; split <;> simp
@[simp] theorem State.issued_sieve (k : CtxId) (t' : Nat) : ((s.issued k).tile t').sieve = (s.tile t').sieve := by
  unfold State.issued; dsimp only; split <;> simp
@[simp] theorem State.issued_arrayBusy (k : CtxId) (t' : Nat) : ((s.issued k).tile t').arrayBusy = (s.tile t').arrayBusy := by
  unfold State.issued; dsimp only; split <;> simp
@[simp] theorem State.issued_spmBusy (k : CtxId) (t' : Nat) : ((s.issued k).tile t').spmBusy = (s.tile t').spmBusy := by
  unfold State.issued; dsimp only; split <;> simp

@[simp] theorem State.advance_tls (k : CtxId) (t' : Nat) : ((s.advance k).tile t').tls = (s.tile t').tls := by
  exact State.setCtx_tls k _ t'
@[simp] theorem State.advance_tlsBy (k : CtxId) (t' : Nat) : ((s.advance k).tile t').tlsBy = (s.tile t').tlsBy := by
  exact State.setCtx_tlsBy k _ t'
@[simp] theorem State.advance_banks (k : CtxId) (t' : Nat) : ((s.advance k).tile t').banks = (s.tile t').banks := by
  exact State.setCtx_banks k _ t'
@[simp] theorem State.advance_deadBanks (k : CtxId) (t' : Nat) : ((s.advance k).tile t').deadBanks = (s.tile t').deadBanks := by
  exact State.setCtx_deadBanks k _ t'
@[simp] theorem State.advance_cells (k : CtxId) (t' : Nat) : ((s.advance k).tile t').cells = (s.tile t').cells := by
  exact State.setCtx_cells k _ t'
@[simp] theorem State.advance_evq (k : CtxId) (t' : Nat) : ((s.advance k).tile t').evq = (s.tile t').evq := by
  exact State.setCtx_evq k _ t'
@[simp] theorem State.advance_mmaQ (k : CtxId) (t' : Nat) : ((s.advance k).tile t').mmaQ = (s.tile t').mmaQ := by
  exact State.setCtx_mmaQ k _ t'
@[simp] theorem State.advance_vecQ (k : CtxId) (t' : Nat) : ((s.advance k).tile t').vecQ = (s.tile t').vecQ := by
  exact State.setCtx_vecQ k _ t'
@[simp] theorem State.advance_spmQ (k : CtxId) (t' : Nat) : ((s.advance k).tile t').spmQ = (s.tile t').spmQ := by
  exact State.setCtx_spmQ k _ t'
@[simp] theorem State.advance_sieveQ (k : CtxId) (t' : Nat) : ((s.advance k).tile t').sieveQ = (s.tile t').sieveQ := by
  exact State.setCtx_sieveQ k _ t'
@[simp] theorem State.advance_sieve (k : CtxId) (t' : Nat) : ((s.advance k).tile t').sieve = (s.tile t').sieve := by
  exact State.setCtx_sieve k _ t'
@[simp] theorem State.advance_arrayBusy (k : CtxId) (t' : Nat) : ((s.advance k).tile t').arrayBusy = (s.tile t').arrayBusy := by
  exact State.setCtx_arrayBusy k _ t'
@[simp] theorem State.advance_spmBusy (k : CtxId) (t' : Nat) : ((s.advance k).tile t').spmBusy = (s.tile t').spmBusy := by
  exact State.setCtx_spmBusy k _ t'

/-! ### An instruction that goes -/

/-- Counting an instruction leaves the context's registers alone. -/
theorem State.ctx_count (k : CtxId) : (s.count k).ctx k = { s.ctx k with
    issued := (s.ctx k).issued + 1,
    halt := if (s.ctx k).halt = DbgHalt.stepping then .steppedHalt s.lanyard.toNat else (s.ctx k).halt } := by
  rw [State.ctx, State.count, State.tile_setTile_same]
  exact Tile.ctx_setCtx_same _ _ _

theorem State.ctx_count_ne {k k' : CtxId} (h : k' ≠ k) : (s.count k).ctx k' = s.ctx k' := by
  have : (s.count k).ctx k' = (s.setCtx k ((s.count k).ctx k)).ctx k' := by
    rw [State.ctx_count]; simp only [State.count, State.setCtx, State.ctx, State.tile_setTile]
    split <;> rfl
  rw [this, State.ctx_setCtx_ne h]

/-- The end of an issue changes of its context only the checkpoint ring. -/
theorem State.ctx_issued (k : CtxId) : ∃ r, (s.issued k).ctx k = { s.ctx k with ring := r } := by
  have h : ∃ r, (s.checkpoint k).ctx k = { s.ctx k with ring := r } := by
    unfold State.checkpoint; dsimp only; split
    · exact ⟨_, State.ctx_setCtx_same _ _⟩
    · exact ⟨_, rfl⟩
  unfold State.issued; dsimp only; split
  · rw [State.ctx_leave]; exact h
  · exact h

theorem State.ctx_issued_ne {k k' : CtxId} (h : k' ≠ k) : (s.issued k).ctx k' = s.ctx k' := by
  have e : (s.checkpoint k).ctx k' = s.ctx k' := by
    unfold State.checkpoint; dsimp only; split
    · exact State.ctx_setCtx_ne h _
    · rfl
  unfold State.issued; dsimp only; split
  · rw [State.ctx_leave, e]
  · exact e

@[simp] theorem State.ctx_advance (k : CtxId) : (s.advance k).ctx k = (s.ctx k).onFrom (s.ctx k).pc :=
  State.ctx_mapCtx_same k _

theorem State.ctx_advance_ne {k k' : CtxId} (h : k' ≠ k) : (s.advance k).ctx k' = s.ctx k' := State.ctx_setCtx_ne h _

/-! ### Registers of the context through an issue -/

@[simp] theorem State.count_ctx_task (k : CtxId) : ((s.count k).ctx k).task = (s.ctx k).task := by rw [State.ctx_count]
@[simp] theorem State.count_ctx_glove (k : CtxId) : ((s.count k).ctx k).glove = (s.ctx k).glove := by rw [State.ctx_count]
@[simp] theorem State.count_ctx_g (k : CtxId) : ((s.count k).ctx k).g = (s.ctx k).g := by rw [State.ctx_count]
@[simp] theorem State.count_ctx_p (k : CtxId) : ((s.count k).ctx k).p = (s.ctx k).p := by rw [State.ctx_count]
@[simp] theorem State.count_ctx_t (k : CtxId) : ((s.count k).ctx k).t = (s.ctx k).t := by rw [State.ctx_count]
@[simp] theorem State.count_ctx_v (k : CtxId) : ((s.count k).ctx k).v = (s.ctx k).v := by rw [State.ctx_count]
@[simp] theorem State.count_ctx_pc (k : CtxId) : ((s.count k).ctx k).pc = (s.ctx k).pc := by rw [State.ctx_count]
@[simp] theorem State.count_ctx_loops (k : CtxId) : ((s.count k).ctx k).loops = (s.ctx k).loops := by rw [State.ctx_count]
@[simp] theorem State.count_ctx_loopsAside (k : CtxId) : ((s.count k).ctx k).loopsAside = (s.ctx k).loopsAside := by rw [State.ctx_count]
@[simp] theorem State.count_ctx_lace (k : CtxId) : ((s.count k).ctx k).lace = (s.ctx k).lace := by rw [State.ctx_count]
@[simp] theorem State.count_ctx_csr (k : CtxId) : ((s.count k).ctx k).csr = (s.ctx k).csr := by rw [State.ctx_count]
@[simp] theorem State.count_ctx_moves (k : CtxId) : ((s.count k).ctx k).moves = (s.ctx k).moves := by rw [State.ctx_count]
@[simp] theorem State.count_ctx_banks (k : CtxId) : ((s.count k).ctx k).banks = (s.ctx k).banks := by rw [State.ctx_count]
@[simp] theorem State.count_ctx_wait (k : CtxId) : ((s.count k).ctx k).wait = (s.ctx k).wait := by rw [State.ctx_count]
@[simp] theorem State.count_ctx_podLoad (k : CtxId) : ((s.count k).ctx k).podLoad = (s.ctx k).podLoad := by rw [State.ctx_count]
@[simp] theorem State.count_ctx_staged (k : CtxId) : ((s.count k).ctx k).staged = (s.ctx k).staged := by rw [State.ctx_count]
@[simp] theorem State.count_ctx_stall (k : CtxId) : ((s.count k).ctx k).stall = (s.ctx k).stall := by rw [State.ctx_count]
@[simp] theorem State.count_ctx_dispatchedAt (k : CtxId) : ((s.count k).ctx k).dispatchedAt = (s.ctx k).dispatchedAt := by rw [State.ctx_count]
@[simp] theorem State.count_ctx_stopped (k : CtxId) : ((s.count k).ctx k).stopped = (s.ctx k).stopped := by rw [State.ctx_count]
@[simp] theorem State.count_ctx_digAcc (k : CtxId) : ((s.count k).ctx k).digAcc = (s.ctx k).digAcc := by rw [State.ctx_count]
@[simp] theorem State.count_ctx_digPkt (k : CtxId) : ((s.count k).ctx k).digPkt = (s.ctx k).digPkt := by rw [State.ctx_count]
@[simp] theorem State.count_ctx_digKnot (k : CtxId) : ((s.count k).ctx k).digKnot = (s.ctx k).digKnot := by rw [State.ctx_count]
@[simp] theorem State.count_ctx_digEng (k : CtxId) : ((s.count k).ctx k).digEng = (s.ctx k).digEng := by rw [State.ctx_count]
@[simp] theorem State.count_ctx_ring (k : CtxId) : ((s.count k).ctx k).ring = (s.ctx k).ring := by rw [State.ctx_count]
@[simp] theorem State.count_ctx_gr (k : CtxId) (r : Nat) : ((s.count k).ctx k).gr r = (s.ctx k).gr r := by rw [State.ctx_count]; rfl
@[simp] theorem State.count_ctx_pr (k : CtxId) (r : Nat) : ((s.count k).ctx k).pr r = (s.ctx k).pr r := by rw [State.ctx_count]; rfl
@[simp] theorem State.count_ctx_cs (k : CtxId) (r : Nat) : ((s.count k).ctx k).cs r = (s.ctx k).cs r := by rw [State.ctx_count]; rfl
@[simp] theorem State.count_ctx_desc (k : CtxId) (r : Nat) : ((s.count k).ctx k).desc r = (s.ctx k).desc r := by rw [State.ctx_count]; rfl
@[simp] theorem State.issued_ctx_task (k : CtxId) : ((s.issued k).ctx k).task = (s.ctx k).task := by
  obtain ⟨_, h⟩ := State.ctx_issued (s := s) k; rw [h]
@[simp] theorem State.issued_ctx_glove (k : CtxId) : ((s.issued k).ctx k).glove = (s.ctx k).glove := by
  obtain ⟨_, h⟩ := State.ctx_issued (s := s) k; rw [h]
@[simp] theorem State.issued_ctx_g (k : CtxId) : ((s.issued k).ctx k).g = (s.ctx k).g := by
  obtain ⟨_, h⟩ := State.ctx_issued (s := s) k; rw [h]
@[simp] theorem State.issued_ctx_p (k : CtxId) : ((s.issued k).ctx k).p = (s.ctx k).p := by
  obtain ⟨_, h⟩ := State.ctx_issued (s := s) k; rw [h]
@[simp] theorem State.issued_ctx_t (k : CtxId) : ((s.issued k).ctx k).t = (s.ctx k).t := by
  obtain ⟨_, h⟩ := State.ctx_issued (s := s) k; rw [h]
@[simp] theorem State.issued_ctx_v (k : CtxId) : ((s.issued k).ctx k).v = (s.ctx k).v := by
  obtain ⟨_, h⟩ := State.ctx_issued (s := s) k; rw [h]
@[simp] theorem State.issued_ctx_pc (k : CtxId) : ((s.issued k).ctx k).pc = (s.ctx k).pc := by
  obtain ⟨_, h⟩ := State.ctx_issued (s := s) k; rw [h]
@[simp] theorem State.issued_ctx_loops (k : CtxId) : ((s.issued k).ctx k).loops = (s.ctx k).loops := by
  obtain ⟨_, h⟩ := State.ctx_issued (s := s) k; rw [h]
@[simp] theorem State.issued_ctx_loopsAside (k : CtxId) : ((s.issued k).ctx k).loopsAside = (s.ctx k).loopsAside := by
  obtain ⟨_, h⟩ := State.ctx_issued (s := s) k; rw [h]
@[simp] theorem State.issued_ctx_lace (k : CtxId) : ((s.issued k).ctx k).lace = (s.ctx k).lace := by
  obtain ⟨_, h⟩ := State.ctx_issued (s := s) k; rw [h]
@[simp] theorem State.issued_ctx_csr (k : CtxId) : ((s.issued k).ctx k).csr = (s.ctx k).csr := by
  obtain ⟨_, h⟩ := State.ctx_issued (s := s) k; rw [h]
@[simp] theorem State.issued_ctx_moves (k : CtxId) : ((s.issued k).ctx k).moves = (s.ctx k).moves := by
  obtain ⟨_, h⟩ := State.ctx_issued (s := s) k; rw [h]
@[simp] theorem State.issued_ctx_banks (k : CtxId) : ((s.issued k).ctx k).banks = (s.ctx k).banks := by
  obtain ⟨_, h⟩ := State.ctx_issued (s := s) k; rw [h]
@[simp] theorem State.issued_ctx_wait (k : CtxId) : ((s.issued k).ctx k).wait = (s.ctx k).wait := by
  obtain ⟨_, h⟩ := State.ctx_issued (s := s) k; rw [h]
@[simp] theorem State.issued_ctx_podLoad (k : CtxId) : ((s.issued k).ctx k).podLoad = (s.ctx k).podLoad := by
  obtain ⟨_, h⟩ := State.ctx_issued (s := s) k; rw [h]
@[simp] theorem State.issued_ctx_staged (k : CtxId) : ((s.issued k).ctx k).staged = (s.ctx k).staged := by
  obtain ⟨_, h⟩ := State.ctx_issued (s := s) k; rw [h]
@[simp] theorem State.issued_ctx_issued (k : CtxId) : ((s.issued k).ctx k).issued = (s.ctx k).issued := by
  obtain ⟨_, h⟩ := State.ctx_issued (s := s) k; rw [h]
@[simp] theorem State.issued_ctx_stall (k : CtxId) : ((s.issued k).ctx k).stall = (s.ctx k).stall := by
  obtain ⟨_, h⟩ := State.ctx_issued (s := s) k; rw [h]
@[simp] theorem State.issued_ctx_dispatchedAt (k : CtxId) : ((s.issued k).ctx k).dispatchedAt = (s.ctx k).dispatchedAt := by
  obtain ⟨_, h⟩ := State.ctx_issued (s := s) k; rw [h]
@[simp] theorem State.issued_ctx_stopped (k : CtxId) : ((s.issued k).ctx k).stopped = (s.ctx k).stopped := by
  obtain ⟨_, h⟩ := State.ctx_issued (s := s) k; rw [h]
@[simp] theorem State.issued_ctx_halt (k : CtxId) : ((s.issued k).ctx k).halt = (s.ctx k).halt := by
  obtain ⟨_, h⟩ := State.ctx_issued (s := s) k; rw [h]
@[simp] theorem State.issued_ctx_digAcc (k : CtxId) : ((s.issued k).ctx k).digAcc = (s.ctx k).digAcc := by
  obtain ⟨_, h⟩ := State.ctx_issued (s := s) k; rw [h]
@[simp] theorem State.issued_ctx_digPkt (k : CtxId) : ((s.issued k).ctx k).digPkt = (s.ctx k).digPkt := by
  obtain ⟨_, h⟩ := State.ctx_issued (s := s) k; rw [h]
@[simp] theorem State.issued_ctx_digKnot (k : CtxId) : ((s.issued k).ctx k).digKnot = (s.ctx k).digKnot := by
  obtain ⟨_, h⟩ := State.ctx_issued (s := s) k; rw [h]
@[simp] theorem State.issued_ctx_digEng (k : CtxId) : ((s.issued k).ctx k).digEng = (s.ctx k).digEng := by
  obtain ⟨_, h⟩ := State.ctx_issued (s := s) k; rw [h]
@[simp] theorem State.issued_ctx_gr (k : CtxId) (r : Nat) : ((s.issued k).ctx k).gr r = (s.ctx k).gr r := by
  obtain ⟨_, h⟩ := State.ctx_issued (s := s) k; rw [h]; rfl
@[simp] theorem State.issued_ctx_pr (k : CtxId) (r : Nat) : ((s.issued k).ctx k).pr r = (s.ctx k).pr r := by
  obtain ⟨_, h⟩ := State.ctx_issued (s := s) k; rw [h]; rfl
@[simp] theorem State.issued_ctx_cs (k : CtxId) (r : Nat) : ((s.issued k).ctx k).cs r = (s.ctx k).cs r := by
  obtain ⟨_, h⟩ := State.ctx_issued (s := s) k; rw [h]; rfl
@[simp] theorem State.issued_ctx_desc (k : CtxId) (r : Nat) : ((s.issued k).ctx k).desc r = (s.ctx k).desc r := by
  obtain ⟨_, h⟩ := State.ctx_issued (s := s) k; rw [h]; rfl

/-! ### Going on changes pc and loop stack alone -/

@[simp] theorem Ctx.onFrom_task (x : Ctx) (a : BitVec 57) : (x.onFrom a).task = x.task := rfl
@[simp] theorem Ctx.onFrom_glove (x : Ctx) (a : BitVec 57) : (x.onFrom a).glove = x.glove := rfl
@[simp] theorem Ctx.onFrom_g (x : Ctx) (a : BitVec 57) : (x.onFrom a).g = x.g := rfl
@[simp] theorem Ctx.onFrom_p (x : Ctx) (a : BitVec 57) : (x.onFrom a).p = x.p := rfl
@[simp] theorem Ctx.onFrom_t (x : Ctx) (a : BitVec 57) : (x.onFrom a).t = x.t := rfl
@[simp] theorem Ctx.onFrom_v (x : Ctx) (a : BitVec 57) : (x.onFrom a).v = x.v := rfl
@[simp] theorem Ctx.onFrom_loopsAside (x : Ctx) (a : BitVec 57) : (x.onFrom a).loopsAside = x.loopsAside := rfl
@[simp] theorem Ctx.onFrom_lace (x : Ctx) (a : BitVec 57) : (x.onFrom a).lace = x.lace := rfl
@[simp] theorem Ctx.onFrom_csr (x : Ctx) (a : BitVec 57) : (x.onFrom a).csr = x.csr := rfl
@[simp] theorem Ctx.onFrom_moves (x : Ctx) (a : BitVec 57) : (x.onFrom a).moves = x.moves := rfl
@[simp] theorem Ctx.onFrom_banks (x : Ctx) (a : BitVec 57) : (x.onFrom a).banks = x.banks := rfl
@[simp] theorem Ctx.onFrom_wait (x : Ctx) (a : BitVec 57) : (x.onFrom a).wait = x.wait := rfl
@[simp] theorem Ctx.onFrom_podLoad (x : Ctx) (a : BitVec 57) : (x.onFrom a).podLoad = x.podLoad := rfl
@[simp] theorem Ctx.onFrom_staged (x : Ctx) (a : BitVec 57) : (x.onFrom a).staged = x.staged := rfl
@[simp] theorem Ctx.onFrom_issued (x : Ctx) (a : BitVec 57) : (x.onFrom a).issued = x.issued := rfl
@[simp] theorem Ctx.onFrom_stall (x : Ctx) (a : BitVec 57) : (x.onFrom a).stall = x.stall := rfl
@[simp] theorem Ctx.onFrom_dispatchedAt (x : Ctx) (a : BitVec 57) : (x.onFrom a).dispatchedAt = x.dispatchedAt := rfl
@[simp] theorem Ctx.onFrom_stopped (x : Ctx) (a : BitVec 57) : (x.onFrom a).stopped = x.stopped := rfl
@[simp] theorem Ctx.onFrom_halt (x : Ctx) (a : BitVec 57) : (x.onFrom a).halt = x.halt := rfl
@[simp] theorem Ctx.onFrom_digAcc (x : Ctx) (a : BitVec 57) : (x.onFrom a).digAcc = x.digAcc := rfl
@[simp] theorem Ctx.onFrom_digPkt (x : Ctx) (a : BitVec 57) : (x.onFrom a).digPkt = x.digPkt := rfl
@[simp] theorem Ctx.onFrom_digKnot (x : Ctx) (a : BitVec 57) : (x.onFrom a).digKnot = x.digKnot := rfl
@[simp] theorem Ctx.onFrom_digEng (x : Ctx) (a : BitVec 57) : (x.onFrom a).digEng = x.digEng := rfl
@[simp] theorem Ctx.onFrom_ring (x : Ctx) (a : BitVec 57) : (x.onFrom a).ring = x.ring := rfl
@[simp] theorem Ctx.onFrom_gr (x : Ctx) (a : BitVec 57) (r : Nat) : (x.onFrom a).gr r = x.gr r := rfl
@[simp] theorem Ctx.onFrom_pr (x : Ctx) (a : BitVec 57) (r : Nat) : (x.onFrom a).pr r = x.pr r := rfl
@[simp] theorem Ctx.onFrom_cs (x : Ctx) (a : BitVec 57) (r : Nat) : (x.onFrom a).cs r = x.cs r := rfl
@[simp] theorem Ctx.onFrom_desc (x : Ctx) (a : BitVec 57) (r : Nat) : (x.onFrom a).desc r = x.desc r := rfl
@[simp] theorem Ctx.onFrom_pc (x : Ctx) (a : BitVec 57) : (x.onFrom a).pc = (loopNext a x.loops).1 := rfl
@[simp] theorem Ctx.onFrom_loops (x : Ctx) (a : BitVec 57) : (x.onFrom a).loops = (loopNext a x.loops).2 := rfl

/-! ### Branches and traps -/

@[simp] theorem Ctx.branch_gr (x : Ctx) (a : BitVec 57) (r : Nat) : (x.branch a).gr r = x.gr r := rfl
@[simp] theorem Ctx.branch_pr (x : Ctx) (a : BitVec 57) (r : Nat) : (x.branch a).pr r = x.pr r := rfl
@[simp] theorem Ctx.branch_cs (x : Ctx) (a : BitVec 57) (r : Nat) : (x.branch a).cs r = x.cs r := rfl

/-- The context as a trap leaves it to its handler. -/
def Ctx.handling (x : Ctx) (code info : Nat) : Ctx :=
  { ((x.setCs 4 (x.pc.setWidth 64)).setCs 5 (BitVec.ofNat 64 info)).setCs 3 (BitVec.ofNat 64 code) with
    pc := BitVec.ofNat 57 ((x.cs 2).toNat / 8 * 8), loopsAside := some x.loops, loops := [] }

@[simp] theorem Ctx.setCs_g (x : Ctx) (i : Nat) (v : W64) : (x.setCs i v).g = x.g := rfl
@[simp] theorem Ctx.setCs_p (x : Ctx) (i : Nat) (v : W64) : (x.setCs i v).p = x.p := rfl
@[simp] theorem Ctx.setCs_gr (x : Ctx) (i : Nat) (v : W64) (r : Nat) : (x.setCs i v).gr r = x.gr r := rfl
@[simp] theorem Ctx.setCs_pr (x : Ctx) (i : Nat) (v : W64) (r : Nat) : (x.setCs i v).pr r = x.pr r := rfl

theorem Ctx.handling_pc (x : Ctx) (c i : Nat) : (x.handling c i).pc = BitVec.ofNat 57 ((x.cs 2).toNat / 8 * 8) := by
  unfold Ctx.handling; exact Eq.refl _
theorem Ctx.handling_loops (x : Ctx) (c i : Nat) : (x.handling c i).loops = [] := by unfold Ctx.handling; exact Eq.refl _
theorem Ctx.handling_aside (x : Ctx) (c i : Nat) : (x.handling c i).loopsAside = some x.loops := by
  unfold Ctx.handling; exact Eq.refl _
theorem Ctx.handling_g (x : Ctx) (c i : Nat) : (x.handling c i).g = x.g := by unfold Ctx.handling; exact Eq.refl _
theorem Ctx.handling_p (x : Ctx) (c i : Nat) : (x.handling c i).p = x.p := by unfold Ctx.handling; exact Eq.refl _
theorem Ctx.handling_csr (x : Ctx) (c i : Nat) : (x.handling c i).csr =
    (((x.setCs 4 (x.pc.setWidth 64)).setCs 5 (BitVec.ofNat 64 i)).setCs 3 (BitVec.ofNat 64 c)).csr := by
  unfold Ctx.handling; exact Eq.refl _
theorem Ctx.handling_gr (x : Ctx) (c i r : Nat) : (x.handling c i).gr r = x.gr r := by
  unfold Ctx.gr; rw [Ctx.handling_g]
theorem Ctx.handling_pr (x : Ctx) (c i r : Nat) : (x.handling c i).pr r = x.pr r := by
  unfold Ctx.pr; rw [Ctx.handling_p]

/-- TRAP_PC, TRAP_INFO and TRAP_CAUSE of a trap. -/
theorem Ctx.handling_cs (x : Ctx) (c i j : Nat) : (x.handling c i).cs j =
    if j = 3 then BitVec.ofNat 64 c else if j = 5 then BitVec.ofNat 64 i else if j = 4 then x.pc.setWidth 64 else x.cs j := by
  rw [Ctx.cs, Ctx.handling_csr, ← Ctx.cs]
  simp only [Ctx.cs_setCs]

/-- A trap under a handler. -/
theorem State.trap_handled (k : CtxId) (code info : Nat) (h : (s.ctx k).cs 2 ≠ 0 ∧ (s.ctx k).cs 3 = 0) :
    s.trap k code info = s.setCtx k ((s.ctx k).handling code info) := if_pos h

/-- A trap without one. -/
theorem State.trap_fault (k : CtxId) (code info : Nat) (h : ¬ ((s.ctx k).cs 2 ≠ 0 ∧ (s.ctx k).cs 3 = 0)) :
    s.trap k code info = s.faultGlove (s.ctx k).glove causeTRAP := if_neg h

/-- A Format A instruction that is legal, not held back, and whose guard holds has its effect on the counted state. -/
theorem State.issueA_go {k : CtxId} {w : FmtA} {legal : Bool} {f : State → State} (h1 : s.canIssue k = true)
    (h2 : s.gLocked k [w.rd.toNat, w.ra.toNat, w.rb.toNat] = false) (h3 : legal = true)
    (h4 : (s.ctx k).guard w.pg w.pn = true) : s.issueA k w legal f = (f (s.count k)).issued k := by
  have h5 : ((s.count k).ctx k).guard w.pg w.pn = true := by rw [State.ctx_count]; exact h4
  simp [State.issueA, h1, h2, h3, h5]

/-- A Format B instruction that is legal, not held back, and whose guard holds has its effect on the counted state. -/
theorem State.issueB_go {k : CtxId} {w : FmtB} {legal : Bool} {f : State → Option State} {u : State}
    (h1 : s.canIssue k = true)
    (h2 : s.gLocked k [w.rd.toNat, w.ra.toNat, w.rb.toNat, w.rc.toNat, w.sd.toNat] = false) (h3 : legal = true)
    (h4 : (s.ctx k).guard w.pg w.pn = true) (h5 : f (s.count k) = some u) : s.issueB k w legal f = u.issued k := by
  have h6 : ((s.count k).ctx k).guard w.pg w.pn = true := by rw [State.ctx_count]; exact h4
  simp [State.issueB, h1, h2, h3, h6, h5]

/-- An instruction that completes ST_OK writes 0 to gSD and goes on. -/
theorem State.finish_ok (k : CtxId) (w : FmtB) :
    s.finish k w ST_OK = (s.mapCtx k (fun x => x.setG w.sd.toNat 0)).advance k := by
  simp [State.finish, ST_OK]

/-- An instruction without TF completes with its status and goes on. -/
theorem State.finish_untrapped (k : CtxId) {w : FmtB} (h : w.tf = false) (st : Nat) :
    s.finish k w st = (s.mapCtx k (fun x => x.setG w.sd.toNat (BitVec.ofNat 64 st))).advance k := by
  simp [State.finish, h]

end Sys2Proof.Machine
end

