-- ==== Sys2Proof/Laws/Issue.lean ====
section
/-! SUPPORT. What an instruction that issues and goes leaves, in the terms of the claims: the frames compose, and each
operation of the sequencer has its own. -/

namespace Sys2Proof.Machine

variable {s t u : State} {k : CtxId}

/-- An outcome written as `done` is a command carried out, where P does not look at the queue. -/
theorem goes_done {c : Instr} {P : State → Prop} (h : exec c s = done s t) (hp : P { t with pending := s.pending }) :
    Goes c s P := ⟨_, h, rfl, hp⟩

/-- An outcome written as `done` is a command carried out. -/
theorem goes_of {c : Instr} {P : State → Prop} (h : exec c s = done s t) (hq : ∀ q, P t → P { t with pending := q })
    (hp : P t) : Goes c s P := ⟨_, h, rfl, hq _ hp⟩

theorem State.outsideKept.trans (h : s.outsideKept t) (g : t.outsideKept u) : s.outsideKept u :=
  ⟨g.1.trans h.1, fun a => (g.2 a).trans (h.2 a)⟩

theorem State.othersKept.trans (h : s.othersKept t k) (g : t.othersKept u k) : s.othersKept u k :=
  ⟨fun k' hk => (g.1 k' hk).trans (h.1 k' hk), fun n => (g.2 n).trans (h.2 n)⟩

theorem State.onlyRegs.trans (h : s.onlyRegs t k) (g : t.onlyRegs u k) : s.onlyRegs u k :=
  ⟨h.1.trans g.1, h.2.1.trans g.2.1, g.2.2.trans h.2.2⟩

theorem State.outsideKept_of (h1 : t.outside = s.outside) : s.outsideKept t := by
  refine ⟨h1, fun a => ?_⟩
  have : t.outside.mem = s.outside.mem := by rw [h1]
  exact congrArg (fun m => Tab.look (fun _ => 0) m a) this

/-- Queueing commands again changes nothing a frame looks at. -/
theorem State.onlyRegs_pending (h : s.onlyRegs t k) (q : List Instr) : s.onlyRegs { t with pending := q } k := h

theorem State.outside_count : (s.count k).outside = s.outside := rfl
theorem State.outside_mapCtx (f : Ctx → Ctx) : (s.mapCtx k f).outside = s.outside := rfl
theorem State.outside_issued : (s.issued k).outside = s.outside := by simp [State.outside]

theorem State.othersKept_mapCtx (f : Ctx → Ctx) : s.othersKept (s.mapCtx k f) k :=
  ⟨fun _ h => State.ctx_setCtx_ne h _, fun n => by simp [Tile.rest]⟩

theorem State.othersKept_count : s.othersKept (s.count k) k :=
  ⟨fun _ h => State.ctx_count_ne h, fun n => by simp [Tile.rest]⟩

theorem State.othersKept_issued : s.othersKept (s.issued k) k :=
  ⟨fun _ h => State.ctx_issued_ne h, fun n => by simp [Tile.rest]⟩

theorem State.onlyRegs_count : s.onlyRegs (s.count k) k :=
  ⟨State.outsideKept_of State.outside_count, State.othersKept_count, by rw [State.ctx_count]; rfl⟩

theorem State.onlyRegs_issued : s.onlyRegs (s.issued k) k := by
  refine ⟨State.outsideKept_of State.outside_issued, State.othersKept_issued, ?_⟩
  obtain ⟨r, hr⟩ := State.ctx_issued (s := s) k
  rw [hr]; rfl

theorem State.onlyRegs_mapCtx {f : Ctx → Ctx} (h : (f (s.ctx k)).rest = (s.ctx k).rest) : s.onlyRegs (s.mapCtx k f) k :=
  ⟨State.outsideKept_of (State.outside_mapCtx f), State.othersKept_mapCtx f, by rw [State.ctx_mapCtx_same, h]⟩

theorem Ctx.rest_setG (x : Ctx) (r : Nat) (v : W64) : (x.setG r v).rest = x.rest := by unfold Ctx.setG; split <;> rfl
theorem Ctx.rest_setP (x : Ctx) (r : Nat) (v : Bool) : (x.setP r v).rest = x.rest := by unfold Ctx.setP; split <;> rfl

theorem State.onlyRegs_advance : s.onlyRegs (s.advance k) k := State.onlyRegs_mapCtx rfl

theorem State.onlyRegs_leave : s.onlyRegs (s.leave k) k :=
  ⟨State.outsideKept_of (by simp [State.outside]), ⟨fun _ _ => by simp, fun n => by simp [Tile.rest]⟩, by simp⟩

theorem State.onlyRegs_join : s.onlyRegs (s.join k) k :=
  ⟨State.outsideKept_of (by simp [State.outside]), ⟨fun _ _ => by simp, fun n => by simp [Tile.rest]⟩, by simp⟩

/-- A Format A instruction that goes, by what its effect does to the counted state. -/
theorem State.issueA_leaves {w : FmtA} {legal : Bool} {g : State → State} (h : ReadyA s k w) (hl : legal = true)
    (hg : (s.count k).onlyRegs (g (s.count k)) k) :
    s.onlyRegs (s.issueA k w legal g) k ∧
      ∃ r, (s.issueA k w legal g).ctx k = { (g (s.count k)).ctx k with ring := r } := by
  rw [State.issueA_go h.1 h.2.1 hl h.2.2]
  exact ⟨State.onlyRegs_count.trans (hg.trans State.onlyRegs_issued), State.ctx_issued k⟩

/-- A Format B instruction that goes, by what its effect does to the counted state. -/
theorem State.issueB_leaves {w : FmtB} {legal : Bool} {g : State → Option State} {u : State} (h : ReadyB s k w)
    (hl : legal = true) (hu : g (s.count k) = some u) :
    s.issueB k w legal g = u.issued k ∧ ∃ r, (s.issueB k w legal g).ctx k = { u.ctx k with ring := r } := by
  rw [State.issueB_go h.1 h.2.1 hl h.2.2 hu]
  exact ⟨rfl, State.ctx_issued k⟩

/-- An instruction that writes a g-register and goes on. -/
theorem State.setG_advance (r : Nat) (v : W64) :
    s.onlyRegs ((s.mapCtx k (fun x => x.setG r v)).advance k) k :=
  (State.onlyRegs_mapCtx (Ctx.rest_setG _ _ _)).trans State.onlyRegs_advance

theorem State.onlyRegs_finish_ok (w : FmtB) : s.onlyRegs (s.finish k w ST_OK) k := by
  rw [State.finish_ok]; exact State.setG_advance _ _

theorem State.onlyRegs_finish {w : FmtB} (h : w.tf = false) (st : Nat) : s.onlyRegs (s.finish k w st) k := by
  rw [State.finish_untrapped k h]; exact State.setG_advance _ _

theorem State.onlyRegs_result (w : FmtB) (r : Nat) (v : W64) : s.onlyRegs (s.result k w r v) k :=
  (State.onlyRegs_mapCtx (Ctx.rest_setG _ _ _)).trans (State.onlyRegs_finish_ok w)

theorem State.ctx_finish_ok (w : FmtB) :
    (s.finish k w ST_OK).ctx k = ((s.ctx k).setG w.sd.toNat 0).onFrom (s.ctx k).pc := by
  rw [State.finish_ok]; simp

theorem State.ctx_finish {w : FmtB} (h : w.tf = false) (st : Nat) :
    (s.finish k w st).ctx k = ((s.ctx k).setG w.sd.toNat (BitVec.ofNat 64 st)).onFrom (s.ctx k).pc := by
  rw [State.finish_untrapped k h]; simp

theorem State.ctx_result (w : FmtB) (r : Nat) (v : W64) :
    (s.result k w r v).ctx k = (((s.ctx k).setG r v).setG w.sd.toNat 0).onFrom (s.ctx k).pc := by
  rw [State.result, State.ctx_finish_ok]; simp

/-- A context whose registers, pc and loop stack are those of another. -/
def Ctx.sameRegs (x y : Ctx) : Prop :=
  (∀ q, y.gr q = x.gr q) ∧ (∀ q, y.pr q = x.pr q) ∧ y.pc = x.pc ∧ y.loops = x.loops

theorem Ctx.sameRegs_refl (x : Ctx) : x.sameRegs x := ⟨fun _ => rfl, fun _ => rfl, rfl, rfl⟩

theorem State.sameRegs_count : (s.ctx k).sameRegs ((s.count k).ctx k) :=
  ⟨State.count_ctx_gr k, State.count_ctx_pr k, State.count_ctx_pc k, State.count_ctx_loops k⟩

/-- A Format B instruction that ends with a result has completed. -/
theorem State.completed_result {w : FmtB} (h : (s.ctx k).sameRegs (u.ctx k)) (r : Nat) (v : W64) :
    s.completed ((u.result k w r v).issued k) k w r v := by
  obtain ⟨h1, h2, h3, h4⟩ := h
  refine ⟨⟨fun q => ?_, fun q => ?_⟩, ?_, ?_⟩
  · by_cases hq : q = 0 <;> simp [State.ctx_result, Ctx.gr_setG, h1, hq]
  · simp [State.ctx_result, h2]
  · simp [State.ctx_result, h3, h4]
  · simp [State.ctx_result, h3, h4]

/-- A Format B instruction that ends ST_OK without a result has completed. -/
theorem State.completed_finish {w : FmtB} (h : (s.ctx k).sameRegs (u.ctx k)) :
    s.completed ((u.finish k w ST_OK).issued k) k w 0 0 := by
  obtain ⟨h1, h2, h3, h4⟩ := h
  refine ⟨⟨fun q => ?_, fun q => ?_⟩, ?_, ?_⟩
  · by_cases hq : q = 0 <;> simp [State.ctx_finish_ok, Ctx.gr_setG, h1, hq]
  · simp [State.ctx_finish_ok, h2]
  · simp [State.ctx_finish_ok, h3, h4]
  · simp [State.ctx_finish_ok, h3, h4]

/-- A Format B instruction without TF that ends with a status has written it and gone on. -/
theorem State.wrote_finish {w : FmtB} (h : (s.ctx k).sameRegs (u.ctx k)) (ht : w.tf = false) (st : Nat) :
    (s.ctx k).wrote (((u.finish k w st).issued k).ctx k) 0 0 w.sd.toNat (BitVec.ofNat 64 st)
      ∧ (s.ctx k).wentOn (((u.finish k w st).issued k).ctx k) := by
  obtain ⟨h1, h2, h3, h4⟩ := h
  refine ⟨⟨fun q => ?_, fun q => ?_⟩, ?_, ?_⟩
  · by_cases hq : q = 0 <;> simp [State.ctx_finish ht, Ctx.gr_setG, h1, hq]
  · simp [State.ctx_finish ht, h2]
  · simp [State.ctx_finish ht, h3, h4]
  · simp [State.ctx_finish ht, h3, h4]

/-- The interlocks look at the queues alone. -/
@[simp] theorem State.locked_count (k' : CtxId) (r w : List Region) : (s.count k).locked k' r w = s.locked k' r w := by
  unfold State.locked Tile.conflict
  congr 1
  funext j
  have h : ∀ j, ((s.count k).tile k'.tile).queue j = (s.tile k'.tile).queue j := by
    intro j; unfold Tile.queue; split <;> simp
  rw [h]

@[simp] theorem State.reg_count (o : Nat) : (s.count k).reg o = s.reg o := rfl
@[simp] theorem State.fget_count (o : Nat) (f : Fld) : (s.count k).fget o f = s.fget o f := rfl
@[simp] theorem State.byte_count (a : Nat) : (s.count k).byte a = s.byte a := rfl
@[simp] theorem State.task_count (q : Nat) : (s.count k).task q = s.task q := rfl
@[simp] theorem State.gstate_count (n : Nat) : (s.count k).gstate n = s.gstate n := rfl
@[simp] theorem State.page_count (n : Nat) : (s.count k).page n = s.page n := rfl
@[simp] theorem State.poisoned_count (n : Nat) : (s.count k).poisoned n = s.poisoned n := rfl

end Sys2Proof.Machine
end

