-- ==== Sys2Proof/Laws/Keep.lean ====
section
/-! SUPPORT. How the canonical form is kept: by the base operations, by a branch, and by a fold whose every turn keeps it. -/

namespace Sys2Proof.Machine

variable {s : State}

theorem Canonical.mem (h : Canonical s) : memWf s.mem = true := h.1
theorem Canonical.ctl (h : Canonical s) : ctlWf s.ctl = true := h.2.1
theorem Canonical.slice (h : Canonical s) : sliceWf s.slice = true := h.2.2

/-- The three tables in canonical form, whatever the other fields. -/
theorem canonical_mk {p f l m c sl kn ti po rt mm hub brm tm sv se pw}
    (hm : memWf m = true) (hc : ctlWf c = true) (hs : sliceWf sl = true) :
    Canonical ⟨p, f, l, m, c, sl, kn, ti, po, rt, mm, hub, brm, tm, sv, se, pw⟩ := ⟨hm, hc, hs⟩

/-- An update of other fields. -/
theorem canonical_upd {p f l kn ti po rt mm hub brm tm sv se pw} :
    Canonical ⟨p, f, l, s.mem, s.ctl, s.slice, kn, ti, po, rt, mm, hub, brm, tm, sv, se, pw⟩ ↔ Canonical s := Iff.rfl

/-- An update of other fields that drops some cells. -/
theorem canonical_cells {p f l kn ti po rt mm hub brm tm sv se pw q} (h : Canonical s) :
    Canonical ⟨p, f, l, s.mem, s.ctl, Tab.dropIf q s.slice, kn, ti, po, rt, mm, hub, brm, tm, sv, se, pw⟩ :=
  ⟨h.1, h.2.1, Tab.wf_dropIf h.2.2⟩

theorem State.setReg_canonical (o : Nat) (v : W64) (h : Canonical s) : Canonical (s.setReg o v) :=
  ⟨h.1, Tab.wf_store h.2.1, h.2.2⟩

theorem State.setByte_canonical (a : Nat) (b : Byte) (h : Canonical s) : Canonical (s.setByte a b) :=
  ⟨Tab.wf_store h.1, h.2.1, h.2.2⟩

theorem State.fset_canonical (o : Nat) (f : Fld) (n : Nat) (h : Canonical s) : Canonical (s.fset o f n) :=
  State.setReg_canonical _ _ h

theorem canonical_ite {c : Prop} [Decidable c] {t u : State} (ht : Canonical t) (hu : Canonical u) :
    Canonical (if c then t else u) := by split <;> assumption

theorem canonical_foldl {β : Type} {f : State → β → State} {l : List β} (h : Canonical s)
    (hf : ∀ s x, Canonical s → Canonical (f s x)) : Canonical (l.foldl f s) := by
  induction l generalizing s with
  | nil => exact h
  | cons x l ih => exact ih (hf s x h)

theorem canonical_foldr {β : Type} {f : β → State → State} {l : List β} (h : Canonical s)
    (hf : ∀ s x, Canonical s → Canonical (f x s)) : Canonical (l.foldr f s) := by
  induction l with
  | nil => exact h
  | cons x l ih => exact hf _ x ih

/-- Registers stored one after another keep the canonical form. -/
theorem ctlWf_foldl {c : Tab W64} {f : Nat → W64} {l : List Nat} (h : ctlWf c = true) :
    ctlWf (l.foldl (fun c o => Tab.store regReset c o (f o)) c) = true := by
  induction l generalizing c with
  | nil => exact h
  | cons o l ih => exact ih (Tab.wf_store h)

/-- Where an operation answers a state, it is in canonical form. -/
def KeptO (o : Option State) : Prop := ∀ u, o = some u → Canonical u

theorem keptO_none : KeptO none := fun _ h => nomatch h
theorem keptO_some {u : State} (h : Canonical u) : KeptO (some u) := fun _ e => Option.some.inj e ▸ h

theorem keptO_ite {c : Prop} [Decidable c] {t u : Option State} (ht : KeptO t) (hu : KeptO u) :
    KeptO (if c then t else u) := by split <;> assumption

theorem keptO_foldl {β : Type} {f : Option State → β → Option State} {l : List β} {o : Option State} (h : KeptO o)
    (hf : ∀ o x, KeptO o → KeptO (f o x)) : KeptO (l.foldl f o) := by
  induction l generalizing o with
  | nil => exact h
  | cons x l ih => exact ih (hf o x h)

theorem keptO_map {o : Option State} {f : State → State} (h : KeptO o) (hf : ∀ s, Canonical s → Canonical (f s)) :
    KeptO (o.map f) := by
  intro u e
  cases o with
  | none => cases e
  | some t => exact Option.some.inj e ▸ hf t (h t rfl)

theorem canonical_some {o : Option State} {u : State} (h : KeptO o) (e : o = some u) : Canonical u := h u e

theorem canonical_map {α : Type} {o : Option (State × α)} {u : State} {a : α} (h : KeptO (o.map Prod.fst))
    (e : o = some (u, a)) : Canonical u := h u (by rw [e]; rfl)

theorem canonical_fst {α : Type} {p : State × α} {u : State} {a : α} (h : Canonical p.1) (e : p = (u, a)) : Canonical u := by
  subst e; exact h

theorem canonical_snd {α : Type} {p : α × State} {u : State} {a : α} (h : Canonical p.2) (e : p = (a, u)) : Canonical u := by
  subst e; exact h

end Sys2Proof.Machine
end

