-- ==== Sys2Proof/Laws/KeepOps.lean ====
section
/-! SUPPORT. Every operation of Machine/Ops.lean that answers a state keeps the canonical form. -/

namespace Sys2Proof.Machine

theorem State.logRec_canonical {s : State} (hs : Canonical s) (r : EvRec) :
    Canonical (s.logRec r) := by
  unfold State.logRec
  try dsimp only
  repeat' first
    | with_reducible assumption
    | with_reducible apply State.fset_canonical
    | with_reducible apply canonical_ite
    | simp only [canonical_upd]

theorem State.journal_canonical {s : State} (hs : Canonical s) (ty : ℕ) (src : ℕ) (slot : ℕ) (payload : List Byte) :
    Canonical (s.journal ty src slot payload) := by
  unfold State.journal
  try dsimp only
  repeat' first
    | with_reducible assumption
    | with_reducible apply State.setReg_canonical
    | split
    | simp only [canonical_upd]

theorem State.event_canonical {s : State} (hs : Canonical s) (code : ℕ) (unit : ℕ) (slot : ℕ) (w2 : ℕ) (w3 : ℕ) :
    Canonical (s.event code unit slot w2 w3) := by
  unfold State.event
  try dsimp only
  repeat' first
    | with_reducible assumption
    | with_reducible apply State.logRec_canonical
    | with_reducible apply State.journal_canonical
    | split

theorem State.bumpBy_canonical {s : State} (hs : Canonical s) (off : ℕ) (f : Fld) (ovf : Bool) (n : ℕ) :
    Canonical (s.bumpBy off f ovf n) := by
  unfold State.bumpBy
  try dsimp only
  repeat' first
    | with_reducible assumption
    | with_reducible apply State.fset_canonical
    | with_reducible apply State.event_canonical
    | with_reducible apply canonical_ite
    | split
    | simp only [canonical_upd]

theorem State.bump_canonical {s : State} (hs : Canonical s) (off : ℕ) (f : Fld) (n : ℕ) :
    Canonical (s.bump off f n) := by
  unfold State.bump
  try dsimp only
  repeat' first
    | with_reducible assumption
    | with_reducible apply State.bumpBy_canonical

theorem State.setBytes_canonical {s : State} (hs : Canonical s) (a1 : ℕ) (a2 : List Byte) :
    Canonical (s.setBytes a1 a2) := by
  fun_induction State.setBytes s a1 a2
  all_goals try dsimp only
  all_goals repeat' first
    | with_reducible apply ‹Canonical _ → _›
    | with_reducible assumption
    | with_reducible apply State.setByte_canonical

theorem State.wr_canonical {s : State} (hs : Canonical s) (a : ℕ) (n : ℕ) (v : ℕ) :
    Canonical (s.wr a n v) := by
  unfold State.wr
  try dsimp only
  repeat' first
    | with_reducible assumption
    | with_reducible apply State.setBytes_canonical

theorem State.setPage_canonical {s : State} (hs : Canonical s) (p : ℕ) (v : Page) :
    Canonical (s.setPage p v) := by
  unfold State.setPage
  try dsimp only
  repeat' first
    | with_reducible assumption
    | simp only [canonical_upd]

theorem State.setFreeIn_canonical {s : State} (hs : Canonical s) (ch : ℕ) (l : List ℕ) :
    Canonical (s.setFreeIn ch l) := by
  unfold State.setFreeIn
  try dsimp only
  repeat' first
    | with_reducible assumption
    | simp only [canonical_upd]

theorem State.placeHbm_canonical {s : State} (hs : Canonical s) (p : ℕ) (no : ℕ) (age : ℕ) :
    KeptO (State.placeHbm s p no age) := by
  unfold State.placeHbm
  try dsimp only
  repeat' first
    | with_reducible assumption
    | with_reducible apply State.setPage_canonical
    | with_reducible apply State.setFreeIn_canonical
    | with_reducible apply keptO_none
    | with_reducible apply keptO_some
    | split

theorem State.releaseFrame_canonical {s : State} (hs : Canonical s) (p : ℕ) :
    Canonical (s.releaseFrame p) := by
  unfold State.releaseFrame
  try dsimp only
  repeat' first
    | with_reducible assumption
    | with_reducible apply State.setFreeIn_canonical
    | split

theorem State.candMiss_canonical {s : State} (hs : Canonical s) (p : ℕ) (die : ℕ) :
    Canonical (s.candMiss p die) := by
  unfold State.candMiss
  try dsimp only
  repeat' first
    | with_reducible assumption
    | split
    | simp only [canonical_upd]

theorem State.touch_canonical {s : State} (hs : Canonical s) (p : ℕ) (die : ℕ) (demand : Bool) :
    KeptO (State.touch s p die demand) := by
  unfold State.touch
  try dsimp only
  repeat' first
    | with_reducible assumption
    | with_reducible apply State.setPage_canonical
    | with_reducible apply State.placeHbm_canonical
    | with_reducible apply State.candMiss_canonical
    | with_reducible apply keptO_some
    | with_reducible apply canonical_ite
    | with_reducible apply keptO_ite
    | split
    | simp only [canonical_upd]

theorem State.setPoison_canonical {s : State} (hs : Canonical s) (line : ℕ) (b : Bool) :
    Canonical (s.setPoison line b) := by
  unfold State.setPoison
  try dsimp only
  repeat' first
    | with_reducible assumption
    | simp only [canonical_upd]

theorem State.setTile_canonical {s : State} (hs : Canonical s) (t : ℕ) (v : Tile) :
    Canonical (s.setTile t v) := by
  unfold State.setTile
  try dsimp only
  repeat' first
    | with_reducible assumption
    | simp only [canonical_upd]

theorem State.setCtx_canonical {s : State} (hs : Canonical s) (k : CtxId) (x : Ctx) :
    Canonical (s.setCtx k x) := by
  unfold State.setCtx
  try dsimp only
  repeat' first
    | with_reducible assumption
    | with_reducible apply State.setTile_canonical

theorem State.setTask_canonical {s : State} (hs : Canonical s) (q : ℕ) (v : Option Task) :
    Canonical (s.setTask q v) := by
  unfold State.setTask
  try dsimp only
  repeat' first
    | with_reducible assumption
    | simp only [canonical_upd]

theorem State.dropWork_canonical {s : State} (hs : Canonical s) (n : ℕ) :
    Canonical (s.dropWork n) := by
  unfold State.dropWork
  try dsimp only
  repeat' first
    | with_reducible assumption
    | simp only [canonical_upd]

theorem State.idleEngines_canonical {s : State} (hs : Canonical s)  :
    Canonical (s.idleEngines) := by
  unfold State.idleEngines
  try dsimp only
  repeat' first
    | with_reducible assumption
    | with_reducible apply State.fset_canonical
    | with_reducible apply canonical_foldl
    | split
    | with_reducible intro _

theorem State.stopTiles_canonical {s : State} (hs : Canonical s) (n : ℕ) :
    Canonical (s.stopTiles n) := hs

theorem State.moreCause_canonical {s : State} (hs : Canonical s) (n : ℕ) (cause : ℕ) :
    Canonical (s.moreCause n cause) := hs

theorem State.goDown_canonical {s : State} (hs : Canonical s) (n : ℕ) (cause : ℕ) :
    Canonical (s.goDown n cause) := by
  unfold State.goDown
  dsimp only
  repeat' first
    | with_reducible assumption
    | with_reducible apply State.fset_canonical
    | with_reducible apply State.idleEngines_canonical
    | with_reducible apply State.dropWork_canonical
    | with_reducible apply State.stopTiles_canonical

theorem State.faultGlove_canonical {s : State} (hs : Canonical s) (n : ℕ) (cause : ℕ) :
    Canonical (s.faultGlove n cause) := by
  unfold State.faultGlove
  repeat' first
    | with_reducible assumption
    | with_reducible apply State.goDown_canonical
    | with_reducible apply State.moreCause_canonical
    | with_reducible apply canonical_ite

theorem State.touchRange_canonical {s : State} (hs : Canonical s) (n : ℕ) (die : ℕ) (demand : Bool) (a1 : ℕ) (a2 : ℕ) :
    KeptO (State.touchRange s n die demand a1 a2) := by
  fun_induction State.touchRange s n die demand a1 a2
  all_goals try dsimp only
  all_goals repeat' first
    | with_reducible apply ‹Canonical _ → _›
    | with_reducible assumption
    | with_reducible apply State.touch_canonical
    | with_reducible apply keptO_none
    | with_reducible apply keptO_some
    | (refine canonical_some ?_ (by assumption))

theorem State.memFault_canonical {s : State} (hs : Canonical s) (n : ℕ) (va : ℕ) (len : ℕ) :
    Canonical (s.memFault n va len) := by
  unfold State.memFault
  try dsimp only
  repeat' first
    | with_reducible assumption
    | with_reducible apply State.event_canonical
    | with_reducible apply State.bumpBy_canonical
    | with_reducible apply State.faultGlove_canonical
    | with_reducible apply canonical_ite
    | split

theorem State.clearPoison_canonical {s : State} (hs : Canonical s) (a : ℕ) (len : ℕ) :
    Canonical (s.clearPoison a len) := by
  unfold State.clearPoison
  try dsimp only
  repeat' first
    | with_reducible assumption
    | with_reducible apply State.setPoison_canonical
    | with_reducible apply canonical_ite

theorem State.setVbytesGo_canonical {s : State} (hs : Canonical s) (n : ℕ) (a1 : ℕ) (a2 : List Byte) :
    Canonical (s.setVbytesGo n a1 a2) := by
  induction a2 generalizing s a1 with
  | nil => exact hs
  | cons b bs ih =>
    unfold State.setVbytesGo
    refine ih ?_ _
    split
    · exact State.clearPoison_canonical (State.setByte_canonical _ _ hs) _ _
    · exact hs

theorem State.setVbytes_canonical {s : State} (hs : Canonical s) (n : ℕ) (va : ℕ) (bs : List Byte) :
    KeptO (State.setVbytes s n va bs) := by
  unfold State.setVbytes
  try dsimp only
  repeat' first
    | with_reducible assumption
    | with_reducible apply State.touchRange_canonical
    | with_reducible apply State.setVbytesGo_canonical
    | with_reducible apply keptO_none
    | with_reducible apply keptO_some
    | with_reducible apply keptO_ite
    | split
    | (refine canonical_some ?_ (by assumption))

theorem State.engineRead_canonical {s : State} (hs : Canonical s) (n : ℕ) (die : ℕ) (va : ℕ) (len : ℕ) :
    KeptO ((State.engineRead s n die va len).map Prod.fst) := by
  unfold State.engineRead
  split
  · rw [Option.map_map]
    exact keptO_map (State.touchRange_canonical hs _ _ _ _ _) fun _ h => h
  · exact keptO_none

end Sys2Proof.Machine
end

