-- ==== Sys2Proof/Laws/KeepSeq.lean ====
section
/-! SUPPORT. Every operation of Machine/Seq.lean that answers a state keeps the canonical form. -/

namespace Sys2Proof.Machine

theorem State.mapCtx_canonical {s : State} (hs : Canonical s) (k : CtxId) (f : Ctx → Ctx) :
    Canonical (s.mapCtx k f) := by
  unfold State.mapCtx
  try dsimp only
  repeat' first
    | with_reducible assumption
    | with_reducible apply State.setCtx_canonical

theorem State.fillOne_canonical {s : State} (hs : Canonical s) (t : ℕ) :
    Canonical (s.fillOne t) := by
  unfold State.fillOne
  try dsimp only
  repeat' first
    | with_reducible assumption
    | with_reducible apply State.setTile_canonical
    | with_reducible apply canonical_ite
    | split

theorem State.fillWindow_canonical {s : State} (hs : Canonical s) (t : ℕ) :
    Canonical (s.fillWindow t) := by
  unfold State.fillWindow
  try dsimp only
  repeat' first
    | with_reducible assumption
    | with_reducible apply State.fillOne_canonical

theorem State.leave_canonical {s : State} (hs : Canonical s) (k : CtxId) :
    Canonical (s.leave k) := by
  unfold State.leave
  try dsimp only
  repeat' first
    | with_reducible assumption
    | with_reducible apply State.fillWindow_canonical
    | with_reducible apply State.setTile_canonical

theorem State.join_canonical {s : State} (hs : Canonical s) (k : CtxId) :
    Canonical (s.join k) := by
  unfold State.join
  try dsimp only
  repeat' first
    | with_reducible assumption
    | with_reducible apply State.fillWindow_canonical
    | with_reducible apply State.setTile_canonical
    | with_reducible apply canonical_ite

theorem State.advance_canonical {s : State} (hs : Canonical s) (k : CtxId) :
    Canonical (s.advance k) := by
  unfold State.advance
  try dsimp only
  repeat' first
    | with_reducible assumption
    | with_reducible apply State.mapCtx_canonical

theorem State.trap_canonical {s : State} (hs : Canonical s) (k : CtxId) (code : ℕ) (info : ℕ) :
    Canonical (s.trap k code info) := by
  unfold State.trap
  try dsimp only
  repeat' first
    | with_reducible assumption
    | with_reducible apply State.setCtx_canonical
    | with_reducible apply State.faultGlove_canonical
    | with_reducible apply canonical_ite

theorem State.finish_canonical {s : State} (hs : Canonical s) (k : CtxId) (w : FmtB) (st : ℕ) :
    Canonical (s.finish k w st) := by
  unfold State.finish
  try dsimp only
  repeat' first
    | with_reducible assumption
    | with_reducible apply State.mapCtx_canonical
    | with_reducible apply State.trap_canonical
    | with_reducible apply State.advance_canonical
    | with_reducible apply canonical_ite

theorem State.result_canonical {s : State} (hs : Canonical s) (k : CtxId) (w : FmtB) (r : ℕ) (v : W64) :
    Canonical (s.result k w r v) := by
  unfold State.result
  try dsimp only
  repeat' first
    | with_reducible assumption
    | with_reducible apply State.finish_canonical
    | with_reducible apply State.mapCtx_canonical

theorem State.count_canonical {s : State} (hs : Canonical s) (k : CtxId) :
    Canonical (s.count k) := by
  unfold State.count
  try dsimp only
  repeat' first
    | with_reducible assumption
    | with_reducible apply State.setTile_canonical

theorem State.checkpoint_canonical {s : State} (hs : Canonical s) (k : CtxId) :
    Canonical (s.checkpoint k) := by
  unfold State.checkpoint
  try dsimp only
  repeat' first
    | with_reducible assumption
    | with_reducible apply State.setCtx_canonical
    | with_reducible apply canonical_ite

theorem State.issued_canonical {s : State} (hs : Canonical s) (k : CtxId) :
    Canonical (s.issued k) := by
  unfold State.issued
  try dsimp only
  repeat' first
    | with_reducible assumption
    | with_reducible apply State.checkpoint_canonical
    | with_reducible apply State.leave_canonical
    | with_reducible apply canonical_ite

theorem State.issueA_canonical {s : State} (hs : Canonical s) (k : CtxId) (w : FmtA) (legal : Bool) (f : State → State) (hf : ∀ x0, Canonical x0 → Canonical (f x0)) :
    Canonical (s.issueA k w legal f) := by
  unfold State.issueA
  try dsimp only
  repeat' first
    | with_reducible assumption
    | with_reducible apply hf
    | with_reducible apply State.count_canonical
    | with_reducible apply State.advance_canonical
    | with_reducible apply State.trap_canonical
    | with_reducible apply State.issued_canonical
    | with_reducible apply canonical_ite

theorem State.issueB_canonical {s : State} (hs : Canonical s) (k : CtxId) (w : FmtB) (legal : Bool) (f : State → Option State) (hf : ∀ x0, Canonical x0 → KeptO (f x0)) :
    Canonical (s.issueB k w legal f) := by
  unfold State.issueB
  try dsimp only
  repeat' first
    | with_reducible assumption
    | with_reducible apply hf
    | with_reducible apply State.count_canonical
    | with_reducible apply State.issued_canonical
    | with_reducible apply State.advance_canonical
    | with_reducible apply State.trap_canonical
    | with_reducible apply canonical_ite
    | split
    | (refine canonical_some ?_ (by assumption))

theorem State.resume_canonical {s : State} (hs : Canonical s) (k : CtxId) :
    Canonical (s.resume k) := by
  unfold State.resume
  try dsimp only
  repeat' first
    | with_reducible assumption
    | with_reducible apply State.join_canonical
    | with_reducible apply State.mapCtx_canonical

theorem State.recheck_canonical {s : State} (hs : Canonical s) (k : CtxId) :
    Canonical (s.recheck k) := by
  unfold State.recheck
  try dsimp only
  repeat' first
    | with_reducible assumption
    | with_reducible apply State.advance_canonical
    | with_reducible apply State.resume_canonical
    | with_reducible apply canonical_ite
    | split

end Sys2Proof.Machine
end

