-- ==== Sys2Proof/Laws/KeepKnots.lean ====
section
/-! SUPPORT. Every operation of Machine/Knots.lean that answers a state keeps the canonical form. -/

namespace Sys2Proof.Machine

theorem State.dig_canonical {s : State} (hs : Canonical s) (k : CtxId) (stream : ℕ) (bs : List Byte) :
    Canonical (s.dig k stream bs) := by
  unfold State.dig
  try dsimp only
  repeat' first
    | with_reducible assumption
    | with_reducible apply State.setCtx_canonical
    | with_reducible apply canonical_ite
    | split

theorem State.setKnot_canonical {s : State} (hs : Canonical s) (k : ℕ) (v : Knot) :
    Canonical (s.setKnot k v) := by
  unfold State.setKnot
  try dsimp only
  repeat' first
    | with_reducible assumption
    | simp only [canonical_upd]

theorem State.taintTask_canonical {s : State} (hs : Canonical s) (q : ℕ) (taint : Bool) (marks : List ℕ) :
    Canonical (s.taintTask q taint marks) := by
  unfold State.taintTask
  try dsimp only
  repeat' first
    | with_reducible assumption
    | with_reducible apply State.setTask_canonical
    | split

theorem State.readyTask_canonical {s : State} (hs : Canonical s) (q : ℕ) :
    Canonical (s.readyTask q) := by
  unfold State.readyTask
  try dsimp only
  repeat' first
    | with_reducible assumption
    | with_reducible apply State.setTask_canonical
    | with_reducible apply canonical_ite
    | split
    | simp only [canonical_upd]

theorem State.progressKnot_canonical {s : State} (hs : Canonical s) (k : ℕ) :
    Canonical (s.progressKnot k) := by
  unfold State.progressKnot
  try dsimp only
  repeat' first
    | with_reducible assumption
    | simp only [canonical_upd]

theorem State.endKwait_canonical {s : State} (hs : Canonical s) (k : CtxId) (knot : ℕ) (st : ℕ) :
    Canonical (s.endKwait k knot st) := by
  unfold State.endKwait
  try dsimp only
  repeat' first
    | with_reducible assumption
    | with_reducible apply State.finish_canonical
    | with_reducible apply State.resume_canonical
    | with_reducible apply canonical_ite
    | split

theorem State.releaseOne_canonical {s : State} (hs : Canonical s) (k : ℕ) (v : Knot) (w : Waiter) :
    Canonical (s.releaseOne k v w) := by
  unfold State.releaseOne
  try dsimp only
  repeat' first
    | with_reducible assumption
    | with_reducible apply State.progressKnot_canonical
    | with_reducible apply State.readyTask_canonical
    | with_reducible apply State.taintTask_canonical
    | with_reducible apply State.setTask_canonical
    | with_reducible apply State.endKwait_canonical
    | split

theorem State.release_canonical {s : State} (hs : Canonical s) (k : ℕ) :
    Canonical (s.release k) := by
  unfold State.release
  try dsimp only
  repeat' first
    | with_reducible assumption
    | with_reducible apply State.releaseOne_canonical
    | with_reducible apply State.setKnot_canonical
    | with_reducible apply canonical_foldl
    | with_reducible apply canonical_ite
    | with_reducible intro _

theorem State.knotAdd_canonical {s : State} (hs : Canonical s) (k : ℕ) (n : ℕ) (taint : Bool) (marks : List ℕ) (compare : optParam Bool false) :
    Canonical (s.knotAdd k n taint marks compare) := by
  unfold State.knotAdd
  try dsimp only
  repeat' first
    | with_reducible assumption
    | with_reducible apply State.release_canonical
    | with_reducible apply State.setKnot_canonical
    | with_reducible apply canonical_ite

theorem State.knotSet_canonical {s : State} (hs : Canonical s) (k : ℕ) (c : ℕ) (t : ℕ) :
    Canonical (s.knotSet k c t) := by
  unfold State.knotSet
  try dsimp only
  repeat' first
    | with_reducible assumption
    | with_reducible apply State.release_canonical
    | with_reducible apply State.setKnot_canonical

theorem State.engineAdd_canonical {s : State} (hs : Canonical s) (k : ℕ) (n : ℕ) (taint : Bool) (marks : List ℕ) :
    Canonical (s.engineAdd k n taint marks) := by
  unfold State.engineAdd
  try dsimp only
  repeat' first
    | with_reducible assumption
    | with_reducible apply State.faultGlove_canonical
    | with_reducible apply State.event_canonical
    | with_reducible apply State.knotAdd_canonical
    | with_reducible apply canonical_ite
    | split

theorem State.dropWaiter_canonical {s : State} (hs : Canonical s) (k : ℕ) (w : Waiter) :
    Canonical (s.dropWaiter k w) := by
  unfold State.dropWaiter
  try dsimp only
  repeat' first
    | with_reducible assumption
    | with_reducible apply State.progressKnot_canonical
    | with_reducible apply State.setKnot_canonical

theorem State.installDir_canonical {s : State} (hs : Canonical s) (n : ℕ) :
    Canonical (s.installDir n) := by
  unfold State.installDir
  try dsimp only
  repeat' first
    | with_reducible assumption
    | with_reducible apply State.fset_canonical
    | with_reducible apply State.setReg_canonical
    | with_reducible apply State.event_canonical
    | with_reducible apply canonical_ite

theorem State.commitStep_canonical {s : State} (hs : Canonical s) (n : ℕ) (id : W64) :
    Canonical (s.commitStep n id) := by
  unfold State.commitStep
  try dsimp only
  repeat' first
    | with_reducible assumption
    | with_reducible apply State.installDir_canonical
    | with_reducible apply State.setReg_canonical

theorem State.stepBoundary_canonical {s : State} (hs : Canonical s) (n : ℕ) (id : W64) :
    Canonical (s.stepBoundary n id) := by
  unfold State.stepBoundary
  try dsimp only
  repeat' first
    | with_reducible assumption
    | with_reducible apply State.commitStep_canonical
    | with_reducible apply canonical_ite
    | simp only [canonical_upd]

theorem State.retireAdd_canonical {s : State} (hs : Canonical s) (n : ℕ) (k : ℕ) (taint : Bool) (marks : List ℕ) (compare : Bool) (by' : optParam ℕ 3) :
    Canonical (s.retireAdd n k taint marks compare by') := by
  unfold State.retireAdd
  try dsimp only
  repeat' first
    | with_reducible assumption
    | with_reducible apply State.faultGlove_canonical
    | with_reducible apply State.event_canonical
    | with_reducible apply State.knotAdd_canonical
    | with_reducible apply canonical_ite

theorem State.setGraph_canonical {s : State} (hs : Canonical s) (g : ℕ) (v : Option Graph) :
    Canonical (s.setGraph g v) := by
  unfold State.setGraph
  try dsimp only
  repeat' first
    | with_reducible assumption
    | simp only [canonical_upd]

theorem State.freeSlot_canonical {s : State} (hs : Canonical s) (q : ℕ) (n : ℕ) :
    Canonical (s.freeSlot q n) := by
  unfold State.freeSlot
  try dsimp only
  repeat' first
    | with_reducible assumption
    | with_reducible apply State.setTask_canonical
    | simp only [canonical_upd]

theorem State.graphStep_canonical {s : State} (hs : Canonical s) (g : ℕ) (taint : Bool) (marks : List ℕ) :
    Canonical (s.graphStep g taint marks) := by
  unfold State.graphStep
  try dsimp only
  repeat' first
    | with_reducible assumption
    | with_reducible apply State.setGraph_canonical
    | with_reducible apply State.stepBoundary_canonical
    | with_reducible apply State.retireAdd_canonical
    | with_reducible apply canonical_ite
    | split

theorem State.retireTask_canonical {s : State} (hs : Canonical s) (q : ℕ) :
    Canonical (s.retireTask q) := by
  unfold State.retireTask
  try dsimp only
  repeat' first
    | with_reducible assumption
    | with_reducible apply State.retireAdd_canonical
    | with_reducible apply State.graphStep_canonical
    | with_reducible apply State.freeSlot_canonical
    | with_reducible apply canonical_foldl
    | split
    | with_reducible intro _

theorem State.detach_canonical {s : State} (hs : Canonical s) (k : CtxId) :
    Canonical (s.detach k) := by
  unfold State.detach
  try dsimp only
  repeat' first
    | with_reducible assumption
    | simp only [canonical_upd]

theorem State.clearCtx_canonical {s : State} (hs : Canonical s) (k : CtxId) :
    Canonical (s.clearCtx k) := by
  unfold State.clearCtx
  try dsimp only
  repeat' first
    | with_reducible assumption
    | with_reducible apply State.detach_canonical
    | with_reducible apply State.dropWaiter_canonical
    | with_reducible apply State.fillWindow_canonical
    | with_reducible apply State.setTile_canonical
    | split

theorem State.keepRanges_canonical {s : State} (hs : Canonical s) (t : ℕ) (x : Task) :
    Canonical (s.keepRanges t x) := by
  unfold State.keepRanges
  try dsimp only
  repeat' first
    | with_reducible assumption
    | simp only [canonical_upd]

end Sys2Proof.Machine
end

