-- ==== Sys2Proof/Laws/KeepNet.lean ====
section
/-! SUPPORT. Every operation of Machine/Net.lean that answers a state keeps the canonical form. -/

namespace Sys2Proof.Machine

theorem State.setPort_canonical {s : State} (hs : Canonical s) (p : ℕ) (v : Port) :
    Canonical (s.setPort p v) := by
  unfold State.setPort
  try dsimp only
  repeat' first
    | with_reducible assumption
    | simp only [canonical_upd]

theorem State.setInq_canonical {s : State} (hs : Canonical s) (p : ℕ) (v : ℕ) (l : List Packet) :
    Canonical (s.setInq p v l) := by
  unfold State.setInq
  try dsimp only
  repeat' first
    | with_reducible assumption
    | simp only [canonical_upd]

theorem State.setOutq_canonical {s : State} (hs : Canonical s) (p : ℕ) (v : ℕ) (l : List Packet) :
    Canonical (s.setOutq p v l) := by
  unfold State.setOutq
  try dsimp only
  repeat' first
    | with_reducible assumption
    | simp only [canonical_upd]

theorem State.violate_canonical {s : State} (hs : Canonical s) (p : ℕ) (code : ℕ) :
    Canonical (s.violate p code) := by
  unfold State.violate
  try dsimp only
  repeat' first
    | with_reducible assumption
    | with_reducible apply State.bumpBy_canonical
    | with_reducible apply State.fset_canonical
    | with_reducible apply State.setPort_canonical
    | with_reducible apply State.event_canonical
    | with_reducible apply canonical_ite

theorem State.setLimiter_canonical {s : State} (hs : Canonical s) (d : BitVec 24) (l : Option Limiter) :
    Canonical (s.setLimiter d l) := by
  unfold State.setLimiter
  try dsimp only
  repeat' first
    | with_reducible assumption
    | simp only [canonical_upd]

theorem State.meter_canonical {s : State} (hs : Canonical s) (d : BitVec 24) (vc : ℕ) (flits : ℕ) (p : ℕ) :
    Canonical (s.meter d vc flits p) := by
  unfold State.meter
  try dsimp only
  repeat' first
    | with_reducible assumption
    | with_reducible apply State.setLimiter_canonical
    | with_reducible apply canonical_ite
    | split

theorem State.echoFrom_canonical {s : State} (hs : Canonical s) (d : BitVec 24) :
    Canonical (s.echoFrom d) := by
  unfold State.echoFrom
  try dsimp only
  repeat' first
    | with_reducible assumption
    | with_reducible apply State.setLimiter_canonical
    | with_reducible apply canonical_ite
    | split

theorem State.takeEcho_canonical {s : State} (hs : Canonical s) (d : BitVec 24) :
    Canonical (s.takeEcho d).2 := by
  unfold State.takeEcho
  try dsimp only
  repeat' first
    | with_reducible assumption
    | simp only [canonical_upd]

theorem State.stamp_canonical {s : State} (hs : Canonical s) (p : Packet) :
    Canonical (s.stamp p).2 := by
  unfold State.stamp
  try dsimp only
  repeat' first
    | with_reducible assumption
    | split
    | simp only [canonical_upd]

theorem State.toOutq_canonical {s : State} (hs : Canonical s) (p : Packet) (port : ℕ) :
    Canonical (s.toOutq p port) := by
  unfold State.toOutq
  try dsimp only
  repeat' first
    | with_reducible assumption
    | with_reducible apply State.bump_canonical
    | with_reducible apply State.setOutq_canonical
    | with_reducible apply canonical_ite

theorem State.toLocal_canonical {s : State} (hs : Canonical s) (p : Packet) :
    Canonical (s.toLocal p) := by
  unfold State.toLocal
  try dsimp only
  repeat' first
    | with_reducible assumption
    | with_reducible apply State.setInq_canonical

theorem State.localNak_canonical {s : State} (hs : Canonical s) (p : Packet) :
    Canonical (s.localNak p) := by
  unfold State.localNak
  try dsimp only
  repeat' first
    | with_reducible assumption
    | with_reducible apply State.stamp_canonical
    | with_reducible apply State.toLocal_canonical
    | with_reducible apply canonical_ite

theorem State.useCirc_canonical {s : State} (hs : Canonical s) (port : ℕ) (slot : ℕ) :
    Canonical (s.useCirc port slot) := by
  unfold State.useCirc
  try dsimp only
  repeat' first
    | with_reducible assumption
    | with_reducible apply State.setPort_canonical

theorem State.notePort_canonical {s : State} (hs : Canonical s) (slot : ℕ) (p : ℕ) :
    Canonical (s.notePort slot p) := by
  unfold State.notePort
  try dsimp only
  repeat' first
    | with_reducible assumption
    | with_reducible apply canonical_ite
    | simp only [canonical_upd]

theorem State.reroute_canonical {s : State} (hs : Canonical s)  :
    Canonical (s.reroute) := by
  unfold State.reroute
  try dsimp only
  repeat' first
    | with_reducible assumption
    | with_reducible apply State.notePort_canonical
    | with_reducible apply canonical_foldl
    | split
    | with_reducible intro _

theorem State.keepSent_canonical {s : State} (hs : Canonical s) (p : Packet) :
    Canonical (s.keepSent p) := by
  unfold State.keepSent
  try dsimp only
  repeat' first
    | with_reducible assumption
    | with_reducible apply canonical_ite
    | simp only [canonical_upd]

theorem State.emit_canonical {s : State} (hs : Canonical s) (p : Packet) :
    Canonical (s.emit p) := by
  unfold State.emit
  try dsimp only
  repeat' first
    | with_reducible assumption
    | with_reducible apply State.stamp_canonical
    | with_reducible apply State.toLocal_canonical
    | with_reducible apply State.keepSent_canonical
    | with_reducible apply State.localNak_canonical
    | with_reducible apply State.takeEcho_canonical
    | with_reducible apply State.useCirc_canonical
    | with_reducible apply State.toOutq_canonical
    | with_reducible apply canonical_ite
    | split

theorem State.send_canonical {s : State} (hs : Canonical s) (p : Packet) :
    Canonical (s.send p) := by
  unfold State.send
  try dsimp only
  repeat' first
    | with_reducible assumption
    | with_reducible apply State.notePort_canonical
    | with_reducible apply State.emit_canonical
    | with_reducible apply canonical_ite
    | split
    | simp only [canonical_upd]

theorem State.nak_canonical {s : State} (hs : Canonical s) (p : Packet) (code : ℕ) :
    Canonical (s.nak p code) := by
  unfold State.nak
  try dsimp only
  repeat' first
    | with_reducible assumption
    | with_reducible apply State.send_canonical
    | with_reducible apply State.bump_canonical
    | with_reducible apply State.setPort_canonical
    | with_reducible apply canonical_ite
    | split

theorem State.ack_canonical {s : State} (hs : Canonical s) (p : Packet) (w2 : W64) (w3 : W64) :
    Canonical (s.ack p w2 w3) := by
  unfold State.ack
  try dsimp only
  repeat' first
    | with_reducible assumption
    | with_reducible apply State.send_canonical

theorem State.freeIn'_canonical {s : State} (hs : Canonical s) (port : ℕ) (p : Packet) :
    Canonical (State.freeIn' s port p) := by
  unfold State.freeIn'
  try dsimp only
  repeat' first
    | with_reducible assumption
    | with_reducible apply State.setPort_canonical
    | with_reducible apply canonical_ite

theorem State.popIn_canonical {s : State} (hs : Canonical s) (x : Rx) :
    Canonical (s.popIn x) := by
  unfold State.popIn
  try dsimp only
  repeat' first
    | with_reducible assumption
    | with_reducible apply State.freeIn'_canonical
    | with_reducible apply State.setInq_canonical
    | split

theorem State.noteMarks_canonical {s : State} (hs : Canonical s) (p : Packet) (cm : Bool) :
    Canonical (s.noteMarks p cm) := by
  unfold State.noteMarks
  try dsimp only
  repeat' first
    | with_reducible assumption
    | with_reducible apply State.bump_canonical
    | with_reducible apply State.echoFrom_canonical
    | with_reducible apply canonical_ite
    | split
    | simp only [canonical_upd]

theorem State.seqCheck_canonical {s : State} (hs : Canonical s) (p : Packet) :
    Canonical (s.seqCheck p).2 := by
  unfold State.seqCheck
  try dsimp only
  repeat' first
    | with_reducible assumption
    | split
    | dsimp only
    | simp only [canonical_upd]

theorem State.screen_canonical {s : State} (hs : Canonical s) (x : Rx) (p : Packet) :
    Canonical (s.screen x p).1 := by
  unfold State.screen
  try dsimp only
  repeat' first
    | with_reducible assumption
    | with_reducible apply State.seqCheck_canonical
    | with_reducible apply State.noteMarks_canonical
    | with_reducible apply State.popIn_canonical
    | with_reducible apply State.violate_canonical
    | with_reducible apply State.nak_canonical
    | with_reducible apply State.event_canonical
    | with_reducible apply State.bump_canonical
    | split

theorem State.take_canonical {s : State} (hs : Canonical s) (x : Rx) (ty : ℕ) :
    Canonical (s.take x ty).1 := by
  unfold State.take
  try dsimp only
  repeat' first
    | with_reducible assumption
    | with_reducible apply State.screen_canonical
    | split

theorem State.malformed_canonical {s : State} (hs : Canonical s) (x : Rx) (p : Packet) :
    Canonical (s.malformed x p) := by
  unfold State.malformed
  try dsimp only
  repeat' first
    | with_reducible assumption
    | with_reducible apply State.violate_canonical
    | with_reducible apply State.nak_canonical
    | with_reducible apply State.seqCheck_canonical

theorem State.sendFor_canonical {s : State} (hs : Canonical s) (k : CtxId) (p : Packet) :
    Canonical (s.sendFor k p) := by
  unfold State.sendFor
  try dsimp only
  repeat' first
    | with_reducible assumption
    | with_reducible apply State.send_canonical
    | with_reducible apply State.dig_canonical

end Sys2Proof.Machine
end

