-- ==== Sys2Proof/Laws/KeepBrimir.lean ====
section
/-! SUPPORT. Every operation of Machine/Brimir.lean that answers a state keeps the canonical form. -/

namespace Sys2Proof.Machine

theorem State.holdTwin_canonical {s : State} (hs : Canonical s) (h : TwinHeld) :
    Canonical (s.holdTwin h) := by
  unfold State.holdTwin
  try dsimp only
  repeat' first
    | with_reducible assumption
    | with_reducible apply State.send_canonical
    | simp only [canonical_upd]

theorem State.putStep_canonical {s : State} (hs : Canonical s) (e : ℕ) (t : Step) :
    Canonical (s.putStep e t) := by
  unfold State.putStep
  try dsimp only
  repeat' first
    | with_reducible assumption
    | with_reducible apply State.fset_canonical
    | with_reducible apply canonical_ite
    | simp only [canonical_upd]

theorem State.sendVector_canonical {s : State} (hs : Canonical s) (t : Step) (dev : BitVec 24) (round : ℕ) (nq : ℕ) (per : ℕ) (es : List (List Byte)) :
    Canonical (s.sendVector t dev round nq per es) := by
  unfold State.sendVector
  try dsimp only
  repeat' first
    | with_reducible intro _
    | with_reducible assumption
    | with_reducible apply State.send_canonical
    | with_reducible apply canonical_foldl

theorem State.sendCounts_canonical {s : State} (hs : Canonical s) (t : Step) (round : ℕ) :
    Canonical (s.sendCounts t round) := by
  unfold State.sendCounts
  try dsimp only
  repeat' first
    | with_reducible intro _
    | with_reducible assumption
    | with_reducible apply State.sendVector_canonical
    | with_reducible apply canonical_foldl

theorem State.sendFails_canonical {s : State} (hs : Canonical s) (t : Step) (st : ℕ) :
    Canonical (s.sendFails t st) := by
  unfold State.sendFails
  try dsimp only
  repeat' first
    | with_reducible intro _
    | with_reducible assumption
    | with_reducible apply State.send_canonical
    | with_reducible apply canonical_foldl
    | with_reducible apply canonical_ite

theorem State.clearInuse_canonical {s : State} (hs : Canonical s) (t : Step) :
    Canonical (s.clearInuse t) := by
  unfold State.clearInuse
  try dsimp only
  repeat' first
    | with_reducible intro _
    | with_reducible assumption
    | with_reducible apply State.setVbytesGo_canonical
    | with_reducible apply canonical_foldl
    | with_reducible apply canonical_ite

theorem State.closeStep_canonical {s : State} (hs : Canonical s) (e : ℕ) (t : Step) (st : ℕ) (reason : ℕ) (taint : Bool) :
    Canonical (s.closeStep e t st reason taint) := by
  unfold State.closeStep
  try dsimp only
  repeat' first
    | with_reducible assumption
    | with_reducible apply State.engineAdd_canonical
    | with_reducible apply State.bump_canonical
    | with_reducible apply State.clearInuse_canonical
    | with_reducible apply State.putStep_canonical
    | split
    | simp only [canonical_upd]

theorem State.endQueues_canonical {s : State} (hs : Canonical s) (t : Step) :
    Canonical (s.endQueues t) := by
  unfold State.endQueues
  try dsimp only
  repeat' first
    | with_reducible intro _
    | with_reducible assumption
    | with_reducible apply State.engineAdd_canonical
    | with_reducible apply State.bump_canonical
    | with_reducible apply State.send_canonical
    | with_reducible apply canonical_foldl
    | with_reducible apply canonical_ite

theorem State.taintEnd_canonical {s : State} (hs : Canonical s) (e : ℕ) (t : Step) (kind : ℕ) (nak : ℕ) (member : ℕ) :
    Canonical (s.taintEnd e t kind nak member) := by
  unfold State.taintEnd
  try dsimp only
  repeat' first
    | with_reducible assumption
    | with_reducible apply State.closeStep_canonical
    | with_reducible apply State.endQueues_canonical
    | with_reducible apply State.setReg_canonical
    | with_reducible apply State.event_canonical
    | with_reducible apply State.bump_canonical
    | with_reducible apply canonical_ite

theorem State.failStep_canonical {s : State} (hs : Canonical s) (e : ℕ) (t : Step) (st : ℕ) (reason : ℕ) (member : ℕ) :
    Canonical (s.failStep e t st reason member) := by
  unfold State.failStep
  try dsimp only
  repeat' first
    | with_reducible assumption
    | with_reducible apply State.sendFails_canonical
    | with_reducible apply State.setReg_canonical
    | with_reducible apply State.bump_canonical
    | with_reducible apply State.event_canonical
    | with_reducible apply State.taintEnd_canonical
    | with_reducible apply State.closeStep_canonical
    | with_reducible apply State.endQueues_canonical
    | with_reducible apply canonical_ite

theorem State.finishStep_canonical {s : State} (hs : Canonical s) (e : ℕ) (t : Step) :
    Canonical (s.finishStep e t) := by
  unfold State.finishStep
  try dsimp only
  repeat' first
    | with_reducible assumption
    | with_reducible apply State.closeStep_canonical

theorem State.checkStep_canonical {s : State} (hs : Canonical s) (e : ℕ) :
    Canonical (s.checkStep e) := by
  unfold State.checkStep
  try dsimp only
  repeat' first
    | with_reducible assumption
    | with_reducible apply State.holdTwin_canonical
    | with_reducible apply State.putStep_canonical
    | with_reducible apply State.finishStep_canonical
    | with_reducible apply canonical_ite
    | split

theorem State.keepPast_canonical {s : State} (hs : Canonical s) (e : ℕ) :
    Canonical (s.keepPast e) := by
  unfold State.keepPast
  try dsimp only
  repeat' first
    | with_reducible assumption
    | split
    | simp only [canonical_upd]

theorem State.startStep_canonical {s : State} (hs : Canonical s) (n : ℕ) (e : ℕ) (d : List W64) (table : List Byte) (qs : List QueueEnt) :
    Canonical (s.startStep n e d table qs) := by
  unfold State.startStep
  try dsimp only
  repeat' first
    | with_reducible assumption
    | with_reducible apply State.fset_canonical
    | with_reducible apply State.keepPast_canonical
    | with_reducible apply State.putStep_canonical
    | with_reducible apply State.failStep_canonical
    | with_reducible apply State.engineAdd_canonical
    | with_reducible apply canonical_ite

theorem State.routeOn_canonical {s : State} (hs : Canonical s) (k : CtxId) (w : FmtB) (n : ℕ) (e : ℕ) (d : List W64) (table : List Byte) :
    Canonical (s.routeOn k w n e d table) := by
  rw [State.routeOn]
  try dsimp only
  repeat' first
    | with_reducible assumption
    | with_reducible apply State.startStep_canonical
    | with_reducible apply State.result_canonical
    | with_reducible apply State.memFault_canonical
    | split

theorem State.routeGo_canonical {s : State} (hs : Canonical s) (k : CtxId) (w : FmtB) (a : ℕ) (d : List W64) :
    Canonical (s.routeGo k w a d) := by
  unfold State.routeGo
  try dsimp only
  repeat' first
    | with_reducible assumption
    | with_reducible apply State.finish_canonical
    | with_reducible apply State.engineRead_canonical
    | with_reducible apply State.routeOn_canonical
    | with_reducible apply State.memFault_canonical
    | with_reducible apply canonical_ite
    | split
    | (refine canonical_map ?_ (by assumption))

theorem State.takePartial_canonical {s : State} (hs : Canonical s) (e : ℕ) (t : Step) (g : List SieveRec) :
    Canonical (s.takePartial e t g) := by
  unfold State.takePartial
  try dsimp only
  repeat' first
    | with_reducible assumption
    | with_reducible apply State.putStep_canonical
    | with_reducible apply State.setVbytes_canonical
    | with_reducible apply State.memFault_canonical
    | with_reducible apply State.engineAdd_canonical
    | with_reducible apply canonical_ite
    | split
    | (refine canonical_some ?_ (by assumption))

theorem State.takeList_canonical {s : State} (hs : Canonical s) (e : ℕ) (g : List SieveRec) :
    Canonical (s.takeList e g) := by
  unfold State.takeList
  try dsimp only
  repeat' first
    | with_reducible assumption
    | with_reducible apply State.failStep_canonical
    | with_reducible apply State.takePartial_canonical
    | with_reducible apply State.putStep_canonical
    | with_reducible apply canonical_ite
    | split

theorem State.vecReceive_canonical {s : State} (hs : Canonical s) (p : Packet) (n : ℕ) (size : ℕ) (keep : State → ℕ → Step → VecPart → State) (hf : ∀ x0 x1 x2 x3, Canonical x0 → Canonical (keep x0 x1 x2 x3)) :
    Canonical (s.vecReceive p n size keep) := by
  unfold State.vecReceive
  try dsimp only
  repeat' first
    | with_reducible assumption
    | with_reducible apply hf
    | with_reducible apply State.nak_canonical
    | with_reducible apply State.failStep_canonical
    | with_reducible apply State.event_canonical
    | with_reducible apply canonical_ite
    | split

theorem State.putOr_canonical {s : State} (hs : Canonical s) (n : ℕ) (a : ℕ) (bs : List Byte) :
    Canonical (s.putOr n a bs) := by
  unfold State.putOr
  try dsimp only
  repeat' first
    | with_reducible assumption
    | with_reducible apply State.setVbytes_canonical
    | with_reducible apply State.memFault_canonical
    | with_reducible apply canonical_ite
    | split
    | (refine canonical_some ?_ (by assumption))

theorem State.openQueue_canonical {s : State} (hs : Canonical s) (t : Step) (q : QueueEnt) (i : ℕ) :
    Canonical (s.openQueue t q i) := by
  unfold State.openQueue
  try dsimp only
  repeat' first
    | with_reducible assumption
    | with_reducible apply State.putOr_canonical
    | with_reducible apply State.engineAdd_canonical
    | with_reducible apply canonical_ite

theorem State.sendGrants_canonical {s : State} (hs : Canonical s) (t : Step) (nq : ℕ) (round : ℕ) :
    Canonical (s.sendGrants t nq round) := by
  unfold State.sendGrants
  try dsimp only
  repeat' first
    | with_reducible intro _
    | with_reducible assumption
    | with_reducible apply State.sendVector_canonical
    | with_reducible apply canonical_foldl

theorem State.noteLag_canonical {s : State} (hs : Canonical s) (t : Step) (round : ℕ) :
    Canonical (s.noteLag t round) := by
  unfold State.noteLag
  try dsimp only
  repeat' first
    | with_reducible assumption
    | with_reducible apply State.setReg_canonical
    | with_reducible apply canonical_ite

theorem State.zeroSlots_canonical {s : State} (hs : Canonical s) (t : Step) :
    Canonical (s.zeroSlots t) := by
  unfold State.zeroSlots
  try dsimp only
  repeat' first
    | with_reducible intro _
    | with_reducible assumption
    | with_reducible apply State.putOr_canonical
    | with_reducible apply canonical_foldl
    | with_reducible apply canonical_ite

end Sys2Proof.Machine
end

