-- ==== Sys2Proof/Laws/KeepPod.lean ====
section
/-! SUPPORT. Every operation of Machine/Pod.lean that answers a state keeps the canonical form. -/

namespace Sys2Proof.Machine

theorem State.receive_canonical {s : State} (hs : Canonical s) (x : Rx) (ty : ℕ) (mine : Packet → Bool) (ok : Packet → Bool) (f : State → Packet → ℕ → State) (hf : ∀ x0 x1 x2, Canonical x0 → Canonical (f x0 x1 x2)) :
    Canonical (s.receive x ty mine ok f) := by
  unfold State.receive
  try dsimp only
  repeat' first
    | with_reducible assumption
    | with_reducible apply hf
    | with_reducible apply State.screen_canonical
    | with_reducible apply State.malformed_canonical
    | with_reducible apply State.popIn_canonical
    | with_reducible apply canonical_ite
    | split
    | (refine canonical_fst ?_ (by assumption))

theorem State.setCell_canonical {s : State} (hs : Canonical s) (a : ℕ) (c : Cell) :
    Canonical (s.setCell a c) := ⟨hs.1, hs.2.1, Tab.wf_store hs.2.2⟩

theorem State.newReq_canonical {s : State} (hs : Canonical s) (k : CtxId) (w : FmtB) (kind : ℕ) (bytes : ℕ) (dest : BitVec 24) (taddr : ℕ) (line : ℕ) :
    Canonical (s.newReq k w kind bytes dest taddr line).2 := by
  unfold State.newReq
  try dsimp only
  repeat' first
    | with_reducible assumption
    | simp only [canonical_upd]

theorem State.sendLoad_canonical {s : State} (hs : Canonical s) (k : CtxId) (w : FmtB) (kind : ℕ) (bytes : ℕ) (dest : BitVec 24) (taddr : ℕ) (line : ℕ) :
    Canonical (s.sendLoad k w kind bytes dest taddr line) := by
  unfold State.sendLoad
  try dsimp only
  repeat' first
    | with_reducible assumption
    | with_reducible apply State.newReq_canonical
    | with_reducible apply State.mapCtx_canonical
    | with_reducible apply State.sendFor_canonical
    | with_reducible apply canonical_ite

theorem State.sendStore_canonical {s : State} (hs : Canonical s) (k : CtxId) (w : FmtB) (kind : ℕ) (dest : BitVec 24) (taddr : ℕ) (bs : List Byte) :
    Canonical (s.sendStore k w kind dest taddr bs) := by
  unfold State.sendStore
  try dsimp only
  repeat' first
    | with_reducible assumption
    | with_reducible apply State.newReq_canonical
    | with_reducible apply State.sendFor_canonical

theorem State.answered_canonical {s : State} (hs : Canonical s) (p : PodReq → Bool) (o : Option ℕ) :
    Canonical (s.answered p o) := by
  unfold State.answered
  try dsimp only
  repeat' first
    | with_reducible assumption
    | with_reducible apply State.recheck_canonical
    | split
    | simp only [canonical_upd]

theorem State.endLoad_canonical {s : State} (hs : Canonical s) (r : PodReq) (f : State → CtxId → State) (hf : ∀ x0 x1, Canonical x0 → Canonical (f x0 x1)) :
    Canonical (s.endLoad r f) := by
  unfold State.endLoad
  try dsimp only
  repeat' first
    | with_reducible assumption
    | with_reducible apply hf
    | with_reducible apply State.mapCtx_canonical
    | with_reducible apply canonical_ite
    | split

theorem State.podErr_canonical {s : State} (hs : Canonical s) (n : ℕ) (taddr : ℕ) (src : BitVec 24) (code : ℕ) :
    Canonical (s.podErr n taddr src code) := by
  unfold State.podErr
  try dsimp only
  repeat' first
    | with_reducible assumption
    | with_reducible apply State.fset_canonical
    | with_reducible apply canonical_ite

theorem State.refusedReq_canonical {s : State} (hs : Canonical s) (r : PodReq) (code : ℕ) (src : BitVec 24) :
    Canonical (s.refusedReq r code src) := by
  unfold State.refusedReq
  try dsimp only
  repeat' first
    | with_reducible intro _
    | with_reducible assumption
    | with_reducible apply State.answered_canonical
    | with_reducible apply State.endLoad_canonical
    | with_reducible apply State.finish_canonical
    | with_reducible apply State.faultGlove_canonical
    | with_reducible apply State.podErr_canonical
    | with_reducible apply canonical_ite

theorem State.moveWrite_canonical {s : State} (hs : Canonical s) (k : CtxId) (space : ℕ) (a : ℕ) (bs : List Byte) :
    KeptO (State.moveWrite s k space a bs) := by
  unfold State.moveWrite
  try dsimp only
  repeat' first
    | with_reducible intro _
    | with_reducible assumption
    | with_reducible apply State.setTile_canonical
    | with_reducible apply State.setVbytes_canonical
    | with_reducible apply keptO_foldl
    | with_reducible apply keptO_none
    | with_reducible apply keptO_some
    | with_reducible apply keptO_ite
    | split
    | (exact canonical_some (by with_reducible assumption) rfl)

theorem State.copySpans_canonical {s : State} (hs : Canonical s) (k : CtxId) (d : TDesc) (a : TDesc) (a1 : List (ℕ × ℕ × ℕ)) :
    Canonical (s.copySpans k d a a1) := by
  fun_induction State.copySpans s k d a a1
  all_goals try dsimp only
  all_goals repeat' first
    | with_reducible apply ‹Canonical _ → _›
    | with_reducible assumption
    | with_reducible apply State.touchRange_canonical
    | with_reducible apply State.memFault_canonical
    | with_reducible apply State.moveWrite_canonical
    | (refine canonical_some ?_ (by assumption))

theorem State.fetchLines_canonical {s : State} (hs : Canonical s) (k : CtxId) (w : FmtB) (ps : List (ℕ × ℕ × ℕ)) :
    Canonical (s.fetchLines k w ps) := by
  unfold State.fetchLines
  try dsimp only
  repeat' first
    | with_reducible intro _
    | with_reducible assumption
    | with_reducible apply State.sendLoad_canonical
    | with_reducible apply canonical_foldl
    | with_reducible apply canonical_ite

theorem State.storeLines_canonical {s : State} (hs : Canonical s) (k : CtxId) (w : FmtB) (d : TDesc) (a : TDesc) :
    Canonical (s.storeLines k w d a) := by
  unfold State.storeLines
  try dsimp only
  repeat' first
    | with_reducible intro _
    | with_reducible assumption
    | with_reducible apply State.sendStore_canonical
    | with_reducible apply canonical_foldl
    | with_reducible apply canonical_ite
    | split

theorem State.startMove_canonical {s : State} (hs : Canonical s) (k : CtxId) (w : FmtB) (store : Bool) :
    KeptO (State.startMove s k w store) := by
  unfold State.startMove
  try dsimp only
  repeat' first
    | with_reducible assumption
    | with_reducible apply State.finish_canonical
    | with_reducible apply State.faultGlove_canonical
    | with_reducible apply State.fetchLines_canonical
    | with_reducible apply State.storeLines_canonical
    | with_reducible apply State.mapCtx_canonical
    | with_reducible apply keptO_none
    | with_reducible apply keptO_some
    | with_reducible apply canonical_ite
    | with_reducible apply keptO_ite

theorem State.podAck_canonical {s : State} (hs : Canonical s) (p : Packet) (n : ℕ) (ty : ℕ) :
    Canonical (s.podAck p n ty) := by
  unfold State.podAck
  try dsimp only
  repeat' first
    | with_reducible intro _
    | with_reducible assumption
    | with_reducible apply State.answered_canonical
    | with_reducible apply State.endLoad_canonical
    | with_reducible apply State.finish_canonical
    | with_reducible apply canonical_ite
    | split

theorem State.podNak_canonical {s : State} (hs : Canonical s) (p : Packet) (n : ℕ) (ty : ℕ) :
    Canonical (s.podNak p n ty) := by
  unfold State.podNak
  try dsimp only
  repeat' first
    | with_reducible assumption
    | with_reducible apply State.refusedReq_canonical
    | split

theorem State.rgnStatus_canonical {s : State} (hs : Canonical s) (i : ℕ) (st : ℕ) :
    Canonical (s.rgnStatus i st) := by
  unfold State.rgnStatus
  try dsimp only
  repeat' first
    | with_reducible assumption
    | with_reducible apply State.fset_canonical

theorem State.setOwner_canonical {s : State} (hs : Canonical s) (i : ℕ) (d : BitVec 24) :
    Canonical (s.setOwner i d) := by
  unfold State.setOwner
  try dsimp only
  repeat' first
    | with_reducible assumption
    | with_reducible apply State.fset_canonical

theorem State.endXfer_canonical {s : State} (hs : Canonical s) (i : ℕ) (st : ℕ) :
    Canonical (s.endXfer i st) := by
  unfold State.endXfer
  try dsimp only
  repeat' first
    | with_reducible assumption
    | with_reducible apply State.fset_canonical
    | simp only [canonical_upd]

theorem State.ownNak_canonical {s : State} (hs : Canonical s) (gid : ℕ) (base : ℕ) (code : ℕ) :
    Canonical (s.ownNak gid base code) := by
  unfold State.ownNak
  try dsimp only
  repeat' first
    | with_reducible assumption
    | with_reducible apply State.endXfer_canonical
    | with_reducible apply State.fset_canonical
    | with_reducible apply canonical_ite
    | split

end Sys2Proof.Machine
end

