-- ==== Sys2Proof/Laws/KeepColl.lean ====
section
/-! SUPPORT. Every operation of Machine/Coll.lean that answers a state keeps the canonical form. -/

namespace Sys2Proof.Machine

theorem State.setColl_canonical {s : State} (hs : Canonical s) (h : ℕ) (c : Option Coll) :
    Canonical (s.setColl h c) := by
  unfold State.setColl
  try dsimp only
  repeat' first
    | with_reducible assumption
    | with_reducible apply canonical_ite
    | split
    | simp only [canonical_upd]

theorem State.dropSent_canonical {s : State} (hs : Canonical s) (n : ℕ) (tag : ℕ) :
    Canonical (s.dropSent n tag) := by
  unfold State.dropSent
  try dsimp only
  repeat' first
    | with_reducible assumption
    | simp only [canonical_upd]

theorem State.collAll_canonical {s : State} (hs : Canonical s) (c : Coll) (kind : ℕ) (fst : ℕ) :
    Canonical (s.collAll c kind fst) := by
  unfold State.collAll
  try dsimp only
  repeat' first
    | with_reducible intro _
    | with_reducible assumption
    | with_reducible apply State.send_canonical
    | with_reducible apply canonical_foldl

theorem State.sendData_canonical {s : State} (hs : Canonical s) (h : ℕ) (m : ℕ) (kind : ℕ) (chunk : ℕ) (elem : ℕ) (taddr : ℕ) (bs : List Byte) :
    Canonical (s.sendData h m kind chunk elem taddr bs) := by
  unfold State.sendData
  try dsimp only
  repeat' first
    | with_reducible assumption
    | with_reducible apply State.setColl_canonical
    | with_reducible apply State.send_canonical
    | with_reducible apply canonical_ite
    | split

theorem State.sendPiece_canonical {s : State} (hs : Canonical s) (h : ℕ) (chunk : ℕ) (p : Piece) :
    Canonical (s.sendPiece h chunk p) := by
  unfold State.sendPiece
  try dsimp only
  repeat' first
    | with_reducible assumption
    | with_reducible apply State.engineRead_canonical
    | with_reducible apply State.sendData_canonical
    | with_reducible apply State.memFault_canonical
    | with_reducible apply canonical_ite
    | split
    | (refine canonical_map ?_ (by assumption))

theorem State.collSend_canonical {s : State} (hs : Canonical s) (h : ℕ) :
    Canonical (s.collSend h) := by
  unfold State.collSend
  try dsimp only
  repeat' first
    | with_reducible intro _
    | with_reducible assumption
    | with_reducible apply State.collAll_canonical
    | with_reducible apply State.send_canonical
    | with_reducible apply State.memFault_canonical
    | with_reducible apply State.sendPiece_canonical
    | with_reducible apply canonical_foldl
    | with_reducible apply canonical_ite
    | split

theorem State.clearMarks_canonical {s : State} (hs : Canonical s) (slot : ℕ) (taint : Bool) :
    Canonical (s.clearMarks slot taint) := by
  unfold State.clearMarks
  try dsimp only
  repeat' first
    | with_reducible assumption
    | simp only [canonical_upd]

theorem State.setSlot_canonical {s : State} (hs : Canonical s) (i : ℕ) (h : Option ℕ) :
    Canonical (s.setSlot i h) := by
  unfold State.setSlot
  try dsimp only
  repeat' first
    | with_reducible assumption
    | with_reducible apply State.fset_canonical
    | simp only [canonical_upd]

theorem State.settle_canonical {s : State} (hs : Canonical s) (n : ℕ) :
    Canonical (s.settle n) := by
  unfold State.settle
  try dsimp only
  repeat' first
    | with_reducible intro _
    | with_reducible assumption
    | with_reducible apply State.commitStep_canonical
    | with_reducible apply canonical_foldl
    | with_reducible apply canonical_ite
    | simp only [canonical_upd]

theorem State.freeCheck_canonical {s : State} (hs : Canonical s) (c : Coll) (taint : Bool) :
    Canonical (s.freeCheck c taint) := by
  unfold State.freeCheck
  try dsimp only
  repeat' first
    | with_reducible assumption
    | with_reducible apply State.setSlot_canonical
    | with_reducible apply State.clearMarks_canonical
    | split

theorem State.collBlock_canonical {s : State} (hs : Canonical s) (c : Coll) (st : ℕ) (last : ℕ) :
    Canonical (s.collBlock c st last) := by
  unfold State.collBlock
  try dsimp only
  repeat' first
    | with_reducible assumption
    | with_reducible apply State.setVbytesGo_canonical

theorem State.collLag_canonical {s : State} (hs : Canonical s) (c : Coll) (last : ℕ) :
    Canonical (s.collLag c last) := by
  unfold State.collLag
  try dsimp only
  repeat' first
    | with_reducible assumption
    | with_reducible apply State.bump_canonical
    | with_reducible apply State.setReg_canonical

theorem State.collGone_canonical {s : State} (hs : Canonical s) (h : ℕ) (c : Coll) :
    Canonical (s.collGone h c) := by
  unfold State.collGone
  try dsimp only
  repeat' first
    | with_reducible assumption
    | with_reducible apply State.dropSent_canonical
    | with_reducible apply State.setColl_canonical
    | split
    | simp only [canonical_upd]

theorem State.collFail_canonical {s : State} (hs : Canonical s) (h : ℕ) (st : ℕ) (last : ℕ) (tell : Bool) :
    Canonical (s.collFail h st last tell) := by
  unfold State.collFail
  try dsimp only
  repeat' first
    | with_reducible assumption
    | with_reducible apply State.collGone_canonical
    | with_reducible apply State.collAll_canonical
    | with_reducible apply State.collBlock_canonical
    | with_reducible apply State.bump_canonical
    | with_reducible apply State.freeCheck_canonical
    | with_reducible apply State.engineAdd_canonical
    | with_reducible apply State.collLag_canonical
    | with_reducible apply State.event_canonical
    | with_reducible apply State.settle_canonical
    | with_reducible apply canonical_ite
    | split

theorem State.collRelease_canonical {s : State} (hs : Canonical s) (h : ℕ) :
    Canonical (s.collRelease h) := by
  unfold State.collRelease
  try dsimp only
  repeat' first
    | with_reducible assumption
    | with_reducible apply State.collLag_canonical
    | with_reducible apply State.collBlock_canonical
    | with_reducible apply State.settle_canonical
    | with_reducible apply State.engineAdd_canonical
    | with_reducible apply State.freeCheck_canonical
    | with_reducible apply State.collGone_canonical
    | with_reducible apply State.setColl_canonical
    | with_reducible apply canonical_ite
    | split

theorem State.collReady_canonical {s : State} (hs : Canonical s) (h : ℕ) :
    Canonical (s.collReady h) := by
  unfold State.collReady
  try dsimp only
  repeat' first
    | with_reducible assumption
    | with_reducible apply State.holdTwin_canonical
    | with_reducible apply State.setColl_canonical
    | with_reducible apply State.collRelease_canonical
    | with_reducible apply canonical_ite
    | split

theorem State.collCheck_canonical {s : State} (hs : Canonical s) (h : ℕ) :
    Canonical (s.collCheck h) := by
  unfold State.collCheck
  try dsimp only
  repeat' first
    | with_reducible assumption
    | with_reducible apply State.settle_canonical
    | with_reducible apply State.freeCheck_canonical
    | with_reducible apply State.collGone_canonical
    | with_reducible apply State.collReady_canonical
    | with_reducible apply State.setColl_canonical
    | with_reducible apply State.setSlot_canonical
    | with_reducible apply canonical_ite
    | split

theorem State.collRestart_canonical {s : State} (hs : Canonical s) (h : ℕ) (g : ℕ) :
    Canonical (s.collRestart h g) := by
  unfold State.collRestart
  try dsimp only
  repeat' first
    | with_reducible assumption
    | with_reducible apply State.collFail_canonical
    | with_reducible apply State.dropSent_canonical
    | with_reducible apply State.setColl_canonical
    | with_reducible apply State.collSend_canonical
    | with_reducible apply canonical_ite
    | split

theorem State.collBad_canonical {s : State} (hs : Canonical s) (h : ℕ) :
    Canonical (s.collBad h) := by
  unfold State.collBad
  try dsimp only
  repeat' first
    | with_reducible assumption
    | with_reducible apply State.bump_canonical
    | with_reducible apply State.setColl_canonical
    | with_reducible apply State.collFail_canonical
    | with_reducible apply State.collRestart_canonical
    | with_reducible apply State.collAll_canonical
    | with_reducible apply canonical_ite
    | split

theorem State.sendWindow_canonical {s : State} (hs : Canonical s) (h : ℕ) (c : Coll) (lo : ℕ) (n : ℕ) :
    Canonical (s.sendWindow h c lo n) := by
  unfold State.sendWindow
  try dsimp only
  repeat' first
    | with_reducible intro _
    | with_reducible assumption
    | with_reducible apply State.sendData_canonical
    | with_reducible apply State.putOr_canonical
    | with_reducible apply State.setColl_canonical
    | with_reducible apply canonical_foldl
    | with_reducible apply canonical_ite
    | split
    | simp only [canonical_upd]

theorem State.submitStatus_canonical {s : State} (hs : Canonical s) (st : ℕ) :
    Canonical (s.submitStatus st) := by
  unfold State.submitStatus
  try dsimp only
  repeat' first
    | with_reducible assumption
    | with_reducible apply State.fset_canonical

theorem State.collTake_canonical {s : State} (hs : Canonical s) (p : Packet) (n : ℕ) (tag : ℕ) (gen : ℕ) (f : State → ℕ → Coll → State) (hf : ∀ x0 x1 x2, Canonical x0 → Canonical (f x0 x1 x2)) :
    Canonical (s.collTake p n tag gen f) := by
  unfold State.collTake
  try dsimp only
  repeat' first
    | with_reducible assumption
    | with_reducible apply hf
    | with_reducible apply State.nak_canonical
    | with_reducible apply State.collRestart_canonical
    | with_reducible apply canonical_ite
    | split

theorem State.collReceive_canonical {s : State} (hs : Canonical s) (x : Rx) (mine : Packet → Bool) (f : State → Packet → ℕ → Coll → State) (hf : ∀ x0 x1 x2 x3, Canonical x0 → Canonical (f x0 x1 x2 x3)) :
    Canonical (s.collReceive x mine f) := by
  unfold State.collReceive
  try dsimp only
  repeat' first
    | with_reducible intro _
    | with_reducible assumption
    | with_reducible apply hf
    | with_reducible apply State.receive_canonical
    | with_reducible apply State.collTake_canonical

theorem State.collWrong_canonical {s : State} (hs : Canonical s) (h : ℕ) :
    Canonical (s.collWrong h) := by
  unfold State.collWrong
  try dsimp only
  repeat' first
    | with_reducible assumption
    | with_reducible apply State.collFail_canonical

theorem collContrib_canonical {s : State} (hs : Canonical s) (p : Packet) (h : ℕ) (c : Coll) :
    Canonical (collContrib s p h c) := by
  unfold collContrib
  try dsimp only
  repeat' first
    | with_reducible assumption
    | with_reducible apply State.collWrong_canonical
    | with_reducible apply State.nak_canonical
    | with_reducible apply State.collBad_canonical
    | with_reducible apply State.setColl_canonical
    | with_reducible apply canonical_ite

theorem collResult_canonical {s : State} (hs : Canonical s) (p : Packet) (h : ℕ) (c : Coll) :
    Canonical (collResult s p h c) := by
  unfold collResult
  try dsimp only
  repeat' first
    | with_reducible assumption
    | with_reducible apply State.collWrong_canonical
    | with_reducible apply State.putOr_canonical
    | with_reducible apply State.setColl_canonical
    | with_reducible apply State.collCheck_canonical
    | with_reducible apply canonical_ite
    | split

theorem State.a2aReceive_canonical {s : State} (hs : Canonical s) (x : Rx) (grant : ℕ) (f : State → Packet → ℕ → Coll → State) (hf : ∀ x0 x1 x2 x3, Canonical x0 → Canonical (f x0 x1 x2 x3)) :
    Canonical (s.a2aReceive x grant f) := by
  unfold State.a2aReceive
  try dsimp only
  repeat' first
    | with_reducible intro _
    | with_reducible assumption
    | with_reducible apply hf
    | with_reducible apply State.receive_canonical
    | with_reducible apply State.collTake_canonical
    | with_reducible apply State.collWrong_canonical
    | with_reducible apply canonical_ite

theorem State.busyNak_canonical {s : State} (hs : Canonical s) (p : Packet) (n : ℕ) (ty : ℕ) :
    Canonical (s.busyNak p n ty) := by
  unfold State.busyNak
  try dsimp only
  repeat' first
    | with_reducible assumption
    | with_reducible apply State.collFail_canonical
    | with_reducible apply canonical_ite
    | split
    | simp only [canonical_upd]

end Sys2Proof.Machine
end

