-- ==== Sys2Proof/Laws/KeepFabric.lean ====
section
/-! SUPPORT. Every operation of Machine/Fabric.lean that answers a state keeps the canonical form. -/

namespace Sys2Proof.Machine

theorem State.retrain_canonical {s : State} (hs : Canonical s) (p : ℕ) :
    Canonical (s.retrain p) := by
  unfold State.retrain
  try dsimp only
  repeat' first
    | with_reducible assumption
    | with_reducible apply State.bump_canonical
    | with_reducible apply State.fset_canonical
    | with_reducible apply State.reroute_canonical
    | with_reducible apply State.setPort_canonical

theorem State.lostPacket_canonical {s : State} (hs : Canonical s) (p : Packet) :
    Canonical (s.lostPacket p) := by
  unfold State.lostPacket
  try dsimp only
  repeat' first
    | with_reducible assumption
    | with_reducible apply State.localNak_canonical
    | with_reducible apply State.send_canonical
    | with_reducible apply canonical_ite

theorem State.resend_canonical {s : State} (hs : Canonical s) (p : ℕ) :
    Canonical (s.resend p) := by
  unfold State.resend
  try dsimp only
  repeat' first
    | with_reducible intro _
    | with_reducible assumption
    | with_reducible apply State.setOutq_canonical
    | with_reducible apply State.send_canonical
    | with_reducible apply State.toOutq_canonical
    | with_reducible apply State.lostPacket_canonical
    | with_reducible apply canonical_foldl
    | with_reducible apply canonical_ite
    | split

theorem State.portDown_canonical {s : State} (hs : Canonical s) (p : ℕ) (code : ℕ) :
    Canonical (s.portDown p code) := by
  unfold State.portDown
  try dsimp only
  repeat' first
    | with_reducible intro _
    | with_reducible assumption
    | with_reducible apply State.fset_canonical
    | with_reducible apply State.event_canonical
    | with_reducible apply State.reroute_canonical
    | with_reducible apply State.setPort_canonical
    | with_reducible apply State.resend_canonical
    | with_reducible apply State.lostPacket_canonical
    | with_reducible apply canonical_foldl

theorem State.setLanes_canonical {s : State} (hs : Canonical s) (p : ℕ) :
    Canonical (s.setLanes p) := by
  unfold State.setLanes
  try dsimp only
  repeat' first
    | with_reducible assumption
    | with_reducible apply State.fset_canonical

theorem State.train_canonical {s : State} (hs : Canonical s) (p : ℕ) :
    Canonical (s.train p) := by
  unfold State.train
  try dsimp only
  repeat' first
    | with_reducible assumption
    | with_reducible apply State.fset_canonical
    | with_reducible apply State.setLanes_canonical
    | with_reducible apply State.setPort_canonical

theorem State.enablePort_canonical {s : State} (hs : Canonical s) (p : ℕ) :
    Canonical (s.enablePort p) := by
  unfold State.enablePort
  try dsimp only
  repeat' first
    | with_reducible assumption
    | with_reducible apply State.setPort_canonical
    | with_reducible apply State.fset_canonical
    | with_reducible apply State.train_canonical
    | with_reducible apply canonical_ite

theorem State.disablePort_canonical {s : State} (hs : Canonical s) (p : ℕ) :
    Canonical (s.disablePort p) := by
  unfold State.disablePort
  try dsimp only
  repeat' first
    | with_reducible assumption
    | with_reducible apply State.fset_canonical
    | with_reducible apply State.portDown_canonical
    | with_reducible apply State.setPort_canonical
    | with_reducible apply canonical_ite

theorem State.fencePort_canonical {s : State} (hs : Canonical s) (p : ℕ) :
    Canonical (s.fencePort p) := by
  unfold State.fencePort
  try dsimp only
  repeat' first
    | with_reducible assumption
    | with_reducible apply State.fset_canonical
    | with_reducible apply State.portDown_canonical
    | with_reducible apply canonical_ite

theorem State.releasePort_canonical {s : State} (hs : Canonical s) (p : ℕ) :
    Canonical (s.releasePort p) := by
  unfold State.releasePort
  try dsimp only
  repeat' first
    | with_reducible assumption
    | with_reducible apply State.fset_canonical
    | with_reducible apply State.setPort_canonical
    | with_reducible apply State.train_canonical
    | with_reducible apply canonical_ite

theorem State.portCmd_canonical {s : State} (hs : Canonical s) (p : ℕ) (cmd : ℕ) :
    Canonical (s.portCmd p cmd) := by
  unfold State.portCmd
  try dsimp only
  repeat' first
    | with_reducible assumption
    | with_reducible apply State.enablePort_canonical
    | with_reducible apply State.disablePort_canonical
    | with_reducible apply State.fencePort_canonical
    | with_reducible apply State.releasePort_canonical
    | with_reducible apply State.fset_canonical
    | with_reducible apply canonical_ite

theorem State.takeAck_canonical {s : State} (hs : Canonical s) (p : ℕ) (ack : ℕ) :
    Canonical (s.takeAck p ack) := by
  unfold State.takeAck
  try dsimp only
  repeat' first
    | with_reducible assumption
    | with_reducible apply State.setPort_canonical
    | with_reducible apply State.retrain_canonical
    | with_reducible apply State.violate_canonical
    | with_reducible apply canonical_ite

theorem State.takeNakReq_canonical {s : State} (hs : Canonical s) (p : ℕ) (ack : ℕ) :
    Canonical (s.takeNakReq p ack) := by
  unfold State.takeNakReq
  try dsimp only
  repeat' first
    | with_reducible assumption
    | with_reducible apply State.bump_canonical
    | with_reducible apply State.portDown_canonical
    | with_reducible apply State.violate_canonical
    | with_reducible apply canonical_ite

theorem State.takeCredit_canonical {s : State} (hs : Canonical s) (p : ℕ) (cr : ℕ) :
    Canonical (s.takeCredit p cr) := by
  unfold State.takeCredit
  try dsimp only
  repeat' first
    | with_reducible assumption
    | with_reducible apply State.setPort_canonical
    | with_reducible apply State.violate_canonical
    | with_reducible apply canonical_ite

theorem State.maybeUp_canonical {s : State} (hs : Canonical s) (p : ℕ) :
    Canonical (s.maybeUp p) := by
  unfold State.maybeUp
  try dsimp only
  repeat' first
    | with_reducible assumption
    | with_reducible apply State.reroute_canonical
    | with_reducible apply State.fset_canonical
    | with_reducible apply State.setLanes_canonical
    | with_reducible apply canonical_ite

theorem State.badInit_canonical {s : State} (hs : Canonical s) (p : ℕ) :
    Canonical (s.badInit p) := by
  unfold State.badInit
  try dsimp only
  repeat' first
    | with_reducible assumption
    | with_reducible apply State.violate_canonical
    | with_reducible apply State.portDown_canonical
    | with_reducible apply State.setPort_canonical
    | with_reducible apply State.retrain_canonical
    | with_reducible apply canonical_ite

theorem State.takeInit_canonical {s : State} (hs : Canonical s) (p : ℕ) (r : BitVec 512) (fseq : ℕ) :
    Canonical (s.takeInit p r fseq) := by
  unfold State.takeInit
  try dsimp only
  repeat' first
    | with_reducible assumption
    | with_reducible apply State.badInit_canonical
    | with_reducible apply State.portDown_canonical
    | with_reducible apply State.event_canonical
    | with_reducible apply State.violate_canonical
    | with_reducible apply State.fset_canonical
    | with_reducible apply State.maybeUp_canonical
    | with_reducible apply State.setPort_canonical
    | with_reducible apply canonical_ite

theorem State.nakHcrc_canonical {s : State} (hs : Canonical s) (port : ℕ) (p : Packet) :
    Canonical (s.nakHcrc port p) := by
  unfold State.nakHcrc
  try dsimp only
  repeat' first
    | with_reducible assumption
    | with_reducible apply State.send_canonical
    | with_reducible apply canonical_ite

theorem State.pastRefused_canonical {s : State} (hs : Canonical s) (p : Packet) :
    Canonical (s.pastRefused p) := by
  unfold State.pastRefused
  try dsimp only
  repeat' first
    | with_reducible assumption
    | with_reducible apply State.seqCheck_canonical
    | with_reducible apply canonical_ite

theorem State.arrive_canonical {s : State} (hs : Canonical s) (port : ℕ) (p : Packet) :
    Canonical (s.arrive port p) := by
  unfold State.arrive
  try dsimp only
  repeat' first
    | with_reducible assumption
    | with_reducible apply State.violate_canonical
    | with_reducible apply State.nak_canonical
    | with_reducible apply State.pastRefused_canonical
    | with_reducible apply State.setPort_canonical
    | with_reducible apply State.freeIn'_canonical
    | with_reducible apply State.nakHcrc_canonical
    | with_reducible apply State.setInq_canonical
    | with_reducible apply canonical_ite
    | split

theorem State.assemble_canonical {s : State} (hs : Canonical s) (port : ℕ) (a1 : ℕ) (a2 : List (BitVec 512)) :
    Canonical (s.assemble port a1 a2) := by
  induction a1 generalizing s a2 with
  | zero => exact hs
  | succ k ih =>
    unfold State.assemble
    split
    · exact hs
    · split
      · exact ih (State.arrive_canonical hs _ _) _
      · exact hs

theorem State.badFrame_canonical {s : State} (hs : Canonical s) (p : ℕ) :
    Canonical (s.badFrame p) := by
  unfold State.badFrame
  try dsimp only
  repeat' first
    | with_reducible assumption
    | with_reducible apply State.setPort_canonical
    | with_reducible apply State.retrain_canonical
    | with_reducible apply canonical_ite

theorem State.takeCredits_canonical {s : State} (hs : Canonical s) (p : ℕ) (f : LinkFrame) :
    Canonical (s.takeCredits p f) := by
  unfold State.takeCredits
  try dsimp only
  repeat' first
    | with_reducible assumption
    | with_reducible apply State.takeCredit_canonical

theorem State.goodFrame_canonical {s : State} (hs : Canonical s) (p : ℕ) (f : LinkFrame) :
    Canonical (s.goodFrame p f) := by
  unfold State.goodFrame
  try dsimp only
  repeat' first
    | with_reducible assumption
    | with_reducible apply State.setPort_canonical
    | with_reducible apply State.takeCredits_canonical
    | with_reducible apply State.bump_canonical
    | with_reducible apply State.assemble_canonical

theorem State.linkFrame_canonical {s : State} (hs : Canonical s) (p : ℕ) (f : LinkFrame) :
    Canonical (s.linkFrame p f) := by
  unfold State.linkFrame
  try dsimp only
  repeat' first
    | with_reducible assumption
    | with_reducible apply State.setPort_canonical
    | with_reducible apply State.badFrame_canonical
    | with_reducible apply State.bump_canonical
    | with_reducible apply State.takeInit_canonical
    | with_reducible apply State.takeAck_canonical
    | with_reducible apply State.takeNakReq_canonical
    | with_reducible apply State.retrain_canonical
    | with_reducible apply State.goodFrame_canonical
    | with_reducible apply State.takeCredits_canonical
    | with_reducible apply canonical_ite

theorem State.fiArm_canonical {s : State} (hs : Canonical s) (p : ℕ) (v : W64) :
    Canonical (s.fiArm p v) := by
  unfold State.fiArm
  try dsimp only
  repeat' first
    | with_reducible assumption
    | with_reducible apply State.fset_canonical
    | with_reducible apply State.setPort_canonical
    | with_reducible apply State.journal_canonical
    | with_reducible apply canonical_ite

theorem State.fiLeave_canonical {s : State} (hs : Canonical s)  :
    Canonical (s.fiLeave) := by
  unfold State.fiLeave
  try dsimp only
  repeat' first
    | with_reducible intro _
    | with_reducible assumption
    | with_reducible apply State.fset_canonical
    | with_reducible apply canonical_foldl
    | with_reducible apply canonical_ite

theorem State.fiCount_canonical {s : State} (hs : Canonical s) (port : ℕ) :
    Canonical (s.fiCount port) := by
  unfold State.fiCount
  try dsimp only
  repeat' first
    | with_reducible assumption
    | with_reducible apply State.bump_canonical
    | with_reducible apply State.setPort_canonical
    | with_reducible apply State.fset_canonical
    | with_reducible apply canonical_ite

theorem State.frames_canonical {s : State} (hs : Canonical s) (port : ℕ) (a1 : ℕ) :
    Canonical (s.frames port a1) := by
  fun_induction State.frames s port a1
  all_goals try dsimp only
  all_goals repeat' first
    | with_reducible apply ‹Canonical _ → _›
    | with_reducible assumption
    | with_reducible apply State.bump_canonical
    | with_reducible apply State.setPort_canonical

theorem State.onLink_canonical {s : State} (hs : Canonical s) (port : ℕ) (p : Packet) (flip : Option ℕ) :
    Canonical (s.onLink port p flip) := by
  unfold State.onLink
  try dsimp only
  repeat' first
    | with_reducible assumption
    | with_reducible apply State.setPort_canonical
    | with_reducible apply State.meter_canonical
    | with_reducible apply State.frames_canonical
    | with_reducible apply canonical_ite

theorem State.leaveBy_canonical {s : State} (hs : Canonical s) (port : ℕ) (p : Packet) :
    Canonical (s.leaveBy port p) := by
  unfold State.leaveBy
  try dsimp only
  repeat' first
    | with_reducible assumption
    | with_reducible apply State.setPort_canonical
    | with_reducible apply State.fiCount_canonical
    | with_reducible apply State.onLink_canonical
    | with_reducible apply canonical_ite

theorem State.releaseReorder_canonical {s : State} (hs : Canonical s) (port : ℕ) (vc : ℕ) (before : List Packet) :
    Canonical (s.releaseReorder port vc before) := by
  unfold State.releaseReorder
  try dsimp only
  repeat' first
    | with_reducible intro _
    | with_reducible assumption
    | with_reducible apply State.setPort_canonical
    | with_reducible apply State.onLink_canonical
    | with_reducible apply canonical_foldl

theorem State.stampTime_canonical {s : State} (hs : Canonical s) (port : ℕ) (p : Packet) :
    Canonical (s.stampTime port p).2 := by
  unfold State.stampTime
  try dsimp only
  repeat' first
    | with_reducible assumption
    | split
    | dsimp only
    | simp only [canonical_upd]

theorem State.outputSend_canonical {s : State} (hs : Canonical s) (port : ℕ) :
    Canonical (s.outputSend port) := by
  unfold State.outputSend
  try dsimp only
  repeat' first
    | with_reducible assumption
    | with_reducible apply State.frames_canonical
    | with_reducible apply State.setOutq_canonical
    | with_reducible apply State.stampTime_canonical
    | with_reducible apply State.releaseReorder_canonical
    | with_reducible apply State.leaveBy_canonical
    | with_reducible apply State.setPort_canonical
    | with_reducible apply canonical_ite
    | split

theorem State.forward_canonical {s : State} (hs : Canonical s) (x : Rx) (p : Packet) :
    Canonical (s.forward x p) := by
  unfold State.forward
  try dsimp only
  repeat' first
    | with_reducible assumption
    | with_reducible apply State.toOutq_canonical
    | with_reducible apply State.useCirc_canonical
    | with_reducible apply State.nak_canonical
    | with_reducible apply State.lostPacket_canonical
    | with_reducible apply canonical_ite
    | split

theorem State.probeDrop_canonical {s : State} (hs : Canonical s)  :
    Canonical (s.probeDrop) := by
  unfold State.probeDrop
  try dsimp only
  repeat' first
    | with_reducible assumption
    | with_reducible apply State.bumpBy_canonical

theorem State.freeCirc_canonical {s : State} (hs : Canonical s) (port : ℕ) (slot : ℕ) :
    Canonical (s.freeCirc port slot) := by
  unfold State.freeCirc
  try dsimp only
  repeat' first
    | with_reducible assumption
    | with_reducible apply State.setPort_canonical
    | with_reducible apply State.setReg_canonical

theorem State.setCirc_canonical {s : State} (hs : Canonical s) (port : ℕ) (slot : ℕ) (inPort : ℕ) (inCirc : ℕ) (share : ℕ) (p : Packet) :
    Canonical (s.setCirc port slot inPort inCirc share p) := by
  unfold State.setCirc
  try dsimp only
  repeat' first
    | with_reducible assumption
    | with_reducible apply State.setPort_canonical
    | with_reducible apply State.setReg_canonical

theorem State.circSetup_canonical {s : State} (hs : Canonical s) (x : Rx) (p : Packet) :
    Canonical (s.circSetup x p) := by
  unfold State.circSetup
  try dsimp only
  repeat' first
    | with_reducible assumption
    | with_reducible apply State.malformed_canonical
    | with_reducible apply State.ack_canonical
    | with_reducible apply State.toOutq_canonical
    | with_reducible apply State.useCirc_canonical
    | with_reducible apply State.lostPacket_canonical
    | with_reducible apply State.send_canonical
    | with_reducible apply State.setCirc_canonical
    | with_reducible apply canonical_ite
    | split
    | simp only [canonical_upd]

theorem State.circTear_canonical {s : State} (hs : Canonical s) (x : Rx) (p : Packet) :
    Canonical (s.circTear x p) := by
  unfold State.circTear
  try dsimp only
  repeat' first
    | with_reducible assumption
    | with_reducible apply State.toOutq_canonical
    | with_reducible apply State.freeCirc_canonical
    | with_reducible apply canonical_ite
    | split

theorem State.tearOwn_canonical {s : State} (hs : Canonical s) (o : OwnCirc) :
    Canonical (s.tearOwn o) := by
  unfold State.tearOwn
  try dsimp only
  repeat' first
    | with_reducible assumption
    | with_reducible apply State.freeCirc_canonical
    | with_reducible apply State.toOutq_canonical
    | simp only [canonical_upd]

theorem State.deliverInner_canonical {s : State} (hs : Canonical s) (p : Packet) :
    Canonical (s.deliverInner p) := by
  unfold State.deliverInner
  try dsimp only
  repeat' first
    | with_reducible assumption
    | with_reducible apply State.setInq_canonical

theorem State.castFrom_canonical {s : State} (hs : Canonical s) (h : ℕ) (p : Packet) :
    Canonical (s.castFrom h p) := by
  unfold State.castFrom
  try dsimp only
  repeat' first
    | with_reducible intro _
    | with_reducible assumption
    | with_reducible apply State.toOutq_canonical
    | with_reducible apply State.send_canonical
    | with_reducible apply canonical_foldl
    | with_reducible apply canonical_ite

theorem State.cast_canonical {s : State} (hs : Canonical s) (h : ℕ) (inner : Packet) :
    Canonical (s.cast h inner) := by
  unfold State.cast
  try dsimp only
  repeat' first
    | with_reducible assumption
    | with_reducible apply State.castFrom_canonical
    | with_reducible apply State.deliverInner_canonical

end Sys2Proof.Machine
end

