-- ==== Sys2Proof/Laws/KeepSplice.lean ====
section
/-! SUPPORT. Every operation of Machine/Splice.lean that answers a state keeps the canonical form. -/

namespace Sys2Proof.Machine

theorem State.spliceRefuse_canonical {s : State} (hs : Canonical s) (p : Packet) (step : Option (ℕ × Step)) :
    Canonical (s.spliceRefuse p step) := by
  unfold State.spliceRefuse
  try dsimp only
  repeat' first
    | with_reducible assumption
    | with_reducible apply State.bump_canonical
    | with_reducible apply State.nak_canonical
    | with_reducible apply State.taintEnd_canonical
    | split

theorem State.spliceReceive_canonical {s : State} (hs : Canonical s) (x : Rx) (ty : ℕ) (mine : Packet → Bool) (isOpen : Step → Bool) (land : State → Packet → ℕ → Step → Option State) (hf : ∀ x0 x1 x2 x3, Canonical x0 → KeptO (land x0 x1 x2 x3)) :
    Canonical (s.spliceReceive x ty mine isOpen land) := by
  unfold State.spliceReceive
  try dsimp only
  repeat' first
    | with_reducible assumption
    | with_reducible apply hf
    | with_reducible apply State.take_canonical
    | with_reducible apply State.bump_canonical
    | with_reducible apply State.malformed_canonical
    | with_reducible apply State.spliceRefuse_canonical
    | with_reducible apply canonical_ite
    | split
    | (refine canonical_some ?_ (by assumption))
    | (refine canonical_fst ?_ (by assumption))

theorem landRow_canonical {s : State} (hs : Canonical s) (p : Packet) (e : ℕ) (t : Step) :
    KeptO (landRow s p e t) := by
  unfold landRow
  try dsimp only
  repeat' first
    | with_reducible assumption
    | with_reducible apply State.setVbytes_canonical
    | with_reducible apply State.engineAdd_canonical
    | with_reducible apply State.putStep_canonical
    | with_reducible apply keptO_none
    | with_reducible apply keptO_some
    | with_reducible apply keptO_ite
    | split
    | (refine canonical_some ?_ (by assumption))

theorem landAbort_canonical {s : State} (hs : Canonical s) (p : Packet) (e : ℕ) (t : Step) :
    KeptO (landAbort s p e t) := by
  unfold landAbort
  try dsimp only
  repeat' first
    | with_reducible assumption
    | with_reducible apply State.engineAdd_canonical
    | with_reducible apply State.putStep_canonical
    | with_reducible apply keptO_none
    | with_reducible apply keptO_some
    | with_reducible apply keptO_ite
    | split

theorem landResult_canonical {s : State} (hs : Canonical s) (p : Packet) (e : ℕ) (t : Step) :
    KeptO (landResult s p e t) := by
  unfold landResult
  try dsimp only
  repeat' first
    | with_reducible assumption
    | with_reducible apply State.setVbytes_canonical
    | with_reducible apply State.checkStep_canonical
    | with_reducible apply State.putStep_canonical
    | with_reducible apply keptO_none
    | with_reducible apply keptO_some
    | with_reducible apply keptO_ite
    | split
    | (refine canonical_some ?_ (by assumption))

theorem State.startReturn_canonical {s : State} (hs : Canonical s) (e : ℕ) (t : Step) (outs : List W64) (taint : Bool) :
    Canonical (s.startReturn e t outs taint) := by
  unfold State.startReturn
  try dsimp only
  repeat' first
    | with_reducible assumption
    | with_reducible apply State.taintEnd_canonical
    | with_reducible apply State.checkStep_canonical
    | with_reducible apply State.putStep_canonical
    | with_reducible apply canonical_ite

theorem State.spliceNak_canonical {s : State} (hs : Canonical s) (p : Packet) (n : ℕ) :
    Canonical (s.spliceNak p n) := by
  unfold State.spliceNak
  try dsimp only
  repeat' first
    | with_reducible assumption
    | with_reducible apply State.taintEnd_canonical
    | split

end Sys2Proof.Machine
end

