-- ==== Sys2Proof/Laws/KeepTime.lean ====
section
/-! SUPPORT. Every operation of Machine/Time.lean that answers a state keeps the canonical form. -/

namespace Sys2Proof.Machine

theorem State.ignored_canonical {s : State} (hs : Canonical s)  :
    Canonical (s.ignored) := by
  unfold State.ignored
  try dsimp only
  repeat' first
    | with_reducible assumption
    | with_reducible apply State.bump_canonical

theorem State.sendBy_canonical {s : State} (hs : Canonical s) (port : ℕ) (p : Packet) :
    Canonical (s.sendBy port p) := by
  unfold State.sendBy
  try dsimp only
  repeat' first
    | with_reducible assumption
    | with_reducible apply State.stamp_canonical
    | with_reducible apply State.toOutq_canonical

theorem State.takeTime_canonical {s : State} (hs : Canonical s) (x : Rx) (kind : ℕ) (f : State → Packet → State) (hf : ∀ x0 x1, Canonical x0 → Canonical (f x0 x1)) :
    Canonical (s.takeTime x kind f) := by
  unfold State.takeTime
  try dsimp only
  repeat' first
    | with_reducible assumption
    | with_reducible apply hf
    | with_reducible apply State.take_canonical
    | with_reducible apply State.malformed_canonical
    | with_reducible apply canonical_ite
    | split
    | (refine canonical_fst ?_ (by assumption))

theorem State.stepLanyard_canonical {s : State} (hs : Canonical s) (off : ℤ) :
    Canonical (s.stepLanyard off) := by
  unfold State.stepLanyard
  try dsimp only
  repeat' first
    | with_reducible assumption
    | with_reducible apply State.journal_canonical
    | with_reducible apply State.fset_canonical
    | simp only [canonical_upd]

theorem State.takeOffset_canonical {s : State} (hs : Canonical s) (off : ℤ) :
    Canonical (s.takeOffset off) := by
  unfold State.takeOffset
  try dsimp only
  repeat' first
    | with_reducible assumption
    | with_reducible apply State.event_canonical
    | with_reducible apply State.stepLanyard_canonical
    | with_reducible apply State.fset_canonical
    | with_reducible apply State.bump_canonical
    | with_reducible apply canonical_ite
    | simp only [canonical_upd]

theorem State.setUtcState_canonical {s : State} (hs : Canonical s) (n : ℕ) :
    Canonical (s.setUtcState n) := by
  unfold State.setUtcState
  try dsimp only
  repeat' first
    | with_reducible assumption
    | with_reducible apply State.fset_canonical

theorem State.ptpMeasure_canonical {s : State} (hs : Canonical s) (tai : W64) :
    Canonical (s.ptpMeasure tai) := by
  unfold State.ptpMeasure
  try dsimp only
  repeat' first
    | with_reducible assumption
    | with_reducible apply State.setUtcState_canonical
    | with_reducible apply State.setReg_canonical
    | with_reducible apply State.journal_canonical
    | with_reducible apply canonical_ite
    | split
    | simp only [canonical_upd]

theorem State.timeTick_canonical {s : State} (hs : Canonical s)  :
    Canonical (s.timeTick) := by
  unfold State.timeTick
  try dsimp only
  repeat' first
    | with_reducible assumption
    | with_reducible apply canonical_ite
    | split
    | dsimp only
    | simp only [canonical_upd]

theorem State.setLaunch_canonical {s : State} (hs : Canonical s) (i : ℕ) (l : Launch) :
    Canonical (s.setLaunch i l) := by
  unfold State.setLaunch
  try dsimp only
  repeat' first
    | with_reducible assumption
    | simp only [canonical_upd]

theorem State.castDecision_canonical {s : State} (hs : Canonical s) (l : Launch) (kind : ℕ) :
    Canonical (s.castDecision l kind) := by
  unfold State.castDecision
  try dsimp only
  repeat' first
    | with_reducible assumption
    | with_reducible apply State.cast_canonical

theorem State.toAlternates_canonical {s : State} (hs : Canonical s) (l : Launch) (kind : ℕ) :
    Canonical (s.toAlternates l kind) := by
  unfold State.toAlternates
  try dsimp only
  repeat' first
    | with_reducible intro _
    | with_reducible assumption
    | with_reducible apply State.send_canonical
    | with_reducible apply canonical_foldl
    | with_reducible apply canonical_ite

theorem State.launchDecide_canonical {s : State} (hs : Canonical s) (i : ℕ) (commit : Bool) (t : Tally) :
    Canonical (s.launchDecide i commit t) := by
  unfold State.launchDecide
  try dsimp only
  repeat' first
    | with_reducible assumption
    | with_reducible apply State.setLaunch_canonical
    | with_reducible apply State.toAlternates_canonical
    | with_reducible apply State.castDecision_canonical
    | with_reducible apply State.journal_canonical

theorem State.launchCheck_canonical {s : State} (hs : Canonical s) (i : ℕ) :
    Canonical (s.launchCheck i) := by
  unfold State.launchCheck
  try dsimp only
  repeat' first
    | with_reducible assumption
    | with_reducible apply State.launchDecide_canonical
    | with_reducible apply State.send_canonical
    | with_reducible apply State.setLaunch_canonical
    | with_reducible apply canonical_ite

theorem State.lchStatus_canonical {s : State} (hs : Canonical s) (st : ℕ) :
    Canonical (s.lchStatus st) := by
  unfold State.lchStatus
  try dsimp only
  repeat' first
    | with_reducible assumption
    | with_reducible apply State.fset_canonical

theorem State.takeLaunch_canonical {s : State} (hs : Canonical s) (x : Rx) (kind : ℕ) (f : State → Packet → ℕ → State) (hf : ∀ x0 x1 x2, Canonical x0 → Canonical (f x0 x1 x2)) :
    Canonical (s.takeLaunch x kind f) := by
  unfold State.takeLaunch
  try dsimp only
  repeat' first
    | with_reducible assumption
    | with_reducible apply hf
    | with_reducible apply State.take_canonical
    | with_reducible apply State.malformed_canonical
    | with_reducible apply canonical_ite
    | split
    | (refine canonical_fst ?_ (by assumption))

theorem State.ackUp_canonical {s : State} (hs : Canonical s) (l : Launch) :
    Canonical (s.ackUp l) := by
  unfold State.ackUp
  try dsimp only
  repeat' first
    | with_reducible assumption
    | with_reducible apply State.send_canonical

theorem State.headCast_canonical {s : State} (hs : Canonical s) (l : Launch) (p : Packet) :
    Canonical (s.headCast l p) := by
  unfold State.headCast
  try dsimp only
  repeat' first
    | with_reducible assumption
    | with_reducible apply State.castFrom_canonical
    | with_reducible apply State.send_canonical

theorem State.laterPrepare_canonical {s : State} (hs : Canonical s) (i : ℕ) (p : Packet) :
    Canonical (s.laterPrepare i p) := by
  unfold State.laterPrepare
  try dsimp only
  repeat' first
    | with_reducible assumption
    | with_reducible apply State.launchCheck_canonical
    | with_reducible apply State.headCast_canonical
    | with_reducible apply State.setLaunch_canonical
    | with_reducible apply State.ackUp_canonical
    | with_reducible apply canonical_ite
    | split

theorem State.childAck_canonical {s : State} (hs : Canonical s) (i : ℕ) (src : BitVec 24) (count : ℕ) (refused : ℕ) (missing : ℕ) (first : ℕ) :
    Canonical (s.childAck i src count refused missing first) := by
  unfold State.childAck
  try dsimp only
  repeat' first
    | with_reducible assumption
    | with_reducible apply State.setLaunch_canonical
    | with_reducible apply State.send_canonical
    | with_reducible apply State.launchCheck_canonical
    | with_reducible apply State.ignored_canonical
    | with_reducible apply canonical_ite

theorem State.launchNak_canonical {s : State} (hs : Canonical s) (n : ℕ) (refuser : BitVec 24) (lid : Option W32) :
    Canonical (s.launchNak n refuser lid) := by
  unfold State.launchNak
  try dsimp only
  repeat' first
    | with_reducible assumption
    | with_reducible apply State.childAck_canonical
    | split

end Sys2Proof.Machine
end

