-- ==== Sys2Proof/Laws/KeepTransfer.lean ====
section
/-! SUPPORT. Every operation of Machine/Transfer.lean that answers a state keeps the canonical form. -/

namespace Sys2Proof.Machine

theorem State.endTransfer_canonical {s : State} (hs : Canonical s) (t : Transfer) (st : ℕ) :
    Canonical (s.endTransfer t st) := by
  unfold State.endTransfer
  try dsimp only
  repeat' first
    | with_reducible assumption
    | with_reducible apply State.setVbytesGo_canonical
    | with_reducible apply State.engineAdd_canonical
    | with_reducible apply State.recheck_canonical
    | split
    | simp only [canonical_upd]

theorem State.setTransfer_canonical {s : State} (hs : Canonical s) (t : Transfer) :
    Canonical (s.setTransfer t) := by
  unfold State.setTransfer
  try dsimp only
  repeat' first
    | with_reducible assumption
    | simp only [canonical_upd]

theorem State.chunkDone_canonical {s : State} (hs : Canonical s) (t : Transfer) (off : ℕ) :
    Canonical (s.chunkDone t off) := by
  unfold State.chunkDone
  try dsimp only
  repeat' first
    | with_reducible assumption
    | with_reducible apply State.endTransfer_canonical
    | with_reducible apply State.setTransfer_canonical
    | with_reducible apply canonical_ite

theorem State.chunkRefused_canonical {s : State} (hs : Canonical s) (t : Transfer) (off : ℕ) (code : ℕ) :
    Canonical (s.chunkRefused t off code) := by
  unfold State.chunkRefused
  try dsimp only
  repeat' first
    | with_reducible assumption
    | with_reducible apply State.chunkDone_canonical

theorem State.sendChunk_canonical {s : State} (hs : Canonical s) (k : CtxId) (put : Bool) (xid : ℕ) (t : List W64) (off : ℕ) :
    Canonical (s.sendChunk k put xid t off) := by
  unfold State.sendChunk
  try dsimp only
  repeat' first
    | with_reducible assumption
    | with_reducible apply State.cast_canonical
    | with_reducible apply State.dig_canonical
    | with_reducible apply State.sendFor_canonical
    | with_reducible apply canonical_ite

theorem State.startTransfer_canonical {s : State} (hs : Canonical s) (k : CtxId) (put : Bool) (addr : ℕ) (t : List W64) :
    Canonical (s.startTransfer k put addr t) := by
  unfold State.startTransfer
  try dsimp only
  repeat' first
    | with_reducible intro _
    | with_reducible assumption
    | with_reducible apply State.sendChunk_canonical
    | with_reducible apply canonical_foldl
    | split
    | simp only [canonical_upd]

theorem State.transfer_canonical {s : State} (hs : Canonical s) (k : CtxId) (w : FmtB) (put : Bool) :
    Canonical (s.transfer k w put) := by
  unfold State.transfer
  try dsimp only
  repeat' first
    | with_reducible intro _
    | with_reducible assumption
    | with_reducible apply State.issueB_canonical
    | with_reducible apply State.finish_canonical
    | with_reducible apply State.memFault_canonical
    | with_reducible apply State.touchRange_canonical
    | with_reducible apply State.startTransfer_canonical
    | with_reducible apply keptO_none
    | with_reducible apply keptO_some
    | with_reducible apply keptO_ite
    | split
    | (refine canonical_some ?_ (by assumption))

theorem State.putAck_canonical {s : State} (hs : Canonical s) (p : Packet) (n : ℕ) :
    Canonical (s.putAck p n) := by
  unfold State.putAck
  try dsimp only
  repeat' first
    | with_reducible assumption
    | with_reducible apply State.chunkDone_canonical
    | with_reducible apply canonical_ite
    | split

theorem State.transferNak_canonical {s : State} (hs : Canonical s) (p : Packet) (n : ℕ) (ty : ℕ) :
    Canonical (s.transferNak p n ty) := by
  unfold State.transferNak
  try dsimp only
  repeat' first
    | with_reducible assumption
    | with_reducible apply State.chunkRefused_canonical
    | with_reducible apply State.event_canonical
    | with_reducible apply State.podErr_canonical
    | with_reducible apply canonical_ite
    | split

theorem State.castsDone_canonical {s : State} (hs : Canonical s)  :
    Canonical (s.castsDone) := by
  unfold State.castsDone
  try dsimp only
  repeat' first
    | with_reducible intro _
    | with_reducible assumption
    | with_reducible apply State.endTransfer_canonical
    | with_reducible apply canonical_foldl
    | with_reducible apply canonical_ite

end Sys2Proof.Machine
end

