-- ==== Sys2Proof/Laws/KeepAnswers.lean ====
section
/-! SUPPORT. Every operation of Machine/Answers.lean that answers a state keeps the canonical form. -/

namespace Sys2Proof.Machine

theorem State.circAck_canonical {s : State} (hs : Canonical s) (cid : W32) :
    Canonical (s.circAck cid) := by
  unfold State.circAck
  try dsimp only
  repeat' first
    | with_reducible assumption
    | simp only [canonical_upd]

theorem State.acked_canonical {s : State} (hs : Canonical s) (p : Packet) (n : ℕ) :
    Canonical (s.acked p n) := by
  unfold State.acked
  try dsimp only
  repeat' first
    | with_reducible assumption
    | with_reducible apply State.podAck_canonical
    | with_reducible apply State.putAck_canonical
    | with_reducible apply State.circAck_canonical
    | with_reducible apply canonical_ite

theorem State.naked_canonical {s : State} (hs : Canonical s) (p : Packet) (n : ℕ) :
    Canonical (s.naked p n) := by
  unfold State.naked
  try dsimp only
  repeat' first
    | with_reducible assumption
    | with_reducible apply State.podNak_canonical
    | with_reducible apply State.transferNak_canonical
    | with_reducible apply State.spliceNak_canonical
    | with_reducible apply State.busyNak_canonical
    | with_reducible apply State.event_canonical
    | with_reducible apply State.fset_canonical
    | with_reducible apply State.tearOwn_canonical
    | with_reducible apply State.launchNak_canonical
    | with_reducible apply State.podErr_canonical
    | with_reducible apply State.ownNak_canonical
    | with_reducible apply canonical_ite
    | split

end Sys2Proof.Machine
end

