-- ==== Sys2Proof/Laws/KeepOperands.lean ====
section
/-! SUPPORT. Every operation of Machine/Operands.lean that answers a state keeps the canonical form. -/

namespace Sys2Proof.Machine

theorem State.put_canonical {s : State} (hs : Canonical s) (n : ℕ) (va : ℕ) (bs : List Byte) :
    KeptO (State.put s n va bs) := by
  unfold State.put
  try dsimp only
  repeat' first
    | with_reducible assumption
    | with_reducible apply State.setVbytes_canonical

theorem State.putSpans_canonical {s : State} (hs : Canonical s) (k : CtxId) (space : ℕ) (a1 : List (ℤ × List Byte)) :
    KeptO (State.putSpans s k space a1) := by
  fun_induction State.putSpans s k space a1
  all_goals try dsimp only
  all_goals repeat' first
    | with_reducible apply ‹Canonical _ → _›
    | with_reducible assumption
    | with_reducible apply State.setTile_canonical
    | with_reducible apply State.put_canonical
    | with_reducible apply keptO_none
    | with_reducible apply keptO_some
    | (refine canonical_some ?_ (by assumption))

theorem State.putFault_canonical {s : State} (hs : Canonical s) (k : CtxId) (space : ℕ) (a1 : List (ℤ × List Byte)) :
    Canonical (s.putFault k space a1) := by
  fun_induction State.putFault s k space a1
  all_goals try dsimp only
  all_goals repeat' first
    | with_reducible apply ‹Canonical _ → _›
    | with_reducible assumption
    | with_reducible apply State.setTile_canonical
    | with_reducible apply State.put_canonical
    | with_reducible apply State.memFault_canonical
    | (refine canonical_some ?_ (by assumption))

theorem State.statAdd_canonical {s : State} (hs : Canonical s) (n : ℕ) (va : ℕ) (amount : ℕ) :
    Canonical (s.statAdd n va amount) := by
  unfold State.statAdd
  try dsimp only
  repeat' first
    | with_reducible assumption
    | with_reducible apply State.setVbytesGo_canonical
    | with_reducible apply canonical_ite

theorem State.addStats_canonical {s : State} (hs : Canonical s) (k : CtxId) (n : ℕ) (ptr : W64) (d : TDesc) (c : Counts) :
    Canonical (s.addStats k n ptr d c) := by
  unfold State.addStats
  try dsimp only
  repeat' first
    | with_reducible assumption
    | with_reducible apply State.statAdd_canonical
    | with_reducible apply State.event_canonical
    | with_reducible apply canonical_ite
    | split

end Sys2Proof.Machine
end

