-- ==== Sys2Proof/Laws/KeepMatrix.lean ====
section
/-! SUPPORT. Every operation of Machine/Matrix.lean that answers a state keeps the canonical form. -/

namespace Sys2Proof.Machine

theorem State.fenceTask_canonical {s : State} (hs : Canonical s) (k : CtxId) :
    Canonical (s.fenceTask k) := by
  unfold State.fenceTask
  try dsimp only
  repeat' first
    | with_reducible assumption
    | with_reducible apply State.clearCtx_canonical
    | with_reducible apply State.setTask_canonical
    | with_reducible apply State.retireTask_canonical
    | with_reducible apply State.taintTask_canonical
    | with_reducible apply canonical_ite
    | split
    | simp only [canonical_upd]

theorem State.fenceTile_canonical {s : State} (hs : Canonical s) (t : ℕ) :
    Canonical (s.fenceTile t) := by
  unfold State.fenceTile
  try dsimp only
  repeat' first
    | with_reducible intro _
    | with_reducible assumption
    | with_reducible apply State.fset_canonical
    | with_reducible apply State.setTile_canonical
    | with_reducible apply State.fenceTask_canonical
    | with_reducible apply canonical_foldl

theorem State.unfenceTile_canonical {s : State} (hs : Canonical s) (t : ℕ) :
    Canonical (s.unfenceTile t) := by
  unfold State.unfenceTile
  try dsimp only
  repeat' first
    | with_reducible assumption
    | with_reducible apply State.fset_canonical
    | with_reducible apply canonical_ite

theorem State.enqueue_canonical {s : State} (hs : Canonical s) (k : CtxId) (q : ℕ) (e : Queued) :
    Canonical (s.enqueue k q e) := by
  unfold State.enqueue
  try dsimp only
  repeat' first
    | with_reducible assumption
    | with_reducible apply State.setTile_canonical

theorem State.mmaIssue_canonical {s : State} (hs : Canonical s) (k : CtxId) (w : FmtB) (nm : Bool) :
    KeptO (State.mmaIssue s k w nm) := by
  unfold State.mmaIssue
  try dsimp only
  repeat' first
    | with_reducible assumption
    | with_reducible apply State.trap_canonical
    | with_reducible apply State.finish_canonical
    | with_reducible apply State.enqueue_canonical
    | with_reducible apply keptO_none
    | with_reducible apply keptO_some
    | with_reducible apply keptO_ite
    | split

theorem State.popQueue_canonical {s : State} (hs : Canonical s) (t : ℕ) (q : ℕ) :
    Canonical (s.popQueue t q) := by
  unfold State.popQueue
  try dsimp only
  repeat' first
    | with_reducible assumption
    | with_reducible apply State.setTile_canonical

theorem State.mmaWrite_canonical {s : State} (hs : Canonical s) (t : ℕ) (e : Queued) :
    Canonical (s.mmaWrite t e) := by
  unfold State.mmaWrite
  try dsimp only
  repeat' first
    | with_reducible assumption
    | with_reducible apply State.setTile_canonical
    | with_reducible apply State.dig_canonical
    | with_reducible apply State.bump_canonical
    | with_reducible apply canonical_ite

theorem State.arrayFault_canonical {s : State} (hs : Canonical s) (t : ℕ) (e : Queued) (f : ArrayFault) :
    Canonical (s.arrayFault t e f) := by
  unfold State.arrayFault
  try dsimp only
  repeat' first
    | with_reducible assumption
    | with_reducible apply State.setTile_canonical
    | with_reducible apply State.fenceTile_canonical
    | with_reducible apply State.event_canonical
    | with_reducible apply State.bump_canonical
    | split

theorem State.putConverted_canonical {s : State} (hs : Canonical s) (k : CtxId) (d : TDesc) (ptr : W64) (rs : List (List ℕ × List Byte × Counts)) (next : State → State) (hf : ∀ x0, Canonical x0 → Canonical (next x0)) :
    Canonical (s.putConverted k d ptr rs next) := by
  unfold State.putConverted
  try dsimp only
  repeat' first
    | with_reducible assumption
    | with_reducible apply hf
    | with_reducible apply State.putSpans_canonical
    | with_reducible apply State.addStats_canonical
    | with_reducible apply State.putFault_canonical
    | split
    | (refine canonical_some ?_ (by assumption))

end Sys2Proof.Machine
end

