-- ==== Sys2Proof/Laws/KeepGloves.lean ====
section
/-! SUPPORT. Every operation of Machine/Gloves.lean that answers a state keeps the canonical form. -/

namespace Sys2Proof.Machine

theorem State.takenUp_canonical {s : State} (hs : Canonical s) (n : ℕ) :
    Canonical (s.takenUp n) := by
  unfold State.takenUp
  try dsimp only
  repeat' first
    | with_reducible assumption
    | with_reducible apply State.fset_canonical
    | simp only [canonical_upd]

theorem State.ringFault_canonical {s : State} (hs : Canonical s) (n : ℕ) (w2 : ℕ) :
    Canonical (s.ringFault n w2) := by
  unfold State.ringFault
  try dsimp only
  repeat' first
    | with_reducible assumption
    | with_reducible apply State.faultGlove_canonical
    | with_reducible apply State.event_canonical
    | with_reducible apply State.takenUp_canonical

theorem State.graphStatus_canonical {s : State} (hs : Canonical s) (n : ℕ) (addr : ℕ) (st : ℕ) :
    Canonical (s.graphStatus n addr st) := by
  unfold State.graphStatus
  try dsimp only
  repeat' first
    | with_reducible assumption
    | with_reducible apply State.setVbytesGo_canonical

theorem State.rejectGraph_canonical {s : State} (hs : Canonical s) (n : ℕ) (g : GraphList) (st : ℕ) :
    Canonical (s.rejectGraph n g st) := by
  unfold State.rejectGraph
  try dsimp only
  repeat' first
    | with_reducible assumption
    | with_reducible apply State.graphStatus_canonical
    | with_reducible apply State.takenUp_canonical
    | with_reducible apply State.event_canonical
    | with_reducible apply State.retireAdd_canonical
    | with_reducible apply canonical_ite

theorem State.register_canonical {s : State} (hs : Canonical s) (n : ℕ) (gid : ℕ) (q : ℕ) (ix : ℕ) (d : List W64) :
    Canonical (s.register n gid q ix d) := by
  unfold State.register
  try dsimp only
  repeat' first
    | with_reducible intro _
    | with_reducible assumption
    | with_reducible apply State.setTask_canonical
    | with_reducible apply State.setKnot_canonical
    | with_reducible apply State.readyTask_canonical
    | with_reducible apply canonical_foldl

theorem State.admitNow_canonical {s : State} (hs : Canonical s) (n : ℕ) (g : GraphList) :
    Canonical (s.admitNow n g) := by
  unfold State.admitNow
  try dsimp only
  repeat' first
    | with_reducible intro _
    | with_reducible assumption
    | with_reducible apply State.knotSet_canonical
    | with_reducible apply State.setGraph_canonical
    | with_reducible apply State.register_canonical
    | with_reducible apply State.takenUp_canonical
    | with_reducible apply State.graphStatus_canonical
    | with_reducible apply canonical_foldl
    | simp only [canonical_upd]

theorem State.admitGraph_canonical {s : State} (hs : Canonical s) (n : ℕ) :
    Canonical (s.admitGraph n) := by
  unfold State.admitGraph
  try dsimp only
  repeat' first
    | with_reducible assumption
    | with_reducible apply State.ringFault_canonical
    | with_reducible apply State.rejectGraph_canonical
    | with_reducible apply State.admitNow_canonical
    | with_reducible apply canonical_ite
    | split
    | simp only [canonical_upd]

theorem State.place_canonical {s : State} (hs : Canonical s) (q : ℕ) (t : Task) (tile : ℕ) :
    Canonical (s.place q t tile) := by
  unfold State.place
  try dsimp only
  repeat' first
    | with_reducible assumption
    | with_reducible apply State.setTile_canonical
    | with_reducible apply State.setTask_canonical
    | with_reducible apply State.join_canonical
    | split
    | simp only [canonical_upd]

theorem State.reserve_canonical {s : State} (hs : Canonical s) (tile : ℕ) :
    Canonical (s.reserve tile) := by
  unfold State.reserve
  try dsimp only
  repeat' first
    | with_reducible assumption
    | split
    | simp only [canonical_upd]

theorem State.knotOp_canonical {s : State} (hs : Canonical s) (p : Packet) (n : ℕ) :
    Canonical (s.knotOp p n) := by
  unfold State.knotOp
  try dsimp only
  repeat' first
    | with_reducible assumption
    | with_reducible apply State.nak_canonical
    | with_reducible apply State.event_canonical
    | with_reducible apply State.knotAdd_canonical
    | with_reducible apply canonical_ite

theorem State.setRecord_canonical {s : State} (hs : Canonical s) (n : ℕ) (r : Option (ℕ × ℕ)) :
    Canonical (s.setRecord n r) := by
  unfold State.setRecord
  try dsimp only
  repeat' first
    | with_reducible assumption
    | simp only [canonical_upd]

theorem State.countJob_canonical {s : State} (hs : Canonical s) (client : ℕ) :
    Canonical (s.countJob client) := by
  unfold State.countJob
  try dsimp only
  repeat' first
    | with_reducible assumption
    | with_reducible apply State.bump_canonical
    | with_reducible apply State.fset_canonical
    | with_reducible apply State.event_canonical
    | with_reducible apply canonical_ite
    | split
    | simp only [canonical_upd]

theorem State.clearKnots_canonical {s : State} (hs : Canonical s) (b : ℕ) (c : ℕ) :
    Canonical (s.clearKnots b c) := by
  unfold State.clearKnots
  try dsimp only
  repeat' first
    | with_reducible assumption
    | simp only [canonical_upd]

theorem State.gstatus_canonical {s : State} (hs : Canonical s) (n : ℕ) (st : ℕ) :
    Canonical (s.gstatus n st) := by
  unfold State.gstatus
  try dsimp only
  repeat' first
    | with_reducible assumption
    | with_reducible apply State.fset_canonical

theorem State.noteD2_canonical {s : State} (hs : Canonical s) (n : ℕ) :
    Canonical (s.noteD2 n) := by
  unfold State.noteD2
  try dsimp only
  repeat' first
    | with_reducible assumption
    | with_reducible apply State.bumpBy_canonical
    | with_reducible apply canonical_ite
    | simp only [canonical_upd]

theorem State.createNow_canonical {s : State} (hs : Canonical s) (n : ℕ) :
    Canonical (s.createNow n) := by
  unfold State.createNow
  try dsimp only
  repeat' first
    | with_reducible intro _
    | with_reducible assumption
    | with_reducible apply State.setRecord_canonical
    | with_reducible apply State.clearKnots_canonical
    | with_reducible apply State.fset_canonical
    | with_reducible apply State.gstatus_canonical
    | with_reducible apply State.setReg_canonical
    | with_reducible apply State.countJob_canonical
    | with_reducible apply State.journal_canonical
    | with_reducible apply State.noteD2_canonical
    | with_reducible apply canonical_foldl
    | simp only [canonical_upd]

theorem State.revoke_canonical {s : State} (hs : Canonical s) (n : ℕ) :
    Canonical (s.revoke n) := by
  unfold State.revoke
  try dsimp only
  repeat' first
    | with_reducible intro _
    | with_reducible assumption
    | with_reducible apply State.tearOwn_canonical
    | with_reducible apply State.setReg_canonical
    | with_reducible apply State.fset_canonical
    | with_reducible apply canonical_foldl
    | with_reducible apply canonical_ite
    | simp only [canonical_upd]

theorem State.zeroMem_canonical {s : State} (hs : Canonical s) (a : ℕ) (len : ℕ) :
    Canonical (s.zeroMem a len) := ⟨Tab.wf_dropIf hs.1, hs.2.1, hs.2.2⟩

theorem State.zeroVirt_canonical {s : State} (hs : Canonical s) (n : ℕ) (a1 : ℕ) (a2 : ℕ) :
    Canonical (s.zeroVirt n a1 a2) := by
  induction a2 generalizing s a1 with
  | zero => exact hs
  | succ k ih =>
    unfold State.zeroVirt
    refine ih ?_ _
    split
    · exact State.setByte_canonical _ _ hs
    · exact hs

theorem State.scrubPool_canonical {s : State} (hs : Canonical s) (n : ℕ) (c : ℕ) :
    Canonical (s.scrubPool n c) := by
  unfold State.scrubPool
  try dsimp only
  repeat' first
    | with_reducible assumption
    | with_reducible apply State.zeroVirt_canonical
    | with_reducible apply State.fset_canonical
    | with_reducible apply canonical_ite

theorem State.scrub_canonical {s : State} (hs : Canonical s) (n : ℕ) :
    Canonical (s.scrub n) := by
  unfold State.scrub
  exact canonical_upd.2 (State.clearKnots_canonical (canonical_cells (canonical_foldl
    (canonical_foldl hs fun t c ht => State.scrubPool_canonical ht _ _)
    fun t p ht => State.setPage_canonical (State.zeroMem_canonical ht _ _) _ _)) _ _)

end Sys2Proof.Machine
end

