-- ==== Sys2Proof/Laws/KeepSecurity.lean ====
section
/-! SUPPORT. Every operation of Machine/Security.lean that answers a state keeps the canonical form. -/

namespace Sys2Proof.Machine

theorem State.faultAll_canonical {s : State} (hs : Canonical s) (cause : ℕ) :
    Canonical (s.faultAll cause) := by
  unfold State.faultAll
  try dsimp only
  repeat' first
    | with_reducible intro _
    | with_reducible assumption
    | with_reducible apply State.faultGlove_canonical
    | with_reducible apply canonical_foldl

theorem State.nvsWrote_canonical {s : State} (hs : Canonical s) (bytes : ℕ) :
    Canonical (s.nvsWrote bytes) := by
  unfold State.nvsWrote
  try dsimp only
  repeat' first
    | with_reducible assumption
    | with_reducible apply State.bump_canonical

theorem State.journalCheckpoint_canonical {s : State} (hs : Canonical s)  :
    Canonical (s.journalCheckpoint) := by
  unfold State.journalCheckpoint
  try dsimp only
  repeat' first
    | with_reducible assumption
    | with_reducible apply State.journal_canonical
    | simp only [canonical_upd]

theorem State.disarm_canonical {s : State} (hs : Canonical s)  :
    Canonical (s.disarm) := by
  unfold State.disarm
  try dsimp only
  repeat' first
    | with_reducible intro _
    | with_reducible assumption
    | with_reducible apply State.fset_canonical
    | with_reducible apply State.setReg_canonical
    | with_reducible apply canonical_foldl
    | with_reducible apply canonical_ite
    | simp only [canonical_upd]

theorem State.noteInject_canonical {s : State} (hs : Canonical s)  :
    Canonical (s.noteInject) := by
  unfold State.noteInject
  try dsimp only
  repeat' first
    | with_reducible assumption
    | with_reducible apply State.fset_canonical
    | with_reducible apply State.disarm_canonical
    | with_reducible apply canonical_ite

theorem State.setImage_canonical {s : State} (hs : Canonical s) (kind : ℕ) (slot : ℕ) (v : Image) :
    Canonical (s.setImage kind slot v) := by
  unfold State.setImage
  try dsimp only
  repeat' first
    | with_reducible assumption
    | simp only [canonical_upd]

theorem State.mboxDone_canonical {s : State} (hs : Canonical s) (cmd : ℕ) (st : ℕ) :
    Canonical (s.mboxDone cmd st) := by
  unfold State.mboxDone
  try dsimp only
  repeat' first
    | with_reducible assumption
    | with_reducible apply State.bump_canonical
    | with_reducible apply State.event_canonical
    | with_reducible apply State.fset_canonical
    | with_reducible apply canonical_ite

theorem State.mbox_canonical {s : State} (hs : Canonical s) (core : ℕ) (cmd : ℕ) (mgmt : Bool) (f : State → ℕ → State × ℕ) (hf : ∀ x0 x1, Canonical x0 → Canonical (f x0 x1).1) :
    Canonical (s.mbox core cmd mgmt f) := by
  unfold State.mbox
  try dsimp only
  repeat' first
    | with_reducible assumption
    | with_reducible apply hf
    | with_reducible apply State.fset_canonical
    | with_reducible apply State.mboxDone_canonical
    | with_reducible apply canonical_ite

theorem State.dropNonce_canonical {s : State} (hs : Canonical s)  :
    Canonical (s.dropNonce) := by
  unfold State.dropNonce
  try dsimp only
  repeat' first
    | with_reducible intro _
    | with_reducible assumption
    | with_reducible apply State.setReg_canonical
    | with_reducible apply canonical_foldl
    | simp only [canonical_upd]

theorem State.journalDebug_canonical {s : State} (hs : Canonical s) (what : ℕ) (hash : BitVec 512) :
    Canonical (s.journalDebug what hash) := by
  unfold State.journalDebug
  try dsimp only
  repeat' first
    | with_reducible assumption
    | with_reducible apply State.journal_canonical

theorem State.toD0_canonical {s : State} (hs : Canonical s)  :
    Canonical (s.toD0) := by
  unfold State.toD0
  try dsimp only
  repeat' first
    | with_reducible assumption
    | with_reducible apply State.fset_canonical
    | with_reducible apply State.noteInject_canonical
    | with_reducible apply State.setReg_canonical
    | simp only [canonical_upd]

theorem State.endSession_canonical {s : State} (hs : Canonical s) (what : ℕ) :
    Canonical (s.endSession what) := by
  unfold State.endSession
  try dsimp only
  repeat' first
    | with_reducible intro _
    | with_reducible assumption
    | with_reducible apply State.journalDebug_canonical
    | with_reducible apply State.faultGlove_canonical
    | with_reducible apply State.toD0_canonical
    | with_reducible apply State.disarm_canonical
    | with_reducible apply canonical_foldl
    | with_reducible apply canonical_ite
    | simp only [canonical_upd]

theorem State.debugTick_canonical {s : State} (hs : Canonical s)  :
    Canonical (s.debugTick) := by
  unfold State.debugTick
  try dsimp only
  repeat' first
    | with_reducible assumption
    | with_reducible apply State.toD0_canonical
    | with_reducible apply canonical_ite

theorem State.dropD2_canonical {s : State} (hs : Canonical s)  :
    Canonical (s.dropD2) := by
  unfold State.dropD2
  try dsimp only
  repeat' first
    | with_reducible assumption
    | with_reducible apply State.mboxDone_canonical
    | split
    | simp only [canonical_upd]

theorem State.openSession_canonical {s : State} (hs : Canonical s) (level : ℕ) (dur : ℕ) (inject : Bool) :
    Canonical (s.openSession level dur inject) := by
  unfold State.openSession
  try dsimp only
  repeat' first
    | with_reducible assumption
    | with_reducible apply State.fset_canonical
    | with_reducible apply State.setReg_canonical
    | with_reducible apply State.noteInject_canonical
    | with_reducible apply State.journalDebug_canonical
    | simp only [canonical_upd]

theorem State.setCfg_canonical {s : State} (hs : Canonical s) (slot : ℕ) (r : CfgRec) :
    Canonical (s.setCfg slot r) := by
  unfold State.setCfg
  try dsimp only
  repeat' first
    | with_reducible assumption
    | with_reducible apply canonical_ite
    | simp only [canonical_upd]

theorem State.journalImage_canonical {s : State} (hs : Canonical s) (what : ℕ) (kind : ℕ) (arg : ℕ) :
    Canonical (s.journalImage what kind arg) := by
  unfold State.journalImage
  try dsimp only
  repeat' first
    | with_reducible assumption
    | with_reducible apply State.journal_canonical

theorem State.endActivation_canonical {s : State} (hs : Canonical s) (kind : ℕ) :
    Canonical (s.endActivation kind) := by
  unfold State.endActivation
  try dsimp only
  repeat' first
    | with_reducible assumption
    | with_reducible apply State.fset_canonical
    | with_reducible apply canonical_ite
    | split
    | simp only [canonical_upd]

theorem State.wipe_canonical {s : State} (hs : Canonical s)  :
    Canonical (s.wipe) := ⟨rfl, hs.2.1, rfl⟩

theorem State.changeLifecycle_canonical {s : State} (hs : Canonical s) (b : List Byte) (src : ℕ) :
    Canonical (s.changeLifecycle b src) := by
  unfold State.changeLifecycle
  try dsimp only
  repeat' first
    | with_reducible assumption
    | with_reducible apply State.dropNonce_canonical
    | with_reducible apply State.endSession_canonical
    | with_reducible apply State.fset_canonical
    | with_reducible apply State.journal_canonical
    | with_reducible apply State.wipe_canonical
    | with_reducible apply State.faultAll_canonical
    | with_reducible apply State.journalCheckpoint_canonical
    | with_reducible apply State.noteInject_canonical
    | with_reducible apply canonical_ite
    | split
    | simp only [canonical_upd]

end Sys2Proof.Machine
end

