-- ==== Sys2Proof/Laws/KeepPower.lean ====
section
/-! SUPPORT. Every operation of Machine/Power.lean that answers a state keeps the canonical form. -/

namespace Sys2Proof.Machine

theorem State.pwrStatus_canonical {s : State} (hs : Canonical s) (st : ℕ) :
    Canonical (s.pwrStatus st) := by
  unfold State.pwrStatus
  try dsimp only
  repeat' first
    | with_reducible assumption
    | with_reducible apply State.fset_canonical

theorem State.noteCap_canonical {s : State} (hs : Canonical s)  :
    Canonical (s.noteCap) := by
  unfold State.noteCap
  try dsimp only
  repeat' first
    | with_reducible assumption
    | with_reducible apply State.fset_canonical
    | with_reducible apply canonical_ite

theorem State.toGoal_canonical {s : State} (hs : Canonical s) (goal : ℕ) (wait : Bool) :
    Canonical (s.toGoal goal wait) := by
  unfold State.toGoal
  try dsimp only
  repeat' first
    | with_reducible assumption
    | with_reducible apply State.fset_canonical
    | simp only [canonical_upd]

theorem State.reachPower_canonical {s : State} (hs : Canonical s) (st : ℕ) :
    Canonical (s.reachPower st) := by
  unfold State.reachPower
  try dsimp only
  repeat' first
    | with_reducible assumption
    | with_reducible apply State.fset_canonical
    | with_reducible apply State.noteInject_canonical
    | with_reducible apply State.noteCap_canonical
    | simp only [canonical_upd]

theorem State.portsDown_canonical {s : State} (hs : Canonical s)  :
    Canonical (s.portsDown) := by
  unfold State.portsDown
  try dsimp only
  repeat' first
    | with_reducible intro _
    | with_reducible assumption
    | with_reducible apply State.portDown_canonical
    | with_reducible apply canonical_foldl
    | with_reducible apply canonical_ite

theorem State.leavePower_canonical {s : State} (hs : Canonical s) (goal : ℕ) :
    Canonical (s.leavePower goal) := by
  unfold State.leavePower
  try dsimp only
  repeat' first
    | with_reducible assumption
    | with_reducible apply State.endSession_canonical
    | with_reducible apply State.portsDown_canonical
    | with_reducible apply State.disarm_canonical
    | with_reducible apply State.toGoal_canonical
    | with_reducible apply canonical_ite

theorem State.powerRequest_canonical {s : State} (hs : Canonical s) (want : ℕ) (src : ℕ) :
    Canonical (s.powerRequest want src) := by
  unfold State.powerRequest
  try dsimp only
  repeat' first
    | with_reducible assumption
    | with_reducible apply State.pwrStatus_canonical
    | with_reducible apply State.reachPower_canonical
    | with_reducible apply State.fset_canonical
    | with_reducible apply State.toGoal_canonical
    | with_reducible apply State.leavePower_canonical
    | with_reducible apply State.dropD2_canonical
    | with_reducible apply State.faultAll_canonical
    | with_reducible apply canonical_ite
    | simp only [canonical_upd]

theorem State.railsOff_canonical {s : State} (hs : Canonical s)  :
    Canonical (s.railsOff) := by
  unfold State.railsOff
  try dsimp only
  repeat' first
    | with_reducible assumption
    | simp only [canonical_upd]

theorem State.railsOn_canonical {s : State} (hs : Canonical s)  :
    Canonical (s.railsOn) := by
  unfold State.railsOn
  try dsimp only
  repeat' first
    | with_reducible assumption
    | simp only [canonical_upd]

theorem State.portsOff_canonical {s : State} (hs : Canonical s)  :
    Canonical (s.portsOff) := by
  unfold State.portsOff
  try dsimp only
  repeat' first
    | with_reducible intro _
    | with_reducible assumption
    | with_reducible apply State.setPort_canonical
    | with_reducible apply canonical_foldl

theorem State.diesOff_canonical {s : State} (hs : Canonical s)  :
    Canonical (s.diesOff) := by
  unfold State.diesOff
  have h := State.portsOff_canonical hs
  generalize s.portsOff = t at h
  exact canonical_mk h.1 h.2.1 rfl

theorem State.trainEnabled_canonical {s : State} (hs : Canonical s) (p : ℕ) :
    Canonical (s.trainEnabled p) := by
  unfold State.trainEnabled
  try dsimp only
  repeat' first
    | with_reducible assumption
    | with_reducible apply State.train_canonical
    | with_reducible apply canonical_ite

theorem State.blank_canonical {s : State} (hs : Canonical s) (sticky : Bool) :
    Canonical (s.blank sticky) := ⟨rfl, ctlWf_foldl rfl, rfl⟩

theorem State.cleared_canonical {s : State} (hs : Canonical s) (sticky : Bool) :
    Canonical (s.cleared sticky) := by
  unfold State.cleared
  try dsimp only
  repeat' first
    | with_reducible intro _
    | with_reducible assumption
    | with_reducible apply State.blank_canonical
    | with_reducible apply State.fset_canonical
    | with_reducible apply State.setReg_canonical
    | with_reducible apply canonical_foldl
    | with_reducible apply canonical_ite
    | simp only [canonical_upd]

theorem State.takeReset_canonical {s : State} (hs : Canonical s) (cause : ℕ) (held : List ℕ) :
    Canonical (s.takeReset cause held) := by
  unfold State.takeReset
  try dsimp only
  repeat' first
    | with_reducible intro _
    | with_reducible assumption
    | with_reducible apply State.cleared_canonical
    | with_reducible apply State.setReg_canonical
    | with_reducible apply State.fset_canonical
    | with_reducible apply canonical_foldl
    | with_reducible apply canonical_ite
    | split
    | dsimp only
    | simp only [canonical_upd]

theorem State.askReset_canonical {s : State} (hs : Canonical s) (cause : ℕ) :
    Canonical (s.askReset cause) := by
  unfold State.askReset
  try dsimp only
  repeat' first
    | with_reducible assumption
    | with_reducible apply State.takeReset_canonical
    | with_reducible apply canonical_ite
    | simp only [canonical_upd]

theorem State.failFirst_canonical {s : State} (hs : Canonical s) (kind : ℕ) :
    Canonical (s.failFirst kind).1 := by
  unfold State.failFirst
  try dsimp only
  repeat' first
    | with_reducible assumption
    | with_reducible apply State.setImage_canonical
    | split
    | dsimp only
    | simp only [canonical_upd]

theorem State.thermTrip_canonical {s : State} (hs : Canonical s)  :
    Canonical (s.thermTrip) := by
  unfold State.thermTrip
  try dsimp only
  repeat' first
    | with_reducible assumption
    | with_reducible apply State.askReset_canonical
    | with_reducible apply State.fset_canonical
    | with_reducible apply canonical_ite
    | simp only [canonical_upd]

theorem State.sagStart_canonical {s : State} (hs : Canonical s) (cause : ℕ) :
    Canonical (s.sagStart cause) := by
  unfold State.sagStart
  try dsimp only
  repeat' first
    | with_reducible intro _
    | with_reducible assumption
    | with_reducible apply State.dropD2_canonical
    | with_reducible apply State.toD0_canonical
    | with_reducible apply State.journalDebug_canonical
    | with_reducible apply State.disarm_canonical
    | with_reducible apply State.fset_canonical
    | with_reducible apply State.railsOff_canonical
    | with_reducible apply State.diesOff_canonical
    | with_reducible apply State.noteInject_canonical
    | with_reducible apply canonical_foldl
    | with_reducible apply canonical_ite
    | split
    | simp only [canonical_upd]

theorem State.saveEnds_canonical {s : State} (hs : Canonical s)  :
    Canonical (s.saveEnds) := by
  unfold State.saveEnds
  try dsimp only
  repeat' first
    | with_reducible assumption
    | with_reducible apply State.takeReset_canonical
    | split

theorem State.cfgBad_canonical {s : State} (hs : Canonical s) (slot : ℕ) (r : CfgRec) :
    Canonical (s.cfgBad slot r) := by
  unfold State.cfgBad
  try dsimp only
  repeat' first
    | with_reducible assumption
    | with_reducible apply State.event_canonical
    | with_reducible apply canonical_ite

theorem State.loadItem_canonical {s : State} (hs : Canonical s) (i : ℕ × List Byte) :
    Canonical (s.loadItem i) := by
  unfold State.loadItem
  try dsimp only
  repeat' first
    | with_reducible assumption
    | with_reducible apply State.fset_canonical
    | with_reducible apply State.setReg_canonical
    | with_reducible apply State.event_canonical
    | with_reducible apply canonical_ite
    | simp only [canonical_upd]

theorem State.bootKind_canonical {s : State} (hs : Canonical s) (kind : ℕ) :
    Canonical (s.bootKind kind) := by
  unfold State.bootKind
  try dsimp only
  repeat' first
    | with_reducible assumption
    | with_reducible apply State.fset_canonical
    | with_reducible apply canonical_ite
    | split
    | simp only [canonical_upd]

theorem State.startCores_canonical {s : State} (hs : Canonical s)  :
    Canonical (s.startCores) := by
  unfold State.startCores
  try dsimp only
  repeat' first
    | with_reducible assumption
    | simp only [canonical_upd]

theorem State.restoreCounter_canonical {s : State} (hs : Canonical s) (c : ℕ × W64) :
    Canonical (s.restoreCounter c) := by
  unfold State.restoreCounter
  try dsimp only
  repeat' first
    | with_reducible assumption
    | with_reducible apply State.fset_canonical
    | with_reducible apply State.setReg_canonical
    | with_reducible apply canonical_ite

theorem State.resumeGlove_canonical {s : State} (hs : Canonical s) (g : SagGlove) :
    Canonical (s.resumeGlove g) := by
  unfold State.resumeGlove
  try dsimp only
  repeat' first
    | with_reducible assumption
    | with_reducible apply State.fset_canonical
    | with_reducible apply State.setRecord_canonical
    | with_reducible apply State.setReg_canonical

theorem State.appendEntry_canonical {s : State} (hs : Canonical s) (e : JEntry) :
    Canonical (s.appendEntry e) := by
  unfold State.appendEntry
  try dsimp only
  repeat' first
    | with_reducible assumption
    | with_reducible apply State.setReg_canonical
    | simp only [canonical_upd]

theorem State.resumeSag_canonical {s : State} (hs : Canonical s)  :
    Canonical (s.resumeSag) := by
  unfold State.resumeSag
  try dsimp only
  repeat' first
    | with_reducible intro _
    | with_reducible assumption
    | with_reducible apply State.appendEntry_canonical
    | with_reducible apply State.restoreCounter_canonical
    | with_reducible apply State.resumeGlove_canonical
    | with_reducible apply State.fset_canonical
    | with_reducible apply State.logRec_canonical
    | with_reducible apply State.journal_canonical
    | with_reducible apply canonical_foldl
    | split
    | simp only [canonical_upd]

theorem State.releaseBoot_canonical {s : State} (hs : Canonical s)  :
    Canonical (s.releaseBoot) := by
  unfold State.releaseBoot
  try dsimp only
  repeat' first
    | with_reducible intro _
    | with_reducible assumption
    | with_reducible apply State.fset_canonical
    | with_reducible apply State.setReg_canonical
    | with_reducible apply State.journal_canonical
    | with_reducible apply canonical_foldl
    | with_reducible apply canonical_ite
    | simp only [canonical_upd]

theorem State.raiseFloor_canonical {s : State} (hs : Canonical s)  :
    Canonical (s.raiseFloor) := by
  unfold State.raiseFloor
  try dsimp only
  repeat' first
    | with_reducible assumption
    | with_reducible apply State.setReg_canonical

theorem State.releaseConfig_canonical {s : State} (hs : Canonical s)  :
    Canonical (s.releaseConfig) := by
  unfold State.releaseConfig
  try dsimp only
  repeat' first
    | with_reducible intro _
    | with_reducible assumption
    | with_reducible apply State.fset_canonical
    | with_reducible apply State.setReg_canonical
    | with_reducible apply State.loadItem_canonical
    | with_reducible apply canonical_foldl

theorem State.releaseDies_canonical {s : State} (hs : Canonical s) (r : ReleaseReport) :
    Canonical (s.releaseDies r) := by
  unfold State.releaseDies
  try dsimp only
  repeat' first
    | with_reducible intro _
    | with_reducible assumption
    | with_reducible apply State.raiseFloor_canonical
    | with_reducible apply State.railsOn_canonical
    | with_reducible apply State.fset_canonical
    | with_reducible apply State.event_canonical
    | with_reducible apply State.trainEnabled_canonical
    | with_reducible apply canonical_foldl
    | with_reducible apply canonical_ite
    | simp only [canonical_upd]

theorem State.seqFail_canonical {s : State} (hs : Canonical s) (rail : ℕ) (why : ℕ) :
    Canonical (s.seqFail rail why) := by
  unfold State.seqFail
  try dsimp only
  repeat' first
    | with_reducible assumption
    | with_reducible apply State.railsOff_canonical
    | with_reducible apply State.event_canonical
    | with_reducible apply State.fset_canonical
    | with_reducible apply State.reachPower_canonical
    | with_reducible apply canonical_ite
    | simp only [canonical_upd]

theorem State.blockStatus_canonical {s : State} (hs : Canonical s) (unit : ℕ) (st : ℕ) :
    Canonical (s.blockStatus unit st) := by
  unfold State.blockStatus
  try dsimp only
  repeat' first
    | with_reducible assumption
    | with_reducible apply State.fset_canonical

theorem State.blockDone_canonical {s : State} (hs : Canonical s) (kind : ℕ) (unit : ℕ) :
    Canonical (s.blockDone kind unit) := by
  unfold State.blockDone
  try dsimp only
  repeat' first
    | with_reducible assumption
    | with_reducible apply State.event_canonical
    | with_reducible apply State.blockStatus_canonical

end Sys2Proof.Machine
end

