-- ==== Sys2Proof/Laws/KeepArbiter.lean ====
section
/-! SUPPORT. Every operation of Machine/Arbiter.lean that answers a state keeps the canonical form. -/

namespace Sys2Proof.Machine

theorem State.arbReserved_canonical {s : State} (hs : Canonical s) (off : ℕ) (v : W64) :
    Canonical (s.arbReserved off v) := by
  unfold State.arbReserved
  try dsimp only
  repeat' first
    | with_reducible assumption
    | with_reducible apply State.pwrStatus_canonical
    | with_reducible apply State.fset_canonical
    | with_reducible apply canonical_ite

theorem State.applyField_canonical {s : State} (hs : Canonical s) (off : ℕ) (f : Fld) (v : ℕ) (src : ℕ) :
    Canonical (s.applyField off f v src) := by
  unfold State.applyField
  try dsimp only
  repeat' first
    | with_reducible assumption
    | with_reducible apply State.fenceTile_canonical
    | with_reducible apply State.unfenceTile_canonical
    | with_reducible apply State.powerRequest_canonical
    | with_reducible apply State.fset_canonical
    | with_reducible apply State.portCmd_canonical
    | with_reducible apply State.noteCap_canonical
    | with_reducible apply canonical_ite

theorem State.arbWrite_canonical {s : State} (hs : Canonical s) (off : ℕ) (src : ℕ) (v : W64) :
    Canonical (s.arbWrite off src v) := by
  unfold State.arbWrite
  try dsimp only
  repeat' first
    | with_reducible assumption
    | with_reducible apply State.arbReserved_canonical
    | with_reducible apply State.fset_canonical
    | split
    | simp only [canonical_upd]

theorem State.arbOutcome_canonical {s : State} (hs : Canonical s) (w : ArbWrite) :
    Canonical (s.arbOutcome w) := by
  unfold State.arbOutcome
  try dsimp only
  repeat' first
    | with_reducible assumption
    | with_reducible apply State.setReg_canonical
    | with_reducible apply State.event_canonical
    | with_reducible apply canonical_ite

theorem State.roundEnd_canonical {s : State} (hs : Canonical s)  :
    Canonical (s.roundEnd) := by
  unfold State.roundEnd
  try dsimp only
  repeat' first
    | with_reducible intro _
    | with_reducible assumption
    | with_reducible apply State.applyField_canonical
    | with_reducible apply State.arbOutcome_canonical
    | with_reducible apply canonical_foldl
    | with_reducible apply canonical_ite
    | split
    | simp only [canonical_upd]

theorem State.arbSolo_canonical {s : State} (hs : Canonical s) (off : ℕ) (src : ℕ) (v : W64) :
    Canonical (s.arbSolo off src v) := by
  unfold State.arbSolo
  try dsimp only
  repeat' first
    | with_reducible assumption
    | with_reducible apply State.roundEnd_canonical
    | with_reducible apply State.arbWrite_canonical

theorem State.arbRelease_canonical {s : State} (hs : Canonical s) (off : ℕ) (src : ℕ) :
    Canonical (s.arbRelease off src) := by
  unfold State.arbRelease
  try dsimp only
  repeat' first
    | with_reducible intro _
    | with_reducible assumption
    | with_reducible apply State.applyField_canonical
    | with_reducible apply canonical_foldl
    | with_reducible apply canonical_ite
    | simp only [canonical_upd]

theorem State.portWrite_canonical {s : State} (hs : Canonical s) (p : ℕ) (src : ℕ) (cmd : ℕ) :
    Canonical (s.portWrite p src cmd) := by
  unfold State.portWrite
  try dsimp only
  repeat' first
    | with_reducible assumption
    | with_reducible apply State.arbSolo_canonical

theorem State.powerWrite_canonical {s : State} (hs : Canonical s) (src : ℕ) (want : ℕ) :
    Canonical (s.powerWrite src want) := by
  unfold State.powerWrite
  try dsimp only
  repeat' first
    | with_reducible assumption
    | with_reducible apply State.arbSolo_canonical

end Sys2Proof.Machine
end

