-- ==== Sys2Proof/Laws/KeepDebug.lean ====
section
/-! SUPPORT. Every operation of Machine/Debug.lean that answers a state keeps the canonical form. -/

namespace Sys2Proof.Machine

theorem State.unpause_canonical {s : State} (hs : Canonical s) (k : CtxId) :
    Canonical (s.unpause k) := by
  unfold State.unpause
  try dsimp only
  repeat' first
    | with_reducible assumption
    | with_reducible apply State.setTask_canonical
    | split

theorem State.unhalt_canonical {s : State} (hs : Canonical s) (k : CtxId) (h : DbgHalt) :
    Canonical (s.unhalt k h) := by
  unfold State.unhalt
  try dsimp only
  repeat' first
    | with_reducible assumption
    | with_reducible apply State.mapCtx_canonical
    | with_reducible apply State.unpause_canonical
    | with_reducible apply State.join_canonical
    | with_reducible apply canonical_ite

theorem State.tap_canonical {s : State} (hs : Canonical s) (ir : ℕ) (dr : W64) :
    Canonical (s.tap ir dr) := by
  unfold State.tap
  try dsimp only
  repeat' first
    | with_reducible assumption
    | simp only [canonical_upd]

theorem State.tapBypass_canonical {s : State} (hs : Canonical s) (ir : ℕ) :
    Canonical (s.tapBypass ir) := by
  unfold State.tapBypass
  try dsimp only
  repeat' first
    | with_reducible assumption
    | with_reducible apply State.tap_canonical

theorem State.boundary_canonical {s : State} (hs : Canonical s) (ir : ℕ) :
    Canonical (s.boundary ir) := by
  unfold State.boundary
  try dsimp only
  repeat' first
    | with_reducible assumption
    | with_reducible apply State.tap_canonical
    | with_reducible apply State.tapBypass_canonical
    | with_reducible apply canonical_ite
    | simp only [canonical_upd]

end Sys2Proof.Machine
end

