-- ==== Sys2Proof/Laws/KeepTasks.lean ====
section
/-! SUPPORT. Every operation of Machine/Tasks.lean that answers a state keeps the canonical form. -/

namespace Sys2Proof.Machine

theorem State.taskAdd_canonical {s : State} (hs : Canonical s) (k : CtxId) (w : FmtB) (i : ℕ) (v : ℕ) :
    Canonical (s.taskAdd k w i v) := by
  unfold State.taskAdd
  try dsimp only
  repeat' first
    | with_reducible assumption
    | with_reducible apply State.finish_canonical
    | with_reducible apply State.event_canonical
    | with_reducible apply State.knotAdd_canonical
    | with_reducible apply State.dig_canonical
    | with_reducible apply canonical_ite

theorem State.sendKnotOp_canonical {s : State} (hs : Canonical s) (k : CtxId) (op : ℕ) (i : ℕ) (v : ℕ) (dest : BitVec 24) :
    Canonical (s.sendKnotOp k op i v dest) := by
  unfold State.sendKnotOp
  try dsimp only
  repeat' first
    | with_reducible assumption
    | with_reducible apply State.sendFor_canonical

theorem State.increment_canonical {s : State} (hs : Canonical s) (k : CtxId) (w : FmtB) (op : ℕ) (v : ℕ) :
    Canonical (s.increment k w op v) := by
  unfold State.increment
  try dsimp only
  repeat' first
    | with_reducible assumption
    | with_reducible apply State.finish_canonical
    | with_reducible apply State.taskAdd_canonical
    | with_reducible apply State.sendKnotOp_canonical
    | with_reducible apply canonical_ite
    | split

theorem State.poolWrite_canonical {s : State} (hs : Canonical s) (p : ℕ) (a : ℕ) (n : ℕ) (v : ℕ) :
    Canonical (s.poolWrite p a n v) := by
  unfold State.poolWrite
  try dsimp only
  repeat' first
    | with_reducible assumption
    | with_reducible apply State.wr_canonical
    | with_reducible apply State.setVbytesGo_canonical
    | with_reducible apply canonical_ite

theorem State.setPoolHead_canonical {s : State} (hs : Canonical s) (p : ℕ) (h : ℕ) :
    Canonical (s.setPoolHead p h) := by
  unfold State.setPoolHead
  try dsimp only
  repeat' first
    | with_reducible assumption
    | simp only [canonical_upd]

theorem State.poolGive_canonical {s : State} (hs : Canonical s) (p : ℕ) (i : ℕ) :
    Canonical (s.poolGive p i) := by
  unfold State.poolGive
  try dsimp only
  repeat' first
    | with_reducible assumption
    | with_reducible apply State.poolWrite_canonical
    | with_reducible apply State.setPoolHead_canonical
    | with_reducible apply State.fset_canonical
    | with_reducible apply canonical_ite

theorem State.poolStatus_canonical {s : State} (hs : Canonical s) (p : ℕ) (st : ℕ) :
    Canonical (s.poolStatus p st) := by
  unfold State.poolStatus
  try dsimp only
  repeat' first
    | with_reducible assumption
    | with_reducible apply State.fset_canonical

theorem State.poolLink_canonical {s : State} (hs : Canonical s) (p : ℕ) (a1 : ℕ) :
    Canonical (s.poolLink p a1) := by
  fun_induction State.poolLink s p a1
  all_goals try dsimp only
  all_goals repeat' first
    | with_reducible apply ‹Canonical _ → _›
    | with_reducible assumption
    | with_reducible apply State.poolWrite_canonical

end Sys2Proof.Machine
end

