-- ==== Sys2Proof/Laws/KeepEthernet.lean ====
section
/-! SUPPORT. Every operation of Machine/Ethernet.lean that answers a state keeps the canonical form. -/

namespace Sys2Proof.Machine

/-- What taking a pool's head buffer answers is in canonical form. -/
theorem State.poolTake_canonical {s : State} (hs : Canonical s) (p : ℕ) :
    (∀ t, s.poolTake p = .broken t → Canonical t) ∧ (∀ i t, s.poolTake p = .buf i t → Canonical t) := by
  unfold State.poolTake
  dsimp only
  constructor <;> intros <;> rename_i e <;> (repeat' split at e) <;> cases e
  all_goals first
    | exact State.event_canonical (State.fset_canonical _ _ _ hs) _ _ _ _ _
    | exact State.fset_canonical _ _ _ (State.setPoolHead_canonical (State.poolWrite_canonical hs _ _ _ _) _ _)

theorem State.setMac_canonical {s : State} (hs : Canonical s) (m : ℕ) (v : Mac) :
    Canonical (s.setMac m v) := by
  unfold State.setMac
  try dsimp only
  repeat' first
    | with_reducible assumption
    | simp only [canonical_upd]

theorem State.ringNext_canonical {s : State} (hs : Canonical s) (m : ℕ) (d : ℕ) (r : ℕ) :
    Canonical (s.ringNext m d r) := by
  unfold State.ringNext
  try dsimp only
  repeat' first
    | with_reducible assumption
    | with_reducible apply State.fset_canonical

theorem State.txDone_canonical {s : State} (hs : Canonical s) (m : ℕ) (r : ℕ) (st : ℕ) (stamp : Bool) :
    Canonical (s.txDone m r st stamp) := by
  unfold State.txDone
  try dsimp only
  repeat' first
    | with_reducible assumption
    | with_reducible apply State.wr_canonical
    | with_reducible apply State.ringNext_canonical
    | with_reducible apply State.engineAdd_canonical
    | with_reducible apply canonical_ite

theorem State.pfc_canonical {s : State} (hs : Canonical s) (prio : ℕ) (quanta : ℕ) :
    Canonical (s.pfc prio quanta) := by
  unfold State.pfc
  try dsimp only
  repeat' first
    | with_reducible assumption
    | with_reducible apply State.setMac_canonical
    | with_reducible apply canonical_ite

theorem State.noBuf_canonical {s : State} (hs : Canonical s) (m : ℕ) :
    Canonical (s.noBuf m) := by
  unfold State.noBuf
  try dsimp only
  repeat' first
    | with_reducible assumption
    | with_reducible apply State.bump_canonical

theorem State.landFrame_canonical {s : State} (hs : Canonical s) (p : ℕ) (a : ℕ) (bs : List Byte) :
    KeptO (State.landFrame s p a bs) := by
  unfold State.landFrame
  try dsimp only
  repeat' first
    | with_reducible assumption
    | with_reducible apply State.setBytes_canonical
    | with_reducible apply State.setVbytes_canonical
    | with_reducible apply keptO_some
    | with_reducible apply keptO_ite

theorem State.rxFrame_canonical {s : State} (hs : Canonical s) (m : ℕ) (r : ℕ) (rule : ℕ) (bs : List Byte) :
    Canonical (s.rxFrame m r rule bs) := by
  have hp := State.poolTake_canonical hs (s.fget (Reg.SVC_ETH_RING1 m 1 r) Reg.SVC_ETH_RING1_POOL)
  unfold State.rxFrame
  dsimp only
  split
  · exact State.noBuf_canonical hs _
  split
  · exact State.faultGlove_canonical (State.noBuf_canonical hs _) _ _
  split
  · exact State.noBuf_canonical hs _
  · rename_i e; exact State.noBuf_canonical (hp.1 _ e) _
  · rename_i e
    split
    · exact State.memFault_canonical (hp.2 _ _ e) _ _ _
    · rename_i e'
      have hu := canonical_some (State.landFrame_canonical (hp.2 _ _ e) _ _ _) e'
      exact State.engineAdd_canonical (State.ringNext_canonical (State.wr_canonical (State.wr_canonical
        (State.wr_canonical (State.wr_canonical hu _ _ _) _ _ _) _ _ _) _ _ _) _ _ _) _ _ _ _

theorem State.txDrop_canonical {s : State} (hs : Canonical s) (m : ℕ) (r : ℕ) (a1 : ℕ) :
    Canonical (s.txDrop m r a1) := by
  fun_induction State.txDrop s m r a1
  all_goals try dsimp only
  all_goals repeat' first
    | with_reducible apply ‹Canonical _ → _›
    | with_reducible assumption
    | with_reducible apply State.txDone_canonical

theorem State.ethDown_canonical {s : State} (hs : Canonical s) (m : ℕ) :
    Canonical (s.ethDown m) := by
  unfold State.ethDown
  try dsimp only
  repeat' first
    | with_reducible intro _
    | with_reducible assumption
    | with_reducible apply State.setMac_canonical
    | with_reducible apply State.fset_canonical
    | with_reducible apply State.txDrop_canonical
    | with_reducible apply canonical_foldl
    | with_reducible apply canonical_ite

end Sys2Proof.Machine
end

