-- ==== Sys2Proof/Laws/KeepScalar.lean ====
section
/-! SUPPORT. Every operation of Machine/Scalar.lean that answers a state keeps the canonical form. -/

namespace Sys2Proof.Machine

theorem State.goto_canonical {s : State} (hs : Canonical s) (k : CtxId) (a : ℕ) :
    Canonical (s.goto k a) := by
  unfold State.goto
  try dsimp only
  repeat' first
    | with_reducible assumption
    | with_reducible apply State.mapCtx_canonical
    | with_reducible apply State.trap_canonical
    | with_reducible apply canonical_ite

theorem State.alu_canonical {s : State} (hs : Canonical s) (k : CtxId) (w : FmtA) (legal : Bool) (f : W64 → W64 → W64) :
    Canonical (s.alu k w legal f) := by
  unfold State.alu
  try dsimp only
  repeat' first
    | with_reducible intro _
    | with_reducible assumption
    | with_reducible apply State.issueA_canonical
    | with_reducible apply State.advance_canonical
    | with_reducible apply State.mapCtx_canonical

theorem State.drainEvents_canonical {s : State} (hs : Canonical s) (t : ℕ) :
    Canonical (s.drainEvents t) := by
  unfold State.drainEvents
  try dsimp only
  repeat' first
    | with_reducible intro _
    | with_reducible assumption
    | with_reducible apply State.setTile_canonical
    | with_reducible apply State.event_canonical
    | with_reducible apply canonical_foldl

end Sys2Proof.Machine
end

