-- ==== Sys2Proof/Laws/KeepTwin.lean ====
section
/-! SUPPORT. Every operation of Machine/Twin.lean that answers a state keeps the canonical form. -/

namespace Sys2Proof.Machine

theorem State.digOuts_canonical {s : State} (hs : Canonical s) (k : CtxId) (t : Task) :
    Canonical (s.digOuts k t) := by
  unfold State.digOuts
  try dsimp only
  repeat' first
    | with_reducible intro _
    | with_reducible assumption
    | with_reducible apply State.dig_canonical
    | with_reducible apply canonical_foldl

theorem State.haltTask_canonical {s : State} (hs : Canonical s) (k : CtxId) (q : ℕ) (t : Task) :
    Canonical (s.haltTask k q t) := by
  unfold State.haltTask
  try dsimp only
  repeat' first
    | with_reducible assumption
    | with_reducible apply State.digOuts_canonical
    | with_reducible apply State.reserve_canonical
    | with_reducible apply State.clearCtx_canonical
    | with_reducible apply State.keepRanges_canonical
    | with_reducible apply State.setTask_canonical
    | with_reducible apply State.holdTwin_canonical
    | with_reducible apply State.retireTask_canonical
    | with_reducible apply canonical_ite

theorem State.applyTwin_canonical {s : State} (hs : Canonical s) (h : TwinHeld) :
    Canonical (s.applyTwin h) := by
  unfold State.applyTwin
  try dsimp only
  repeat' first
    | with_reducible assumption
    | with_reducible apply State.retireTask_canonical
    | with_reducible apply State.finishStep_canonical
    | with_reducible apply State.collRelease_canonical
    | split
    | simp only [canonical_upd]

theorem State.diverge_canonical {s : State} (hs : Canonical s) (h : TwinHeld) (stream : ℕ) (theirs : W64) :
    Canonical (s.diverge h stream theirs) := by
  unfold State.diverge
  try dsimp only
  repeat' first
    | with_reducible assumption
    | with_reducible apply State.setReg_canonical
    | with_reducible apply State.event_canonical
    | with_reducible apply State.send_canonical
    | with_reducible apply canonical_ite
    | simp only [canonical_upd]

theorem State.compareTwin_canonical {s : State} (hs : Canonical s) (h : TwinHeld) :
    Canonical (s.compareTwin h) := by
  unfold State.compareTwin
  try dsimp only
  repeat' first
    | with_reducible assumption
    | with_reducible apply State.applyTwin_canonical
    | with_reducible apply State.diverge_canonical
    | with_reducible apply canonical_ite
    | split
    | simp only [canonical_upd]

theorem State.twinSweep_canonical {s : State} (hs : Canonical s)  :
    Canonical (s.twinSweep) := by
  unfold State.twinSweep
  try dsimp only
  repeat' first
    | with_reducible intro _
    | with_reducible assumption
    | with_reducible apply State.compareTwin_canonical
    | with_reducible apply canonical_foldl

end Sys2Proof.Machine
end

