-- ==== Sys2Proof/Laws/KeepIdle.lean ====
section
/-! SUPPORT. Every operation of Machine/Idle.lean that answers a state keeps the canonical form. -/

namespace Sys2Proof.Machine

theorem State.drainTiles_canonical {s : State} (hs : Canonical s)  :
    Canonical (s.drainTiles) := by
  unfold State.drainTiles
  try dsimp only
  repeat' first
    | with_reducible intro _
    | with_reducible assumption
    | with_reducible apply State.drainEvents_canonical
    | with_reducible apply canonical_foldl
    | with_reducible apply canonical_ite

theorem State.tick_canonical {s : State} (hs : Canonical s)  :
    Canonical (s.tick) := by
  unfold State.tick
  try dsimp only
  repeat' first
    | with_reducible assumption
    | with_reducible apply State.debugTick_canonical
    | with_reducible apply State.twinSweep_canonical
    | with_reducible apply State.drainTiles_canonical
    | with_reducible apply State.timeTick_canonical
    | with_reducible apply canonical_ite

end Sys2Proof.Machine
end

