-- ==== Sys2Proof/Laws/KeepService.lean ====
section
/-! SUPPORT. Every operation of Machine/Service.lean that answers a state keeps the canonical form. -/

namespace Sys2Proof.Machine

theorem State.fenceCore_canonical {s : State} (hs : Canonical s) (c : ℕ) (why : ℕ) :
    Canonical (s.fenceCore c why) := by
  unfold State.fenceCore
  try dsimp only
  repeat' first
    | with_reducible assumption
    | with_reducible apply State.fset_canonical
    | with_reducible apply State.event_canonical
    | with_reducible apply canonical_ite
    | split

theorem State.thermalAsk_canonical {s : State} (hs : Canonical s)  :
    Canonical (s.thermalAsk) := by
  unfold State.thermalAsk
  try dsimp only
  repeat' first
    | with_reducible assumption
    | with_reducible apply State.arbSolo_canonical
    | simp only [canonical_upd]

theorem State.thermalDrop_canonical {s : State} (hs : Canonical s)  :
    Canonical (s.thermalDrop) := by
  unfold State.thermalDrop
  try dsimp only
  repeat' first
    | with_reducible assumption
    | with_reducible apply State.arbRelease_canonical
    | simp only [canonical_upd]

theorem State.junction_canonical {s : State} (hs : Canonical s) (i : ℕ) (v : BitVec 16) :
    Canonical (s.junction i v) := by
  unfold State.junction
  try dsimp only
  repeat' first
    | with_reducible assumption
    | with_reducible apply State.fset_canonical
    | with_reducible apply State.thermTrip_canonical
    | with_reducible apply State.thermalAsk_canonical
    | with_reducible apply State.thermalDrop_canonical
    | with_reducible apply canonical_ite

theorem State.stackTemp_canonical {s : State} (hs : Canonical s) (i : ℕ) (v : BitVec 16) :
    Canonical (s.stackTemp i v) := by
  unfold State.stackTemp
  try dsimp only
  repeat' first
    | with_reducible assumption
    | with_reducible apply State.fset_canonical
    | with_reducible apply State.event_canonical
    | with_reducible apply canonical_ite
    | simp only [canonical_upd]

theorem State.setAclk_canonical {s : State} (hs : Canonical s) (d : ℕ) (mhz : ℕ) :
    Canonical (s.setAclk d mhz) := by
  unfold State.setAclk
  try dsimp only
  repeat' first
    | with_reducible assumption
    | simp only [canonical_upd]

theorem State.capDie_canonical {s : State} (hs : Canonical s) (d : ℕ) :
    Canonical (s.capDie d) := by
  unfold State.capDie
  try dsimp only
  repeat' first
    | with_reducible assumption
    | with_reducible apply State.setAclk_canonical
    | with_reducible apply canonical_ite
    | split
    | simp only [canonical_upd]

theorem State.avsOver_canonical {s : State} (hs : Canonical s) (rail : ℕ) :
    Canonical (s.avsOver rail) := by
  unfold State.avsOver
  try dsimp only
  repeat' first
    | with_reducible assumption
    | simp only [canonical_upd]

theorem State.plainWrite_canonical {s : State} (hs : Canonical s) (off : ℕ) (v : W64) (skip : List ℕ) :
    Canonical (s.plainWrite off v skip) := by
  unfold State.plainWrite
  try dsimp only
  repeat' first
    | with_reducible assumption
    | with_reducible apply State.setReg_canonical
    | split

theorem State.commandWrite_canonical {s : State} (hs : Canonical s) (off : ℕ) (v : W64) (cmd : Fld) (st : Fld) (codes : ℕ) :
    Canonical (s.commandWrite off v cmd st codes) := by
  unfold State.commandWrite
  try dsimp only
  repeat' first
    | with_reducible assumption
    | with_reducible apply State.plainWrite_canonical
    | with_reducible apply State.fset_canonical
    | with_reducible apply canonical_ite

theorem State.knotWrite_canonical {s : State} (hs : Canonical s) (off : ℕ) (v : W64) :
    Canonical (s.knotWrite off v) := by
  unfold State.knotWrite
  try dsimp only
  repeat' first
    | with_reducible assumption
    | with_reducible apply State.commandWrite_canonical
    | with_reducible apply State.plainWrite_canonical
    | with_reducible apply State.fset_canonical
    | with_reducible apply canonical_ite

theorem State.fabWrite_canonical {s : State} (hs : Canonical s) (off : ℕ) (v : W64) :
    Canonical (s.fabWrite off v) := by
  unfold State.fabWrite
  try dsimp only
  repeat' first
    | with_reducible assumption
    | with_reducible apply State.reroute_canonical
    | with_reducible apply State.plainWrite_canonical
    | with_reducible apply canonical_ite
    | split

theorem State.snsWrite_canonical {s : State} (hs : Canonical s) (off : ℕ) (v : W64) :
    Canonical (s.snsWrite off v) := by
  unfold State.snsWrite
  try dsimp only
  repeat' first
    | with_reducible assumption
    | with_reducible apply State.plainWrite_canonical
    | with_reducible apply canonical_ite

theorem State.tileWrite_canonical {s : State} (hs : Canonical s) (off : ℕ) (v : W64) :
    Canonical (s.tileWrite off v) := by
  unfold State.tileWrite
  try dsimp only
  repeat' first
    | with_reducible assumption
    | with_reducible apply State.plainWrite_canonical
    | with_reducible apply canonical_ite

theorem State.portRegWrite_canonical {s : State} (hs : Canonical s) (off : ℕ) (v : W64) :
    Canonical (s.portRegWrite off v) := by
  unfold State.portRegWrite
  try dsimp only
  repeat' first
    | with_reducible assumption
    | with_reducible apply State.plainWrite_canonical
    | with_reducible apply State.fset_canonical
    | with_reducible apply canonical_ite

theorem State.poolRegWrite_canonical {s : State} (hs : Canonical s) (off : ℕ) (v : W64) :
    Canonical (s.poolRegWrite off v) := by
  unfold State.poolRegWrite
  try dsimp only
  repeat' first
    | with_reducible assumption
    | with_reducible apply State.commandWrite_canonical
    | with_reducible apply State.plainWrite_canonical
    | with_reducible apply canonical_ite

theorem State.hubWrite_canonical {s : State} (hs : Canonical s) (off : ℕ) (v : W64) :
    Canonical (s.hubWrite off v) := by
  unfold State.hubWrite
  try dsimp only
  repeat' first
    | with_reducible assumption
    | with_reducible apply State.commandWrite_canonical
    | with_reducible apply State.plainWrite_canonical
    | with_reducible apply canonical_ite

theorem State.svcWrite_canonical {s : State} (hs : Canonical s) (off : ℕ) (v : W64) :
    Canonical (s.svcWrite off v) := by
  unfold State.svcWrite
  try dsimp only
  repeat' first
    | with_reducible assumption
    | with_reducible apply State.plainWrite_canonical
    | with_reducible apply canonical_ite

theorem State.brmWrite_canonical {s : State} (hs : Canonical s) (off : ℕ) (v : W64) :
    Canonical (s.brmWrite off v) := by
  unfold State.brmWrite
  try dsimp only
  repeat' first
    | with_reducible assumption
    | with_reducible apply State.plainWrite_canonical
    | with_reducible apply canonical_ite
    | split

theorem State.hbmWrite_canonical {s : State} (hs : Canonical s) (off : ℕ) (v : W64) :
    Canonical (s.hbmWrite off v) := by
  unfold State.hbmWrite
  try dsimp only
  repeat' first
    | with_reducible assumption
    | with_reducible apply State.plainWrite_canonical
    | with_reducible apply State.fset_canonical
    | with_reducible apply canonical_ite
    | split

theorem State.ctlWrite_canonical {s : State} (hs : Canonical s) (o : ℕ) (src : ℕ) (v : W64) :
    Canonical (s.ctlWrite o src v) := by
  unfold State.ctlWrite
  try dsimp only
  repeat' first
    | with_reducible assumption
    | with_reducible apply State.arbWrite_canonical
    | with_reducible apply State.tileWrite_canonical
    | with_reducible apply State.portRegWrite_canonical
    | with_reducible apply State.hubWrite_canonical
    | with_reducible apply State.brmWrite_canonical
    | with_reducible apply State.knotWrite_canonical
    | with_reducible apply State.fabWrite_canonical
    | with_reducible apply State.plainWrite_canonical
    | with_reducible apply State.commandWrite_canonical
    | with_reducible apply State.poolRegWrite_canonical
    | with_reducible apply State.hbmWrite_canonical
    | with_reducible apply State.svcWrite_canonical
    | with_reducible apply State.snsWrite_canonical
    | with_reducible apply canonical_ite

end Sys2Proof.Machine
end

