-- ==== Sys2Proof/Laws/KeepSparse.lean ====
section
/-! SUPPORT. Every operation of Machine/Sparse.lean that answers a state keeps the canonical form. -/

namespace Sys2Proof.Machine

theorem State.spencResult_canonical {s : State} (hs : Canonical s) (t : ℕ) (e : Queued) (f : ℕ) (n : ℕ) :
    Canonical (s.spencResult t e f n) := by
  unfold State.spencResult
  try dsimp only
  repeat' first
    | with_reducible assumption
    | with_reducible apply State.mapCtx_canonical
    | with_reducible apply canonical_ite

theorem State.spencRun_canonical {s : State} (hs : Canonical s) (t : ℕ) (e : Queued) :
    Canonical (s.spencRun t e) := by
  unfold State.spencRun
  try dsimp only
  repeat' first
    | with_reducible assumption
    | with_reducible apply State.setTile_canonical
    | with_reducible apply State.spencResult_canonical
    | with_reducible apply State.bump_canonical
    | with_reducible apply canonical_ite

theorem State.spdecRun_canonical {s : State} (hs : Canonical s) (t : ℕ) (e : Queued) :
    Canonical (s.spdecRun t e) := by
  unfold State.spdecRun
  try dsimp only
  repeat' first
    | with_reducible assumption
    | with_reducible apply State.setTile_canonical
    | with_reducible apply canonical_ite

theorem State.spmmIssue_canonical {s : State} (hs : Canonical s) (k : CtxId) (w : FmtB) :
    KeptO (State.spmmIssue s k w) := by
  unfold State.spmmIssue
  try dsimp only
  repeat' first
    | with_reducible assumption
    | with_reducible apply State.trap_canonical
    | with_reducible apply State.finish_canonical
    | with_reducible apply State.enqueue_canonical
    | with_reducible apply keptO_none
    | with_reducible apply keptO_some
    | with_reducible apply keptO_ite
    | split

theorem State.spmmRun_canonical {s : State} (hs : Canonical s) (t : ℕ) (e : Queued) :
    Canonical (s.spmmRun t e) := by
  unfold State.spmmRun
  try dsimp only
  repeat' first
    | with_reducible assumption
    | with_reducible apply State.setTile_canonical
    | with_reducible apply State.dig_canonical
    | with_reducible apply State.bump_canonical
    | split
    | simp only [canonical_upd]

end Sys2Proof.Machine
end

