-- ==== Sys2Proof/Laws/KeepTiers.lean ====
section
/-! SUPPORT. Every operation of Machine/Tiers.lean that answers a state keeps the canonical form. -/

namespace Sys2Proof.Machine

theorem State.evict_canonical {s : State} (hs : Canonical s) (p : ℕ) :
    KeptO (State.evict s p) := by
  unfold State.evict
  try dsimp only
  repeat' first
    | with_reducible assumption
    | with_reducible apply State.placeHbm_canonical

theorem State.makeResident_canonical {s : State} (hs : Canonical s) (p : ℕ) (die : ℕ) :
    KeptO (State.makeResident s p die) := by
  unfold State.makeResident
  try dsimp only
  repeat' first
    | with_reducible assumption
    | with_reducible apply State.evict_canonical
    | with_reducible apply State.setPage_canonical
    | with_reducible apply State.releaseFrame_canonical
    | with_reducible apply keptO_none
    | with_reducible apply keptO_some
    | with_reducible apply keptO_ite
    | split
    | (refine canonical_some ?_ (by assumption))

theorem State.migStatus_canonical {s : State} (hs : Canonical s) (arg : ℕ) (st : ℕ) :
    Canonical (s.migStatus arg st) := by
  unfold State.migStatus
  try dsimp only
  repeat' first
    | with_reducible assumption
    | with_reducible apply State.fset_canonical

theorem State.shrink_canonical {s : State} (hs : Canonical s) (die : ℕ) (a1 : ℕ) :
    Canonical (s.shrink die a1) := by
  fun_induction State.shrink s die a1
  all_goals try dsimp only
  all_goals repeat' first
    | with_reducible apply ‹Canonical _ → _›
    | with_reducible assumption
    | with_reducible apply State.evict_canonical
    | (refine canonical_some ?_ (by assumption))

theorem State.setStream_canonical {s : State} (hs : Canonical s) (e : ℕ) (v : Option StreamEnt) :
    Canonical (s.setStream e v) := by
  unfold State.setStream
  try dsimp only
  repeat' first
    | with_reducible assumption
    | simp only [canonical_upd]

theorem State.leaveWindow_canonical {s : State} (hs : Canonical s) (p : ℕ) :
    Canonical (s.leaveWindow p) := by
  unfold State.leaveWindow
  try dsimp only
  repeat' first
    | with_reducible assumption
    | with_reducible apply State.setPage_canonical
    | with_reducible apply canonical_ite
    | split

theorem State.closeStream_canonical {s : State} (hs : Canonical s) (e : ℕ) :
    Canonical (s.closeStream e) := by
  unfold State.closeStream
  try dsimp only
  repeat' first
    | with_reducible intro _
    | with_reducible assumption
    | with_reducible apply State.leaveWindow_canonical
    | with_reducible apply State.setStream_canonical
    | with_reducible apply canonical_foldl
    | split

theorem State.declareStream_canonical {s : State} (hs : Canonical s) (k : CtxId) (w : FmtB) (x : List W64) :
    Canonical (s.declareStream k w x) := by
  unfold State.declareStream
  try dsimp only
  repeat' first
    | with_reducible assumption
    | with_reducible apply State.result_canonical
    | with_reducible apply State.closeStream_canonical
    | with_reducible apply State.finish_canonical
    | with_reducible apply State.memFault_canonical
    | with_reducible apply State.setStream_canonical
    | with_reducible apply canonical_ite
    | split
    | simp only [canonical_upd]

theorem State.fillGo_canonical {s : State} (hs : Canonical s) (e : ℕ) (a1 : List (ℕ × ℕ)) :
    Canonical (s.fillGo e a1) := by
  fun_induction State.fillGo s e a1
  all_goals try dsimp only
  all_goals repeat' first
    | with_reducible apply ‹Canonical _ → _›
    | with_reducible assumption
    | with_reducible apply State.makeResident_canonical
    | with_reducible apply State.setStream_canonical
    | with_reducible apply State.bump_canonical
    | with_reducible apply keptO_none
    | with_reducible apply keptO_some
    | with_reducible apply keptO_ite
    | (refine canonical_some ?_ (by assumption))

theorem State.movePage_canonical {s : State} (hs : Canonical s) (c : ℕ) (p : ℕ) :
    Canonical (s.movePage c p) := by
  unfold State.movePage
  try dsimp only
  repeat' first
    | with_reducible assumption
    | with_reducible apply State.placeHbm_canonical
    | with_reducible apply State.releaseFrame_canonical
    | split
    | (refine canonical_some ?_ (by assumption))

theorem State.loseDie_canonical {s : State} (hs : Canonical s) (die : ℕ) :
    Canonical (s.loseDie die) := by
  unfold State.loseDie
  try dsimp only
  repeat' first
    | with_reducible assumption
    | split
    | simp only [canonical_upd]

end Sys2Proof.Machine
end

