-- ==== Sys2Proof/Laws/KeepVector.lean ====
section
/-! SUPPORT. Every operation of Machine/Vector.lean that answers a state keeps the canonical form. -/

namespace Sys2Proof.Machine

theorem State.vecIssue_canonical {s : State} (hs : Canonical s) (k : CtxId) (cls : ℕ) (op : ℕ) (w : FmtB) (status : Queued → ℕ → ℕ) (regs : Queued → ℕ → List Region × List Region) :
    KeptO (State.vecIssue s k cls op w status regs) := by
  unfold State.vecIssue
  try dsimp only
  repeat' first
    | with_reducible assumption
    | with_reducible apply State.finish_canonical
    | with_reducible apply State.enqueue_canonical
    | with_reducible apply State.trap_canonical
    | with_reducible apply keptO_none
    | with_reducible apply keptO_some
    | with_reducible apply keptO_ite
    | split

theorem State.vecDig_canonical {s : State} (hs : Canonical s) (t : ℕ) (e : Queued) :
    Canonical (s.vecDig t e) := by
  unfold State.vecDig
  try dsimp only
  repeat' first
    | with_reducible assumption
    | with_reducible apply State.dig_canonical
    | with_reducible apply canonical_ite
    | split

theorem State.vecEnd_canonical {s : State} (hs : Canonical s) (t : ℕ) (e : Queued) :
    Canonical (s.vecEnd t e) := by
  unfold State.vecEnd
  try dsimp only
  repeat' first
    | with_reducible assumption
    | with_reducible apply State.vecDig_canonical
    | with_reducible apply State.setTile_canonical
    | with_reducible apply State.bump_canonical
    | with_reducible apply State.addStats_canonical
    | with_reducible apply canonical_ite
    | split

end Sys2Proof.Machine
end

