-- ==== Sys2Proof/Laws/Ops.lean ====
section
/-! SUPPORT. What the shared operations do: the event log, the journal and the counters touch three registers beside their
own and nothing but control registers, service complex and security; a store of bytes touches only its bytes; the fault of a
glove writes its control register. -/

namespace Sys2Proof.Machine

open Reg

variable {s : State}

/-! ### Events, the journal and the counters -/

@[simp] theorem State.logRec_pending (r : EvRec) : (s.logRec r).pending = s.pending := by
  unfold State.logRec; dsimp only
  exact at_ite State.pending (at_ite State.pending (by rw [State.fset_pending, State.fset_pending]) (by rw [State.fset_pending, State.fset_pending]))
    (by rw [State.fset_pending])
@[simp] theorem State.logRec_free (r : EvRec) : (s.logRec r).free = s.free := by
  unfold State.logRec; dsimp only
  exact at_ite State.free (at_ite State.free (by rw [State.fset_free, State.fset_free]) (by rw [State.fset_free, State.fset_free]))
    (by rw [State.fset_free])
@[simp] theorem State.logRec_lanyard (r : EvRec) : (s.logRec r).lanyard = s.lanyard := by
  unfold State.logRec; dsimp only
  exact at_ite State.lanyard (at_ite State.lanyard (by rw [State.fset_lanyard, State.fset_lanyard]) (by rw [State.fset_lanyard, State.fset_lanyard]))
    (by rw [State.fset_lanyard])
@[simp] theorem State.logRec_mem (r : EvRec) : (s.logRec r).mem = s.mem := by
  unfold State.logRec; dsimp only
  exact at_ite State.mem (at_ite State.mem (by rw [State.fset_mem, State.fset_mem]) (by rw [State.fset_mem, State.fset_mem]))
    (by rw [State.fset_mem])
@[simp] theorem State.logRec_slice (r : EvRec) : (s.logRec r).slice = s.slice := by
  unfold State.logRec; dsimp only
  exact at_ite State.slice (at_ite State.slice (by rw [State.fset_slice, State.fset_slice]) (by rw [State.fset_slice, State.fset_slice]))
    (by rw [State.fset_slice])
@[simp] theorem State.logRec_kn (r : EvRec) : (s.logRec r).kn = s.kn := by
  unfold State.logRec; dsimp only
  exact at_ite State.kn (at_ite State.kn (by rw [State.fset_kn, State.fset_kn]) (by rw [State.fset_kn, State.fset_kn]))
    (by rw [State.fset_kn])
@[simp] theorem State.logRec_tiles (r : EvRec) : (s.logRec r).tiles = s.tiles := by
  unfold State.logRec; dsimp only
  exact at_ite State.tiles (at_ite State.tiles (by rw [State.fset_tiles, State.fset_tiles]) (by rw [State.fset_tiles, State.fset_tiles]))
    (by rw [State.fset_tiles])
@[simp] theorem State.logRec_ports (r : EvRec) : (s.logRec r).ports = s.ports := by
  unfold State.logRec; dsimp only
  exact at_ite State.ports (at_ite State.ports (by rw [State.fset_ports, State.fset_ports]) (by rw [State.fset_ports, State.fset_ports]))
    (by rw [State.fset_ports])
@[simp] theorem State.logRec_rt (r : EvRec) : (s.logRec r).rt = s.rt := by
  unfold State.logRec; dsimp only
  exact at_ite State.rt (at_ite State.rt (by rw [State.fset_rt, State.fset_rt]) (by rw [State.fset_rt, State.fset_rt]))
    (by rw [State.fset_rt])
@[simp] theorem State.logRec_mm (r : EvRec) : (s.logRec r).mm = s.mm := by
  unfold State.logRec; dsimp only
  exact at_ite State.mm (at_ite State.mm (by rw [State.fset_mm, State.fset_mm]) (by rw [State.fset_mm, State.fset_mm]))
    (by rw [State.fset_mm])
@[simp] theorem State.logRec_hub (r : EvRec) : (s.logRec r).hub = s.hub := by
  unfold State.logRec; dsimp only
  exact at_ite State.hub (at_ite State.hub (by rw [State.fset_hub, State.fset_hub]) (by rw [State.fset_hub, State.fset_hub]))
    (by rw [State.fset_hub])
@[simp] theorem State.logRec_brm (r : EvRec) : (s.logRec r).brm = s.brm := by
  unfold State.logRec; dsimp only
  exact at_ite State.brm (at_ite State.brm (by rw [State.fset_brm, State.fset_brm]) (by rw [State.fset_brm, State.fset_brm]))
    (by rw [State.fset_brm])
@[simp] theorem State.logRec_time (r : EvRec) : (s.logRec r).time = s.time := by
  unfold State.logRec; dsimp only
  exact at_ite State.time (at_ite State.time (by rw [State.fset_time, State.fset_time]) (by rw [State.fset_time, State.fset_time]))
    (by rw [State.fset_time])
@[simp] theorem State.logRec_pwr (r : EvRec) : (s.logRec r).pwr = s.pwr := by
  unfold State.logRec; dsimp only
  exact at_ite State.pwr (at_ite State.pwr (by rw [State.fset_pwr, State.fset_pwr]) (by rw [State.fset_pwr, State.fset_pwr]))
    (by rw [State.fset_pwr])
@[simp] theorem State.journal_pending (ty src slot : Nat) (p : List Byte) : (s.journal ty src slot p).pending = s.pending := rfl
@[simp] theorem State.journal_free (ty src slot : Nat) (p : List Byte) : (s.journal ty src slot p).free = s.free := rfl
@[simp] theorem State.journal_lanyard (ty src slot : Nat) (p : List Byte) : (s.journal ty src slot p).lanyard = s.lanyard := rfl
@[simp] theorem State.journal_mem (ty src slot : Nat) (p : List Byte) : (s.journal ty src slot p).mem = s.mem := rfl
@[simp] theorem State.journal_slice (ty src slot : Nat) (p : List Byte) : (s.journal ty src slot p).slice = s.slice := rfl
@[simp] theorem State.journal_kn (ty src slot : Nat) (p : List Byte) : (s.journal ty src slot p).kn = s.kn := rfl
@[simp] theorem State.journal_tiles (ty src slot : Nat) (p : List Byte) : (s.journal ty src slot p).tiles = s.tiles := rfl
@[simp] theorem State.journal_ports (ty src slot : Nat) (p : List Byte) : (s.journal ty src slot p).ports = s.ports := rfl
@[simp] theorem State.journal_rt (ty src slot : Nat) (p : List Byte) : (s.journal ty src slot p).rt = s.rt := rfl
@[simp] theorem State.journal_mm (ty src slot : Nat) (p : List Byte) : (s.journal ty src slot p).mm = s.mm := rfl
@[simp] theorem State.journal_hub (ty src slot : Nat) (p : List Byte) : (s.journal ty src slot p).hub = s.hub := rfl
@[simp] theorem State.journal_brm (ty src slot : Nat) (p : List Byte) : (s.journal ty src slot p).brm = s.brm := rfl
@[simp] theorem State.journal_time (ty src slot : Nat) (p : List Byte) : (s.journal ty src slot p).time = s.time := rfl
@[simp] theorem State.journal_pwr (ty src slot : Nat) (p : List Byte) : (s.journal ty src slot p).pwr = s.pwr := rfl
@[simp] theorem State.event_pending (c u n w2 w3 : Nat) : (s.event c u n w2 w3).pending = s.pending := by
  unfold State.event; dsimp only; split <;> simp
@[simp] theorem State.event_free (c u n w2 w3 : Nat) : (s.event c u n w2 w3).free = s.free := by
  unfold State.event; dsimp only; split <;> simp
@[simp] theorem State.event_lanyard (c u n w2 w3 : Nat) : (s.event c u n w2 w3).lanyard = s.lanyard := by
  unfold State.event; dsimp only; split <;> simp
@[simp] theorem State.event_mem (c u n w2 w3 : Nat) : (s.event c u n w2 w3).mem = s.mem := by
  unfold State.event; dsimp only; split <;> simp
@[simp] theorem State.event_slice (c u n w2 w3 : Nat) : (s.event c u n w2 w3).slice = s.slice := by
  unfold State.event; dsimp only; split <;> simp
@[simp] theorem State.event_kn (c u n w2 w3 : Nat) : (s.event c u n w2 w3).kn = s.kn := by
  unfold State.event; dsimp only; split <;> simp
@[simp] theorem State.event_tiles (c u n w2 w3 : Nat) : (s.event c u n w2 w3).tiles = s.tiles := by
  unfold State.event; dsimp only; split <;> simp
@[simp] theorem State.event_ports (c u n w2 w3 : Nat) : (s.event c u n w2 w3).ports = s.ports := by
  unfold State.event; dsimp only; split <;> simp
@[simp] theorem State.event_rt (c u n w2 w3 : Nat) : (s.event c u n w2 w3).rt = s.rt := by
  unfold State.event; dsimp only; split <;> simp
@[simp] theorem State.event_mm (c u n w2 w3 : Nat) : (s.event c u n w2 w3).mm = s.mm := by
  unfold State.event; dsimp only; split <;> simp
@[simp] theorem State.event_hub (c u n w2 w3 : Nat) : (s.event c u n w2 w3).hub = s.hub := by
  unfold State.event; dsimp only; split <;> simp
@[simp] theorem State.event_brm (c u n w2 w3 : Nat) : (s.event c u n w2 w3).brm = s.brm := by
  unfold State.event; dsimp only; split <;> simp
@[simp] theorem State.event_time (c u n w2 w3 : Nat) : (s.event c u n w2 w3).time = s.time := by
  unfold State.event; dsimp only; split <;> simp
@[simp] theorem State.event_pwr (c u n w2 w3 : Nat) : (s.event c u n w2 w3).pwr = s.pwr := by
  unfold State.event; dsimp only; split <;> simp
@[simp] theorem State.bumpBy_pending (o : Nat) (f : Fld) (v : Bool) (n : Nat) : (s.bumpBy o f v n).pending = s.pending := by
  unfold State.bumpBy; dsimp only
  refine at_ite State.pending (by rw [State.fset_pending]) (at_ite State.pending ?_ ?_)
  · exact at_ite State.pending (by rw [State.fset_pending, State.fset_pending]) (by rw [State.fset_pending])
  · rw [State.event_pending]; exact at_ite State.pending (by rw [State.fset_pending, State.fset_pending]) (by rw [State.fset_pending])
@[simp] theorem State.bumpBy_free (o : Nat) (f : Fld) (v : Bool) (n : Nat) : (s.bumpBy o f v n).free = s.free := by
  unfold State.bumpBy; dsimp only
  refine at_ite State.free (by rw [State.fset_free]) (at_ite State.free ?_ ?_)
  · exact at_ite State.free (by rw [State.fset_free, State.fset_free]) (by rw [State.fset_free])
  · rw [State.event_free]; exact at_ite State.free (by rw [State.fset_free, State.fset_free]) (by rw [State.fset_free])
@[simp] theorem State.bumpBy_lanyard (o : Nat) (f : Fld) (v : Bool) (n : Nat) : (s.bumpBy o f v n).lanyard = s.lanyard := by
  unfold State.bumpBy; dsimp only
  refine at_ite State.lanyard (by rw [State.fset_lanyard]) (at_ite State.lanyard ?_ ?_)
  · exact at_ite State.lanyard (by rw [State.fset_lanyard, State.fset_lanyard]) (by rw [State.fset_lanyard])
  · rw [State.event_lanyard]; exact at_ite State.lanyard (by rw [State.fset_lanyard, State.fset_lanyard]) (by rw [State.fset_lanyard])
@[simp] theorem State.bumpBy_mem (o : Nat) (f : Fld) (v : Bool) (n : Nat) : (s.bumpBy o f v n).mem = s.mem := by
  unfold State.bumpBy; dsimp only
  refine at_ite State.mem (by rw [State.fset_mem]) (at_ite State.mem ?_ ?_)
  · exact at_ite State.mem (by rw [State.fset_mem, State.fset_mem]) (by rw [State.fset_mem])
  · rw [State.event_mem]; exact at_ite State.mem (by rw [State.fset_mem, State.fset_mem]) (by rw [State.fset_mem])
@[simp] theorem State.bumpBy_slice (o : Nat) (f : Fld) (v : Bool) (n : Nat) : (s.bumpBy o f v n).slice = s.slice := by
  unfold State.bumpBy; dsimp only
  refine at_ite State.slice (by rw [State.fset_slice]) (at_ite State.slice ?_ ?_)
  · exact at_ite State.slice (by rw [State.fset_slice, State.fset_slice]) (by rw [State.fset_slice])
  · rw [State.event_slice]; exact at_ite State.slice (by rw [State.fset_slice, State.fset_slice]) (by rw [State.fset_slice])
@[simp] theorem State.bumpBy_kn (o : Nat) (f : Fld) (v : Bool) (n : Nat) : (s.bumpBy o f v n).kn = s.kn := by
  unfold State.bumpBy; dsimp only
  refine at_ite State.kn (by rw [State.fset_kn]) (at_ite State.kn ?_ ?_)
  · exact at_ite State.kn (by rw [State.fset_kn, State.fset_kn]) (by rw [State.fset_kn])
  · rw [State.event_kn]; exact at_ite State.kn (by rw [State.fset_kn, State.fset_kn]) (by rw [State.fset_kn])
@[simp] theorem State.bumpBy_tiles (o : Nat) (f : Fld) (v : Bool) (n : Nat) : (s.bumpBy o f v n).tiles = s.tiles := by
  unfold State.bumpBy; dsimp only
  refine at_ite State.tiles (by rw [State.fset_tiles]) (at_ite State.tiles ?_ ?_)
  · exact at_ite State.tiles (by rw [State.fset_tiles, State.fset_tiles]) (by rw [State.fset_tiles])
  · rw [State.event_tiles]; exact at_ite State.tiles (by rw [State.fset_tiles, State.fset_tiles]) (by rw [State.fset_tiles])
@[simp] theorem State.bumpBy_ports (o : Nat) (f : Fld) (v : Bool) (n : Nat) : (s.bumpBy o f v n).ports = s.ports := by
  unfold State.bumpBy; dsimp only
  refine at_ite State.ports (by rw [State.fset_ports]) (at_ite State.ports ?_ ?_)
  · exact at_ite State.ports (by rw [State.fset_ports, State.fset_ports]) (by rw [State.fset_ports])
  · rw [State.event_ports]; exact at_ite State.ports (by rw [State.fset_ports, State.fset_ports]) (by rw [State.fset_ports])
@[simp] theorem State.bumpBy_rt (o : Nat) (f : Fld) (v : Bool) (n : Nat) : (s.bumpBy o f v n).rt = s.rt := by
  unfold State.bumpBy; dsimp only
  refine at_ite State.rt (by rw [State.fset_rt]) (at_ite State.rt ?_ ?_)
  · exact at_ite State.rt (by rw [State.fset_rt, State.fset_rt]) (by rw [State.fset_rt])
  · rw [State.event_rt]; exact at_ite State.rt (by rw [State.fset_rt, State.fset_rt]) (by rw [State.fset_rt])
@[simp] theorem State.bumpBy_mm (o : Nat) (f : Fld) (v : Bool) (n : Nat) : (s.bumpBy o f v n).mm = s.mm := by
  unfold State.bumpBy; dsimp only
  refine at_ite State.mm (by rw [State.fset_mm]) (at_ite State.mm ?_ ?_)
  · exact at_ite State.mm (by rw [State.fset_mm, State.fset_mm]) (by rw [State.fset_mm])
  · rw [State.event_mm]; exact at_ite State.mm (by rw [State.fset_mm, State.fset_mm]) (by rw [State.fset_mm])
@[simp] theorem State.bumpBy_hub (o : Nat) (f : Fld) (v : Bool) (n : Nat) : (s.bumpBy o f v n).hub = s.hub := by
  unfold State.bumpBy; dsimp only
  refine at_ite State.hub (by rw [State.fset_hub]) (at_ite State.hub ?_ ?_)
  · exact at_ite State.hub (by rw [State.fset_hub, State.fset_hub]) (by rw [State.fset_hub])
  · rw [State.event_hub]; exact at_ite State.hub (by rw [State.fset_hub, State.fset_hub]) (by rw [State.fset_hub])
@[simp] theorem State.bumpBy_brm (o : Nat) (f : Fld) (v : Bool) (n : Nat) : (s.bumpBy o f v n).brm = s.brm := by
  unfold State.bumpBy; dsimp only
  refine at_ite State.brm (by rw [State.fset_brm]) (at_ite State.brm ?_ ?_)
  · exact at_ite State.brm (by rw [State.fset_brm, State.fset_brm]) (by rw [State.fset_brm])
  · rw [State.event_brm]; exact at_ite State.brm (by rw [State.fset_brm, State.fset_brm]) (by rw [State.fset_brm])
@[simp] theorem State.bumpBy_time (o : Nat) (f : Fld) (v : Bool) (n : Nat) : (s.bumpBy o f v n).time = s.time := by
  unfold State.bumpBy; dsimp only
  refine at_ite State.time (by rw [State.fset_time]) (at_ite State.time ?_ ?_)
  · exact at_ite State.time (by rw [State.fset_time, State.fset_time]) (by rw [State.fset_time])
  · rw [State.event_time]; exact at_ite State.time (by rw [State.fset_time, State.fset_time]) (by rw [State.fset_time])
@[simp] theorem State.bumpBy_pwr (o : Nat) (f : Fld) (v : Bool) (n : Nat) : (s.bumpBy o f v n).pwr = s.pwr := by
  unfold State.bumpBy; dsimp only
  refine at_ite State.pwr (by rw [State.fset_pwr]) (at_ite State.pwr ?_ ?_)
  · exact at_ite State.pwr (by rw [State.fset_pwr, State.fset_pwr]) (by rw [State.fset_pwr])
  · rw [State.event_pwr]; exact at_ite State.pwr (by rw [State.fset_pwr, State.fset_pwr]) (by rw [State.fset_pwr])
@[simp] theorem State.bump_pending (o : Nat) (f : Fld) (n : Nat) : (s.bump o f n).pending = s.pending := State.bumpBy_pending o f true n
@[simp] theorem State.bump_free (o : Nat) (f : Fld) (n : Nat) : (s.bump o f n).free = s.free := State.bumpBy_free o f true n
@[simp] theorem State.bump_lanyard (o : Nat) (f : Fld) (n : Nat) : (s.bump o f n).lanyard = s.lanyard := State.bumpBy_lanyard o f true n
@[simp] theorem State.bump_mem (o : Nat) (f : Fld) (n : Nat) : (s.bump o f n).mem = s.mem := State.bumpBy_mem o f true n
@[simp] theorem State.bump_slice (o : Nat) (f : Fld) (n : Nat) : (s.bump o f n).slice = s.slice := State.bumpBy_slice o f true n
@[simp] theorem State.bump_kn (o : Nat) (f : Fld) (n : Nat) : (s.bump o f n).kn = s.kn := State.bumpBy_kn o f true n
@[simp] theorem State.bump_tiles (o : Nat) (f : Fld) (n : Nat) : (s.bump o f n).tiles = s.tiles := State.bumpBy_tiles o f true n
@[simp] theorem State.bump_ports (o : Nat) (f : Fld) (n : Nat) : (s.bump o f n).ports = s.ports := State.bumpBy_ports o f true n
@[simp] theorem State.bump_rt (o : Nat) (f : Fld) (n : Nat) : (s.bump o f n).rt = s.rt := State.bumpBy_rt o f true n
@[simp] theorem State.bump_mm (o : Nat) (f : Fld) (n : Nat) : (s.bump o f n).mm = s.mm := State.bumpBy_mm o f true n
@[simp] theorem State.bump_hub (o : Nat) (f : Fld) (n : Nat) : (s.bump o f n).hub = s.hub := State.bumpBy_hub o f true n
@[simp] theorem State.bump_brm (o : Nat) (f : Fld) (n : Nat) : (s.bump o f n).brm = s.brm := State.bumpBy_brm o f true n
@[simp] theorem State.bump_time (o : Nat) (f : Fld) (n : Nat) : (s.bump o f n).time = s.time := State.bumpBy_time o f true n
@[simp] theorem State.bump_pwr (o : Nat) (f : Fld) (n : Nat) : (s.bump o f n).pwr = s.pwr := State.bumpBy_pwr o f true n

/-- A record of the event log changes the log's registers alone. -/
theorem State.reg_logRec {o : Nat} (h1 : o ≠ SVC_EVLOG) (h2 : o ≠ SVC_EVLOG_LOST) (r : EvRec) :
    (s.logRec r).reg o = s.reg o := by
  unfold State.logRec; dsimp only
  refine at_ite (State.reg · o) (at_ite (State.reg · o) ?_ ?_) ?_
  · rw [State.reg_fset_ne h2, State.reg_fset_ne h1]; rfl
  · rw [State.reg_fset_ne h2, State.reg_fset_ne h1]; rfl
  · rw [State.reg_fset_ne h1]; rfl

/-- A journal entry changes the journal's head alone. -/
theorem State.reg_journal {o : Nat} (h : o ≠ SEC_JNL_HEAD) (ty src slot : Nat) (p : List Byte) :
    (s.journal ty src slot p).reg o = s.reg o := State.reg_setReg_ne h _

/-- An event changes the registers of the log and of the journal alone. -/
theorem State.reg_event {o : Nat} (h1 : o ≠ SVC_EVLOG) (h2 : o ≠ SVC_EVLOG_LOST) (h3 : o ≠ SEC_JNL_HEAD) (c u n w2 w3 : Nat) :
    (s.event c u n w2 w3).reg o = s.reg o := by
  unfold State.event; dsimp only; split
  · exact State.reg_logRec h1 h2 _
  · rw [State.reg_journal h3, State.reg_logRec h1 h2]

theorem State.fget_event {o : Nat} (h1 : o ≠ SVC_EVLOG) (h2 : o ≠ SVC_EVLOG_LOST) (h3 : o ≠ SEC_JNL_HEAD) (f : Fld)
    (c u n w2 w3 : Nat) : (s.event c u n w2 w3).fget o f = s.fget o f := by
  rw [State.fget, State.reg_event h1 h2 h3]; rfl

/-- A counter changes its own register, and where it saturates those of the log and of the journal. -/
theorem State.reg_bumpBy {o p : Nat} (h : p ≠ o) (h1 : p ≠ SVC_EVLOG) (h2 : p ≠ SVC_EVLOG_LOST) (h3 : p ≠ SEC_JNL_HEAD)
    (f : Fld) (v : Bool) (n : Nat) : (s.bumpBy o f v n).reg p = s.reg p := by
  unfold State.bumpBy; dsimp only
  have e : ∀ m, State.reg (if v = true then (s.fset o f m).fset o ⟨63, 63⟩ 1 else s.fset o f m) p = s.reg p := fun m =>
    at_ite (State.reg · p) (by rw [State.reg_fset_ne h, State.reg_fset_ne h]) (by rw [State.reg_fset_ne h])
  refine at_ite (State.reg · p) (by rw [State.reg_fset_ne h]) (at_ite (State.reg · p) (e _) ?_)
  rw [State.reg_event h1 h2 h3]; exact e _

theorem State.fget_bumpBy {o p : Nat} (h : p ≠ o) (h1 : p ≠ SVC_EVLOG) (h2 : p ≠ SVC_EVLOG_LOST) (h3 : p ≠ SEC_JNL_HEAD)
    (f g : Fld) (v : Bool) (n : Nat) : (s.bumpBy o f v n).fget p g = s.fget p g := by
  rw [State.fget, State.reg_bumpBy h h1 h2 h3]; rfl

theorem State.reg_bump {o p : Nat} (h : p ≠ o) (h1 : p ≠ SVC_EVLOG) (h2 : p ≠ SVC_EVLOG_LOST) (h3 : p ≠ SEC_JNL_HEAD)
    (f : Fld) (n : Nat) : (s.bump o f n).reg p = s.reg p := State.reg_bumpBy h h1 h2 h3 f true n

theorem State.fget_bump {o p : Nat} (h : p ≠ o) (h1 : p ≠ SVC_EVLOG) (h2 : p ≠ SVC_EVLOG_LOST) (h3 : p ≠ SEC_JNL_HEAD)
    (f g : Fld) (n : Nat) : (s.bump o f n).fget p g = s.fget p g := State.fget_bumpBy h h1 h2 h3 f g true n

/-- A counter below its largest value counts. -/
theorem State.fget_bump_same (o : Nat) (f : Fld) (n : Nat) (hl : f.lo ≤ f.hi) (hh : f.hi < 64)
    (h : s.fget o f + n < 2 ^ (f.hi + 1 - f.lo)) : (s.bump o f n).fget o f = s.fget o f + n := by
  have h' : s.fget o f + n ≤ 2 ^ (f.hi + 1 - f.lo) - 1 := by omega
  simp only [State.bump, State.bumpBy, h', if_true]
  rw [State.fget_fset o f _ hl hh, Nat.mod_eq_of_lt h]

/-! ### Bytes of the local range -/

/-- A store of bytes writes those and no other. -/
theorem State.byte_setBytes (bs : List Byte) : ∀ (s : State) (a b : Nat), (s.setBytes a bs).byte b =
    if a ≤ b ∧ b < a + bs.length then bs.getD (b - a) 0 else s.byte b := by
  induction bs with
  | nil =>
    intro s a b
    have : ¬ (a ≤ b ∧ b < a + ([] : List Byte).length) := by simp
    rw [if_neg this]; rfl
  | cons x xs ih =>
    intro s a b
    rw [State.setBytes, ih, State.byte_setByte]
    by_cases h1 : b = a
    · subst h1; simp
    · by_cases h2 : a + 1 ≤ b ∧ b < a + 1 + xs.length
      · rw [if_pos h2, if_pos (by simp; omega)]
        have : b - a = (b - (a + 1)) + 1 := by omega
        rw [this]; rfl
      · rw [if_neg h2, if_neg h1, if_neg (by simp; omega)]


@[simp] theorem State.setBytes_pending (bs : List Byte) : ∀ (s : State) (a : Nat), (s.setBytes a bs).pending = s.pending := by
  induction bs with
  | nil => intro s a; rfl
  | cons b bs ih => intro s a; rw [State.setBytes, ih]; rfl
@[simp] theorem State.setBytes_free (bs : List Byte) : ∀ (s : State) (a : Nat), (s.setBytes a bs).free = s.free := by
  induction bs with
  | nil => intro s a; rfl
  | cons b bs ih => intro s a; rw [State.setBytes, ih]; rfl
@[simp] theorem State.setBytes_lanyard (bs : List Byte) : ∀ (s : State) (a : Nat), (s.setBytes a bs).lanyard = s.lanyard := by
  induction bs with
  | nil => intro s a; rfl
  | cons b bs ih => intro s a; rw [State.setBytes, ih]; rfl
@[simp] theorem State.setBytes_ctl (bs : List Byte) : ∀ (s : State) (a : Nat), (s.setBytes a bs).ctl = s.ctl := by
  induction bs with
  | nil => intro s a; rfl
  | cons b bs ih => intro s a; rw [State.setBytes, ih]; rfl
@[simp] theorem State.setBytes_slice (bs : List Byte) : ∀ (s : State) (a : Nat), (s.setBytes a bs).slice = s.slice := by
  induction bs with
  | nil => intro s a; rfl
  | cons b bs ih => intro s a; rw [State.setBytes, ih]; rfl
@[simp] theorem State.setBytes_kn (bs : List Byte) : ∀ (s : State) (a : Nat), (s.setBytes a bs).kn = s.kn := by
  induction bs with
  | nil => intro s a; rfl
  | cons b bs ih => intro s a; rw [State.setBytes, ih]; rfl
@[simp] theorem State.setBytes_tiles (bs : List Byte) : ∀ (s : State) (a : Nat), (s.setBytes a bs).tiles = s.tiles := by
  induction bs with
  | nil => intro s a; rfl
  | cons b bs ih => intro s a; rw [State.setBytes, ih]; rfl
@[simp] theorem State.setBytes_ports (bs : List Byte) : ∀ (s : State) (a : Nat), (s.setBytes a bs).ports = s.ports := by
  induction bs with
  | nil => intro s a; rfl
  | cons b bs ih => intro s a; rw [State.setBytes, ih]; rfl
@[simp] theorem State.setBytes_rt (bs : List Byte) : ∀ (s : State) (a : Nat), (s.setBytes a bs).rt = s.rt := by
  induction bs with
  | nil => intro s a; rfl
  | cons b bs ih => intro s a; rw [State.setBytes, ih]; rfl
@[simp] theorem State.setBytes_mm (bs : List Byte) : ∀ (s : State) (a : Nat), (s.setBytes a bs).mm = s.mm := by
  induction bs with
  | nil => intro s a; rfl
  | cons b bs ih => intro s a; rw [State.setBytes, ih]; rfl
@[simp] theorem State.setBytes_hub (bs : List Byte) : ∀ (s : State) (a : Nat), (s.setBytes a bs).hub = s.hub := by
  induction bs with
  | nil => intro s a; rfl
  | cons b bs ih => intro s a; rw [State.setBytes, ih]; rfl
@[simp] theorem State.setBytes_brm (bs : List Byte) : ∀ (s : State) (a : Nat), (s.setBytes a bs).brm = s.brm := by
  induction bs with
  | nil => intro s a; rfl
  | cons b bs ih => intro s a; rw [State.setBytes, ih]; rfl
@[simp] theorem State.setBytes_time (bs : List Byte) : ∀ (s : State) (a : Nat), (s.setBytes a bs).time = s.time := by
  induction bs with
  | nil => intro s a; rfl
  | cons b bs ih => intro s a; rw [State.setBytes, ih]; rfl
@[simp] theorem State.setBytes_svc (bs : List Byte) : ∀ (s : State) (a : Nat), (s.setBytes a bs).svc = s.svc := by
  induction bs with
  | nil => intro s a; rfl
  | cons b bs ih => intro s a; rw [State.setBytes, ih]; rfl
@[simp] theorem State.setBytes_sec (bs : List Byte) : ∀ (s : State) (a : Nat), (s.setBytes a bs).sec = s.sec := by
  induction bs with
  | nil => intro s a; rfl
  | cons b bs ih => intro s a; rw [State.setBytes, ih]; rfl
@[simp] theorem State.setBytes_pwr (bs : List Byte) : ∀ (s : State) (a : Nat), (s.setBytes a bs).pwr = s.pwr := by
  induction bs with
  | nil => intro s a; rfl
  | cons b bs ih => intro s a; rw [State.setBytes, ih]; rfl

/-! ### The fault of a glove (R42) -/

/-- A register that a fault of glove n does not write. -/
def awayFromFault (n o : Nat) : Prop :=
  o ≠ KNOT_GLOVE_CTL n ∧ o ≠ BRM_ENG_STAT 0 ∧ o ≠ BRM_ENG_STAT 1 ∧ o ≠ SPL_STAT ∧ o ≠ COLL_CNT1

@[simp] theorem State.reg_dropWork (n o : Nat) : (s.dropWork n).reg o = s.reg o := rfl
@[simp] theorem State.reg_stopTiles (n o : Nat) : (s.stopTiles n).reg o = s.reg o := rfl
@[simp] theorem State.mem_stopTiles (n : Nat) : (s.stopTiles n).mem = s.mem := rfl
@[simp] theorem State.mem_dropWork (n : Nat) : (s.dropWork n).mem = s.mem := rfl

theorem State.reg_idleEngines {o : Nat} (h0 : o ≠ BRM_ENG_STAT 0) (h1 : o ≠ BRM_ENG_STAT 1) (h2 : o ≠ SPL_STAT) :
    s.idleEngines.reg o = s.reg o := by
  simp only [State.idleEngines, List.foldl]
  split <;> split <;> simp [State.reg_fset_ne h0, State.reg_fset_ne h1, State.reg_fset_ne h2]

theorem State.mem_idleEngines : s.idleEngines.mem = s.mem := by
  simp only [State.idleEngines, List.foldl]
  split <;> split <;> simp only [State.fset_mem]

theorem State.reg_goDown {n o : Nat} (h : awayFromFault n o) (c : Nat) : (s.goDown n c).reg o = s.reg o := by
  obtain ⟨h0, h1, h2, h3, h4⟩ := h
  unfold State.goDown; dsimp only
  rw [State.reg_fset_ne h4, State.reg_idleEngines h1 h2 h3, State.reg_dropWork,
    State.reg_stopTiles, State.reg_fset_ne h0, State.reg_fset_ne h0]

theorem State.mem_goDown (n c : Nat) : (s.goDown n c).mem = s.mem := by
  unfold State.goDown; dsimp only
  rw [State.fset_mem, State.mem_idleEngines, State.mem_dropWork, State.mem_stopTiles,
    State.fset_mem, State.fset_mem]

/-- A fault changes no other register. -/
theorem State.reg_faultGlove {n o : Nat} (h : awayFromFault n o) (c : Nat) : (s.faultGlove n c).reg o = s.reg o := by
  unfold State.faultGlove
  exact at_ite (State.reg · o) (State.reg_goDown h c) (at_ite (State.reg · o) rfl rfl)

/-- A fault writes no memory. -/
theorem State.mem_faultGlove (n c : Nat) : (s.faultGlove n c).mem = s.mem := by
  unfold State.faultGlove
  exact at_ite State.mem (State.mem_goDown n c) (at_ite State.mem rfl rfl)

theorem State.reg_goDown_ctl (n c : Nat) : (s.goDown n c).reg (KNOT_GLOVE_CTL n) =
    ((s.fset (KNOT_GLOVE_CTL n) KNOT_GLOVE_CTL_CAUSE c).fset (KNOT_GLOVE_CTL n) KNOT_GLOVE_CTL_STATE gTEARDOWN).reg
      (KNOT_GLOVE_CTL n) := by
  have g1 : KNOT_GLOVE_CTL n ≠ COLL_CNT1 := by simp only [KNOT_GLOVE_CTL, COLL_CNT1]; omega
  have g2 : KNOT_GLOVE_CTL n ≠ BRM_ENG_STAT 0 := by simp only [KNOT_GLOVE_CTL, BRM_ENG_STAT]; omega
  have g3 : KNOT_GLOVE_CTL n ≠ BRM_ENG_STAT 1 := by simp only [KNOT_GLOVE_CTL, BRM_ENG_STAT]; omega
  have g4 : KNOT_GLOVE_CTL n ≠ SPL_STAT := by simp only [KNOT_GLOVE_CTL, SPL_STAT]; omega
  unfold State.goDown; dsimp only
  rw [State.reg_fset_ne g1, State.reg_idleEngines g2 g3 g4, State.reg_dropWork, State.reg_stopTiles]

theorem State.faultGlove_active {n : Nat} (ha : s.gstate n = gACTIVE) (c : Nat) : s.faultGlove n c = s.goDown n c := by
  rw [State.faultGlove, if_pos ha]

/-- The fault of an ACTIVE glove begins its teardown. -/
theorem State.gstate_faultGlove {n : Nat} (ha : s.gstate n = gACTIVE) (c : Nat) :
    (s.faultGlove n c).gstate n = gTEARDOWN := by
  rw [State.gstate, State.fget, State.faultGlove_active ha, State.reg_goDown_ctl, ← State.fget,
    State.fget_fset _ _ _ (by decide) (by decide)]
  rfl

/-- The fault of an ACTIVE glove records its cause. -/
theorem State.cause_faultGlove {n : Nat} (ha : s.gstate n = gACTIVE) (c : Nat) :
    (s.faultGlove n c).fget (KNOT_GLOVE_CTL n) KNOT_GLOVE_CTL_CAUSE = c % 256 := by
  rw [State.fget, State.faultGlove_active ha, State.reg_goDown_ctl, ← State.fget,
    State.fget_fset_apart _ _ _ _ (by decide) (by decide) (by decide) (by decide),
    State.fget_fset _ _ _ (by decide) (by decide)]
  rfl

end Sys2Proof.Machine
end

