-- ==== Sys2Proof/Laws/PerInstr.lean ====
section
/-! SUPPORT. Facts per command about its syntax: no word of the table spells it, since the table gives no row bits. -/

namespace Sys2Proof.Laws.Unspelled

/-- No word spells the command. -/
def Statement (i : Instr) : Prop := ∀ nbits w : Nat, decodeTableWord nbits w ≠ some i

theorem br {a0 a1} : Statement (.br a0 a1) := fun _ _ h => nomatch h
theorem brc {a0 a1} : Statement (.brc a0 a1) := fun _ _ h => nomatch h
theorem loop {a0 a1} : Statement (.loop a0 a1) := fun _ _ h => nomatch h
theorem yield {a0 a1} : Statement (.yield a0 a1) := fun _ _ h => nomatch h
theorem halt {a0 a1} : Statement (.halt a0 a1) := fun _ _ h => nomatch h
theorem trap {a0 a1} : Statement (.trap a0 a1) := fun _ _ h => nomatch h
theorem add {a0 a1} : Statement (.add a0 a1) := fun _ _ h => nomatch h
theorem sub {a0 a1} : Statement (.sub a0 a1) := fun _ _ h => nomatch h
theorem mul {a0 a1} : Statement (.mul a0 a1) := fun _ _ h => nomatch h
theorem and {a0 a1} : Statement (.and a0 a1) := fun _ _ h => nomatch h
theorem or {a0 a1} : Statement (.or a0 a1) := fun _ _ h => nomatch h
theorem xor {a0 a1} : Statement (.xor a0 a1) := fun _ _ h => nomatch h
theorem shl {a0 a1} : Statement (.shl a0 a1) := fun _ _ h => nomatch h
theorem shr {a0 a1} : Statement (.shr a0 a1) := fun _ _ h => nomatch h
theorem cmp {a0 a1} : Statement (.cmp a0 a1) := fun _ _ h => nomatch h
theorem movi {a0 a1} : Statement (.movi a0 a1) := fun _ _ h => nomatch h
theorem tdset {a0 a1} : Statement (.tdset a0 a1) := fun _ _ h => nomatch h
theorem tdadv {a0 a1} : Statement (.tdadv a0 a1) := fun _ _ h => nomatch h
theorem ldt {a0 a1} : Statement (.ldt a0 a1) := fun _ _ h => nomatch h
theorem stt {a0 a1} : Statement (.stt a0 a1) := fun _ _ h => nomatch h
theorem moveComplete {a0 a1} : Statement (.moveComplete a0 a1) := fun _ _ h => nomatch h
theorem stream {a0 a1} : Statement (.stream a0 a1) := fun _ _ h => nomatch h
theorem pref {a0 a1} : Statement (.pref a0 a1) := fun _ _ h => nomatch h
theorem mma {a0 a1} : Statement (.mma a0 a1) := fun _ _ h => nomatch h
theorem mmaNm {a0 a1} : Statement (.mmaNm a0 a1) := fun _ _ h => nomatch h
theorem mmaComplete {a0 a1} : Statement (.mmaComplete a0 a1) := fun _ _ h => nomatch h
theorem accz {a0 a1} : Statement (.accz a0 a1) := fun _ _ h => nomatch h
theorem accmv {a0 a1} : Statement (.accmv a0 a1) := fun _ _ h => nomatch h
theorem vop {a0 a1} : Statement (.vop a0 a1) := fun _ _ h => nomatch h
theorem vbc {a0 a1} : Statement (.vbc a0 a1) := fun _ _ h => nomatch h
theorem vred {a0 a1} : Statement (.vred a0 a1) := fun _ _ h => nomatch h
theorem vcvt {a0 a1} : Statement (.vcvt a0 a1) := fun _ _ h => nomatch h
theorem vxa {a0 a1} : Statement (.vxa a0 a1) := fun _ _ h => nomatch h
theorem laceLd {a0 a1} : Statement (.laceLd a0 a1) := fun _ _ h => nomatch h
theorem laceRun {a0 a1} : Statement (.laceRun a0 a1) := fun _ _ h => nomatch h
theorem vecInstrComplete {a0 a1} : Statement (.vecInstrComplete a0 a1) := fun _ _ h => nomatch h
theorem spmm {a0 a1} : Statement (.spmm a0 a1) := fun _ _ h => nomatch h
theorem spenc {a0 a1} : Statement (.spenc a0 a1) := fun _ _ h => nomatch h
theorem spdec {a0 a1} : Statement (.spdec a0 a1) := fun _ _ h => nomatch h
theorem spmInstrComplete {a0 a1} : Statement (.spmInstrComplete a0 a1) := fun _ _ h => nomatch h
theorem sieve {a0 a1} : Statement (.sieve a0 a1) := fun _ _ h => nomatch h
theorem sieveComplete {a0} : Statement (.sieveComplete a0) := fun _ _ h => nomatch h
theorem sieveFl {a0 a1} : Statement (.sieveFl a0 a1) := fun _ _ h => nomatch h
theorem routeGo {a0 a1} : Statement (.routeGo a0 a1) := fun _ _ h => nomatch h
theorem routeRet {a0 a1} : Statement (.routeRet a0 a1) := fun _ _ h => nomatch h
theorem routeStat {a0 a1} : Statement (.routeStat a0 a1) := fun _ _ h => nomatch h
theorem kwait {a0 a1} : Statement (.kwait a0 a1) := fun _ _ h => nomatch h
theorem kwaitTimeout {a0} : Statement (.kwaitTimeout a0) := fun _ _ h => nomatch h
theorem karrive {a0 a1} : Statement (.karrive a0 a1) := fun _ _ h => nomatch h
theorem kadd {a0 a1} : Statement (.kadd a0 a1) := fun _ _ h => nomatch h
theorem kset {a0 a1} : Statement (.kset a0 a1) := fun _ _ h => nomatch h
theorem kat {a0 a1} : Statement (.kat a0 a1) := fun _ _ h => nomatch h
theorem katWake {a0} : Statement (.katWake a0) := fun _ _ h => nomatch h
theorem palloc {a0 a1} : Statement (.palloc a0 a1) := fun _ _ h => nomatch h
theorem phold {a0 a1} : Statement (.phold a0 a1) := fun _ _ h => nomatch h
theorem pfree {a0 a1} : Statement (.pfree a0 a1) := fun _ _ h => nomatch h
theorem ld {a0 a1} : Statement (.ld a0 a1) := fun _ _ h => nomatch h
theorem st {a0 a1} : Statement (.st a0 a1) := fun _ _ h => nomatch h
theorem atom {a0 a1} : Statement (.atom a0 a1) := fun _ _ h => nomatch h
theorem put {a0 a1} : Statement (.put a0 a1) := fun _ _ h => nomatch h
theorem get {a0 a1} : Statement (.get a0 a1) := fun _ _ h => nomatch h
theorem fence {a0 a1} : Statement (.fence a0 a1) := fun _ _ h => nomatch h
theorem csrr {a0 a1} : Statement (.csrr a0 a1) := fun _ _ h => nomatch h
theorem csrw {a0 a1} : Statement (.csrw a0 a1) := fun _ _ h => nomatch h
theorem evt {a0 a1} : Statement (.evt a0 a1) := fun _ _ h => nomatch h
theorem perf {a0 a1} : Statement (.perf a0 a1) := fun _ _ h => nomatch h
theorem admitGraph {a0} : Statement (.admitGraph a0) := fun _ _ h => nomatch h
theorem admitStall {a0} : Statement (.admitStall a0) := fun _ _ h => nomatch h
theorem taskMaxrunExceeded {a0} : Statement (.taskMaxrunExceeded a0) := fun _ _ h => nomatch h
theorem taskWatchdog {a0} : Statement (.taskWatchdog a0) := fun _ _ h => nomatch h
theorem knotOpReceive {a0} : Statement (.knotOpReceive a0) := fun _ _ h => nomatch h
theorem create {a0} : Statement (.create a0) := fun _ _ h => nomatch h
theorem teardown {a0} : Statement (.teardown a0) := fun _ _ h => nomatch h
theorem gloveDrainDone {a0} : Statement (.gloveDrainDone a0) := fun _ _ h => nomatch h
theorem gloveScrubDone {a0} : Statement (.gloveScrubDone a0) := fun _ _ h => nomatch h
theorem knotRel {a0 a1 a2} : Statement (.knotRel a0 a1 a2) := fun _ _ h => nomatch h
theorem knotSvcWrite {a0} : Statement (.knotSvcWrite a0) := fun _ _ h => nomatch h
theorem twinDigestReceive {a0} : Statement (.twinDigestReceive a0) := fun _ _ h => nomatch h
theorem twinRingReceive {a0} : Statement (.twinRingReceive a0) := fun _ _ h => nomatch h
theorem twinDigestMissing {a0} : Statement (.twinDigestMissing a0) := fun _ _ h => nomatch h
theorem twinDigestDiscard {a0} : Statement (.twinDigestDiscard a0) := fun _ _ h => nomatch h
theorem tileTestStart {a0} : Statement (.tileTestStart a0) := fun _ _ h => nomatch h
theorem tileSelfTestDone {a0 a1} : Statement (.tileSelfTestDone a0 a1) := fun _ _ h => nomatch h
theorem tileCtlWrite {a0 a1 a2} : Statement (.tileCtlWrite a0 a1 a2) := fun _ _ h => nomatch h
theorem brmListIntake {a0} : Statement (.brmListIntake a0) := fun _ _ h => nomatch h
theorem brmRankingDone {a0} : Statement (.brmRankingDone a0) := fun _ _ h => nomatch h
theorem countsPartReceive {a0} : Statement (.countsPartReceive a0) := fun _ _ h => nomatch h
theorem homeAdmit {a0} : Statement (.homeAdmit a0) := fun _ _ h => nomatch h
theorem grantPartReceive {a0} : Statement (.grantPartReceive a0) := fun _ _ h => nomatch h
theorem sourceReroute {a0} : Statement (.sourceReroute a0) := fun _ _ h => nomatch h
theorem sourceSort {a0} : Statement (.sourceSort a0) := fun _ _ h => nomatch h
theorem brmStepTimeout {a0} : Statement (.brmStepTimeout a0) := fun _ _ h => nomatch h
theorem brmDirNextepWrite {a0 a1} : Statement (.brmDirNextepWrite a0 a1) := fun _ _ h => nomatch h
theorem spliceSendFragment {a0} : Statement (.spliceSendFragment a0) := fun _ _ h => nomatch h
theorem spliceRowReceive {a0} : Statement (.spliceRowReceive a0) := fun _ _ h => nomatch h
theorem spliceAbortReceive {a0} : Statement (.spliceAbortReceive a0) := fun _ _ h => nomatch h
theorem returnSendFragment {a0} : Statement (.returnSendFragment a0) := fun _ _ h => nomatch h
theorem returnResultReceive {a0} : Statement (.returnResultReceive a0) := fun _ _ h => nomatch h
theorem spliceLandingTimeout {a0} : Statement (.spliceLandingTimeout a0) := fun _ _ h => nomatch h
theorem returnArrivalTimeout {a0} : Statement (.returnArrivalTimeout a0) := fun _ _ h => nomatch h
theorem migTlbinvGo {a0} : Statement (.migTlbinvGo a0) := fun _ _ h => nomatch h
theorem migPromote {a0} : Statement (.migPromote a0) := fun _ _ h => nomatch h
theorem pin {a0 a1} : Statement (.pin a0 a1) := fun _ _ h => nomatch h
theorem unpin {a0} : Statement (.unpin a0) := fun _ _ h => nomatch h
theorem discard {a0} : Statement (.discard a0) := fun _ _ h => nomatch h
theorem vacate {a0} : Statement (.vacate a0) := fun _ _ h => nomatch h
theorem resume {a0} : Statement (.resume a0) := fun _ _ h => nomatch h
theorem migCfgWrite {a0} : Statement (.migCfgWrite a0) := fun _ _ h => nomatch h
theorem streamFill {a0} : Statement (.streamFill a0) := fun _ _ h => nomatch h
theorem hbmChannelDrain {a0} : Statement (.hbmChannelDrain a0) := fun _ _ h => nomatch h
theorem hbmChannelRetrainDone {a0 a1} : Statement (.hbmChannelRetrainDone a0 a1) := fun _ _ h => nomatch h
theorem hbmTgStart {a0} : Statement (.hbmTgStart a0) := fun _ _ h => nomatch h
theorem hbmTgStop {a0} : Statement (.hbmTgStop a0) := fun _ _ h => nomatch h
theorem hbmTgRunDone {a0 a1 a2} : Statement (.hbmTgRunDone a0 a1 a2) := fun _ _ h => nomatch h
theorem hbmQosWrite {a0 a1} : Statement (.hbmQosWrite a0 a1) := fun _ _ h => nomatch h
theorem poolInit {a0} : Statement (.poolInit a0) := fun _ _ h => nomatch h
theorem poolInitDone {a0} : Statement (.poolInitDone a0) := fun _ _ h => nomatch h
theorem poolRelease {a0} : Statement (.poolRelease a0) := fun _ _ h => nomatch h
theorem poolReset {a0} : Statement (.poolReset a0) := fun _ _ h => nomatch h
theorem poolSvcFree {a0 a1} : Statement (.poolSvcFree a0 a1) := fun _ _ h => nomatch h
theorem nvsDieTimeout {a0 a1} : Statement (.nvsDieTimeout a0 a1) := fun _ _ h => nomatch h
theorem linkFrameReceive {a0 a1} : Statement (.linkFrameReceive a0 a1) := fun _ _ h => nomatch h
theorem portLaneFail {a0 a1} : Statement (.portLaneFail a0 a1) := fun _ _ h => nomatch h
theorem portRetrainDone {a0} : Statement (.portRetrainDone a0) := fun _ _ h => nomatch h
theorem portRetrainTimeout {a0} : Statement (.portRetrainTimeout a0) := fun _ _ h => nomatch h
theorem portRxSilence {a0} : Statement (.portRxSilence a0) := fun _ _ h => nomatch h
theorem portEnable {a0 a1} : Statement (.portEnable a0 a1) := fun _ _ h => nomatch h
theorem portDisable {a0 a1} : Statement (.portDisable a0 a1) := fun _ _ h => nomatch h
theorem portFence {a0 a1} : Statement (.portFence a0 a1) := fun _ _ h => nomatch h
theorem portRelease {a0 a1} : Statement (.portRelease a0 a1) := fun _ _ h => nomatch h
theorem portFiArm {a0 a1} : Statement (.portFiArm a0 a1) := fun _ _ h => nomatch h
theorem portFiStop {a0} : Statement (.portFiStop a0) := fun _ _ h => nomatch h
theorem fiDelayExpire {a0} : Statement (.fiDelayExpire a0) := fun _ _ h => nomatch h
theorem portOutputSend {a0} : Statement (.portOutputSend a0) := fun _ _ h => nomatch h
theorem packetTransit {a0} : Statement (.packetTransit a0) := fun _ _ h => nomatch h
theorem packetEscape {a0 a1} : Statement (.packetEscape a0 a1) := fun _ _ h => nomatch h
theorem syncDrainExpire {a0} : Statement (.syncDrainExpire a0) := fun _ _ h => nomatch h
theorem packetBadTypeReceive {a0} : Statement (.packetBadTypeReceive a0) := fun _ _ h => nomatch h
theorem storeReceive {a0} : Statement (.storeReceive a0) := fun _ _ h => nomatch h
theorem loadReqReceive {a0} : Statement (.loadReqReceive a0) := fun _ _ h => nomatch h
theorem loadRspReceive {a0} : Statement (.loadRspReceive a0) := fun _ _ h => nomatch h
theorem atomicReceive {a0} : Statement (.atomicReceive a0) := fun _ _ h => nomatch h
theorem putReceive {a0} : Statement (.putReceive a0) := fun _ _ h => nomatch h
theorem getReqReceive {a0} : Statement (.getReqReceive a0) := fun _ _ h => nomatch h
theorem getRspReceive {a0} : Statement (.getRspReceive a0) := fun _ _ h => nomatch h
theorem ackReceive {a0} : Statement (.ackReceive a0) := fun _ _ h => nomatch h
theorem nakReceive {a0} : Statement (.nakReceive a0) := fun _ _ h => nomatch h
theorem cnpReceive {a0} : Statement (.cnpReceive a0) := fun _ _ h => nomatch h
theorem cnpSend {a0} : Statement (.cnpSend a0) := fun _ _ h => nomatch h
theorem rateLimitRecover {a0} : Statement (.rateLimitRecover a0) := fun _ _ h => nomatch h
theorem probeReceive {a0} : Statement (.probeReceive a0) := fun _ _ h => nomatch h
theorem fabProbe {a0} : Statement (.fabProbe a0) := fun _ _ h => nomatch h
theorem circSetupReceive {a0} : Statement (.circSetupReceive a0) := fun _ _ h => nomatch h
theorem circTearReceive {a0} : Statement (.circTearReceive a0) := fun _ _ h => nomatch h
theorem circSetupTimeout {a0} : Statement (.circSetupTimeout a0) := fun _ _ h => nomatch h
theorem circRefresh {a0} : Statement (.circRefresh a0) := fun _ _ h => nomatch h
theorem circLeaseExpire {a0 a1} : Statement (.circLeaseExpire a0 a1) := fun _ _ h => nomatch h
theorem hitchCastReceive {a0} : Statement (.hitchCastReceive a0) := fun _ _ h => nomatch h
theorem rgnCommit {a0} : Statement (.rgnCommit a0) := fun _ _ h => nomatch h
theorem rgnClear {a0} : Statement (.rgnClear a0) := fun _ _ h => nomatch h
theorem rgnTransfer {a0 a1 a2} : Statement (.rgnTransfer a0 a1 a2) := fun _ _ h => nomatch h
theorem rgnTransferFlushed {a0} : Statement (.rgnTransferFlushed a0) := fun _ _ h => nomatch h
theorem ownXferReceive {a0} : Statement (.ownXferReceive a0) := fun _ _ h => nomatch h
theorem ownGrantReceive {a0} : Statement (.ownGrantReceive a0) := fun _ _ h => nomatch h
theorem ownDoneReceive {a0} : Statement (.ownDoneReceive a0) := fun _ _ h => nomatch h
theorem ownXferTimeout {a0} : Statement (.ownXferTimeout a0) := fun _ _ h => nomatch h
theorem podRspTimeout {a0} : Statement (.podRspTimeout a0) := fun _ _ h => nomatch h
theorem transferRspTimeout {a0} : Statement (.transferRspTimeout a0) := fun _ _ h => nomatch h
theorem collSubmit {a0} : Statement (.collSubmit a0) := fun _ _ h => nomatch h
theorem collStart {a0} : Statement (.collStart a0) := fun _ _ h => nomatch h
theorem collContribReceive {a0} : Statement (.collContribReceive a0) := fun _ _ h => nomatch h
theorem collResultReceive {a0} : Statement (.collResultReceive a0) := fun _ _ h => nomatch h
theorem collFailReceive {a0} : Statement (.collFailReceive a0) := fun _ _ h => nomatch h
theorem collRetryReceive {a0} : Statement (.collRetryReceive a0) := fun _ _ h => nomatch h
theorem collArriveReceive {a0} : Statement (.collArriveReceive a0) := fun _ _ h => nomatch h
theorem collWindowReadout {a0} : Statement (.collWindowReadout a0) := fun _ _ h => nomatch h
theorem collReadbackDone {a0 a1} : Statement (.collReadbackDone a0 a1) := fun _ _ h => nomatch h
theorem collTimeout {a0} : Statement (.collTimeout a0) := fun _ _ h => nomatch h
theorem nakBusyRetry {a0} : Statement (.nakBusyRetry a0) := fun _ _ h => nomatch h
theorem alltoallvCountsReceive {a0} : Statement (.alltoallvCountsReceive a0) := fun _ _ h => nomatch h
theorem alltoallvGrantReceive {a0} : Statement (.alltoallvGrantReceive a0) := fun _ _ h => nomatch h
theorem timeSyncReceive {a0} : Statement (.timeSyncReceive a0) := fun _ _ h => nomatch h
theorem timeReqReceive {a0} : Statement (.timeReqReceive a0) := fun _ _ h => nomatch h
theorem timeRespReceive {a0} : Statement (.timeRespReceive a0) := fun _ _ h => nomatch h
theorem ptpMessageReceive {a0} : Statement (.ptpMessageReceive a0) := fun _ _ h => nomatch h
theorem timeLchGo {a0} : Statement (.timeLchGo a0) := fun _ _ h => nomatch h
theorem launchPrepareReceive {a0} : Statement (.launchPrepareReceive a0) := fun _ _ h => nomatch h
theorem launchHoldReceive {a0} : Statement (.launchHoldReceive a0) := fun _ _ h => nomatch h
theorem launchAckReceive {a0} : Statement (.launchAckReceive a0) := fun _ _ h => nomatch h
theorem launchCommitReceive {a0} : Statement (.launchCommitReceive a0) := fun _ _ h => nomatch h
theorem launchCancelReceive {a0} : Statement (.launchCancelReceive a0) := fun _ _ h => nomatch h
theorem launchQueryReceive {a0} : Statement (.launchQueryReceive a0) := fun _ _ h => nomatch h
theorem launchReady {a0} : Statement (.launchReady a0) := fun _ _ h => nomatch h
theorem launchReachTimeout {a0 a1} : Statement (.launchReachTimeout a0 a1) := fun _ _ h => nomatch h
theorem launchDeadline {a0} : Statement (.launchDeadline a0) := fun _ _ h => nomatch h
theorem launchQueryTimer {a0} : Statement (.launchQueryTimer a0) := fun _ _ h => nomatch h
theorem launchRelease {a0} : Statement (.launchRelease a0) := fun _ _ h => nomatch h
theorem svcCoreRefresh {a0 a1} : Statement (.svcCoreRefresh a0 a1) := fun _ _ h => nomatch h
theorem svcWdogRefresh {a0} : Statement (.svcWdogRefresh a0) := fun _ _ h => nomatch h
theorem ethTxFrame {a0 a1} : Statement (.ethTxFrame a0 a1) := fun _ _ h => nomatch h
theorem ethRxFrame {a0 a1} : Statement (.ethRxFrame a0 a1) := fun _ _ h => nomatch h
theorem ethRingEnable {a0 a1 a2 a3} : Statement (.ethRingEnable a0 a1 a2 a3) := fun _ _ h => nomatch h
theorem sensorSample {a0} : Statement (.sensorSample a0) := fun _ _ h => nomatch h
theorem powerCapTick {a0} : Statement (.powerCapTick a0) := fun _ _ h => nomatch h
theorem avsReadback {a0 a1} : Statement (.avsReadback a0 a1) := fun _ _ h => nomatch h
theorem railEnableStep {a0} : Statement (.railEnableStep a0) := fun _ _ h => nomatch h
theorem pmbusPoll {a0 a1} : Statement (.pmbusPoll a0 a1) := fun _ _ h => nomatch h
theorem ctrClear {a0} : Statement (.ctrClear a0) := fun _ _ h => nomatch h
theorem arbitratedControlWrite {a0 a1 a2} : Statement (.arbitratedControlWrite a0 a1 a2) := fun _ _ h => nomatch h
theorem svcArbRel {a0 a1} : Statement (.svcArbRel a0 a1) := fun _ _ h => nomatch h
theorem nonce {a0} : Statement (.nonce a0) := fun _ _ h => nomatch h
theorem quote {a0} : Statement (.quote a0) := fun _ _ h => nomatch h
theorem extend {a0} : Statement (.extend a0) := fun _ _ h => nomatch h
theorem dbgOpen {a0} : Statement (.dbgOpen a0) := fun _ _ h => nomatch h
theorem dbgClose {a0} : Statement (.dbgClose a0) := fun _ _ h => nomatch h
theorem cfgWrite {a0 a1} : Statement (.cfgWrite a0 a1) := fun _ _ h => nomatch h
theorem stage {a0} : Statement (.stage a0) := fun _ _ h => nomatch h
theorem activate {a0} : Statement (.activate a0) := fun _ _ h => nomatch h
theorem activateUnitSwitch {a0} : Statement (.activateUnitSwitch a0) := fun _ _ h => nomatch h
theorem verify {a0} : Statement (.verify a0) := fun _ _ h => nomatch h
theorem lifecycle {a0} : Statement (.lifecycle a0) := fun _ _ h => nomatch h
theorem jread {a0} : Statement (.jread a0) := fun _ _ h => nomatch h
theorem exported {a0} : Statement (.exported a0) := fun _ _ h => nomatch h
theorem mboxReservedCmd {a0 a1} : Statement (.mboxReservedCmd a0 a1) := fun _ _ h => nomatch h
theorem secWriteViolation {a0 a1} : Statement (.secWriteViolation a0 a1) := fun _ _ h => nomatch h
theorem bootUartImage {a0} : Statement (.bootUartImage a0) := fun _ _ h => nomatch h
theorem tileDbgHalt {a0 a1} : Statement (.tileDbgHalt a0 a1) := fun _ _ h => nomatch h
theorem tileDbgStep {a0 a1} : Statement (.tileDbgStep a0 a1) := fun _ _ h => nomatch h
theorem tileDbgResume {a0 a1} : Statement (.tileDbgResume a0 a1) := fun _ _ h => nomatch h
theorem tileDbgValWrite {a0 a1} : Statement (.tileDbgValWrite a0 a1) := fun _ _ h => nomatch h
theorem dbgrd {a0} : Statement (.dbgrd a0) := fun _ _ h => nomatch h
theorem dbgrw {a0 a1} : Statement (.dbgrw a0 a1) := fun _ _ h => nomatch h
theorem pwrReqP0 {a0} : Statement (.pwrReqP0 a0) := fun _ _ h => nomatch h
theorem pwrReqP2 {a0} : Statement (.pwrReqP2 a0) := fun _ _ h => nomatch h
theorem pwrReqP3 {a0} : Statement (.pwrReqP3 a0) := fun _ _ h => nomatch h
theorem pwrReqP4 {a0} : Statement (.pwrReqP4 a0) := fun _ _ h => nomatch h
theorem softwareFullReset {a0} : Statement (.softwareFullReset a0) := fun _ _ h => nomatch h
theorem resetRelease {a0} : Statement (.resetRelease a0) := fun _ _ h => nomatch h
theorem rstBlockTile {a0} : Statement (.rstBlockTile a0) := fun _ _ h => nomatch h
theorem rstBlockPort {a0} : Statement (.rstBlockPort a0) := fun _ _ h => nomatch h
theorem rstBlockHbmChannel {a0} : Statement (.rstBlockHbmChannel a0) := fun _ _ h => nomatch h
theorem rstBlockBrimir {a0} : Statement (.rstBlockBrimir a0) := fun _ _ h => nomatch h
theorem sagDetect {a0} : Statement (.sagDetect a0) := fun _ _ h => nomatch h
theorem registerWrite {a0 a1 a2} : Statement (.registerWrite a0 a1 a2) := fun _ _ h => nomatch h
theorem pmbAlert {a0 a1} : Statement (.pmbAlert a0 a1) := fun _ _ h => nomatch h
theorem hbmParityError {a0 a1} : Statement (.hbmParityError a0 a1) := fun _ _ h => nomatch h
theorem taskDispatch : Statement .taskDispatch := fun _ _ h => nomatch h
theorem knotJobctlClear : Statement .knotJobctlClear := fun _ _ h => nomatch h
theorem migTlbinvDone : Statement .migTlbinvDone := fun _ _ h => nomatch h
theorem migAgeTick : Statement .migAgeTick := fun _ _ h => nomatch h
theorem timeSyncTick : Statement .timeSyncTick := fun _ _ h => nomatch h
theorem timeHoldover : Statement .timeHoldover := fun _ _ h => nomatch h
theorem ppsInEdge : Statement .ppsInEdge := fun _ _ h => nomatch h
theorem ppsOutEdge : Statement .ppsOutEdge := fun _ _ h => nomatch h
theorem utcSourceSilent : Statement .utcSourceSilent := fun _ _ h => nomatch h
theorem svcCoreWatchdog {a0} : Statement (.svcCoreWatchdog a0) := fun _ _ h => nomatch h
theorem svcCoreCacheUe {a0} : Statement (.svcCoreCacheUe a0) := fun _ _ h => nomatch h
theorem serviceWatchdog : Statement .serviceWatchdog := fun _ _ h => nomatch h
theorem ethLinkDown {a0} : Statement (.ethLinkDown a0) := fun _ _ h => nomatch h
theorem ethPfcStorm {a0} : Statement (.ethPfcStorm a0) := fun _ _ h => nomatch h
theorem ethFlap {a0} : Statement (.ethFlap a0) := fun _ _ h => nomatch h
theorem ethLinkRetry {a0} : Statement (.ethLinkRetry a0) := fun _ _ h => nomatch h
theorem thermalRequestRepeat : Statement .thermalRequestRepeat := fun _ _ h => nomatch h
theorem telemetryRecord : Statement .telemetryRecord := fun _ _ h => nomatch h
theorem droopTrip {a0} : Statement (.droopTrip a0) := fun _ _ h => nomatch h
theorem droopRecover {a0} : Statement (.droopRecover a0) := fun _ _ h => nomatch h
theorem avsReadbackTimeout {a0 a1} : Statement (.avsReadbackTimeout a0 a1) := fun _ _ h => nomatch h
theorem railPgoodTimeout : Statement .railPgoodTimeout := fun _ _ h => nomatch h
theorem railPgoodLost {a0} : Statement (.railPgoodLost a0) := fun _ _ h => nomatch h
theorem pmbusBusStuck {a0} : Statement (.pmbusBusStuck a0) := fun _ _ h => nomatch h
theorem arbRoundEnd : Statement .arbRoundEnd := fun _ _ h => nomatch h
theorem dbgD2GlovesGone : Statement .dbgD2GlovesGone := fun _ _ h => nomatch h
theorem debugSessionExpire : Statement .debugSessionExpire := fun _ _ h => nomatch h
theorem nonceExpire : Statement .nonceExpire := fun _ _ h => nomatch h
theorem journalCheckpoint : Statement .journalCheckpoint := fun _ _ h => nomatch h
theorem journalNvsWrite : Statement .journalNvsWrite := fun _ _ h => nomatch h
theorem securityViolation : Statement .securityViolation := fun _ _ h => nomatch h
theorem bypass : Statement .bypass := fun _ _ h => nomatch h
theorem idcode : Statement .idcode := fun _ _ h => nomatch h
theorem extest : Statement .extest := fun _ _ h => nomatch h
theorem samplePreload : Statement .samplePreload := fun _ _ h => nomatch h
theorem trstN : Statement .trstN := fun _ _ h => nomatch h
theorem p2TileGate : Statement .p2TileGate := fun _ _ h => nomatch h
theorem p2Autowake : Statement .p2Autowake := fun _ _ h => nomatch h
theorem powerTransitionDone : Statement .powerTransitionDone := fun _ _ h => nomatch h
theorem porstN : Statement .porstN := fun _ _ h => nomatch h
theorem sysrstN : Statement .sysrstN := fun _ _ h => nomatch h
theorem rstBlockColl : Statement .rstBlockColl := fun _ _ h => nomatch h
theorem pllUnlock {a0} : Statement (.pllUnlock a0) := fun _ _ h => nomatch h
theorem pllRelock {a0} : Statement (.pllRelock a0) := fun _ _ h => nomatch h
theorem sagSaveComplete : Statement .sagSaveComplete := fun _ _ h => nomatch h
theorem sagEnergyShort : Statement .sagEnergyShort := fun _ _ h => nomatch h
theorem sagRestart : Statement .sagRestart := fun _ _ h => nomatch h
theorem pwrwarnGlitch : Statement .pwrwarnGlitch := fun _ _ h => nomatch h
theorem fabrefClkLost {a0} : Statement (.fabrefClkLost a0) := fun _ _ h => nomatch h
theorem ethrefClkLost : Statement .ethrefClkLost := fun _ _ h => nomatch h
theorem ethLinkUp {a0} : Statement (.ethLinkUp a0) := fun _ _ h => nomatch h
theorem ethHolddownEnd {a0} : Statement (.ethHolddownEnd a0) := fun _ _ h => nomatch h
theorem ethPfcIgnoreEnd {a0} : Statement (.ethPfcIgnoreEnd a0) := fun _ _ h => nomatch h
theorem pmbusStaleEnd {a0} : Statement (.pmbusStaleEnd a0) := fun _ _ h => nomatch h
theorem pmbAlertUnmask : Statement .pmbAlertUnmask := fun _ _ h => nomatch h

end Sys2Proof.Laws.Unspelled
end

