-- ==== Sys2Proof/WellFormed.lean ====
section
/-! DEFINITION. Bounds of the operands that their types do not give. -/

namespace Sys2Proof

/-- Whether a command's operands are what its source can send: a link frame has 16 slots (R244); a frame at a MAC has its
header; PMB_ALERT brings one status word per regulator of the eight rails (R356); a voltage or power is what its readings
can say; an image over UART is at most as long as an image can be (R364). -/
def Instr.wf : Instr → Bool
  | .linkFrameReceive _ f => f.slots.length == 16
  | .ethRxFrame _ f => decide (14 ≤ f.bytes.length ∧ f.bytes.length < 65536)
  | .pmbAlert ws _ => ws.length == 8
  | .powerCapTick est => decide (est < 2 ^ 32)
  | .avsReadback _ mv => decide (mv < 2 ^ 16)
  | .avsReadbackTimeout _ mv => decide (mv < 2 ^ 16)
  | .railEnableStep v => decide (v.getD 0 < 2 ^ 16)
  | .bootUartImage b => decide (b.length < 512 + 2 ^ 32)
  | _ => true

end Sys2Proof
end

