-- ==== Sys2Proof/Tests/Slice0.lean ====
section
/-! SUPPORT. The author's tests: operands that the bounds refuse, results worked out by hand from the manual's rules, and
states that meet the hypotheses of the statements. -/

namespace Sys2Proof.Tests

open Sys2Proof Sys2Proof.Machine Sys2Proof.Machine.Reg Sys2Proof.Claims

/-! ### Bounds of operands -/

theorem test_wf_link_frame : Instr.wf (.linkFrameReceive 0 ⟨0, []⟩) = false := by decide
theorem test_wf_eth_short : Instr.wf (.ethRxFrame 0 ⟨[1, 2, 3], true⟩) = false := by decide
theorem test_wf_eth_long : Instr.wf (.ethRxFrame 0 ⟨List.replicate 65536 0, true⟩) = false := by
  simp only [Instr.wf, List.length_replicate]; decide
theorem test_wf_pmb_alert : Instr.wf (.pmbAlert [1] true) = false := by decide
theorem test_wf_power_cap : Instr.wf (.powerCapTick (2 ^ 32)) = false := by decide
theorem test_wf_avs : Instr.wf (.avsReadback 0 65536) = false := by decide
theorem test_wf_avs_timeout : Instr.wf (.avsReadbackTimeout 0 65536) = false := by decide
theorem test_wf_rail : Instr.wf (.railEnableStep (some 65536)) = false := by decide
theorem test_wf_boot_uart (b : List Byte) (h : b.length = 512 + 2 ^ 32) : Instr.wf (.bootUartImage b) = false := by
  simp only [Instr.wf, h]; decide
theorem test_wf_plain : Instr.wf .idcode = true := by decide

/-! ### States for the tests -/

/-- Context 0 of tile 0 holds task 0 of glove 0 and is in the issue window. -/
def withCtx (x : Ctx) : State := { State.reset with tiles := [(0, { window := [0], ctxs := [(0, { x with task := some 0 })] })] }
/-- Its address. -/
def k0 : CtxId := ⟨0, 0⟩
/-- The same, its glove ACTIVE. -/
def live (x : Ctx) : State := (withCtx x).fset (KNOT_GLOVE_CTL 0) KNOT_GLOVE_CTL_STATE gACTIVE
/-- The state a command leads to. -/
def after (o : Out) : State := match o with
  | .next t => t
  | _ => State.reset

/-! ### Scalar instructions -/

/-- R68: 5 - 7 wraps. -/
theorem test_sub_wraps : ((after (execSub k0 { rd := 3, ra := 1, rb := 2 } (withCtx { g := [(1, 5), (2, 7)] }))).ctx k0).gr 3
    = 0xFFFFFFFFFFFFFFFE := by decide +kernel
/-- R67: a branch over a multiple of 8 goes to PC + 8 × IMM32. -/
theorem test_br : ((after (execBr k0 { i := true, imm := 0xFFFFFFFF } (withCtx { pc := 64 }))).ctx k0).pc = 56 := by decide +kernel
/-- R54: under a false guard only the pc moves. -/
theorem test_guard : ((after (execMovi k0 { pg := 1, rd := 3, imm := 9 } (withCtx {}))).ctx k0).gr 3 = 0
    ∧ ((after (execMovi k0 { pg := 1, rd := 3, imm := 9 } (withCtx {}))).ctx k0).pc = 8 := by decide +kernel
/-- R57: an ALU word with both RB and IMM32 is illegal, and with no handler faults the glove with cause TRAP. -/
theorem test_illegal : (after (execAdd k0 { rd := 3, rb := 1, imm := 1 } (live {}))).gstate 0 = gTEARDOWN := by decide +kernel

/-! ### States that meet the hypotheses of the statements -/

theorem witness_ready : ReadyA (withCtx {}) k0 {} ∧ ReadyB (withCtx {}) k0 {} := by
  unfold ReadyA ReadyB Ready; decide +kernel

theorem witness_AluResults :
    ReadyA (withCtx {}) k0 { rd := 3, ra := 1, rb := 2 } ∧ aluLegal { rd := 3, ra := 1, rb := 2 }
      ∧ ReadyA (withCtx {}) k0 { rd := 3, i := true, imm := 7, fn := 1 } ∧ aluLegal { rd := 3, i := true, imm := 7, fn := 1 }
      ∧ ReadyA (withCtx {}) k0 { rd := 0, ra := 31, rb := 31 } ∧ aluLegal { rd := 0, ra := 31, rb := 31 } := by
  unfold ReadyA Ready aluLegal; decide +kernel

theorem witness_AluResults_cmp_movi :
    ReadyA (withCtx {}) k0 { rd := 7, ra := 1, rb := 2, fn := 5 } ∧ aluLegal { rd := 7, ra := 1, rb := 2, fn := 5 }
      ∧ ReadyA (withCtx {}) k0 { rd := 31, imm := 0x80000000, fn := 1 } := by
  unfold ReadyA Ready aluLegal; decide +kernel

theorem witness_ControlFlow_br :
    (ReadyA (live { g := [(1, 16)] }) k0 { ra := 1 } ∧ brTarget ((live { g := [(1, 16)] }).ctx k0) { ra := 1 } % 8 = 0)
      ∧ (ReadyA (live { g := [(1, 12)] }) k0 { ra := 1 } ∧ (live { g := [(1, 12)] }).gstate ((live { g := [(1, 12)] }).ctx k0).glove = gACTIVE
        ∧ brTarget ((live { g := [(1, 12)] }).ctx k0) { ra := 1 } % 8 ≠ 0) := by
  unfold ReadyA Ready; decide +kernel

theorem witness_ControlFlow_brc :
    ReadyA (withCtx { g := [(1, -1)] }) k0 { ra := 1, i := true, fn := 2, imm := 4 }
      ∧ brcMeets 2 (((withCtx { g := [(1, -1)] }).ctx k0).gr 1) ∧ relative ((withCtx { g := [(1, -1)] }).ctx k0).pc 4 % 8 = 0
      ∧ ¬ brcMeets 3 (((withCtx { g := [(1, -1)] }).ctx k0).gr 1) := by
  unfold ReadyA Ready brcMeets; decide +kernel

theorem witness_ControlFlow_loop :
    (ReadyA (live { g := [(1, 3)] }) k0 { ra := 1, imm := 65535 } ∧ ((live { g := [(1, 3)] }).ctx k0).loops.length < 4
        ∧ (((live { g := [(1, 3)] }).ctx k0).gr 1).toNat % 2 ^ 32 ≠ 0)
      ∧ (ReadyA (live { g := [(1, 2 ^ 32)] }) k0 { ra := 1, imm := 1 } ∧ (((live { g := [(1, 2 ^ 32)] }).ctx k0).gr 1).toNat % 2 ^ 32 = 0)
      ∧ (ReadyA (live { loops := List.replicate 4 ⟨8, 16, 2⟩ }) k0 { ra := 1, imm := 1 }
        ∧ 4 ≤ ((live { loops := List.replicate 4 ⟨8, 16, 2⟩ }).ctx k0).loops.length) := by
  unfold ReadyA Ready; decide +kernel

theorem witness_ControlFlow_trap :
    ReadyA (live {}) k0 { imm := 255 } ∧ bareWord { imm := 255 } ∧ (live {}).gstate ((live {}).ctx k0).glove = gACTIVE
      ∧ ((live {}).ctx k0).glove < 64 ∧ ReadyA (live {}) k0 {} ∧ bareWord {}
      ∧ hasHandler (live { csr := [(2, 64)] }) k0 ∧ ¬ hasHandler (live {}) k0 := by
  unfold ReadyA Ready bareWord hasHandler; decide +kernel

theorem witness_CapabilityRegisters :
    ReadyB (withCtx {}) k0 { rd := 3, opx := 0x108 } ∧ readWord { rd := 3, opx := 0x108 } ∧ sysIndex { rd := 3, opx := 0x108 } 0x108
      ∧ (0x108, 16) ∈ capabilities := by
  unfold ReadyB Ready readWord sysIndex capabilities; decide +kernel

theorem witness_ContextRegisters :
    (ReadyB (withCtx {}) k0 { rd := 3, opx := 0x00C } ∧ readWord { rd := 3, opx := 0x00C } ∧ sysIndex { rd := 3, opx := 0x00C } 0x00C)
      ∧ (ReadyB (withCtx {}) k0 { ra := 3, opx := 9 } ∧ raWord { ra := 3, opx := 9 } ∧ sysIndex { ra := 3, opx := 9 } 9)
      ∧ (ReadyB (withCtx {}) k0 { ra := 3, opx := 6 } ∧ sysIndex { ra := 3, opx := 6 } 6)
      ∧ (ReadyB (withCtx { g := [(3, 1)] }) k0 { ra := 3, opx := 3 } ∧ ((withCtx { g := [(3, 1)] }).ctx k0).gr 3 ≠ 0)
      ∧ (ReadyB (withCtx { loopsAside := some [] }) k0 { ra := 3, opx := 3 }
        ∧ ((withCtx { loopsAside := some [] }).ctx k0).loopsAside = some [])
      ∧ (ReadyB (withCtx {}) k0 { ra := 3, opx := 0x108 } ∧ sysIndex { ra := 3, opx := 0x108 } 0x108) := by
  unfold ReadyB Ready readWord raWord sysIndex; decide +kernel

/-- A tile whose event queue is full. -/
def fullEvq : State := State.setTile (withCtx {}) 0 { (withCtx {}).tile 0 with evq := List.replicate 16 (0, 0) }

theorem witness_SystemInstructions :
    (ReadyB (withCtx {}) k0 { ra := 3 } ∧ raWord { ra := 3 } ∧ ((withCtx {}).tile k0.tile).evq.length < 16)
      ∧ (ReadyB fullEvq k0 { ra := 3 } ∧ 16 ≤ (fullEvq.tile k0.tile).evq.length)
      ∧ (ReadyB (withCtx {}) k0 { rd := 3 } ∧ readWord { rd := 3 } ∧ sysIndex { rd := 3 } 0 ∧ ((withCtx {}).ctx k0).issued + 1 < 2 ^ 48)
      ∧ (ReadyB (withCtx {}) k0 { rd := 3, opx := 4 } ∧ sysIndex { rd := 3, opx := 4 } 4)
      ∧ ReadyB (withCtx {}) k0 { ra := 15 }
      ∧ (ReadyB (withCtx {}) k0 { opx := 1023 } ∧ (withCtx {}).fenceDone k0 255 true true = true)
      ∧ (ReadyB (withCtx { moves := [⟨7, false, [], []⟩] }) k0 { opx := 0x80 }
        ∧ (withCtx { moves := [⟨7, false, [], []⟩] }).fenceDone k0 0x80 false false = false) := by
  unfold ReadyB Ready readWord raWord sysIndex; decide +kernel

end Sys2Proof.Tests
end

section
/-! The canonical form is an invariant: every command of the table keeps it, and so does the tick of an empty queue. Each
command has one lemma, whose proof follows the branches of its meaning and cites, for the state each branch answers, the
laws of the operations that lead to it. -/

namespace Sys2Proof.Machine

open State

variable {s : State}

/-- Where a meaning goes on, the next state is in canonical form. -/
def Kept (o : Out) : Prop := ∀ t, o = .next t → Canonical t

theorem kept_done {s t : State} (h : Canonical t) : Kept (done s t) := by
  intro u e
  cases e
  exact h

theorem kept_ite {c : Prop} {_ : Decidable c} {a b : Out} (ha : Kept a) (hb : Kept b) : Kept (if c then a else b) := by
  split <;> assumption

/-- An update of other fields keeps the canonical form. -/
theorem Canonical.upd {p f l kn ti po rt mm hub brm tm sv se pw} (h : Canonical s) :
    Canonical ⟨p, f, l, s.mem, s.ctl, s.slice, kn, ti, po, rt, mm, hub, brm, tm, sv, se, pw⟩ := h

theorem Canonical.fset {o : Nat} {f : Fld} {n : Nat} (h : Canonical s) : Canonical (s.fset o f n) :=
  fset_canonical o f n h

theorem Canonical.setReg {o : Nat} {v : W64} (h : Canonical s) : Canonical (s.setReg o v) := setReg_canonical o v h

/-- An atomic that its home slice carries out. -/
theorem atomHere_ok_canonical {b op n v c die m : Nat} {sg bf : Bool} {t : State} (hs : Canonical s)
    (h : s.atomHere b op n sg bf v c die = .ok t m) : Canonical t := by
  unfold atomHere at h
  split at h
  · split at h
    · cases h; exact setCell_canonical hs ..
    · cases h
  · split at h
    · cases h
    · split at h
      · cases h
      · split at h
        · rename_i u hu
          cases h
          exact setBytes_canonical (canonical_some (touch_canonical hs _ _ _) hu) ..
        · cases h

/-! ### Machine/Fabric.lean -/

theorem execPortLaneFail_kept (hs : Canonical s) {p lane} : Kept (execPortLaneFail p lane s) := by
  unfold execPortLaneFail
  refine kept_ite ?_ ?_
  · extract_lets +onlyGivenNames v s1
    have hs1 : Canonical s1 := setPort_canonical hs ..
    exact kept_ite (kept_done (portDown_canonical hs1 ..)) (kept_done (retrain_canonical hs1 _))
  · exact kept_done hs

theorem execPortRetrainDone_kept (hs : Canonical s) {p} : Kept (execPortRetrainDone p s) :=
  kept_ite (kept_done (reroute_canonical (setLanes_canonical hs _).fset)) (kept_done hs)

theorem execPortRetrainTimeout_kept (hs : Canonical s) {p} : Kept (execPortRetrainTimeout p s) :=
  kept_ite (kept_done (portDown_canonical hs ..)) (kept_done hs)

theorem execPortRxSilence_kept (hs : Canonical s) {p} : Kept (execPortRxSilence p s) :=
  kept_ite (kept_done (retrain_canonical hs _)) (kept_done hs)

theorem execLinkFrameReceive_kept (hs : Canonical s) {p f} : Kept (execLinkFrameReceive p f s) :=
  kept_done (linkFrame_canonical hs ..)

theorem execPortFiArm_kept (hs : Canonical s) {p v} : Kept (execPortFiArm p v s) :=
  kept_done (fiArm_canonical hs ..)

theorem execPortFiStop_kept (hs : Canonical s) {p} : Kept (execPortFiStop p s) :=
  kept_done hs.fset

theorem execFiDelayExpire_kept (hs : Canonical s) {p} : Kept (execFiDelayExpire p s) := by
  unfold execFiDelayExpire
  extract_lets +onlyGivenNames v
  split
  · exact kept_ite (kept_done (onLink_canonical (setPort_canonical hs ..) ..)) (kept_done hs)
  · exact kept_done hs

theorem execPacketTransit_kept (hs : Canonical s) {x} : Kept (execPacketTransit x s) := by
  unfold execPacketTransit
  split
  · exact kept_ite (kept_done (forward_canonical (popIn_canonical hs _) ..)) (kept_done hs)
  · exact kept_done hs

theorem execPacketEscape_kept (hs : Canonical s) {p vc} : Kept (execPacketEscape p vc s) := by
  unfold execPacketEscape
  extract_lets +onlyGivenNames esc
  split
  · refine kept_ite ?_ (kept_done hs)
    extract_lets +onlyGivenNames s1 q
    have hs1 : Canonical s1 := bump_canonical (setOutq_canonical hs ..) ..
    split
    · exact kept_done (toOutq_canonical hs1 ..)
    · exact kept_done (lostPacket_canonical hs1 _)
  · exact kept_done hs

theorem execSyncDrainExpire_kept (hs : Canonical s) {slot} : Kept (execSyncDrainExpire slot s) :=
  kept_ite (kept_done (canonical_foldl hs.upd (fun _ _ hs => emit_canonical hs _))) (kept_done hs)

theorem execPacketBadTypeReceive_kept (hs : Canonical s) {x} : Kept (execPacketBadTypeReceive x s) := by
  unfold execPacketBadTypeReceive
  split
  · refine kept_ite ?_ ?_
    · extract_lets +onlyGivenNames s1
      have hs1 : Canonical s1 := violate_canonical (nak_canonical (popIn_canonical hs _) ..) ..
      exact kept_done (event_canonical hs1 ..)
    · exact kept_done hs
  · exact kept_done hs

theorem execCnpReceive_kept (hs : Canonical s) {x} : Kept (execCnpReceive x s) := by
  unfold execCnpReceive
  split
  · rename_i t _ _ h
    have ht := canonical_fst (take_canonical hs ..) h
    exact kept_ite (kept_done (malformed_canonical ht ..)) (kept_done (echoFrom_canonical ht _))
  · rename_i t h
    have ht := canonical_fst (take_canonical hs ..) h
    exact kept_done ht

theorem execCnpSend_kept (hs : Canonical s) {dev} : Kept (execCnpSend dev s) :=
  kept_ite (kept_done (send_canonical (bump_canonical hs.upd ..) _)) (kept_done hs)

theorem execRateLimitRecover_kept (hs : Canonical s) {dev} : Kept (execRateLimitRecover dev s) := by
  unfold execRateLimitRecover
  extract_lets +onlyGivenNames rec'
  split
  · refine kept_ite ?_ ?_
    · exact kept_ite (kept_done (setLimiter_canonical hs ..)) (kept_done (setLimiter_canonical hs ..))
    · exact kept_done hs
  · exact kept_done hs

theorem execFabProbe_kept (hs : Canonical s) {v} : Kept (execFabProbe v s) :=
  kept_done (send_canonical hs.upd _)

theorem execProbeReceive_kept (hs : Canonical s) {x} : Kept (execProbeReceive x s) := by
  unfold execProbeReceive
  split
  · rename_i t _ _ h
    have ht := canonical_fst (take_canonical hs ..) h
    refine kept_ite (kept_done (violate_canonical ht ..)) ?_
    refine kept_ite (kept_ite (kept_done ht.fset.fset.fset.fset.fset) (kept_done (probeDrop_canonical ht))) ?_
    exact kept_ite (kept_done (probeDrop_canonical ht)) (kept_done (send_canonical (setPort_canonical ht ..) _))
  · rename_i t h
    have ht := canonical_fst (take_canonical hs ..) h
    exact kept_done ht

theorem execCircSetupReceive_kept (hs : Canonical s) {x} : Kept (execCircSetupReceive x s) := by
  unfold execCircSetupReceive
  split
  · refine kept_ite ?_ (kept_done hs)
    refine kept_ite ?_ (kept_done (circSetup_canonical (popIn_canonical hs _) ..))
    split
    · rename_i t _ _ h
      have ht := canonical_fst (screen_canonical hs ..) h
      exact kept_done (circSetup_canonical ht ..)
    · rename_i t h
      have ht := canonical_fst (screen_canonical hs ..) h
      exact kept_done ht
  · exact kept_done hs

theorem execCircTearReceive_kept (hs : Canonical s) {x} : Kept (execCircTearReceive x s) := by
  unfold execCircTearReceive
  split
  · refine kept_ite ?_ (kept_done hs)
    refine kept_ite ?_ (kept_done (circTear_canonical (popIn_canonical hs _) ..))
    split
    · rename_i t _ _ h
      have ht := canonical_fst (screen_canonical hs ..) h
      exact kept_done (circTear_canonical ht ..)
    · rename_i t h
      have ht := canonical_fst (screen_canonical hs ..) h
      exact kept_done ht
  · exact kept_done hs

theorem execCircSetupTimeout_kept (hs : Canonical s) {cid} : Kept (execCircSetupTimeout cid s) := by
  unfold execCircSetupTimeout
  split
  · exact kept_ite (kept_done (tearOwn_canonical hs _)) (kept_done hs)
  · exact kept_done hs

theorem execCircRefresh_kept (hs : Canonical s) {cid} : Kept (execCircRefresh cid s) := by
  unfold execCircRefresh
  split
  · exact kept_ite (kept_done (toOutq_canonical (useCirc_canonical hs ..) ..)) (kept_done hs)
  · exact kept_done hs

theorem execCircLeaseExpire_kept (hs : Canonical s) {p c} : Kept (execCircLeaseExpire p c s) :=
  kept_ite (kept_done (bump_canonical (freeCirc_canonical hs ..) ..).upd) (kept_done hs)

theorem execHitchCastReceive_kept (hs : Canonical s) {x} : Kept (execHitchCastReceive x s) := by
  unfold execHitchCastReceive
  split
  · refine kept_ite ?_ (kept_done hs)
    refine kept_ite ?_ ?_
    · extract_lets +onlyGivenNames t
      have ht : Canonical t := noteMarks_canonical (popIn_canonical hs _) ..
      exact kept_ite (kept_done ht) (kept_done (deliverInner_canonical ht _))
    · refine kept_ite ?_ (kept_done hs)
      extract_lets +onlyGivenNames t
      have ht : Canonical t := noteMarks_canonical (popIn_canonical hs _) ..
      refine kept_ite (kept_done (nak_canonical (event_canonical ht ..) ..)) ?_
      split
      · rename_i _ t h
        have ht := canonical_snd (seqCheck_canonical ht _) h
        refine kept_ite (kept_done (nak_canonical (bump_canonical ht ..) ..)) ?_
        refine kept_ite (kept_done (nak_canonical ht ..)) ?_
        refine kept_ite ?_ ?_
        · refine kept_ite (kept_done (deliverInner_canonical ht _)) ?_
          exact kept_done (castFrom_canonical (deliverInner_canonical ht _) ..)
        · exact kept_done (nak_canonical ht ..)
  · exact kept_done hs

/-! ### Machine/Gloves.lean -/

theorem execAdmitGraph_kept (hs : Canonical s) {n} : Kept (execAdmitGraph n s) :=
  kept_done (admitGraph_canonical hs _)

theorem execAdmitStall_kept (hs : Canonical s) {n} : Kept (execAdmitStall n s) := by
  unfold execAdmitStall
  split
  · exact kept_ite (kept_done (faultGlove_canonical hs ..)) (kept_done hs)
  · exact kept_done hs

theorem execTaskDispatch_kept (hs : Canonical s) : Kept (execTaskDispatch s) := by
  unfold execTaskDispatch
  refine kept_ite ?_ (kept_done hs)
  split
  · split
    · exact kept_done (place_canonical hs ..)
    · exact kept_done hs
  · exact kept_done hs

theorem execTaskMaxrunExceeded_kept (hs : Canonical s) {q} : Kept (execTaskMaxrunExceeded q s) := by
  unfold execTaskMaxrunExceeded
  split
  · split
    · exact kept_ite (kept_done (event_canonical (setTask_canonical hs ..) ..)) (kept_done hs)
    · exact kept_done hs
  · exact kept_done hs

theorem execTaskWatchdog_kept (hs : Canonical s) {q} : Kept (execTaskWatchdog q s) := by
  unfold execTaskWatchdog
  split
  · split
    · exact kept_ite (kept_done (faultGlove_canonical hs ..)) (kept_done hs)
    · exact kept_done hs
  · exact kept_done hs

theorem execKnotOpReceive_kept (hs : Canonical s) {x} : Kept (execKnotOpReceive x s) := by
  unfold execKnotOpReceive
  split
  · refine kept_ite ?_ (kept_done hs)
    refine kept_ite ?_ (kept_done (malformed_canonical (popIn_canonical hs _) ..))
    split
    · rename_i t _ _ h
      have ht := canonical_fst (screen_canonical hs ..) h
      exact kept_done (knotOp_canonical ht ..)
    · rename_i t h
      have ht := canonical_fst (screen_canonical hs ..) h
      exact kept_done ht
  · exact kept_done hs

theorem execKnotRel_kept (hs : Canonical s) {i v core} : Kept (execKnotRel i v core s) :=
  kept_ite (kept_done (event_canonical hs ..)) (kept_done (knotAdd_canonical hs ..))

theorem execKnotSvcWrite_kept (hs : Canonical s) {v} : Kept (execKnotSvcWrite v s) :=
  kept_ite (kept_done hs) (kept_done hs.fset.fset)

theorem execCreate_kept (hs : Canonical s) {n} : Kept (execCreate n s) :=
  kept_ite (kept_done (createNow_canonical hs _)) (kept_done (gstatus_canonical hs ..))

theorem execKnotJobctlClear_kept (hs : Canonical s) : Kept (execKnotJobctlClear s) :=
  kept_done (canonical_foldl hs (fun _ _ hs => hs.setReg.setReg)).upd

theorem execTeardown_kept (hs : Canonical s) {n} : Kept (execTeardown n s) := by
  unfold execTeardown
  refine kept_ite (kept_done (gstatus_canonical hs ..)) ?_
  exact kept_done (gstatus_canonical (faultGlove_canonical hs ..) ..)

theorem execGloveDrainDone_kept (hs : Canonical s) {n} : Kept (execGloveDrainDone n s) :=
  kept_ite (kept_done (revoke_canonical hs _).fset) (kept_done hs)

theorem execGloveScrubDone_kept (hs : Canonical s) {n} : Kept (execGloveScrubDone n s) := by
  unfold execGloveScrubDone
  refine kept_ite ?_ ?_
  · extract_lets +onlyGivenNames old s1 causes s12
    have hs1 : Canonical s1 := (scrub_canonical hs _).fset
    have hs12 : Canonical s12 := journal_canonical hs1 ..
    exact kept_done (setRecord_canonical hs12.upd.fset ..)
  · exact kept_done hs

/-! ### Machine/Matrix.lean -/

theorem execTileTestStart_kept (hs : Canonical s) {t} : Kept (execTileTestStart t s) :=
  kept_ite (kept_done hs.fset.fset.fset) (kept_done hs.fset)

theorem execTileSelfTestDone_kept (hs : Canonical s) {t map} : Kept (execTileSelfTestDone t map s) := by
  unfold execTileSelfTestDone
  refine kept_ite ?_ ?_
  · extract_lets +onlyGivenNames s1 all width s2
    have hs1 : Canonical s1 := hs.fset.setReg
    have hs2 : Canonical s2 :=
      canonical_ite hs1.fset (canonical_ite (event_canonical hs1.fset.setReg.fset ..) (event_canonical hs1.fset ..))
    exact kept_ite (kept_done (unfenceTile_canonical hs2 _)) (kept_done hs2)
  · exact kept_done hs

theorem execMma_kept (hs : Canonical s) {k w} : Kept (execMma k w s) :=
  kept_done (issueB_canonical hs _ _ _ _ (fun _ hs => mmaIssue_canonical hs _ _ _))

theorem execMmaNm_kept (hs : Canonical s) {k w} : Kept (execMmaNm k w s) :=
  kept_done (issueB_canonical hs _ _ _ _ (fun _ hs => mmaIssue_canonical hs _ _ _))

theorem execMmaComplete_kept (hs : Canonical s) {t f} : Kept (execMmaComplete t f s) := by
  unfold execMmaComplete
  split
  · exact kept_done hs
  · extract_lets +onlyGivenNames s1
    have hs1 : Canonical s1 := popQueue_canonical hs ..
    exact kept_ite (kept_done (mmaWrite_canonical hs1 ..)) (kept_done (arrayFault_canonical hs1 ..))

theorem execAccz_kept (hs : Canonical s) {k w} : Kept (execAccz k w s) := by
  unfold execAccz
  refine kept_done (issueB_canonical hs _ _ _ _ fun s hs => ?_)
  split
  · exact keptO_some (trap_canonical hs ..)
  · exact keptO_ite keptO_none (keptO_some (finish_canonical (dig_canonical (setTile_canonical hs ..) ..) ..))

theorem execAccmv_kept (hs : Canonical s) {k w} : Kept (execAccmv k w s) := by
  unfold execAccmv
  refine kept_done (issueB_canonical hs _ _ _ _ fun s hs => ?_)
  extract_lets +onlyGivenNames x
  split
  · exact keptO_some (trap_canonical hs ..)
  · refine keptO_ite (keptO_some (finish_canonical hs ..)) ?_
    refine keptO_ite keptO_none ?_
    exact keptO_some (putConverted_canonical hs _ _ _ _ _ (fun _ hs => finish_canonical hs ..))

/-! ### Machine/Vector.lean -/

theorem execVop_kept (hs : Canonical s) {k w} : Kept (execVop k w s) :=
  kept_done (issueB_canonical hs _ _ _ _ (fun _ hs => vecIssue_canonical hs _ _ _ _ _ _))

theorem execVbc_kept (hs : Canonical s) {k w} : Kept (execVbc k w s) :=
  kept_done (issueB_canonical hs _ _ _ _ (fun _ hs => vecIssue_canonical hs _ _ _ _ _ _))

theorem execVred_kept (hs : Canonical s) {k w} : Kept (execVred k w s) :=
  kept_done (issueB_canonical hs _ _ _ _ (fun _ hs => vecIssue_canonical hs _ _ _ _ _ _))

theorem execVcvt_kept (hs : Canonical s) {k w} : Kept (execVcvt k w s) :=
  kept_done (issueB_canonical hs _ _ _ _ (fun _ hs => vecIssue_canonical hs _ _ _ _ _ _))

theorem execVxa_kept (hs : Canonical s) {k w} : Kept (execVxa k w s) := by
  unfold execVxa
  refine kept_done ?_
  exact issueB_canonical hs _ _ _ _ (fun _ hs => keptO_ite keptO_none (vecIssue_canonical hs _ _ _ _ _ _))

theorem execLaceLd_kept (hs : Canonical s) {k w} : Kept (execLaceLd k w s) := by
  unfold execLaceLd
  refine kept_done (issueB_canonical hs _ _ _ _ fun s hs => ?_)
  refine keptO_ite (keptO_some (finish_canonical hs ..)) ?_
  refine keptO_ite keptO_none ?_
  refine keptO_ite (keptO_some (finish_canonical (mapCtx_canonical hs ..) ..)) ?_
  exact keptO_some (finish_canonical hs ..)

theorem execLaceRun_kept (hs : Canonical s) {k w} : Kept (execLaceRun k w s) :=
  kept_done (issueB_canonical hs _ _ _ _ (fun _ hs => vecIssue_canonical hs _ _ _ _ _ _))

theorem execVecInstrComplete_kept (hs : Canonical s) {t f} : Kept (execVecInstrComplete t f s) := by
  unfold execVecInstrComplete
  split
  · exact kept_done hs
  · extract_lets +onlyGivenNames s1
    have hs1 : Canonical s1 := popQueue_canonical hs ..
    split
    · exact kept_done (vecEnd_canonical hs1 ..)
    · exact kept_done (fenceTile_canonical (event_canonical (bump_canonical hs1 ..) ..) _)

/-! ### Machine/Sparse.lean -/

theorem execSpenc_kept (hs : Canonical s) {k w} : Kept (execSpenc k w s) := by
  unfold execSpenc
  refine kept_done (issueB_canonical hs _ _ _ _ fun s hs => ?_)
  refine keptO_ite (keptO_some (finish_canonical hs ..)) ?_
  exact keptO_ite keptO_none (keptO_some (finish_canonical (enqueue_canonical hs ..) ..))

theorem execSpdec_kept (hs : Canonical s) {k w} : Kept (execSpdec k w s) := by
  unfold execSpdec
  refine kept_done (issueB_canonical hs _ _ _ _ fun s hs => ?_)
  refine keptO_ite keptO_none ?_
  refine keptO_ite (keptO_some (finish_canonical hs ..)) ?_
  exact keptO_ite keptO_none (keptO_some (finish_canonical (enqueue_canonical hs ..) ..))

theorem execSpmm_kept (hs : Canonical s) {k w} : Kept (execSpmm k w s) :=
  kept_done (issueB_canonical hs _ _ _ _ (fun _ hs => spmmIssue_canonical hs _ _))

theorem execSpmInstrComplete_kept (hs : Canonical s) {t f} : Kept (execSpmInstrComplete t f s) := by
  unfold execSpmInstrComplete
  split
  · exact kept_done hs
  · extract_lets +onlyGivenNames s1
    have hs1 : Canonical s1 := popQueue_canonical hs ..
    split
    · refine kept_ite (kept_done (spmmRun_canonical hs1 ..)) ?_
      exact kept_ite (kept_done (spencRun_canonical hs1 ..)) (kept_done (spdecRun_canonical hs1 ..))
    · exact kept_done (fenceTile_canonical (event_canonical (bump_canonical hs1 ..) ..) _)

/-! ### Machine/Scalar.lean -/

theorem execBr_kept (hs : Canonical s) {k w} : Kept (execBr k w s) := by
  unfold execBr
  refine kept_done ?_
  exact issueA_canonical hs _ _ _ _ (fun _ hs => canonical_ite (goto_canonical hs ..) (goto_canonical hs ..))

theorem execBrc_kept (hs : Canonical s) {k w} : Kept (execBrc k w s) := by
  unfold execBrc
  refine kept_done ?_
  exact issueA_canonical hs _ _ _ _ (fun _ hs => canonical_ite (goto_canonical hs ..) (advance_canonical hs _))

theorem execLoop_kept (hs : Canonical s) {k w} : Kept (execLoop k w s) := by
  unfold execLoop
  refine kept_done (issueA_canonical hs _ _ _ _ fun s hs => ?_)
  exact canonical_ite (trap_canonical hs ..) (canonical_ite (mapCtx_canonical hs ..) (mapCtx_canonical hs ..))

theorem execYield_kept (hs : Canonical s) {k w} : Kept (execYield k w s) := by
  unfold execYield
  refine kept_done ?_
  exact issueA_canonical hs _ _ _ _ (fun _ hs => join_canonical (leave_canonical (advance_canonical hs _) _) _)

theorem execTrap_kept (hs : Canonical s) {k w} : Kept (execTrap k w s) :=
  kept_done (issueA_canonical hs _ _ _ _ (fun _ hs => trap_canonical hs ..))

theorem execAdd_kept (hs : Canonical s) {k w} : Kept (execAdd k w s) :=
  kept_done (alu_canonical hs ..)

theorem execSub_kept (hs : Canonical s) {k w} : Kept (execSub k w s) :=
  kept_done (alu_canonical hs ..)

theorem execMul_kept (hs : Canonical s) {k w} : Kept (execMul k w s) :=
  kept_done (alu_canonical hs ..)

theorem execAnd_kept (hs : Canonical s) {k w} : Kept (execAnd k w s) :=
  kept_done (alu_canonical hs ..)

theorem execOr_kept (hs : Canonical s) {k w} : Kept (execOr k w s) :=
  kept_done (alu_canonical hs ..)

theorem execXor_kept (hs : Canonical s) {k w} : Kept (execXor k w s) :=
  kept_done (alu_canonical hs ..)

theorem execShl_kept (hs : Canonical s) {k w} : Kept (execShl k w s) :=
  kept_done (alu_canonical hs ..)

theorem execShr_kept (hs : Canonical s) {k w} : Kept (execShr k w s) :=
  kept_done (alu_canonical hs ..)

theorem execCmp_kept (hs : Canonical s) {k w} : Kept (execCmp k w s) :=
  kept_done (issueA_canonical hs _ _ _ _ (fun _ hs => advance_canonical (mapCtx_canonical hs ..) _))

theorem execMovi_kept (hs : Canonical s) {k w} : Kept (execMovi k w s) :=
  kept_done (issueA_canonical hs _ _ _ _ (fun _ hs => advance_canonical (mapCtx_canonical hs ..) _))

theorem execTdset_kept (hs : Canonical s) {k w} : Kept (execTdset k w s) := by
  unfold execTdset
  refine kept_done (issueB_canonical hs _ _ _ _ fun s hs => ?_)
  extract_lets +onlyGivenNames x a use
  have huse : ∀ t x1, Canonical t → Canonical (use t x1) :=
    fun _ _ ht => canonical_ite (finish_canonical (mapCtx_canonical ht ..) ..) (finish_canonical ht ..)
  refine keptO_ite ?_ ?_
  · exact keptO_ite (keptO_some (finish_canonical hs ..)) (keptO_ite keptO_none (keptO_some (huse _ _ hs)))
  · refine keptO_ite keptO_none ?_
    cases s.syncBytes _ _ _ with
    | none => exact keptO_some (memFault_canonical hs ..)
    | some bs =>
      cases h : s.touchRange _ _ _ _ _ with
      | none => exact keptO_some (memFault_canonical hs ..)
      | some t => exact keptO_some (huse _ _ (canonical_some (touchRange_canonical hs _ _ _ _ _) h))

theorem execTdadv_kept (hs : Canonical s) {k w} : Kept (execTdadv k w s) := by
  unfold execTdadv
  refine kept_done (issueB_canonical hs _ _ _ _ fun s hs => ?_)
  extract_lets +onlyGivenNames x n
  split
  · exact keptO_some (finish_canonical (mapCtx_canonical hs ..) ..)
  · exact keptO_some (finish_canonical hs ..)

theorem execCsrr_kept (hs : Canonical s) {k w} : Kept (execCsrr k w s) :=
  kept_done (issueB_canonical hs _ _ _ _ (fun _ hs => keptO_some (result_canonical hs ..)))

theorem execCsrw_kept (hs : Canonical s) {k w} : Kept (execCsrw k w s) := by
  unfold execCsrw
  refine kept_done (issueB_canonical hs _ _ _ _ fun s hs => ?_)
  refine keptO_ite (keptO_some (finish_canonical (mapCtx_canonical hs ..) ..)) ?_
  exact keptO_some (finish_canonical hs ..)

theorem execEvt_kept (hs : Canonical s) {k w} : Kept (execEvt k w s) := by
  unfold execEvt
  refine kept_done (issueB_canonical hs _ _ _ _ fun s hs => ?_)
  refine keptO_ite (keptO_some (finish_canonical hs ..)) ?_
  extract_lets +onlyGivenNames s2
  have hs2 : Canonical s2 := setTile_canonical hs ..
  exact keptO_some (finish_canonical hs2 ..)

theorem execPerf_kept (hs : Canonical s) {k w} : Kept (execPerf k w s) := by
  unfold execPerf
  refine kept_done (issueB_canonical hs _ _ _ _ fun s hs => ?_)
  exact keptO_ite (keptO_some (result_canonical hs ..)) (keptO_some (result_canonical hs.upd ..))

/-! ### Machine/Pod.lean -/

theorem execLd_kept (hs : Canonical s) {k w} : Kept (execLd k w s) := by
  unfold execLd
  refine kept_done (issueB_canonical hs _ _ _ _ fun s hs => ?_)
  extract_lets +onlyGivenNames x a n give
  have hgive : ∀ t x1, Canonical t → Canonical (give t x1) := fun _ _ ht => result_canonical ht ..
  refine keptO_ite (keptO_some (trap_canonical hs ..)) ?_
  refine keptO_ite ?_ ?_
  · exact keptO_ite (keptO_some (finish_canonical hs ..)) (keptO_ite keptO_none (keptO_some (hgive _ _ hs)))
  · refine keptO_ite keptO_none ?_
    split
    · exact keptO_some (memFault_canonical hs ..)
    · refine keptO_ite ?_ ?_
      · exact keptO_ite (keptO_some (sendLoad_canonical hs ..)) (keptO_some (finish_canonical hs ..))
      · refine keptO_ite (keptO_ite (keptO_some (hgive _ _ hs)) (keptO_some (finish_canonical hs ..))) ?_
        refine keptO_ite (keptO_some (memFault_canonical hs ..)) ?_
        split
        · rename_i t h
          have ht := canonical_some (touch_canonical hs _ _ _) h
          exact keptO_some (hgive _ _ ht)
        · exact keptO_some (memFault_canonical hs ..)

theorem execSt_kept (hs : Canonical s) {k w} : Kept (execSt k w s) := by
  unfold execSt
  refine kept_done (issueB_canonical hs _ _ _ _ fun s hs => ?_)
  refine keptO_ite (keptO_some (trap_canonical hs ..)) ?_
  refine keptO_ite ?_ ?_
  · refine keptO_ite (keptO_some (finish_canonical hs ..)) ?_
    exact keptO_ite keptO_none (keptO_some (finish_canonical (setTile_canonical hs ..) ..))
  · refine keptO_ite keptO_none ?_
    split
    · exact keptO_some (memFault_canonical hs ..)
    · refine keptO_ite ?_ ?_
      · refine keptO_ite (keptO_some (finish_canonical (sendStore_canonical hs ..) ..)) ?_
        exact keptO_some (finish_canonical hs ..)
      · refine keptO_ite ?_ ?_
        · split
          · exact keptO_some (finish_canonical (setCell_canonical hs ..) ..)
          · exact keptO_some (finish_canonical hs ..)
        · split
          · rename_i t h
            have ht := canonical_some (touch_canonical hs _ _ _) h
            exact keptO_some (finish_canonical (setBytes_canonical ht ..) ..)
          · exact keptO_some (memFault_canonical hs ..)

theorem execAtom_kept (hs : Canonical s) {k w} : Kept (execAtom k w s) := by
  unfold execAtom
  refine kept_done (issueB_canonical hs _ _ _ _ fun s hs => ?_)
  refine keptO_ite (keptO_some (trap_canonical hs ..)) ?_
  refine keptO_ite keptO_none ?_
  split
  · exact keptO_some (memFault_canonical hs ..)
  · refine keptO_ite ?_ ?_
    · refine keptO_ite (keptO_some (finish_canonical hs ..)) ?_
      extract_lets +onlyGivenNames ret d
      split
      rename_i _ t h
      have ht := canonical_snd (newReq_canonical hs ..) h
      exact keptO_some (sendFor_canonical (mapCtx_canonical ht ..) ..)
    · split
      · rename_i t _ h
        exact keptO_some (result_canonical (atomHere_ok_canonical hs h) ..)
      · exact keptO_some (finish_canonical hs ..)
      · exact keptO_some (memFault_canonical hs ..)

theorem execFence_kept (hs : Canonical s) {k w} : Kept (execFence k w s) := by
  unfold execFence
  refine kept_done (issueB_canonical hs _ _ _ _ fun s hs => ?_)
  exact keptO_ite (keptO_some (advance_canonical hs _)) (keptO_some (leave_canonical (mapCtx_canonical hs ..) _))

theorem execLdt_kept (hs : Canonical s) {k w} : Kept (execLdt k w s) :=
  kept_done (issueB_canonical hs _ _ _ _ (fun _ hs => startMove_canonical hs _ _ _))

theorem execStt_kept (hs : Canonical s) {k w} : Kept (execStt k w s) :=
  kept_done (issueB_canonical hs _ _ _ _ (fun _ hs => startMove_canonical hs _ _ _))

theorem execPref_kept (hs : Canonical s) {k w} : Kept (execPref k w s) :=
  kept_done (issueB_canonical hs _ _ _ _ (fun _ hs => keptO_some (advance_canonical hs _)))

theorem execMoveComplete_kept (hs : Canonical s) {k j} : Kept (execMoveComplete k j s) := by
  unfold execMoveComplete
  extract_lets +onlyGivenNames x
  split
  · refine kept_ite (kept_done hs) ?_
    extract_lets +onlyGivenNames d a t t2
    have ht : Canonical t := copySpans_canonical hs ..
    have ht2 : Canonical t2 := mapCtx_canonical ht ..
    exact kept_done (recheck_canonical ht2 _)
  · exact kept_done hs

theorem execStoreReceive_kept (hs : Canonical s) {x} : Kept (execStoreReceive x s) := by
  unfold execStoreReceive
  refine kept_done (receive_canonical hs _ _ _ _ _ fun s _ _ hs => ?_)
  extract_lets +onlyGivenNames a code b tag reply
  have hreply : ∀ t, Canonical t → Canonical (reply t) := fun _ ht => ack_canonical ht.upd ..
  refine canonical_ite (nak_canonical hs ..) ?_
  refine canonical_ite ?_ ?_
  · split
    · exact hreply _ (setCell_canonical hs ..)
    · exact nak_canonical hs ..
  · split
    · rename_i t h
      have ht := canonical_some (setVbytes_canonical hs _ _ _) h
      exact hreply _ ht
    · exact memFault_canonical hs ..

theorem execLoadReqReceive_kept (hs : Canonical s) {x} : Kept (execLoadReqReceive x s) := by
  unfold execLoadReqReceive
  refine kept_done (receive_canonical hs _ _ _ _ _ fun s _ _ hs => ?_)
  extract_lets +onlyGivenNames a len tag code b reply
  have hreply : ∀ t x1 x2, Canonical t → Canonical (reply t x1 x2) := fun _ _ _ ht => send_canonical ht _
  refine canonical_ite (nak_canonical hs ..) ?_
  refine canonical_ite (hreply _ _ _ hs) ?_
  split
  · rename_i t h
    have ht := canonical_some (touch_canonical hs _ _ _) h
    exact hreply _ _ _ ht
  · exact memFault_canonical hs ..

theorem execAtomicReceive_kept (hs : Canonical s) {x} : Kept (execAtomicReceive x s) := by
  unfold execAtomicReceive
  refine kept_done (receive_canonical hs _ _ _ _ _ fun s _ _ hs => ?_)
  refine canonical_ite (nak_canonical hs ..) ?_
  split
  · rename_i t _ h
    have ht := atomHere_ok_canonical hs h
    exact canonical_ite (send_canonical ht _) (ack_canonical ht ..)
  · exact nak_canonical hs ..
  · exact memFault_canonical hs ..

theorem execLoadRspReceive_kept (hs : Canonical s) {x} : Kept (execLoadRspReceive x s) := by
  unfold execLoadRspReceive
  refine kept_done (receive_canonical hs _ _ _ _ _ fun s _ _ hs => ?_)
  extract_lets +onlyGivenNames tag mine
  split
  · exact hs
  · refine canonical_ite ?_ ?_
    · extract_lets +onlyGivenNames s2
      have hs2 : Canonical s2 := by
        unfold s2
        split
        · exact mapCtx_canonical hs ..
        · exact hs
      exact answered_canonical hs2 ..
    · exact endLoad_canonical (answered_canonical hs ..) _ _ (fun _ _ hs => result_canonical hs ..)

theorem execPodRspTimeout_kept (hs : Canonical s) {tag} : Kept (execPodRspTimeout tag s) := by
  unfold execPodRspTimeout
  split
  · exact kept_done (refusedReq_canonical hs ..)
  · exact kept_done hs

theorem execRgnCommit_kept (hs : Canonical s) {i} : Kept (execRgnCommit i s) := by
  unfold execRgnCommit
  extract_lets gl bad
  exact kept_ite (kept_done (rgnStatus_canonical hs ..)) (kept_done (rgnStatus_canonical hs.fset ..))

theorem execRgnClear_kept (hs : Canonical s) {i} : Kept (execRgnClear i s) :=
  kept_done (rgnStatus_canonical hs.fset.fset.upd ..)

theorem execRgnTransfer_kept (hs : Canonical s) {i owner knot} : Kept (execRgnTransfer i owner knot s) :=
  kept_ite (kept_done hs.fset.fset.fset.fset.upd) (kept_done hs.fset.fset.fset.fset)

theorem execRgnTransferFlushed_kept (hs : Canonical s) {i} : Kept (execRgnTransferFlushed i s) := by
  unfold execRgnTransferFlushed
  split
  · exact kept_ite (kept_done hs) (kept_done (send_canonical hs.upd _))
  · exact kept_done hs

theorem execOwnXferReceive_kept (hs : Canonical s) {x} : Kept (execOwnXferReceive x s) := by
  unfold execOwnXferReceive
  refine kept_done (receive_canonical hs _ _ _ _ _ fun s _ _ hs => ?_)
  extract_lets +onlyGivenNames base
  split
  · refine canonical_ite ?_ ?_
    · extract_lets +onlyGivenNames q s2 s3
      have hs2 : Canonical s2 := (setOwner_canonical hs ..).fset
      have hs3 : Canonical s3 := send_canonical hs2 _
      exact send_canonical hs3 _
    · exact nak_canonical hs ..
  · exact nak_canonical hs ..

theorem execOwnGrantReceive_kept (hs : Canonical s) {x} : Kept (execOwnGrantReceive x s) := by
  unfold execOwnGrantReceive
  refine kept_done (receive_canonical hs _ _ _ _ _ fun s _ _ hs => ?_)
  extract_lets +onlyGivenNames base
  split
  · extract_lets +onlyGivenNames s2 k
    have hs2 : Canonical s2 := (setOwner_canonical hs ..).fset
    exact canonical_ite (engineAdd_canonical hs2 ..) hs2
  · exact event_canonical hs ..

theorem execOwnDoneReceive_kept (hs : Canonical s) {x} : Kept (execOwnDoneReceive x s) := by
  unfold execOwnDoneReceive
  refine kept_done (receive_canonical hs _ _ _ _ _ fun s _ _ hs => ?_)
  split
  · exact endXfer_canonical (setOwner_canonical hs ..).fset ..
  · exact hs

theorem execOwnXferTimeout_kept (hs : Canonical s) {i} : Kept (execOwnXferTimeout i s) := by
  unfold execOwnXferTimeout
  split
  · exact kept_ite (kept_done (endXfer_canonical hs ..)) (kept_done hs)
  · exact kept_done hs

/-! ### Machine/Transfer.lean -/

theorem execTransferRspTimeout_kept (hs : Canonical s) {xid} : Kept (execTransferRspTimeout xid s) := by
  unfold execTransferRspTimeout
  split
  · exact kept_ite (kept_done (endTransfer_canonical hs ..)) (kept_done hs)
  · exact kept_done hs

theorem execPut_kept (hs : Canonical s) {k w} : Kept (execPut k w s) :=
  kept_done (transfer_canonical hs ..)

theorem execGet_kept (hs : Canonical s) {k w} : Kept (execGet k w s) :=
  kept_done (transfer_canonical hs ..)

theorem execPutReceive_kept (hs : Canonical s) {x} : Kept (execPutReceive x s) := by
  unfold execPutReceive
  refine kept_done (receive_canonical hs _ _ _ _ _ fun s _ _ hs => ?_)
  refine canonical_ite (nak_canonical hs ..) ?_
  refine canonical_ite (nak_canonical hs ..) ?_
  split
  · exact memFault_canonical hs ..
  · rename_i s h
    have hs := canonical_some (setVbytes_canonical hs _ _ _) h
    extract_lets +onlyGivenNames s2
    have hs2 : Canonical s2 := canonical_ite (engineAdd_canonical hs ..) hs
    exact ack_canonical hs2 ..

theorem execGetReqReceive_kept (hs : Canonical s) {x} : Kept (execGetReqReceive x s) := by
  unfold execGetReqReceive
  refine kept_done (receive_canonical hs _ _ _ _ _ fun s _ _ hs => ?_)
  refine canonical_ite (nak_canonical hs ..) ?_
  split
  · exact memFault_canonical hs ..
  · rename_i s h
    have hs := canonical_some (touchRange_canonical hs _ _ _ _ _) h
    extract_lets +onlyGivenNames off s2
    have hs2 : Canonical s2 := hs.upd
    exact send_canonical hs2 _

theorem execGetRspReceive_kept (hs : Canonical s) {x} : Kept (execGetRspReceive x s) := by
  unfold execGetRspReceive
  refine kept_done (receive_canonical hs _ _ _ _ _ fun s _ _ hs => ?_)
  extract_lets +onlyGivenNames xid offOf
  split
  · split
    · split
      · rename_i u h
        have hu := canonical_some (setVbytes_canonical hs _ _ _) h
        exact chunkDone_canonical hu ..
      · exact memFault_canonical hs ..
    · exact nak_canonical hs ..
  · exact nak_canonical hs ..

theorem execPortOutputSend_kept (hs : Canonical s) {p} : Kept (execPortOutputSend p s) :=
  kept_done (castsDone_canonical (outputSend_canonical hs _))

/-! ### Machine/Tasks.lean -/

theorem execKarrive_kept (hs : Canonical s) {k w} : Kept (execKarrive k w s) := by
  unfold execKarrive
  refine kept_done ?_
  exact issueB_canonical hs _ _ _ _ (fun _ hs => keptO_ite (keptO_some (increment_canonical hs ..)) keptO_none)

theorem execKadd_kept (hs : Canonical s) {k w} : Kept (execKadd k w s) := by
  unfold execKadd
  refine kept_done (issueB_canonical hs _ _ _ _ fun s hs => ?_)
  refine keptO_ite ?_ ?_
  · exact keptO_ite (keptO_some (finish_canonical hs ..)) (keptO_some (increment_canonical hs ..))
  · exact keptO_none

theorem execKset_kept (hs : Canonical s) {k w} : Kept (execKset k w s) := by
  unfold execKset
  refine kept_done (issueB_canonical hs _ _ _ _ fun s hs => ?_)
  refine keptO_ite ?_ keptO_none
  extract_lets +onlyGivenNames x c t
  split
  · refine keptO_ite (keptO_some (finish_canonical hs ..)) ?_
    exact keptO_some (finish_canonical (knotSet_canonical (dig_canonical hs ..) ..) ..)
  · exact keptO_some (finish_canonical hs ..)

theorem execKwait_kept (hs : Canonical s) {k w} : Kept (execKwait k w s) := by
  unfold execKwait
  refine kept_done (issueB_canonical hs _ _ _ _ fun s hs => ?_)
  refine keptO_ite ?_ keptO_none
  extract_lets +onlyGivenNames x t
  split
  · refine keptO_ite (keptO_some (finish_canonical hs ..)) ?_
    refine keptO_ite ?_ ?_
    · extract_lets +onlyGivenNames s2
      have hs2 : Canonical s2 := by
        unfold s2
        split
        · exact taintTask_canonical hs ..
        · exact hs
      exact keptO_some (finish_canonical hs2 ..)
    · extract_lets +onlyGivenNames s2 due
      have hs2 : Canonical s2 := setKnot_canonical hs ..
      exact keptO_some (leave_canonical (mapCtx_canonical hs2 ..) _)
  · exact keptO_some (finish_canonical hs ..)

theorem execKwaitTimeout_kept (hs : Canonical s) {k} : Kept (execKwaitTimeout k s) := by
  unfold execKwaitTimeout
  split
  · refine kept_ite (kept_done (finish_canonical (resume_canonical (dropWaiter_canonical hs ..) _) ..)) ?_
    exact kept_done hs
  · exact kept_done hs

theorem execKat_kept (hs : Canonical s) {k w} : Kept (execKat k w s) := by
  unfold execKat
  refine kept_done (issueB_canonical hs _ _ _ _ fun s hs => ?_)
  refine keptO_ite (keptO_some (finish_canonical hs ..)) ?_
  exact keptO_ite (keptO_some (finish_canonical hs ..)) (keptO_some (leave_canonical (mapCtx_canonical hs ..) _))

theorem execKatWake_kept (hs : Canonical s) {k} : Kept (execKatWake k s) := by
  unfold execKatWake
  split
  · exact kept_ite (kept_done (finish_canonical (resume_canonical hs _) ..)) (kept_done hs)
  · exact kept_done hs

theorem execPalloc_kept (hs : Canonical s) {k w} : Kept (execPalloc k w s) := by
  unfold execPalloc
  refine kept_done (issueB_canonical hs _ _ _ _ fun s hs => ?_)
  refine keptO_ite (keptO_some (finish_canonical hs ..)) ?_
  refine keptO_ite (keptO_some (finish_canonical hs ..)) ?_
  refine keptO_ite (keptO_some (faultGlove_canonical hs ..)) ?_
  obtain ⟨hbroken, hbuf⟩ := poolTake_canonical hs ((s.ctx k).gr w.ra.toNat).toNat
  split
  · exact keptO_some (finish_canonical hs ..)
  · rename_i t h
    exact keptO_some (finish_canonical (hbroken t h) ..)
  · rename_i i t h
    exact keptO_some (result_canonical (hbuf i t h) ..)

theorem execPhold_kept (hs : Canonical s) {k w} : Kept (execPhold k w s) := by
  unfold execPhold
  refine kept_done (issueB_canonical hs _ _ _ _ fun s hs => ?_)
  extract_lets +onlyGivenNames x
  split
  · exact keptO_some (finish_canonical hs ..)
  · refine keptO_ite (keptO_some (finish_canonical hs ..)) ?_
    exact keptO_some (finish_canonical (poolWrite_canonical hs ..) ..)

theorem execPfree_kept (hs : Canonical s) {k w} : Kept (execPfree k w s) := by
  unfold execPfree
  refine kept_done (issueB_canonical hs _ _ _ _ fun s hs => ?_)
  refine keptO_ite ?_ keptO_none
  split
  · exact keptO_some (finish_canonical hs ..)
  · exact keptO_some (finish_canonical (poolGive_canonical hs ..) ..)

theorem execPoolInit_kept (hs : Canonical s) {p} : Kept (execPoolInit p s) := by
  unfold execPoolInit
  refine kept_ite (kept_done (poolStatus_canonical hs ..)) ?_
  exact kept_ite (kept_done (poolStatus_canonical hs ..)) (kept_done (poolStatus_canonical hs.fset ..))

theorem execPoolInitDone_kept (hs : Canonical s) {p} : Kept (execPoolInitDone p s) := by
  unfold execPoolInitDone
  refine kept_ite (kept_done hs) ?_
  refine kept_ite (kept_done (faultGlove_canonical hs ..)) ?_
  extract_lets +onlyGivenNames t
  have ht : Canonical t := setPoolHead_canonical (poolLink_canonical hs ..) ..
  exact kept_done ht.fset.fset

theorem execPoolRelease_kept (hs : Canonical s) {p} : Kept (execPoolRelease p s) := by
  unfold execPoolRelease
  refine kept_ite ?_ ?_
  · extract_lets +onlyGivenNames t
    have ht : Canonical t := hs.fset.fset
    exact kept_done (poolStatus_canonical (setPoolHead_canonical ht ..) ..)
  · exact kept_done (poolStatus_canonical hs ..)

theorem execPoolReset_kept (hs : Canonical s) {p} : Kept (execPoolReset p s) := by
  unfold execPoolReset
  refine kept_ite ?_ ?_
  · extract_lets +onlyGivenNames t
    have ht : Canonical t := hs.fset.fset
    exact kept_done (poolStatus_canonical (setPoolHead_canonical ht ..) ..)
  · exact kept_done (poolStatus_canonical hs ..)

theorem execPoolSvcFree_kept (hs : Canonical s) {p v} : Kept (execPoolSvcFree p v s) := by
  unfold execPoolSvcFree
  split
  · exact kept_done (poolGive_canonical hs ..)
  · exact kept_done (poolStatus_canonical hs ..)

/-! ### Machine/Tiers.lean -/

theorem execMigPromote_kept (hs : Canonical s) {page} : Kept (execMigPromote page s) := by
  unfold execMigPromote
  extract_lets +onlyGivenNames th
  split
  · refine kept_ite (kept_done hs) ?_
    split
    · rename_i t h
      have ht := canonical_some (makeResident_canonical hs _ _) h
      exact kept_done (bump_canonical ht.upd ..)
    · exact kept_done hs
  · exact kept_done hs

theorem execMigAgeTick_kept (hs : Canonical s) : Kept (execMigAgeTick s) :=
  kept_ite (kept_done hs.upd) (kept_done hs)

theorem execPin_kept (hs : Canonical s) {die page} : Kept (execPin die page s) := by
  unfold execPin
  extract_lets +onlyGivenNames t v pins
  have ht : Canonical t := hs.fset
  refine kept_ite (kept_done (migStatus_canonical ht ..)) ?_
  refine kept_ite (kept_done (migStatus_canonical ht ..)) ?_
  split
  · rename_i u h
    have hu := canonical_some (makeResident_canonical ht _ _) h
    exact kept_done (migStatus_canonical (setPage_canonical hu ..) ..)
  · exact kept_done (migStatus_canonical ht ..)

theorem execUnpin_kept (hs : Canonical s) {page} : Kept (execUnpin page s) := by
  unfold execUnpin
  refine kept_ite (kept_done (migStatus_canonical hs ..)) ?_
  extract_lets +onlyGivenNames v t
  have ht : Canonical t := canonical_ite (setPage_canonical hs ..) hs
  exact kept_done (migStatus_canonical ht ..)

theorem execDiscard_kept (hs : Canonical s) {page} : Kept (execDiscard page s) := by
  unfold execDiscard
  refine kept_ite (kept_done (migStatus_canonical hs ..)) ?_
  extract_lets +onlyGivenNames t
  have ht : Canonical t := setPage_canonical (zeroMem_canonical (releaseFrame_canonical hs _) ..) ..
  exact kept_done (migStatus_canonical ht ..)

theorem execVacate_kept (hs : Canonical s) {c} : Kept (execVacate c s) := by
  unfold execVacate
  refine kept_ite (kept_done (migStatus_canonical hs ..)) ?_
  exact kept_ite (kept_done (migStatus_canonical hs ..)) (kept_done (migStatus_canonical hs.fset.upd ..))

theorem execResume_kept (hs : Canonical s) {c} : Kept (execResume c s) := by
  unfold execResume
  refine kept_ite (kept_done (migStatus_canonical hs ..)) ?_
  exact kept_ite (kept_done (migStatus_canonical hs ..)) (kept_done (migStatus_canonical hs.fset.fset ..))

theorem execMigCfgWrite_kept (hs : Canonical s) {v} : Kept (execMigCfgWrite v s) := by
  unfold execMigCfgWrite
  refine kept_ite ?_ ?_
  · extract_lets +onlyGivenNames t t2 t3 t4
    have ht : Canonical t := hs.fset
    have ht2 : Canonical t2 := ht.fset
    have ht3 : Canonical t3 := ht2.fset
    have ht4 : Canonical t4 := ht3.fset
    exact kept_done (canonical_foldl ht4 (fun _ _ hs => shrink_canonical hs ..))
  · exact kept_done hs.fset

theorem execMigTlbinvGo_kept (hs : Canonical s) {v} : Kept (execMigTlbinvGo v s) :=
  kept_done hs.fset.fset.fset.fset.fset.upd

theorem execMigTlbinvDone_kept (hs : Canonical s) : Kept (execMigTlbinvDone s) :=
  kept_ite (kept_done hs.fset.upd) (kept_done hs)

theorem execStream_kept (hs : Canonical s) {k w} : Kept (execStream k w s) := by
  unfold execStream
  refine kept_done (issueB_canonical hs _ _ _ _ fun s hs => ?_)
  refine keptO_ite keptO_none ?_
  refine keptO_ite (keptO_some (finish_canonical hs ..)) ?_
  split
  · exact keptO_some (memFault_canonical hs ..)
  · exact keptO_ite (keptO_some (finish_canonical hs ..)) (keptO_some (declareStream_canonical hs ..))

theorem execStreamFill_kept (hs : Canonical s) {n} : Kept (execStreamFill n s) := by
  unfold execStreamFill
  split
  · exact kept_done hs
  · refine kept_ite (kept_done (closeStream_canonical hs _)) ?_
    extract_lets +onlyGivenNames win gone t t2
    have ht : Canonical t := setStream_canonical hs ..
    have ht2 : Canonical t2 := canonical_foldl ht (fun _ _ hs => leaveWindow_canonical hs _)
    exact kept_done (fillGo_canonical ht2 ..)

theorem execHbmChannelDrain_kept (hs : Canonical s) {c} : Kept (execHbmChannelDrain c s) :=
  kept_ite (kept_done (canonical_foldl hs (fun _ _ hs => movePage_canonical hs ..)).fset.upd) (kept_done hs)

theorem execHbmChannelRetrainDone_kept (hs : Canonical s) {c ok} : Kept (execHbmChannelRetrainDone c ok s) := by
  unfold execHbmChannelRetrainDone
  refine kept_ite (kept_done hs) ?_
  exact kept_ite (kept_done (event_canonical hs.fset ..)) (kept_done (canonical_ite hs.fset.fset hs).fset)

theorem execHbmParityError_kept (hs : Canonical s) {c retries} : Kept (execHbmParityError c retries s) :=
  kept_ite (kept_done (event_canonical hs ..).fset) (kept_done (event_canonical hs ..))

theorem execHbmTgStart_kept (hs : Canonical s) {c} : Kept (execHbmTgStart c s) := by
  unfold execHbmTgStart
  extract_lets +onlyGivenNames status
  have hstatus : ∀ x1,  Canonical (status x1) := fun _ => hs.fset
  refine kept_ite (kept_done (hstatus _)) ?_
  refine kept_ite (kept_done (hstatus _)) ?_
  exact kept_ite (kept_done (hstatus _)) (kept_done (journal_canonical (hstatus _).setReg.setReg ..))

theorem execHbmTgStop_kept (hs : Canonical s) {c} : Kept (execHbmTgStop c s) :=
  kept_ite (kept_done hs.fset.fset.setReg.upd) (kept_done hs)

theorem execHbmTgRunDone_kept (hs : Canonical s) {c errors lanes} : Kept (execHbmTgRunDone c errors lanes s) :=
  kept_ite (kept_done hs.fset.fset.setReg) (kept_done hs)

theorem execNvsDieTimeout_kept (hs : Canonical s) {die cmd} : Kept (execNvsDieTimeout die cmd s) := by
  unfold execNvsDieTimeout
  refine kept_ite (kept_done hs) ?_
  exact kept_ite (kept_done hs.upd) (kept_done (event_canonical (loseDie_canonical hs.upd _).fset ..))

/-! ### Machine/Sieve.lean -/

theorem execSieve_kept (hs : Canonical s) {k w} : Kept (execSieve k w s) := by
  unfold execSieve
  refine kept_done (issueB_canonical hs _ _ _ _ fun s hs => ?_)
  extract_lets +onlyGivenNames x
  split
  · exact keptO_some (trap_canonical hs ..)
  · refine keptO_ite (keptO_some (finish_canonical hs ..)) ?_
    refine keptO_ite keptO_none ?_
    refine keptO_ite (keptO_some (finish_canonical hs ..)) ?_
    exact keptO_some (finish_canonical (enqueue_canonical hs ..) ..)

theorem execSieveComplete_kept (hs : Canonical s) {t} : Kept (execSieveComplete t s) := by
  unfold execSieveComplete
  extract_lets +onlyGivenNames v
  split
  · extract_lets +onlyGivenNames u
    have hu : Canonical u := popQueue_canonical hs ..
    exact kept_done (setTile_canonical hu ..)
  · exact kept_done hs

/-! ### Machine/Brimir.lean -/

theorem execRouteGo_kept (hs : Canonical s) {k w} : Kept (execRouteGo k w s) := by
  unfold execRouteGo
  refine kept_done (issueB_canonical hs _ _ _ _ fun s hs => ?_)
  refine keptO_ite keptO_none ?_
  refine keptO_ite (keptO_some (memFault_canonical hs ..)) ?_
  split
  · exact keptO_some (memFault_canonical hs ..)
  · rename_i s _ h
    have hs := canonical_map (engineRead_canonical hs _ _ _ _) h
    exact keptO_some (routeGo_canonical hs ..)

theorem execSieveFl_kept (hs : Canonical s) {k w} : Kept (execSieveFl k w s) := by
  unfold execSieveFl
  refine kept_done (issueB_canonical hs _ _ _ _ fun s hs => ?_)
  refine keptO_ite keptO_none ?_
  split
  · refine keptO_ite (keptO_some (finish_canonical hs ..)) ?_
    refine keptO_ite (keptO_some (finish_canonical hs ..)) ?_
    extract_lets +onlyGivenNames v mine s2
    have hs2 : Canonical s2 := setTile_canonical hs ..
    exact keptO_some (finish_canonical (putStep_canonical hs2 ..) ..)
  · exact keptO_some (finish_canonical hs ..)

theorem execBrmListIntake_kept (hs : Canonical s) {e} : Kept (execBrmListIntake e s) := by
  unfold execBrmListIntake
  split
  · refine kept_ite (kept_done (canonical_foldl (putStep_canonical hs ..) (fun _ _ hs => takeList_canonical hs ..))) ?_
    exact kept_done hs
  · exact kept_done hs

theorem execBrmRankingDone_kept (hs : Canonical s) {e} : Kept (execBrmRankingDone e s) := by
  unfold execBrmRankingDone
  split
  · refine kept_ite ?_ (kept_done hs)
    split
    · exact kept_done (failStep_canonical hs ..)
    · extract_lets +onlyGivenNames nans cs t u u2
      have hu : Canonical u := bump_canonical (putStep_canonical hs ..) ..
      have hu2 : Canonical u2 := canonical_ite (event_canonical hu ..) hu
      exact kept_done (sendCounts_canonical hu2 ..)
  · exact kept_done hs

theorem execCountsPartReceive_kept (hs : Canonical s) {x} : Kept (execCountsPartReceive x s) := by
  unfold execCountsPartReceive
  refine kept_done (receive_canonical hs _ _ _ _ _ fun s _ _ hs => ?_)
  exact vecReceive_canonical hs _ _ _ _ (fun _ _ _ _ hs => putStep_canonical hs ..)

theorem execGrantPartReceive_kept (hs : Canonical s) {x} : Kept (execGrantPartReceive x s) := by
  unfold execGrantPartReceive
  refine kept_done (receive_canonical hs _ _ _ _ _ fun s _ _ hs => ?_)
  exact vecReceive_canonical hs _ _ _ _ (fun _ _ _ _ hs => putStep_canonical hs ..)

theorem execHomeAdmit_kept (hs : Canonical s) {e} : Kept (execHomeAdmit e s) := by
  unfold execHomeAdmit
  split
  · refine kept_ite ?_ (kept_done hs)
    split
    · exact kept_done (memFault_canonical hs ..)
    · refine kept_ite (kept_done (failStep_canonical hs ..)) ?_
      extract_lets +onlyGivenNames adm t1 t12 asked u u2
      have hu : Canonical u := bump_canonical hs ..
      have hu2 : Canonical u2 := noteLag_canonical hu ..
      refine kept_ite (kept_done (sendGrants_canonical (putStep_canonical hu2 ..) ..)) ?_
      refine kept_ite (kept_done (failStep_canonical hu2 ..)) ?_
      split
      · exact kept_done (memFault_canonical hu2 ..)
      · rename_i v h
        have hv := canonical_some (keptO_ite (keptO_some hu2) (setVbytes_canonical hu2 _ _ _)) h
        extract_lets +onlyGivenNames t1 u3
        have hu3 : Canonical u3 := canonical_foldl (putStep_canonical hv ..) (fun _ _ hs => openQueue_canonical hs ..)
        exact kept_done (canonical_ite (sendGrants_canonical hu3 ..) hu3)
  · exact kept_done hs

theorem execSourceReroute_kept (hs : Canonical s) {e} : Kept (execSourceReroute e s) := by
  unfold execSourceReroute
  split
  · exact kept_ite (kept_done (sendCounts_canonical (putStep_canonical hs ..) ..)) (kept_done hs)
  · exact kept_done hs

theorem execSourceSort_kept (hs : Canonical s) {e} : Kept (execSourceSort e s) := by
  unfold execSourceSort
  split
  · refine kept_ite ?_ (kept_done hs)
    extract_lets +onlyGivenNames t bs
    split
    · exact kept_done (memFault_canonical hs ..)
    · rename_i u h
      have hu := canonical_some (setVbytes_canonical hs _ _ _) h
      extract_lets +onlyGivenNames t u2
      have hu2 : Canonical u2 := putStep_canonical (engineAdd_canonical hu ..) ..
      exact kept_done (checkStep_canonical (zeroSlots_canonical hu2 _) _)
  · exact kept_done hs

theorem execBrmStepTimeout_kept (hs : Canonical s) {e} : Kept (execBrmStepTimeout e s) := by
  unfold execBrmStepTimeout
  split
  · refine kept_ite ?_ (kept_done hs)
    split
    · exact kept_done (failStep_canonical hs ..)
    · exact kept_ite (kept_done (failStep_canonical hs ..)) (kept_done hs)
  · exact kept_done hs

theorem execRouteStat_kept (hs : Canonical s) {k w} : Kept (execRouteStat k w s) := by
  unfold execRouteStat
  refine kept_done (issueB_canonical hs _ _ _ _ fun s hs => ?_)
  refine keptO_ite keptO_none ?_
  split
  · exact keptO_some (finish_canonical hs ..)
  · refine keptO_ite (keptO_some (finish_canonical hs ..)) ?_
    refine keptO_ite (keptO_some (finish_canonical hs ..)) ?_
    split
    · rename_i u h
      have hu := canonical_some (setVbytes_canonical hs _ _ _) h
      exact keptO_some (finish_canonical hu ..)
    · exact keptO_some (memFault_canonical hs ..)

theorem execBrmDirNextepWrite_kept (hs : Canonical s) {n v} : Kept (execBrmDirNextepWrite n v s) := by
  unfold execBrmDirNextepWrite
  refine kept_ite (kept_done (canonical_ite hs.fset hs)) ?_
  extract_lets +onlyGivenNames s1
  have hs1 : Canonical s1 := hs.fset.fset
  exact kept_done (canonical_ite (installDir_canonical hs1 _) hs1)

/-! ### Machine/Splice.lean -/

theorem execSpliceSendFragment_kept (hs : Canonical s) {e} : Kept (execSpliceSendFragment e s) := by
  unfold execSpliceSendFragment
  split
  · refine kept_ite ?_ (kept_done hs)
    extract_lets +onlyGivenNames rb due
    split
    · extract_lets +onlyGivenNames s1
      have hs1 : Canonical s1 := bump_canonical hs ..
      split
      · exact kept_done hs1
      · split
        · exact kept_done hs1
        · refine kept_ite (kept_done (taintEnd_canonical hs1 ..)) ?_
          split
          · exact kept_done (memFault_canonical hs1 ..)
          · rename_i u _ h
            have hu := canonical_map (engineRead_canonical hs1 _ _ _ _) h
            refine kept_done ?_
            exact checkStep_canonical (send_canonical (bump_canonical (putStep_canonical hu ..) ..) _) _
  · exact kept_done hs

theorem execSpliceRowReceive_kept (hs : Canonical s) {x} : Kept (execSpliceRowReceive x s) :=
  kept_done (spliceReceive_canonical hs _ _ _ _ _ (fun _ _ _ _ hs => landRow_canonical hs _ _ _))

theorem execSpliceAbortReceive_kept (hs : Canonical s) {x} : Kept (execSpliceAbortReceive x s) :=
  kept_done (spliceReceive_canonical hs _ _ _ _ _ (fun _ _ _ _ hs => landAbort_canonical hs _ _ _))

theorem execReturnResultReceive_kept (hs : Canonical s) {x} : Kept (execReturnResultReceive x s) :=
  kept_done (spliceReceive_canonical hs _ _ _ _ _ (fun _ _ _ _ hs => landResult_canonical hs _ _ _))

theorem execRouteRet_kept (hs : Canonical s) {k w} : Kept (execRouteRet k w s) := by
  unfold execRouteRet
  refine kept_done (issueB_canonical hs _ _ _ _ fun s hs => ?_)
  refine keptO_ite keptO_none ?_
  split
  · exact keptO_some (finish_canonical hs ..)
  · refine keptO_ite (keptO_some (finish_canonical hs ..)) ?_
    refine keptO_ite (keptO_some (finish_canonical hs ..)) ?_
    refine keptO_ite (keptO_some (memFault_canonical hs ..)) ?_
    split
    · exact keptO_some (memFault_canonical hs ..)
    · rename_i u _ h
      have hu := canonical_map (engineRead_canonical hs _ _ _ _) h
      refine keptO_ite (keptO_some (finish_canonical hu ..)) ?_
      refine keptO_ite (keptO_some (finish_canonical hu ..)) ?_
      refine keptO_ite (keptO_some (finish_canonical hu ..)) ?_
      exact keptO_some (startReturn_canonical (finish_canonical hu ..) ..)

theorem execReturnSendFragment_kept (hs : Canonical s) {e} : Kept (execReturnSendFragment e s) := by
  unfold execReturnSendFragment
  split
  · refine kept_ite ?_ (kept_done hs)
    extract_lets +onlyGivenNames rb due
    split
    · extract_lets +onlyGivenNames s1
      have hs1 : Canonical s1 := bump_canonical hs ..
      split
      · exact kept_done hs1
      · split
        · exact kept_done hs1
        · refine kept_ite (kept_done (taintEnd_canonical hs1 ..)) ?_
          split
          · exact kept_done (memFault_canonical hs1 ..)
          · rename_i u _ h
            have hu := canonical_map (engineRead_canonical hs1 _ _ _ _) h
            refine kept_done ?_
            exact checkStep_canonical (send_canonical (bump_canonical (putStep_canonical hu ..) ..) _) _
  · exact kept_done hs

theorem execSpliceLandingTimeout_kept (hs : Canonical s) {e} : Kept (execSpliceLandingTimeout e s) := by
  unfold execSpliceLandingTimeout
  split
  · split
    · exact kept_ite (kept_done (taintEnd_canonical hs ..)) (kept_done hs)
    · exact kept_done hs
  · exact kept_done hs

theorem execReturnArrivalTimeout_kept (hs : Canonical s) {e} : Kept (execReturnArrivalTimeout e s) := by
  unfold execReturnArrivalTimeout
  split
  · split
    · exact kept_ite (kept_done (taintEnd_canonical hs ..)) (kept_done hs)
    · exact kept_done hs
  · exact kept_done hs

/-! ### Machine/Coll.lean -/

theorem execCollWindowReadout_kept (hs : Canonical s) {h} : Kept (execCollWindowReadout h s) := by
  unfold execCollWindowReadout
  split
  · refine kept_ite ?_ ?_
    · extract_lets +onlyGivenNames u
      have hu : Canonical u := setColl_canonical hs ..
      exact kept_done (collCheck_canonical (sendWindow_canonical hu ..) _)
    · exact kept_done hs
  · exact kept_done hs

theorem execCollSubmit_kept (hs : Canonical s) {addr} : Kept (execCollSubmit addr s) := by
  unfold execCollSubmit
  extract_lets +onlyGivenNames a
  split
  · exact kept_done (submitStatus_canonical hs _)
  · refine kept_ite (kept_done (submitStatus_canonical hs _)) ?_
    refine kept_ite (kept_done (submitStatus_canonical hs _)) ?_
    refine kept_ite (kept_done (submitStatus_canonical hs _)) ?_
    refine kept_ite (kept_done (submitStatus_canonical hs _)) ?_
    split
    · exact kept_done (memFault_canonical (submitStatus_canonical hs _) ..)
    · rename_i u _ h
      have hu := canonical_map (engineRead_canonical hs _ _ _ _) h
      extract_lets +onlyGivenNames raw c u2
      have hu2 : Canonical u2 := setColl_canonical (submitStatus_canonical hu _) ..
      refine kept_done (canonical_ite (collFail_canonical (setVbytesGo_canonical hu2.upd ..) ..) ?_)
      exact setVbytesGo_canonical hu2.upd ..

theorem execCollStart_kept (hs : Canonical s) {h} : Kept (execCollStart h s) := by
  unfold execCollStart
  split
  · refine kept_ite ?_ ?_
    · extract_lets +onlyGivenNames now
      exact kept_done (collCheck_canonical (collSend_canonical (setColl_canonical hs ..) _) _)
    · exact kept_done hs
  · exact kept_done hs

theorem execCollContribReceive_kept (hs : Canonical s) {x} : Kept (execCollContribReceive x s) :=
  kept_done (collReceive_canonical hs _ _ _ (fun _ _ _ _ hs => collContrib_canonical hs ..))

theorem execCollResultReceive_kept (hs : Canonical s) {x} : Kept (execCollResultReceive x s) :=
  kept_done (collReceive_canonical hs _ _ _ (fun _ _ _ _ hs => collResult_canonical hs ..))

theorem execCollFailReceive_kept (hs : Canonical s) {x} : Kept (execCollFailReceive x s) :=
  kept_done (collReceive_canonical hs _ _ _ (fun _ _ _ _ hs => collFail_canonical hs ..))

theorem execCollRetryReceive_kept (hs : Canonical s) {x} : Kept (execCollRetryReceive x s) :=
  kept_done (collReceive_canonical hs _ _ _ (fun _ _ _ _ hs => hs))

theorem execCollArriveReceive_kept (hs : Canonical s) {x} : Kept (execCollArriveReceive x s) := by
  unfold execCollArriveReceive
  refine kept_done (collReceive_canonical hs _ _ _ fun s _ _ _ hs => ?_)
  exact canonical_ite (collWrong_canonical hs _) (collCheck_canonical (setColl_canonical hs ..) _)

theorem execAlltoallvCountsReceive_kept (hs : Canonical s) {x} : Kept (execAlltoallvCountsReceive x s) := by
  unfold execAlltoallvCountsReceive
  refine kept_done (a2aReceive_canonical hs _ _ _ fun s _ _ _ hs => ?_)
  refine canonical_ite (collWrong_canonical hs _) ?_
  extract_lets +onlyGivenNames c c2 s2
  have hs2 : Canonical s2 := setColl_canonical hs ..
  split
  · exact hs2
  · refine canonical_ite (collFail_canonical hs2 ..) ?_
    extract_lets +onlyGivenNames off
    exact collCheck_canonical (canonical_foldl hs2 (fun _ _ hs => send_canonical hs _)) _

theorem execAlltoallvGrantReceive_kept (hs : Canonical s) {x} : Kept (execAlltoallvGrantReceive x s) := by
  unfold execAlltoallvGrantReceive
  refine kept_done (a2aReceive_canonical hs _ _ _ fun s _ _ _ hs => ?_)
  refine canonical_ite (collWrong_canonical hs _) ?_
  extract_lets +onlyGivenNames s2 off a ps
  have hs2 : Canonical s2 := setColl_canonical hs ..
  exact canonical_foldl hs2 (fun _ _ hs => sendPiece_canonical hs ..)

theorem execCollReadbackDone_kept (hs : Canonical s) {h good} : Kept (execCollReadbackDone h good s) := by
  unfold execCollReadbackDone
  split
  · split
    · exact kept_done hs
    · extract_lets +onlyGivenNames u
      have hu : Canonical u := setColl_canonical hs ..
      exact kept_ite (kept_done (collCheck_canonical hu _)) (kept_done (collBad_canonical hu _))
  · exact kept_done hs

theorem execCollTimeout_kept (hs : Canonical s) {h} : Kept (execCollTimeout h s) := by
  unfold execCollTimeout
  split
  · exact kept_ite (kept_done (collFail_canonical hs ..)) (kept_done hs)
  · exact kept_done hs

theorem execNakBusyRetry_kept (hs : Canonical s) {j} : Kept (execNakBusyRetry j s) := by
  unfold execNakBusyRetry
  split
  · exact kept_ite (kept_done hs.upd) (kept_ite (kept_done (send_canonical hs.upd _)) (kept_done hs))
  · exact kept_done hs

/-! ### Machine/Twin.lean -/

theorem execHalt_kept (hs : Canonical s) {k w} : Kept (execHalt k w s) := by
  unfold execHalt
  refine kept_done (canonical_ite hs ?_)
  refine issueA_canonical hs _ _ _ _ fun s hs => ?_
  split
  · split
    · exact haltTask_canonical hs ..
    · exact hs
  · exact hs

theorem execTwinDigestReceive_kept (hs : Canonical s) {x} : Kept (execTwinDigestReceive x s) :=
  kept_done (receive_canonical hs _ _ _ _ _ (fun _ _ _ hs => twinSweep_canonical hs.upd))

theorem execTwinRingReceive_kept (hs : Canonical s) {x} : Kept (execTwinRingReceive x s) := by
  unfold execTwinRingReceive
  refine kept_done (receive_canonical hs _ _ _ _ _ fun s _ _ hs => ?_)
  split
  · exact hs
  · extract_lets +onlyGivenNames theirs mine named
    split
    · exact hs.fset.fset
    · exact hs

theorem execTwinDigestMissing_kept (hs : Canonical s) {q} : Kept (execTwinDigestMissing q s) := by
  unfold execTwinDigestMissing
  split
  · exact kept_ite (kept_done (diverge_canonical hs ..)) (kept_done hs)
  · exact kept_done hs

theorem execTwinDigestDiscard_kept (hs : Canonical s) {j} : Kept (execTwinDigestDiscard j s) := by
  unfold execTwinDigestDiscard
  split
  · exact kept_ite (kept_done (bump_canonical hs.upd ..)) (kept_done hs)
  · exact kept_done hs

/-! ### Machine/Time.lean -/

theorem execTimeSyncTick_kept (hs : Canonical s) : Kept (execTimeSyncTick s) := by
  unfold execTimeSyncTick
  refine kept_ite ?_ ?_
  · extract_lets +onlyGivenNames q aux
    exact kept_done (canonical_foldl hs.upd (fun _ _ hs => canonical_ite (sendBy_canonical hs ..) hs))
  · exact kept_done hs

theorem execTimeSyncReceive_kept (hs : Canonical s) {x} : Kept (execTimeSyncReceive x s) := by
  unfold execTimeSyncReceive
  refine kept_done (takeTime_canonical hs _ _ _ fun s _ hs => ?_)
  refine canonical_ite ?_ ?_
  · extract_lets +onlyGivenNames gm s2 s3 e
    have hs2 : Canonical s2 := canonical_ite hs.fset hs
    have hs3 : Canonical s3 := canonical_ite hs2.setReg hs2
    exact sendBy_canonical hs3.upd ..
  · exact ignored_canonical hs

theorem execTimeReqReceive_kept (hs : Canonical s) {x} : Kept (execTimeReqReceive x s) := by
  unfold execTimeReqReceive
  refine kept_done (takeTime_canonical hs _ _ _ fun s _ hs => ?_)
  exact canonical_ite (canonical_ite (sendBy_canonical hs ..) (send_canonical hs _)) (ignored_canonical hs)

theorem execTimeRespReceive_kept (hs : Canonical s) {x} : Kept (execTimeRespReceive x s) := by
  unfold execTimeRespReceive
  refine kept_done (takeTime_canonical hs _ _ _ fun s _ hs => ?_)
  refine canonical_ite ?_ (ignored_canonical hs)
  split
  · exact takeOffset_canonical hs.upd _
  · exact ignored_canonical hs

theorem execTimeHoldover_kept (hs : Canonical s) : Kept (execTimeHoldover s) :=
  kept_ite (kept_done (event_canonical hs.fset ..)) (kept_done hs)

theorem execPtpMessageReceive_kept (hs : Canonical s) {m} : Kept (execPtpMessageReceive m s) := by
  unfold execPtpMessageReceive
  extract_lets +onlyGivenNames src
  split
  · exact kept_done (ignored_canonical hs)
  · exact kept_ite (kept_done (ptpMeasure_canonical hs.setReg _)) (kept_done (ignored_canonical hs))

theorem execPpsInEdge_kept (hs : Canonical s) : Kept (execPpsInEdge s) :=
  kept_ite (kept_done (setUtcState_canonical hs.upd _)) (kept_done hs)

theorem execPpsOutEdge_kept (hs : Canonical s) : Kept (execPpsOutEdge s) :=
  kept_ite (kept_done hs.upd) (kept_done hs)

theorem execUtcSourceSilent_kept (hs : Canonical s) : Kept (execUtcSourceSilent s) :=
  kept_ite (kept_done (setUtcState_canonical hs _)) (kept_done hs)

theorem execTimeLchGo_kept (hs : Canonical s) {addr} : Kept (execTimeLchGo addr s) := by
  unfold execTimeLchGo
  refine kept_ite (kept_done (lchStatus_canonical hs _)) ?_
  refine kept_ite (kept_done (lchStatus_canonical hs _)) ?_
  refine kept_ite (kept_done (lchStatus_canonical hs _)) ?_
  refine kept_ite (kept_done (lchStatus_canonical hs _)) ?_
  split
  · exact kept_done (lchStatus_canonical hs _)
  · exact kept_done (cast_canonical (lchStatus_canonical (setLaunch_canonical hs ..) _) ..)

theorem execLaunchPrepareReceive_kept (hs : Canonical s) {x} : Kept (execLaunchPrepareReceive x s) := by
  unfold execLaunchPrepareReceive
  refine kept_done (takeLaunch_canonical hs _ _ _ fun s _ _ hs => ?_)
  extract_lets +onlyGivenNames ws
  split
  · exact laterPrepare_canonical hs ..
  · refine canonical_ite hs ?_
    extract_lets +onlyGivenNames base
    split
    · refine canonical_ite ?_ (send_canonical hs _)
      split
      · exact headCast_canonical (setLaunch_canonical hs ..) ..
      · exact setLaunch_canonical hs ..
    · exact send_canonical hs _

theorem execLaunchReady_kept (hs : Canonical s) {i} : Kept (execLaunchReady i s) := by
  unfold execLaunchReady
  refine kept_ite ?_ ?_
  · extract_lets +onlyGivenNames l s1
    have hs1 : Canonical s1 := setLaunch_canonical hs ..
    refine kept_ite (kept_done (launchCheck_canonical hs1 _)) ?_
    exact kept_done (ackUp_canonical (setLaunch_canonical hs1 ..) _)
  · exact kept_done hs

theorem execLaunchHoldReceive_kept (hs : Canonical s) {x} : Kept (execLaunchHoldReceive x s) := by
  unfold execLaunchHoldReceive
  refine kept_done (takeLaunch_canonical hs _ _ _ fun s _ _ hs => ?_)
  split
  · exact canonical_ite (setLaunch_canonical hs ..) (ignored_canonical hs)
  · exact ignored_canonical hs

theorem execLaunchAckReceive_kept (hs : Canonical s) {x} : Kept (execLaunchAckReceive x s) := by
  unfold execLaunchAckReceive
  refine kept_done (takeLaunch_canonical hs _ _ _ fun s _ _ hs => ?_)
  extract_lets +onlyGivenNames ws
  split
  · exact childAck_canonical hs ..
  · exact ignored_canonical hs

theorem execLaunchReachTimeout_kept (hs : Canonical s) {i j} : Kept (execLaunchReachTimeout i j s) := by
  unfold execLaunchReachTimeout
  extract_lets +onlyGivenNames l
  split
  · exact kept_done hs
  · refine kept_ite (kept_done hs) ?_
    refine kept_ite (kept_done (launchCheck_canonical (setLaunch_canonical hs ..) _)) ?_
    refine kept_ite ?_ ?_
    · split
      · exact kept_done (memFault_canonical hs ..)
      · refine kept_ite ?_ ?_
        · extract_lets +onlyGivenNames c s1
          have hs1 : Canonical s1 := setLaunch_canonical hs ..
          exact kept_done (send_canonical hs1 _)
        · exact kept_done (setLaunch_canonical hs ..)
    · extract_lets +onlyGivenNames s1
      have hs1 : Canonical s1 := setLaunch_canonical hs ..
      exact kept_done (send_canonical hs1 _)

theorem execLaunchDeadline_kept (hs : Canonical s) {i} : Kept (execLaunchDeadline i s) :=
  kept_ite (kept_done (launchDecide_canonical hs ..)) (kept_done hs)

theorem execLaunchCommitReceive_kept (hs : Canonical s) {x} : Kept (execLaunchCommitReceive x s) := by
  unfold execLaunchCommitReceive
  refine kept_done (takeLaunch_canonical hs _ _ _ fun s _ _ hs => ?_)
  split
  · exact canonical_ite (toAlternates_canonical (setLaunch_canonical hs ..) ..) hs
  · exact hs

theorem execLaunchCancelReceive_kept (hs : Canonical s) {x} : Kept (execLaunchCancelReceive x s) := by
  unfold execLaunchCancelReceive
  refine kept_done (takeLaunch_canonical hs _ _ _ fun s _ _ hs => ?_)
  refine canonical_ite (ignored_canonical hs) ?_
  split
  · exact journal_canonical (toAlternates_canonical (setLaunch_canonical hs ..) ..) ..
  · exact hs

theorem execLaunchQueryReceive_kept (hs : Canonical s) {x} : Kept (execLaunchQueryReceive x s) := by
  unfold execLaunchQueryReceive
  refine kept_done (takeLaunch_canonical hs _ _ _ fun s _ _ hs => ?_)
  split
  · exact send_canonical hs _
  · exact hs

theorem execLaunchQueryTimer_kept (hs : Canonical s) {i} : Kept (execLaunchQueryTimer i s) :=
  kept_ite (kept_done (send_canonical (setLaunch_canonical hs ..) _)) (kept_done hs)

theorem execLaunchRelease_kept (hs : Canonical s) {i} : Kept (execLaunchRelease i s) := by
  unfold execLaunchRelease
  refine kept_ite (kept_done hs) ?_
  refine kept_ite (kept_done (engineAdd_canonical (setLaunch_canonical hs ..) ..)) ?_
  exact kept_ite (kept_done (event_canonical (setLaunch_canonical hs ..) ..)) (kept_done hs)

/-! ### Machine/Security.lean -/

theorem execJournalCheckpoint_kept (hs : Canonical s) : Kept (execJournalCheckpoint s) :=
  kept_ite (kept_done (journalCheckpoint_canonical hs)) (kept_done hs)

theorem execMboxReservedCmd_kept (hs : Canonical s) {core cmd} : Kept (execMboxReservedCmd core cmd s) :=
  kept_done (mbox_canonical hs _ _ _ _ (fun _ _ hs => hs))

theorem execNonce_kept (hs : Canonical s) {core} : Kept (execNonce core s) :=
  kept_done (mbox_canonical hs _ _ _ _ (fun _ _ hs => canonical_foldl hs.upd (fun _ _ hs => hs.setReg)))

theorem execNonceExpire_kept (hs : Canonical s) : Kept (execNonceExpire s) := by
  unfold execNonceExpire
  split
  · exact kept_ite (kept_done (dropNonce_canonical hs)) (kept_done hs)
  · exact kept_done hs

theorem execQuote_kept (hs : Canonical s) {core} : Kept (execQuote core s) := by
  unfold execQuote
  refine kept_done (mbox_canonical hs _ _ _ _ fun s _ hs => ?_)
  extract_lets +onlyGivenNames mask out slots body
  split
  · dsimp only
    exact setBytes_canonical hs ..
  · exact hs

theorem execExtend_kept (hs : Canonical s) {core} : Kept (execExtend core s) := by
  unfold execExtend
  refine kept_done (mbox_canonical hs _ _ _ _ fun s _ hs => ?_)
  extract_lets +onlyGivenNames n d
  split
  · exact hs
  · split
    · exact hs
    · extract_lets +onlyGivenNames m t
      have ht : Canonical t := canonical_foldl hs (fun _ _ hs => hs.setReg)
      exact journal_canonical ht ..

theorem execDbgOpen_kept (hs : Canonical s) {core} : Kept (execDbgOpen core s) := by
  unfold execDbgOpen
  refine kept_done (mbox_canonical hs _ _ _ _ fun s _ hs => ?_)
  extract_lets +onlyGivenNames t h
  split
  · exact journalDebug_canonical hs ..
  · split
    · exact hs
    · extract_lets +onlyGivenNames s2
      have hs2 : Canonical s2 := dropNonce_canonical (endSession_canonical hs _)
      split
      · exact openSession_canonical hs2.upd ..
      · exact faultAll_canonical hs2.upd.upd _

theorem execDbgD2GlovesGone_kept (hs : Canonical s) : Kept (execDbgD2GlovesGone s) := by
  unfold execDbgD2GlovesGone
  split
  · exact kept_ite (kept_done (mboxDone_canonical (openSession_canonical hs.upd ..) ..)) (kept_done hs)
  · exact kept_done hs

theorem execDbgClose_kept (hs : Canonical s) {core} : Kept (execDbgClose core s) :=
  kept_done (mbox_canonical hs _ _ _ _ (fun _ _ hs => endSession_canonical hs _))

theorem execDebugSessionExpire_kept (hs : Canonical s) : Kept (execDebugSessionExpire s) :=
  kept_ite (kept_done (endSession_canonical hs _)) (kept_done hs)

theorem execCfgWrite_kept (hs : Canonical s) {core good} : Kept (execCfgWrite core good s) := by
  unfold execCfgWrite
  refine kept_done (mbox_canonical hs _ _ _ _ fun s _ hs => ?_)
  split
  · exact hs
  · extract_lets +onlyGivenNames slot ok s2 s3
    have hs2 : Canonical s2 := nvsWrote_canonical (setCfg_canonical hs ..) _
    have hs3 : Canonical s3 := journal_canonical hs2 ..
    split
    · exact wr_canonical hs3 ..
    · exact hs3

theorem execStage_kept (hs : Canonical s) {core} : Kept (execStage core s) := by
  unfold execStage
  refine kept_done (mbox_canonical hs _ _ _ _ fun s _ hs => ?_)
  extract_lets +onlyGivenNames addr len bs kind
  split
  · exact hs
  · extract_lets +onlyGivenNames slot run
    split
    · exact hs
    · split
      · exact journalImage_canonical (nvsWrote_canonical (setImage_canonical hs ..) _) ..
      · exact nvsWrote_canonical (setImage_canonical hs ..) _

theorem execVerify_kept (hs : Canonical s) {core} : Kept (execVerify core s) := by
  unfold execVerify
  refine kept_done (mbox_canonical hs _ _ _ _ fun s _ hs => ?_)
  extract_lets +onlyGivenNames addr len
  split
  · exact hs
  · split
    · exact setBytes_canonical hs ..
    · exact hs

theorem execActivate_kept (hs : Canonical s) {core} : Kept (execActivate core s) := by
  unfold execActivate
  refine kept_done (mbox_canonical hs _ _ _ _ fun s _ hs => ?_)
  extract_lets +onlyGivenNames kind v
  split
  · exact hs
  · split
    · exact hs
    · split
      · exact hs
      · extract_lets +onlyGivenNames _ sec t
        have ht : Canonical t := journalImage_canonical hs.upd ..
        dsimp only
        exact canonical_ite (endActivation_canonical ht _) ht

theorem execActivateUnitSwitch_kept (hs : Canonical s) {unit} : Kept (execActivateUnitSwitch unit s) := by
  unfold execActivateUnitSwitch
  split
  · refine kept_ite ?_ (kept_done hs)
    extract_lets +onlyGivenNames left _ t _ t2
    have ht : Canonical t := journalImage_canonical hs.upd ..
    have ht2 : Canonical t2 := canonical_ite ht.upd ht
    exact kept_ite (kept_done (endActivation_canonical ht2 _)) (kept_done ht2)
  · exact kept_done hs

theorem execLifecycle_kept (hs : Canonical s) {core} : Kept (execLifecycle core s) := by
  unfold execLifecycle
  refine kept_done (mbox_canonical hs _ _ _ _ fun s _ hs => ?_)
  extract_lets +onlyGivenNames b
  split
  · exact hs
  · split
    · extract_lets +onlyGivenNames s2
      have hs2 : Canonical s2 := changeLifecycle_canonical hs ..
      exact wr_canonical hs2 ..
    · exact journal_canonical hs ..

theorem execJread_kept (hs : Canonical s) {core} : Kept (execJread core s) := by
  unfold execJread
  refine kept_done (mbox_canonical hs _ _ _ _ fun s _ hs => ?_)
  extract_lets +onlyGivenNames first count out es bs
  split
  · exact setBytes_canonical hs ..
  · exact hs

theorem execExported_kept (hs : Canonical s) {core} : Kept (execExported core s) := by
  unfold execExported
  refine kept_done (mbox_canonical hs _ _ _ _ fun s _ hs => ?_)
  extract_lets +onlyGivenNames n
  split
  · exact hs
  · split
    · exact hs
    · exact hs.setReg

theorem execSecWriteViolation_kept (hs : Canonical s) {off src} : Kept (execSecWriteViolation off src s) :=
  kept_ite (kept_done hs) (kept_done (event_canonical (bump_canonical hs ..) ..))

theorem execBootUartImage_kept (hs : Canonical s) {image} : Kept (execBootUartImage image s) := by
  unfold execBootUartImage
  refine kept_ite ?_ (kept_done hs)
  split
  · extract_lets +onlyGivenNames t t2
    have ht : Canonical t := setImage_canonical hs ..
    have ht2 : Canonical t2 := ht.fset
    exact kept_done ht2.upd
  · exact kept_done hs

/-! ### Machine/Power.lean -/

theorem execP2TileGate_kept (hs : Canonical s) : Kept (execP2TileGate s) :=
  kept_ite (kept_done (reachPower_canonical hs.upd _)) (kept_done hs)

theorem execP2Autowake_kept (hs : Canonical s) : Kept (execP2Autowake s) :=
  kept_ite (kept_done (reachPower_canonical hs.upd _)) (kept_done hs)

theorem execPowerTransitionDone_kept (hs : Canonical s) : Kept (execPowerTransitionDone s) := by
  unfold execPowerTransitionDone
  split
  · refine kept_ite ?_ (kept_done hs)
    exact kept_done (canonical_foldl (reachPower_canonical hs _) (fun _ _ hs => trainEnabled_canonical hs _))
  · exact kept_done hs
  · refine kept_ite (kept_ite (kept_done (leavePower_canonical hs _)) (kept_done hs)) ?_
    have ht := reachPower_canonical (railsOff_canonical (diesOff_canonical hs))
    exact kept_done (canonical_ite (canonical_mk rfl (ht _).ctl (ht _).slice) (ht _))
  · exact kept_done hs

theorem execPorstN_kept (hs : Canonical s) : Kept (execPorstN s) :=
  kept_done (askReset_canonical hs _)

theorem execSysrstN_kept (hs : Canonical s) : Kept (execSysrstN s) :=
  kept_done (askReset_canonical hs _)

theorem execSecurityViolation_kept (hs : Canonical s) : Kept (execSecurityViolation s) :=
  kept_done (askReset_canonical (wipe_canonical hs) _)

theorem execSoftwareFullReset_kept (hs : Canonical s) {src} : Kept (execSoftwareFullReset src s) :=
  kept_ite (kept_done (askReset_canonical hs.fset _)) (kept_done hs.fset)

/-- A step of SERVICE_WATCHDOG's fold over the image kinds. -/
theorem failFirst_fold_canonical {l : List Nat} {a : State × List Nat} (ha : Canonical a.1) :
    Canonical (l.foldl (fun (a : State × List Nat) i =>
      let x := a.1.failFirst (i + 1)
      (x.1, if x.2 then a.2 ++ [i + 1] else a.2)) a).1 := by
  induction l generalizing a with
  | nil => exact ha
  | cons i l ih => exact ih (failFirst_canonical ha _)

theorem execServiceWatchdog_kept (hs : Canonical s) : Kept (execServiceWatchdog s) := by
  unfold execServiceWatchdog
  refine kept_ite ?_ (kept_done hs)
  have ht := askReset_canonical (failFirst_fold_canonical (l := List.range 5) (a := (s, [])) hs) 2
  exact kept_done (canonical_foldl ht (fun _ _ hs => journalImage_canonical (journalImage_canonical hs ..) ..))

theorem execSagDetect_kept (hs : Canonical s) {cause} : Kept (execSagDetect cause s) :=
  kept_done (sagStart_canonical hs _)

theorem execRailPgoodLost_kept (hs : Canonical s) {rail} : Kept (execRailPgoodLost rail s) :=
  kept_ite (kept_done (sagStart_canonical (event_canonical hs ..) _)) (kept_done hs)

theorem execSagSaveComplete_kept (hs : Canonical s) : Kept (execSagSaveComplete s) := by
  unfold execSagSaveComplete
  split
  · exact kept_done (saveEnds_canonical hs.upd.fset)
  · exact kept_done hs

theorem execSagEnergyShort_kept (hs : Canonical s) : Kept (execSagEnergyShort s) := by
  unfold execSagEnergyShort
  split
  · exact kept_done (saveEnds_canonical hs.upd.fset)
  · exact kept_done hs

theorem execSagRestart_kept (hs : Canonical s) : Kept (execSagRestart s) :=
  kept_ite (kept_done (takeReset_canonical hs ..)) (kept_done hs)

theorem execPwrwarnGlitch_kept (hs : Canonical s) : Kept (execPwrwarnGlitch s) :=
  kept_done (bump_canonical hs ..)

theorem execResetRelease_kept (hs : Canonical s) {r} : Kept (execResetRelease r s) := by
  unfold execResetRelease
  refine kept_ite (kept_done hs) ?_
  extract_lets +onlyGivenNames t
  have ht : Canonical t := releaseBoot_canonical hs
  refine kept_ite (kept_done ht.upd) ?_
  extract_lets +onlyGivenNames t2 t3 noCfg
  have ht2 : Canonical t2 := resumeSag_canonical (bootKind_canonical ht _)
  have ht3 : Canonical t3 := cfgBad_canonical (cfgBad_canonical ht2 ..) ..
  refine kept_ite (kept_done (event_canonical ht3 ..).upd.fset) ?_
  have hboot := bootKind_canonical (bootKind_canonical (bootKind_canonical (bootKind_canonical ht3 2) 3) 4) 5
  have hcores := startCores_canonical hboot
  exact kept_ite (kept_done (raiseFloor_canonical (releaseConfig_canonical hcores.upd).upd).fset)
    (kept_done (noteInject_canonical (releaseDies_canonical (releaseConfig_canonical hcores.upd) _)))

theorem execRailEnableStep_kept (hs : Canonical s) {vout} : Kept (execRailEnableStep vout s) := by
  unfold execRailEnableStep
  refine kept_ite (kept_done hs) ?_
  extract_lets +onlyGivenNames next
  have hnext : ∀ t, Canonical t → Canonical (next t) := fun _ ht => ht.upd
  refine kept_ite (kept_done (hnext _ hs)) ?_
  extract_lets +onlyGivenNames tgt
  split
  · exact kept_ite (kept_done (hnext _ hs)) (kept_done (seqFail_canonical hs ..))
  · exact kept_done (seqFail_canonical hs ..)

theorem execRailPgoodTimeout_kept (hs : Canonical s) : Kept (execRailPgoodTimeout s) :=
  kept_ite (kept_done (seqFail_canonical hs ..)) (kept_done hs)

theorem execPllUnlock_kept (hs : Canonical s) {i} : Kept (execPllUnlock i s) := by
  unfold execPllUnlock
  extract_lets +onlyGivenNames t t2
  have ht : Canonical t := hs.fset.fset
  have ht2 : Canonical t2 := event_canonical ht ..
  refine kept_ite (kept_done (canonical_foldl ht2.upd (fun _ _ hs => fenceTile_canonical hs _))) ?_
  exact kept_done ht2.upd

theorem execPllRelock_kept (hs : Canonical s) {i} : Kept (execPllRelock i s) :=
  kept_done hs.fset.upd

theorem execFabrefClkLost_kept (hs : Canonical s) {e} : Kept (execFabrefClkLost e s) :=
  kept_done (canonical_foldl hs.upd (fun _ _ hs => canonical_ite hs (portDown_canonical hs ..)))

theorem execRstBlockTile_kept (hs : Canonical s) {t} : Kept (execRstBlockTile t s) := by
  unfold execRstBlockTile
  refine kept_ite (kept_done (blockDone_canonical (setTile_canonical hs ..) ..)) ?_
  exact kept_done (blockStatus_canonical hs ..)

theorem execRstBlockPort_kept (hs : Canonical s) {p} : Kept (execRstBlockPort p s) := by
  unfold execRstBlockPort
  refine kept_ite ?_ ?_
  · extract_lets +onlyGivenNames v s1 s12 s13
    have hs1 : Canonical s1 := setPort_canonical hs ..
    have hs12 : Canonical s12 := canonical_foldl hs1 (fun _ _ hs => hs.setReg)
    have hs13 : Canonical s13 := hs12.setReg.setReg
    exact kept_done (blockDone_canonical hs13.upd ..)
  · exact kept_done (blockStatus_canonical hs ..)

theorem execRstBlockHbmChannel_kept (hs : Canonical s) {c} : Kept (execRstBlockHbmChannel c s) := by
  unfold execRstBlockHbmChannel
  refine kept_ite ?_ ?_
  · extract_lets +onlyGivenNames s1
    have hs1 : Canonical s1 := hs.setReg.setReg
    exact kept_done (blockDone_canonical hs1.setReg.fset ..)
  · exact kept_done (blockStatus_canonical hs ..)

theorem execRstBlockBrimir_kept (hs : Canonical s) {e} : Kept (execRstBlockBrimir e s) :=
  kept_ite (kept_done (blockDone_canonical hs.upd.setReg ..)) (kept_done (blockStatus_canonical hs ..))

theorem execRstBlockColl_kept (hs : Canonical s) : Kept (execRstBlockColl s) :=
  kept_ite (kept_done (blockDone_canonical hs.upd ..)) (kept_done (blockStatus_canonical hs ..))

theorem execTrstN_kept (hs : Canonical s) : Kept (execTrstN s) :=
  kept_done hs.upd.fset

/-! ### Machine/Arbiter.lean -/

theorem execArbitratedControlWrite_kept (hs : Canonical s) {off src v} :
    Kept (execArbitratedControlWrite off src v s) :=
  kept_ite (kept_done (arbWrite_canonical hs ..)) (kept_done hs)

theorem execArbRoundEnd_kept (hs : Canonical s) : Kept (execArbRoundEnd s) :=
  kept_done (roundEnd_canonical hs)

theorem execSvcArbRel_kept (hs : Canonical s) {src v} : Kept (execSvcArbRel src v s) :=
  kept_ite (kept_done (arbRelease_canonical hs ..)) (kept_done hs)

theorem execTileCtlWrite_kept (hs : Canonical s) {t src v} : Kept (execTileCtlWrite t src v s) :=
  kept_done (arbSolo_canonical hs ..)

theorem execHbmQosWrite_kept (hs : Canonical s) {src v} : Kept (execHbmQosWrite src v s) :=
  kept_done (arbSolo_canonical hs ..)

theorem execPortEnable_kept (hs : Canonical s) {p src} : Kept (execPortEnable p src s) :=
  kept_done (portWrite_canonical hs ..)

theorem execPortDisable_kept (hs : Canonical s) {p src} : Kept (execPortDisable p src s) :=
  kept_done (portWrite_canonical hs ..)

theorem execPortFence_kept (hs : Canonical s) {p src} : Kept (execPortFence p src s) :=
  kept_done (portWrite_canonical hs ..)

theorem execPortRelease_kept (hs : Canonical s) {p src} : Kept (execPortRelease p src s) :=
  kept_done (portWrite_canonical hs ..)

theorem execPwrReqP0_kept (hs : Canonical s) {src} : Kept (execPwrReqP0 src s) :=
  kept_done (powerWrite_canonical hs ..)

theorem execPwrReqP2_kept (hs : Canonical s) {src} : Kept (execPwrReqP2 src s) :=
  kept_done (powerWrite_canonical hs ..)

theorem execPwrReqP3_kept (hs : Canonical s) {src} : Kept (execPwrReqP3 src s) :=
  kept_done (powerWrite_canonical hs ..)

theorem execPwrReqP4_kept (hs : Canonical s) {src} : Kept (execPwrReqP4 src s) :=
  kept_done (powerWrite_canonical hs ..)

theorem execCtrClear_kept (hs : Canonical s) {window} : Kept (execCtrClear window s) :=
  kept_done (canonical_foldl hs (fun _ _ hs => canonical_ite hs.setReg hs)).upd

theorem execJournalNvsWrite_kept (hs : Canonical s) : Kept (execJournalNvsWrite s) := by
  unfold execJournalNvsWrite
  refine kept_ite (kept_done (powerWrite_canonical hs ..)) ?_
  extract_lets +onlyGivenNames new t _ t2 _ t3 _ t4
  have ht : Canonical t := nvsWrote_canonical hs _
  have ht2 : Canonical t2 := ht.upd
  have ht3 : Canonical t3 := canonical_ite (canonical_ite ht2 (event_canonical ht2.upd ..)) ht2.upd
  have ht4 : Canonical t4 := canonical_ite (canonical_ite ht3 (faultAll_canonical ht3.upd _)) ht3.upd
  exact kept_done (canonical_ite (powerWrite_canonical ht4 ..) ht4)

/-! ### Machine/Ethernet.lean -/

theorem execEthRingEnable_kept (hs : Canonical s) {m d r v} : Kept (execEthRingEnable m d r v s) :=
  kept_ite (kept_done hs.fset) (kept_done (canonical_ite hs.fset.fset.fset.fset.fset hs.fset.fset.fset.fset))

theorem execEthTxFrame_kept (hs : Canonical s) {m r} : Kept (execEthTxFrame m r s) :=
  kept_ite (kept_done hs) (kept_ite (kept_done hs) (kept_done (txDone_canonical hs ..)))

theorem execEthRxFrame_kept (hs : Canonical s) {m f} : Kept (execEthRxFrame m f s) := by
  unfold execEthRxFrame
  refine kept_ite (kept_done hs) ?_
  refine kept_ite (kept_done (bump_canonical hs ..)) ?_
  refine kept_ite ?_ ?_
  · exact kept_done (canonical_foldl hs (fun _ _ hs => canonical_ite (pfc_canonical hs ..) hs))
  · exact kept_ite (kept_done (bump_canonical hs ..)) (kept_done (rxFrame_canonical hs ..))

theorem execEthLinkDown_kept (hs : Canonical s) {m} : Kept (execEthLinkDown m s) :=
  kept_done (ethDown_canonical hs _)

theorem execEthPfcStorm_kept (hs : Canonical s) {prio} : Kept (execEthPfcStorm prio s) := by
  unfold execEthPfcStorm
  extract_lets +onlyGivenNames v now
  split
  · exact kept_ite (kept_done (event_canonical (bump_canonical (setMac_canonical hs ..) ..) ..)) (kept_done hs)
  · exact kept_done hs

theorem execEthPfcIgnoreEnd_kept (hs : Canonical s) {prio} : Kept (execEthPfcIgnoreEnd prio s) := by
  unfold execEthPfcIgnoreEnd
  extract_lets +onlyGivenNames v
  split
  · exact kept_ite (kept_done (setMac_canonical hs ..)) (kept_done hs)
  · exact kept_done hs

theorem execEthFlap_kept (hs : Canonical s) {m} : Kept (execEthFlap m s) := by
  unfold execEthFlap
  refine kept_ite ?_ ?_
  · extract_lets +onlyGivenNames t
    have ht : Canonical t := ethDown_canonical (setMac_canonical hs ..) _
    exact kept_done (event_canonical ht.fset ..)
  · exact kept_done hs

theorem execEthHolddownEnd_kept (hs : Canonical s) {m} : Kept (execEthHolddownEnd m s) := by
  unfold execEthHolddownEnd
  extract_lets +onlyGivenNames v
  split
  · exact kept_ite (kept_done (setMac_canonical hs ..).fset) (kept_done hs)
  · exact kept_done hs

theorem execEthLinkRetry_kept (hs : Canonical s) {m} : Kept (execEthLinkRetry m s) := by
  unfold execEthLinkRetry
  refine kept_ite ?_ ?_
  · extract_lets +onlyGivenNames t
    have ht : Canonical t := setMac_canonical hs ..
    exact kept_done (canonical_ite ht (event_canonical ht ..))
  · exact kept_done hs

theorem execEthLinkUp_kept (hs : Canonical s) {m} : Kept (execEthLinkUp m s) :=
  kept_ite (kept_done (setMac_canonical hs ..).upd.fset) (kept_done hs)

theorem execEthrefClkLost_kept (hs : Canonical s) : Kept (execEthrefClkLost s) :=
  kept_done (ethDown_canonical (ethDown_canonical hs.upd _) _)

/-! ### Machine/Service.lean -/

theorem execSvcCoreRefresh_kept (hs : Canonical s) {core target} : Kept (execSvcCoreRefresh core target s) :=
  kept_ite (kept_done hs.upd) (kept_done hs)

theorem execSvcCoreWatchdog_kept (hs : Canonical s) {core} : Kept (execSvcCoreWatchdog core s) :=
  kept_ite (kept_done (fenceCore_canonical hs ..)) (kept_done hs)

theorem execSvcCoreCacheUe_kept (hs : Canonical s) {core} : Kept (execSvcCoreCacheUe core s) :=
  kept_done (fenceCore_canonical hs ..)

theorem execSvcWdogRefresh_kept (hs : Canonical s) {core} : Kept (execSvcWdogRefresh core s) :=
  kept_ite (kept_done hs) (kept_done hs.upd)

theorem execSensorSample_kept (hs : Canonical s) {q} : Kept (execSensorSample q s) := by
  unfold execSensorSample
  split
  · exact kept_done (junction_canonical hs ..)
  · exact kept_done hs.fset
  · exact kept_done (stackTemp_canonical hs ..)
  · exact kept_done hs.setReg
  · exact kept_done hs.setReg

theorem execThermalRequestRepeat_kept (hs : Canonical s) : Kept (execThermalRequestRepeat s) := by
  unfold execThermalRequestRepeat
  split
  · exact kept_ite (kept_done (thermalAsk_canonical hs)) (kept_done hs)
  · exact kept_done hs

theorem execTelemetryRecord_kept (hs : Canonical s) : Kept (execTelemetryRecord s) := by
  unfold execTelemetryRecord
  refine kept_ite ?_ ?_
  · extract_lets +onlyGivenNames r n a t t2 k t3
    have ht : Canonical t := canonical_ite (setBytes_canonical hs ..) hs
    have ht2 : Canonical t2 := ht.fset
    have ht3 : Canonical t3 := canonical_ite (knotAdd_canonical ht2 ..) ht2
    exact kept_done ht3.upd
  · exact kept_done hs

theorem execDroopTrip_kept (hs : Canonical s) {die} : Kept (execDroopTrip die s) :=
  kept_done (bump_canonical hs.upd ..)

theorem execDroopRecover_kept (hs : Canonical s) {die} : Kept (execDroopRecover die s) :=
  kept_done hs.upd

theorem execPowerCapTick_kept (hs : Canonical s) {est} : Kept (execPowerCapTick est s) :=
  kept_done (canonical_foldl hs.upd (fun _ _ hs => capDie_canonical hs _))

theorem execAvsReadback_kept (hs : Canonical s) {rail mv} : Kept (execAvsReadback rail mv s) := by
  unfold execAvsReadback
  split
  · refine kept_ite ?_ ?_
    · extract_lets +onlyGivenNames t
      have ht : Canonical t := avsOver_canonical hs _
      exact kept_done (canonical_ite (setAclk_canonical ht ..) ht)
    · exact kept_done hs
  · exact kept_done hs

theorem execAvsReadbackTimeout_kept (hs : Canonical s) {rail mv} : Kept (execAvsReadbackTimeout rail mv s) := by
  unfold execAvsReadbackTimeout
  split
  · refine kept_ite ?_ ?_
    · extract_lets +onlyGivenNames u
      have hu : Canonical u := event_canonical (avsOver_canonical hs _) ..
      exact kept_done (canonical_ite (setAclk_canonical hu.fset ..) hu)
    · exact kept_done hs
  · exact kept_done hs

theorem execPmbusPoll_kept (hs : Canonical s) {rail r} : Kept (execPmbusPoll rail r s) := by
  unfold execPmbusPoll
  split
  · exact kept_done (event_canonical hs.upd.fset ..)
  · refine kept_ite ?_ ?_
    · extract_lets +onlyGivenNames n
      exact kept_done (canonical_ite hs.upd.fset hs.upd)
    · exact kept_done (canonical_ite hs.upd.fset.fset.fset hs.upd.fset.fset.fset.fset)

theorem execPmbusStaleEnd_kept (hs : Canonical s) {rail} : Kept (execPmbusStaleEnd rail s) := by
  unfold execPmbusStaleEnd
  split
  · exact kept_ite (kept_done hs.upd.fset) (kept_done hs)
  · exact kept_done hs

theorem execPmbusBusStuck_kept (hs : Canonical s) {scl} : Kept (execPmbusBusStuck scl s) :=
  kept_done (event_canonical hs.upd ..)

theorem execPmbAlert_kept (hs : Canonical s) {words stays} : Kept (execPmbAlert words stays s) := by
  unfold execPmbAlert
  refine kept_ite (kept_done hs) ?_
  extract_lets +onlyGivenNames t
  have ht : Canonical t := canonical_foldl hs (fun _ _ hs => event_canonical hs ..)
  exact kept_done (canonical_ite ht.upd ht)

theorem execPmbAlertUnmask_kept (hs : Canonical s) : Kept (execPmbAlertUnmask s) := by
  unfold execPmbAlertUnmask
  split
  · exact kept_ite (kept_done hs.upd) (kept_done hs)
  · exact kept_done hs

theorem execRegisterWrite_kept (hs : Canonical s) {off src v} : Kept (execRegisterWrite off src v s) :=
  kept_ite (kept_done (event_canonical (bump_canonical hs ..) ..)) (kept_done (ctlWrite_canonical hs ..))

/-! ### Machine/Debug.lean -/

theorem execTileDbgHalt_kept (hs : Canonical s) {t c} : Kept (execTileDbgHalt t c s) := by
  unfold execTileDbgHalt
  refine kept_ite ?_ ?_
  · extract_lets +onlyGivenNames s1 x
    have hs1 : Canonical s1 := hs.fset
    exact kept_ite (kept_done (leave_canonical (mapCtx_canonical hs1 ..) _)) (kept_done hs1)
  · exact kept_done hs

theorem execTileDbgStep_kept (hs : Canonical s) {t c} : Kept (execTileDbgStep t c s) :=
  kept_ite (kept_ite (kept_done (unhalt_canonical hs.fset ..)) (kept_done hs.fset)) (kept_done hs)

theorem execTileDbgResume_kept (hs : Canonical s) {t c} : Kept (execTileDbgResume t c s) :=
  kept_ite (kept_ite (kept_done (unhalt_canonical hs.fset ..)) (kept_done hs.fset)) (kept_done hs)

theorem execTileDbgValWrite_kept (hs : Canonical s) {t v} : Kept (execTileDbgValWrite t v s) :=
  kept_ite (kept_done (mapCtx_canonical hs ..)) (kept_done hs)

theorem execBypass_kept (hs : Canonical s) : Kept (execBypass s) :=
  kept_done (tapBypass_canonical hs _)

theorem execIdcode_kept (hs : Canonical s) : Kept (execIdcode s) :=
  kept_done (tap_canonical hs ..)

theorem execExtest_kept (hs : Canonical s) : Kept (execExtest s) :=
  kept_done (boundary_canonical hs _)

theorem execSamplePreload_kept (hs : Canonical s) : Kept (execSamplePreload s) :=
  kept_done (boundary_canonical hs _)

theorem execDbgrd_kept (hs : Canonical s) {off} : Kept (execDbgrd off s) := by
  unfold execDbgrd
  refine kept_ite (kept_done (tapBypass_canonical hs _)) ?_
  exact kept_ite (kept_done (tap_canonical hs ..)) (kept_done (tap_canonical hs ..))

theorem execDbgrw_kept (hs : Canonical s) {a v} : Kept (execDbgrw a v s) := by
  unfold execDbgrw
  refine kept_ite (kept_done (tapBypass_canonical hs _)) ?_
  split
  · refine kept_ite (kept_done (tap_canonical hs ..)) ?_
    exact kept_ite (kept_done (tap_canonical hs ..)) (kept_done (tap_canonical hs ..))
  · extract_lets +onlyGivenNames t
    have ht : Canonical t := tap_canonical hs ..
    refine kept_ite (kept_done (wr_canonical ht ..)) ?_
    exact kept_ite (kept_done (ctlWrite_canonical ht ..)) (kept_done ht)

/-! ### Machine/Answers.lean -/

theorem execAckReceive_kept (hs : Canonical s) {x} : Kept (execAckReceive x s) := by
  unfold execAckReceive
  split
  · rename_i t _ _ h
    have ht := canonical_fst (take_canonical hs ..) h
    refine kept_ite ?_ (kept_done (malformed_canonical ht ..))
    split
    · exact kept_done (acked_canonical ht ..)
    · exact kept_done ht
  · rename_i t h
    have ht := canonical_fst (take_canonical hs ..) h
    exact kept_done ht

theorem execNakReceive_kept (hs : Canonical s) {x} : Kept (execNakReceive x s) := by
  unfold execNakReceive
  split
  · rename_i t _ _ h
    have ht := canonical_fst (take_canonical hs ..) h
    refine kept_ite ?_ (kept_done (malformed_canonical ht ..))
    split
    · exact kept_done (naked_canonical ht ..)
    · exact kept_done ht.upd
  · rename_i t h
    have ht := canonical_fst (take_canonical hs ..) h
    exact kept_done ht

/-! ### The dispatch and the step -/

/-- Every command keeps the canonical form: each of the table's rows by its own lemma. -/
theorem exec_kept (hs : Canonical s) (c : Instr) : Kept (exec c s) := by
  cases c with
  | br k w => exact execBr_kept hs
  | brc k w => exact execBrc_kept hs
  | loop k w => exact execLoop_kept hs
  | yield k w => exact execYield_kept hs
  | halt k w => exact execHalt_kept hs
  | trap k w => exact execTrap_kept hs
  | add k w => exact execAdd_kept hs
  | sub k w => exact execSub_kept hs
  | mul k w => exact execMul_kept hs
  | and k w => exact execAnd_kept hs
  | or k w => exact execOr_kept hs
  | xor k w => exact execXor_kept hs
  | shl k w => exact execShl_kept hs
  | shr k w => exact execShr_kept hs
  | cmp k w => exact execCmp_kept hs
  | movi k w => exact execMovi_kept hs
  | tdset k w => exact execTdset_kept hs
  | tdadv k w => exact execTdadv_kept hs
  | ldt k w => exact execLdt_kept hs
  | stt k w => exact execStt_kept hs
  | moveComplete k j => exact execMoveComplete_kept hs
  | stream k w => exact execStream_kept hs
  | pref k w => exact execPref_kept hs
  | mma k w => exact execMma_kept hs
  | mmaNm k w => exact execMmaNm_kept hs
  | mmaComplete t f => exact execMmaComplete_kept hs
  | accz k w => exact execAccz_kept hs
  | accmv k w => exact execAccmv_kept hs
  | vop k w => exact execVop_kept hs
  | vbc k w => exact execVbc_kept hs
  | vred k w => exact execVred_kept hs
  | vcvt k w => exact execVcvt_kept hs
  | vxa k w => exact execVxa_kept hs
  | laceLd k w => exact execLaceLd_kept hs
  | laceRun k w => exact execLaceRun_kept hs
  | vecInstrComplete t f => exact execVecInstrComplete_kept hs
  | spmm k w => exact execSpmm_kept hs
  | spenc k w => exact execSpenc_kept hs
  | spdec k w => exact execSpdec_kept hs
  | spmInstrComplete t f => exact execSpmInstrComplete_kept hs
  | sieve k w => exact execSieve_kept hs
  | sieveComplete t => exact execSieveComplete_kept hs
  | sieveFl k w => exact execSieveFl_kept hs
  | routeGo k w => exact execRouteGo_kept hs
  | routeRet k w => exact execRouteRet_kept hs
  | routeStat k w => exact execRouteStat_kept hs
  | kwait k w => exact execKwait_kept hs
  | kwaitTimeout k => exact execKwaitTimeout_kept hs
  | karrive k w => exact execKarrive_kept hs
  | kadd k w => exact execKadd_kept hs
  | kset k w => exact execKset_kept hs
  | kat k w => exact execKat_kept hs
  | katWake k => exact execKatWake_kept hs
  | palloc k w => exact execPalloc_kept hs
  | phold k w => exact execPhold_kept hs
  | pfree k w => exact execPfree_kept hs
  | ld k w => exact execLd_kept hs
  | st k w => exact execSt_kept hs
  | atom k w => exact execAtom_kept hs
  | put k w => exact execPut_kept hs
  | get k w => exact execGet_kept hs
  | fence k w => exact execFence_kept hs
  | csrr k w => exact execCsrr_kept hs
  | csrw k w => exact execCsrw_kept hs
  | evt k w => exact execEvt_kept hs
  | perf k w => exact execPerf_kept hs
  | admitGraph n => exact execAdmitGraph_kept hs
  | admitStall n => exact execAdmitStall_kept hs
  | taskMaxrunExceeded q => exact execTaskMaxrunExceeded_kept hs
  | taskWatchdog q => exact execTaskWatchdog_kept hs
  | knotOpReceive x => exact execKnotOpReceive_kept hs
  | create n => exact execCreate_kept hs
  | teardown n => exact execTeardown_kept hs
  | gloveDrainDone n => exact execGloveDrainDone_kept hs
  | gloveScrubDone n => exact execGloveScrubDone_kept hs
  | knotRel i1 v core => exact execKnotRel_kept hs
  | knotSvcWrite v => exact execKnotSvcWrite_kept hs
  | twinDigestReceive x => exact execTwinDigestReceive_kept hs
  | twinRingReceive x => exact execTwinRingReceive_kept hs
  | twinDigestMissing q => exact execTwinDigestMissing_kept hs
  | twinDigestDiscard j => exact execTwinDigestDiscard_kept hs
  | tileTestStart t => exact execTileTestStart_kept hs
  | tileSelfTestDone t map => exact execTileSelfTestDone_kept hs
  | tileCtlWrite t src v => exact execTileCtlWrite_kept hs
  | brmListIntake e => exact execBrmListIntake_kept hs
  | brmRankingDone e => exact execBrmRankingDone_kept hs
  | countsPartReceive x => exact execCountsPartReceive_kept hs
  | homeAdmit e => exact execHomeAdmit_kept hs
  | grantPartReceive x => exact execGrantPartReceive_kept hs
  | sourceReroute e => exact execSourceReroute_kept hs
  | sourceSort e => exact execSourceSort_kept hs
  | brmStepTimeout e => exact execBrmStepTimeout_kept hs
  | brmDirNextepWrite n v => exact execBrmDirNextepWrite_kept hs
  | spliceSendFragment e => exact execSpliceSendFragment_kept hs
  | spliceRowReceive x => exact execSpliceRowReceive_kept hs
  | spliceAbortReceive x => exact execSpliceAbortReceive_kept hs
  | returnSendFragment e => exact execReturnSendFragment_kept hs
  | returnResultReceive x => exact execReturnResultReceive_kept hs
  | spliceLandingTimeout e => exact execSpliceLandingTimeout_kept hs
  | returnArrivalTimeout e => exact execReturnArrivalTimeout_kept hs
  | migTlbinvGo v => exact execMigTlbinvGo_kept hs
  | migPromote page => exact execMigPromote_kept hs
  | pin die page => exact execPin_kept hs
  | unpin page => exact execUnpin_kept hs
  | discard page => exact execDiscard_kept hs
  | vacate c => exact execVacate_kept hs
  | resume c => exact execResume_kept hs
  | migCfgWrite v => exact execMigCfgWrite_kept hs
  | streamFill n => exact execStreamFill_kept hs
  | hbmChannelDrain c => exact execHbmChannelDrain_kept hs
  | hbmChannelRetrainDone c ok => exact execHbmChannelRetrainDone_kept hs
  | hbmTgStart c => exact execHbmTgStart_kept hs
  | hbmTgStop c => exact execHbmTgStop_kept hs
  | hbmTgRunDone c errors lanes => exact execHbmTgRunDone_kept hs
  | hbmQosWrite src v => exact execHbmQosWrite_kept hs
  | poolInit c => exact execPoolInit_kept hs
  | poolInitDone c => exact execPoolInitDone_kept hs
  | poolRelease c => exact execPoolRelease_kept hs
  | poolReset c => exact execPoolReset_kept hs
  | poolSvcFree c v => exact execPoolSvcFree_kept hs
  | nvsDieTimeout die cmd => exact execNvsDieTimeout_kept hs
  | linkFrameReceive p f => exact execLinkFrameReceive_kept hs
  | portLaneFail p lane => exact execPortLaneFail_kept hs
  | portRetrainDone p => exact execPortRetrainDone_kept hs
  | portRetrainTimeout p => exact execPortRetrainTimeout_kept hs
  | portRxSilence p => exact execPortRxSilence_kept hs
  | portEnable p src => exact execPortEnable_kept hs
  | portDisable p src => exact execPortDisable_kept hs
  | portFence p src => exact execPortFence_kept hs
  | portRelease p src => exact execPortRelease_kept hs
  | portFiArm p v => exact execPortFiArm_kept hs
  | portFiStop p => exact execPortFiStop_kept hs
  | fiDelayExpire p => exact execFiDelayExpire_kept hs
  | portOutputSend p => exact execPortOutputSend_kept hs
  | packetTransit x => exact execPacketTransit_kept hs
  | packetEscape p vc => exact execPacketEscape_kept hs
  | syncDrainExpire slot => exact execSyncDrainExpire_kept hs
  | packetBadTypeReceive x => exact execPacketBadTypeReceive_kept hs
  | storeReceive x => exact execStoreReceive_kept hs
  | loadReqReceive x => exact execLoadReqReceive_kept hs
  | loadRspReceive x => exact execLoadRspReceive_kept hs
  | atomicReceive x => exact execAtomicReceive_kept hs
  | putReceive x => exact execPutReceive_kept hs
  | getReqReceive x => exact execGetReqReceive_kept hs
  | getRspReceive x => exact execGetRspReceive_kept hs
  | ackReceive x => exact execAckReceive_kept hs
  | nakReceive x => exact execNakReceive_kept hs
  | cnpReceive x => exact execCnpReceive_kept hs
  | cnpSend dev => exact execCnpSend_kept hs
  | rateLimitRecover dev => exact execRateLimitRecover_kept hs
  | probeReceive x => exact execProbeReceive_kept hs
  | fabProbe v => exact execFabProbe_kept hs
  | circSetupReceive x => exact execCircSetupReceive_kept hs
  | circTearReceive x => exact execCircTearReceive_kept hs
  | circSetupTimeout cid => exact execCircSetupTimeout_kept hs
  | circRefresh cid => exact execCircRefresh_kept hs
  | circLeaseExpire p s1 => exact execCircLeaseExpire_kept hs
  | hitchCastReceive x => exact execHitchCastReceive_kept hs
  | rgnCommit i1 => exact execRgnCommit_kept (i := i1) hs
  | rgnClear i1 => exact execRgnClear_kept hs
  | rgnTransfer i1 owner knot => exact execRgnTransfer_kept hs
  | rgnTransferFlushed i1 => exact execRgnTransferFlushed_kept hs
  | ownXferReceive x => exact execOwnXferReceive_kept hs
  | ownGrantReceive x => exact execOwnGrantReceive_kept hs
  | ownDoneReceive x => exact execOwnDoneReceive_kept hs
  | ownXferTimeout i1 => exact execOwnXferTimeout_kept hs
  | podRspTimeout tag => exact execPodRspTimeout_kept hs
  | transferRspTimeout xid => exact execTransferRspTimeout_kept hs
  | collSubmit addr => exact execCollSubmit_kept hs
  | collStart h => exact execCollStart_kept hs
  | collContribReceive x => exact execCollContribReceive_kept hs
  | collResultReceive x => exact execCollResultReceive_kept hs
  | collFailReceive x => exact execCollFailReceive_kept hs
  | collRetryReceive x => exact execCollRetryReceive_kept hs
  | collArriveReceive x => exact execCollArriveReceive_kept hs
  | collWindowReadout h => exact execCollWindowReadout_kept hs
  | collReadbackDone h good => exact execCollReadbackDone_kept hs
  | collTimeout h => exact execCollTimeout_kept hs
  | nakBusyRetry j => exact execNakBusyRetry_kept hs
  | alltoallvCountsReceive x => exact execAlltoallvCountsReceive_kept hs
  | alltoallvGrantReceive x => exact execAlltoallvGrantReceive_kept hs
  | timeSyncReceive x => exact execTimeSyncReceive_kept hs
  | timeReqReceive x => exact execTimeReqReceive_kept hs
  | timeRespReceive x => exact execTimeRespReceive_kept hs
  | ptpMessageReceive m => exact execPtpMessageReceive_kept hs
  | timeLchGo addr => exact execTimeLchGo_kept hs
  | launchPrepareReceive x => exact execLaunchPrepareReceive_kept hs
  | launchHoldReceive x => exact execLaunchHoldReceive_kept hs
  | launchAckReceive x => exact execLaunchAckReceive_kept hs
  | launchCommitReceive x => exact execLaunchCommitReceive_kept hs
  | launchCancelReceive x => exact execLaunchCancelReceive_kept hs
  | launchQueryReceive x => exact execLaunchQueryReceive_kept hs
  | launchReady l => exact execLaunchReady_kept hs
  | launchReachTimeout l j => exact execLaunchReachTimeout_kept hs
  | launchDeadline l => exact execLaunchDeadline_kept hs
  | launchQueryTimer l => exact execLaunchQueryTimer_kept hs
  | launchRelease l => exact execLaunchRelease_kept hs
  | svcCoreRefresh core target => exact execSvcCoreRefresh_kept hs
  | svcWdogRefresh core => exact execSvcWdogRefresh_kept hs
  | ethTxFrame m r => exact execEthTxFrame_kept hs
  | ethRxFrame m f => exact execEthRxFrame_kept hs
  | ethRingEnable m d r v => exact execEthRingEnable_kept hs
  | sensorSample q => exact execSensorSample_kept hs
  | powerCapTick est => exact execPowerCapTick_kept hs
  | avsReadback rail mv => exact execAvsReadback_kept hs
  | railEnableStep vout => exact execRailEnableStep_kept hs
  | pmbusPoll rail r => exact execPmbusPoll_kept hs
  | ctrClear window => exact execCtrClear_kept hs
  | arbitratedControlWrite off src v => exact execArbitratedControlWrite_kept hs
  | svcArbRel src v => exact execSvcArbRel_kept hs
  | nonce core => exact execNonce_kept hs
  | quote core => exact execQuote_kept hs
  | extend core => exact execExtend_kept hs
  | dbgOpen core => exact execDbgOpen_kept hs
  | dbgClose core => exact execDbgClose_kept hs
  | cfgWrite core good => exact execCfgWrite_kept hs
  | stage core => exact execStage_kept hs
  | activate core => exact execActivate_kept hs
  | activateUnitSwitch unit => exact execActivateUnitSwitch_kept hs
  | verify core => exact execVerify_kept hs
  | lifecycle core => exact execLifecycle_kept hs
  | jread core => exact execJread_kept hs
  | exported core => exact execExported_kept hs
  | mboxReservedCmd core cmd => exact execMboxReservedCmd_kept hs
  | secWriteViolation off src => exact execSecWriteViolation_kept hs
  | bootUartImage image => exact execBootUartImage_kept hs
  | tileDbgHalt t c => exact execTileDbgHalt_kept hs
  | tileDbgStep t c => exact execTileDbgStep_kept hs
  | tileDbgResume t c => exact execTileDbgResume_kept hs
  | tileDbgValWrite t v => exact execTileDbgValWrite_kept hs
  | dbgrd off => exact execDbgrd_kept hs
  | dbgrw a v => exact execDbgrw_kept hs
  | pwrReqP0 src => exact execPwrReqP0_kept hs
  | pwrReqP2 src => exact execPwrReqP2_kept hs
  | pwrReqP3 src => exact execPwrReqP3_kept hs
  | pwrReqP4 src => exact execPwrReqP4_kept hs
  | softwareFullReset src => exact execSoftwareFullReset_kept hs
  | resetRelease r => exact execResetRelease_kept hs
  | rstBlockTile t => exact execRstBlockTile_kept hs
  | rstBlockPort p => exact execRstBlockPort_kept hs
  | rstBlockHbmChannel c => exact execRstBlockHbmChannel_kept hs
  | rstBlockBrimir e => exact execRstBlockBrimir_kept hs
  | sagDetect cause => exact execSagDetect_kept hs
  | registerWrite off src v => exact execRegisterWrite_kept hs
  | pmbAlert words stays => exact execPmbAlert_kept hs
  | hbmParityError c retries => exact execHbmParityError_kept hs
  | taskDispatch => exact execTaskDispatch_kept hs
  | knotJobctlClear => exact execKnotJobctlClear_kept hs
  | migTlbinvDone => exact execMigTlbinvDone_kept hs
  | migAgeTick => exact execMigAgeTick_kept hs
  | timeSyncTick => exact execTimeSyncTick_kept hs
  | timeHoldover => exact execTimeHoldover_kept hs
  | ppsInEdge => exact execPpsInEdge_kept hs
  | ppsOutEdge => exact execPpsOutEdge_kept hs
  | utcSourceSilent => exact execUtcSourceSilent_kept hs
  | svcCoreWatchdog core => exact execSvcCoreWatchdog_kept hs
  | svcCoreCacheUe core => exact execSvcCoreCacheUe_kept hs
  | serviceWatchdog => exact execServiceWatchdog_kept hs
  | ethLinkDown m => exact execEthLinkDown_kept hs
  | ethPfcStorm prio => exact execEthPfcStorm_kept hs
  | ethFlap m => exact execEthFlap_kept hs
  | ethLinkRetry m => exact execEthLinkRetry_kept hs
  | thermalRequestRepeat => exact execThermalRequestRepeat_kept hs
  | telemetryRecord => exact execTelemetryRecord_kept hs
  | droopTrip die => exact execDroopTrip_kept hs
  | droopRecover die => exact execDroopRecover_kept hs
  | avsReadbackTimeout rail mv => exact execAvsReadbackTimeout_kept hs
  | railPgoodTimeout => exact execRailPgoodTimeout_kept hs
  | railPgoodLost rail => exact execRailPgoodLost_kept hs
  | pmbusBusStuck scl => exact execPmbusBusStuck_kept hs
  | arbRoundEnd => exact execArbRoundEnd_kept hs
  | dbgD2GlovesGone => exact execDbgD2GlovesGone_kept hs
  | debugSessionExpire => exact execDebugSessionExpire_kept hs
  | nonceExpire => exact execNonceExpire_kept hs
  | journalCheckpoint => exact execJournalCheckpoint_kept hs
  | journalNvsWrite => exact execJournalNvsWrite_kept hs
  | securityViolation => exact execSecurityViolation_kept hs
  | bypass => exact execBypass_kept hs
  | idcode => exact execIdcode_kept hs
  | extest => exact execExtest_kept hs
  | samplePreload => exact execSamplePreload_kept hs
  | trstN => exact execTrstN_kept hs
  | p2TileGate => exact execP2TileGate_kept hs
  | p2Autowake => exact execP2Autowake_kept hs
  | powerTransitionDone => exact execPowerTransitionDone_kept hs
  | porstN => exact execPorstN_kept hs
  | sysrstN => exact execSysrstN_kept hs
  | rstBlockColl => exact execRstBlockColl_kept hs
  | pllUnlock i1 => exact execPllUnlock_kept hs
  | pllRelock i1 => exact execPllRelock_kept hs
  | sagSaveComplete => exact execSagSaveComplete_kept hs
  | sagEnergyShort => exact execSagEnergyShort_kept hs
  | sagRestart => exact execSagRestart_kept hs
  | pwrwarnGlitch => exact execPwrwarnGlitch_kept hs
  | fabrefClkLost e => exact execFabrefClkLost_kept hs
  | ethrefClkLost => exact execEthrefClkLost_kept hs
  | ethLinkUp m => exact execEthLinkUp_kept hs
  | ethHolddownEnd m => exact execEthHolddownEnd_kept hs
  | ethPfcIgnoreEnd prio => exact execEthPfcIgnoreEnd_kept hs
  | pmbusStaleEnd rail => exact execPmbusStaleEnd_kept hs
  | pmbAlertUnmask => exact execPmbAlertUnmask_kept hs

/-- One step keeps the canonical form: a tick where no command waits, the front command's effect where one does. -/
theorem step_kept (hs : Canonical s) : Kept (step s) := by
  unfold step
  split
  · intro t e
    cases e
    exact (tick_canonical hs).upd
  · exact exec_kept hs.upd _

end Sys2Proof.Machine
end

section
open Sys2Proof.Machine

/-- Settles O60: every table of the reset state is either empty or listed in canonical form. -/
theorem canonicalAtReset : Obligations.CanonicalAtReset := by
  unfold Obligations.CanonicalAtReset
  exact canonical_mk Tab.wf_nil Tab.wf_nil Tab.wf_nil

/-- Settles O59: the canonical form is an invariant of every single step, by one lemma per command. -/
theorem canonicalKept : Obligations.CanonicalKept := by
  unfold Obligations.CanonicalKept
  intro s t hs e
  exact step_kept hs t e
end

section
/-! O47: the service cores, register writes, arbitration and counter clears. First the rules about the operations they
share (an event's effect on the service complex, what stays within `svcOnly`), then one part per family of commands. -/

namespace Sys2Proof.Claims

open Machine Reg

variable {s t : State}

/-! ### The shared operations -/

/-- A log record changes the event log alone in the service complex. -/
theorem svc_logRec (r : EvRec) : (s.logRec r).svc = { s.svc with
    evlog := Tab.store (fun _ => {}) s.svc.evlog (s.fget SVC_EVLOG SVC_EVLOG_HEAD % 8192) r } := by
  unfold State.logRec
  exact at_ite State.svc (at_ite State.svc rfl rfl) rfl

/-- The record that an event appends to the log at a time. -/
def eventRec (now : W64) (code unit slot w2 w3 : Nat) : EvRec :=
  ⟨now, BitVec.ofNat 64 (code % 65536 + code / 256 * 65536 + unit % 65536 * 2 ^ 24 + slot % 64 * 2 ^ 40),
    BitVec.ofNat 64 w2, BitVec.ofNat 64 w3⟩

/-- An event changes the event log alone in the service complex, whether or not it is journalled. -/
theorem svc_event (code unit slot w2 w3 : Nat) : (s.event code unit slot w2 w3).svc = { s.svc with
    evlog := Tab.store (fun _ => {}) s.svc.evlog (s.fget SVC_EVLOG SVC_EVLOG_HEAD % 8192)
      (eventRec s.lanyard code unit slot w2 w3) } := by
  unfold State.event
  dsimp only
  split
  · exact svc_logRec _
  · exact svc_logRec _

/-- An event raised in a state whose clock and log pointers are those of s is the next record of s's log. -/
theorem raised_event {u : State} (hr : u.reg SVC_EVLOG = s.reg SVC_EVLOG) (hl : u.lanyard = s.lanyard)
    (code unit slot w2 w3 : Nat) : raised s (u.event code unit slot w2 w3) code unit slot w2 w3 := by
  have hf : u.fget SVC_EVLOG SVC_EVLOG_HEAD = s.fget SVC_EVLOG SVC_EVLOG_HEAD := by rw [State.fget, hr]; rfl
  unfold raised
  rw [svc_event, hf, hl]
  exact Tab.look_store_same ..

/-- A command answers its effect on the state with the queue of waiting commands put back. -/
theorem goes_of_done {c : Instr} {u : State} {P : State → Prop} (he : exec c s = done s u)
    (hP : P { u with pending := s.pending }) : Goes c s P := ⟨_, he, rfl, hP⟩

/-- The registers do not depend on the queue of waiting commands. -/
theorem reg_pending (q : List Instr) (o : Nat) : State.reg { s with pending := q } o = s.reg o := rfl
theorem fget_pending (q : List Instr) (o : Nat) (f : Fld) : State.fget { s with pending := q } o f = s.fget o f := rfl

theorem svcOnly.refl (s : State) : svcOnly s s := ⟨⟨rfl, rfl, rfl, rfl, rfl, rfl, rfl⟩, rfl, rfl, rfl, rfl⟩

/-- Two updates of the service complex, one after the other. -/
theorem svcOnly.trans {u : State} (h : svcOnly s t) (h' : svcOnly t u) : svcOnly s u := by
  obtain ⟨⟨mem, kn, tiles, slice, mm, brm, pwr⟩, rt, ports, hub, time⟩ := h
  obtain ⟨⟨mem', kn', tiles', slice', mm', brm', pwr'⟩, rt', ports', hub', time'⟩ := h'
  exact ⟨⟨mem'.trans mem, kn'.trans kn, tiles'.trans tiles, slice'.trans slice, mm'.trans mm, brm'.trans brm,
    pwr'.trans pwr⟩, rt'.trans rt, ports'.trans ports, hub'.trans hub, time'.trans time⟩

/-- `svcOnly` says nothing of the queue of commands, of the registers, or of the service and security complexes. -/
theorem svcOnly.upd {p c v x} (h : svcOnly s t) :
    svcOnly s { t with pending := p, ctl := c, svc := v, sec := x } := h

theorem svcOnly.setReg (h : svcOnly s t) (o : Nat) (v : W64) : svcOnly s (t.setReg o v) := h
theorem svcOnly.fset (h : svcOnly s t) (o : Nat) (f : Fld) (n : Nat) : svcOnly s (t.fset o f n) := h

theorem svcOnly.event (h : svcOnly s t) (code unit slot w2 w3 : Nat) :
    svcOnly s (t.event code unit slot w2 w3) :=
  h.trans ⟨⟨by simp, by simp, by simp, by simp, by simp, by simp, by simp⟩, by simp, by simp, by simp, by simp⟩

theorem svcOnly.bump (h : svcOnly s t) (o : Nat) (f : Fld) (n : Nat) : svcOnly s (t.bump o f n) :=
  h.trans ⟨⟨by simp, by simp, by simp, by simp, by simp, by simp, by simp⟩, by simp, by simp, by simp, by simp⟩

/-- A fold of updates that each stay within the service complex. -/
theorem svcOnly.foldl {β : Type} {f : State → β → State} (hf : ∀ u x, svcOnly u (f u x)) :
    ∀ (l : List β) {t : State}, svcOnly s t → svcOnly s (l.foldl f t)
  | [], _, h => h
  | x :: l, _, h => svcOnly.foldl hf l (h.trans (hf _ x))

/-- A command that does nothing. -/
theorem goes_nothing {c : Instr} (he : exec c s = done s s) :
    Goes c s (fun t => t.svc = s.svc ∧ (∀ o, t.reg o = s.reg o) ∧ svcOnly s t) :=
  goes_of_done he ⟨rfl, fun _ => rfl, svcOnly.refl s⟩

/-! ### The service cores (R338, R339) -/

/-- A core's store to its own watchdog restarts it, and no other core's. -/
theorem svcCoreRefresh_own (c : Fin 16) (hc : s.coreFenced c = false) :
    Goes (.svcCoreRefresh c c) s (fun t => Tab.look (fun _ => 0) t.svc.refreshed c = s.lanyard.toNat
      ∧ (∀ d, d ≠ c.val → Tab.look (fun _ => 0) t.svc.refreshed d = Tab.look (fun _ => 0) s.svc.refreshed d)
      ∧ (∀ o, t.reg o = s.reg o) ∧ svcOnly s t) :=
  goes_of_done (if_pos ⟨rfl, hc⟩)
    ⟨Tab.look_store_same .., fun _ hd => (Tab.look_store ..).trans (if_neg hd), fun _ => rfl, svcOnly.refl s⟩

/-- A store to another core's watchdog, or by a fenced core, does nothing. -/
theorem svcCoreRefresh_nothing {c d : Fin 16} (h : c ≠ d ∨ s.coreFenced c = true) :
    exec (.svcCoreRefresh c d) s = done s s :=
  if_neg fun ⟨hcd, hc⟩ => h.elim (· hcd) fun hc' => Bool.false_ne_true (hc.symm.trans hc')

/-- The device's watchdog restarts when an unfenced core writes it. -/
theorem svcWdogRefresh_goes (c : Fin 16) : Goes (.svcWdogRefresh c) s (fun t =>
    t.svc.wdog = (if s.coreFenced c then s.svc.wdog else s.lanyard.toNat)
    ∧ (∀ o, t.reg o = s.reg o) ∧ svcOnly s t) := by
  by_cases hc : s.coreFenced c = true
  · exact goes_of_done (if_pos hc) ⟨(if_pos hc).symm, fun _ => rfl, svcOnly.refl s⟩
  · exact goes_of_done (if_neg hc) ⟨(if_neg hc).symm, fun _ => rfl, svcOnly.refl s⟩

/-- The state in which a core's bits are set and the management role is not yet moved. -/
def coreMarked (s : State) (c : Nat) : State :=
  (s.fset (SVC_CORE_CTL c) SVC_CORE_CTL_FENCED 1).fset SVC_ROLE ⟨4 + c, 4 + c⟩ 1

/-- The state with the management role where it lies, the event not yet raised. -/
def roleMoved (s : State) : State :=
  match s.roleHolder with
  | some m => s.fset SVC_ROLE SVC_ROLE_MGMT_CORE m
  | none => s

theorem fenceCore_eq {c : Nat} (hc : s.coreFenced c = false) (why : Nat) :
    s.fenceCore c why = (roleMoved (coreMarked s c)).event 0x1301 c 0x3F why 0 := by
  rw [State.fenceCore, hc]
  rfl

/-- Moving the role writes no register but SVC_ROLE. -/
theorem reg_roleMoved {o : Nat} (h : o ≠ SVC_ROLE) : (roleMoved s).reg o = s.reg o := by
  unfold roleMoved
  split
  · exact State.reg_fset_ne h _ _
  · rfl

/-- Moving the role keeps the fields of SVC_ROLE above MGMT_CORE. -/
theorem fget_roleMoved {f : Fld} (hf : f.lo ≤ f.hi) (h : 3 < f.lo) :
    (roleMoved s).fget SVC_ROLE f = s.fget SVC_ROLE f := by
  unfold roleMoved
  split
  · exact State.fget_fset_apart _ _ _ _ (by decide) (by decide) hf (.inl h)
  · rfl

theorem roleMoved_lanyard : (roleMoved s).lanyard = s.lanyard := by
  unfold roleMoved; split <;> rfl

theorem roleMoved_mgmtConf : (roleMoved s).svc.mgmtConf = s.svc.mgmtConf := by
  unfold roleMoved; split <;> rfl

theorem svcOnly.roleMoved (h : svcOnly s t) : svcOnly s (roleMoved t) := by
  unfold Claims.roleMoved
  split
  · exact h.fset ..
  · exact h

/-- MGMT_CORE names the core that holds the role. -/
theorem mgmtCore_roleMoved {m : Nat} (h : s.roleHolder = some m) :
    (roleMoved s).fget SVC_ROLE SVC_ROLE_MGMT_CORE = m % 16 := by
  simp only [roleMoved, h]
  exact State.fget_fset _ _ _ (by decide) (by decide)

/-- The role depends on which cores are fenced and on the configured core. -/
theorem roleHolder_congr {u v : State} (hf : ∀ c, u.reg (SVC_CORE_CTL c) = v.reg (SVC_CORE_CTL c))
    (hm : u.svc.mgmtConf = v.svc.mgmtConf) : u.roleHolder = v.roleHolder := by
  have hc : u.coreFenced = v.coreFenced := funext fun c => by simp only [State.coreFenced, State.fget, hf]
  simp only [State.roleHolder, hc, hm]

/-- A core's control register is none of the log's, the journal's or the role's. -/
theorem coreCtl_apart (c : Nat) : SVC_CORE_CTL c ≠ SVC_EVLOG ∧ SVC_CORE_CTL c ≠ SVC_EVLOG_LOST
    ∧ SVC_CORE_CTL c ≠ SEC_JNL_HEAD ∧ SVC_CORE_CTL c ≠ SVC_ROLE := by
  simp only [SVC_CORE_CTL, SVC_EVLOG, SVC_EVLOG_LOST, SEC_JNL_HEAD, SVC_ROLE]
  omega

/-- Fencing a core, for whichever reason: its bits, the role and the event. -/
theorem corefenced_fenceCore {c : Nat} (hlt : c < 16) (hc : s.coreFenced c = false) (why : Nat) :
    corefenced s (s.fenceCore c why) c why := by
  obtain ⟨hlog, hlost, hjnl, hrole⟩ := coreCtl_apart c
  rw [fenceCore_eq hc]
  refine ⟨?_, ?_, fun m hm => ?_, raised_event ?_ ?_ ..⟩
  · rw [State.fget_event hlog hlost hjnl, State.fget, reg_roleMoved hrole, ← State.fget, coreMarked,
      State.fget_fset_ne hrole]
    exact State.fget_fset _ _ _ (by decide) (by decide)
  · rw [State.fget_event (by decide) (by decide) (by decide), fget_roleMoved (Nat.le_refl _) (by simp only; omega),
      coreMarked, State.fget_fset _ _ _ (Nat.le_refl _) (by simp only; omega)]
    simp only
    rw [Nat.add_sub_cancel_left]
    rfl
  · rw [State.fget_event (by decide) (by decide) (by decide)]
    refine mgmtCore_roleMoved (hm ▸ (roleHolder_congr (fun d => ?_) ?_).symm)
    · obtain ⟨hlog', hlost', hjnl', hrole'⟩ := coreCtl_apart d
      rw [State.reg_event hlog' hlost' hjnl', reg_roleMoved hrole']
    · rw [svc_event]
      exact roleMoved_mgmtConf
  · rw [reg_roleMoved (by decide), coreMarked, State.reg_fset_ne (by decide), State.reg_fset_ne hlog.symm]
  · rw [roleMoved_lanyard, coreMarked, State.fset_lanyard, State.fset_lanyard]

theorem svcOnly.fenceCore (h : svcOnly s t) (c why : Nat) : svcOnly s (t.fenceCore c why) := by
  by_cases hc : t.coreFenced c = true
  · rwa [State.fenceCore, if_pos hc]
  · rw [fenceCore_eq (Bool.eq_false_iff.mpr hc)]
    exact (((h.fset ..).fset ..).roleMoved).event ..

/-- A core is fenced whose period has passed without a refresh. -/
theorem svcCoreWatchdog_due (c : Fin 16) (hc : s.coreFenced c = false)
    (hd : Tab.look (fun _ => 0) s.svc.refreshed c + s.wdogPeriod c ≤ s.lanyard.toNat) :
    Goes (.svcCoreWatchdog c) s (fun t => corefenced s t c 0 ∧ svcOnly s t) :=
  goes_of_done (if_pos hd) ⟨corefenced_fenceCore c.isLt hc 0, ((svcOnly.refl s).fenceCore c 0).upd⟩

/-- A core is fenced at a cache error. -/
theorem svcCoreCacheUe_goes (c : Fin 16) (hc : s.coreFenced c = false) :
    Goes (.svcCoreCacheUe c) s (fun t => corefenced s t c 1 ∧ svcOnly s t) :=
  goes_of_done rfl ⟨corefenced_fenceCore c.isLt hc 1, ((svcOnly.refl s).fenceCore c 1).upd⟩

/-! ### Register writes (R6, R391) -/

/-- A plain register's write reaches no rule but that of its fields. -/
theorem ctlWrite_plain {o src : Nat} (h : plainRegister o src) (v : W64) :
    s.ctlWrite o src v = s.plainWrite o v [] := by
  obtain ⟨hlow, hwin, hrst, harb, -⟩ := h
  simp only [List.mem_cons, List.not_mem_nil, or_false, not_or] at hwin
  obtain ⟨h200, h201, h204, h205, h206, h207, h208, h20F, h210⟩ := hwin
  have htile : ¬ o / 0x100000 < 0x100 := by omega
  have hport : ¬ o / 0x100000 < 0x120 := by omega
  have hcfg : o ≠ MIG_CFG := fun e => h206 (by rw [e]; rfl)
  have hinv : o ≠ MIG_TLBINV := fun e => h206 (by rw [e]; rfl)
  have hcmd : o ≠ MIG_CMD := fun e => h206 (by rw [e]; rfl)
  simp only [State.ctlWrite, harb, htile, hport, h200, h201, h204, h205, h207, h208, h20F, h210, hcfg, hinv, hcmd, hrst,
    Bool.false_eq_true, if_false]

/-- With no field left out, every field of the register is written under its access code. -/
theorem plainWrite_all {o : Nat} {r : RegDef} (hr : regAt o = some r) (v : W64) :
    s.plainWrite o v [] = s.setReg o (r.fields.foldl (fieldWrite v) (s.reg o)) := by
  have hall : r.fields.filter (fun f => !(([] : List Nat).contains f.lo)) = r.fields :=
    List.filter_eq_self.mpr fun _ _ => rfl
  simp only [State.plainWrite, hr, hall]

/-- A write of a plain register writes its fields and no other register. -/
theorem registerWrite_plain {off : W32} {src : Fin 22} {r : RegDef} (v : W64) (h : plainRegister off.toNat src)
    (hr : regAt off.toNat = some r) :
    Goes (.registerWrite off src v) s (fun t => t.reg off.toNat = r.fields.foldl (fieldWrite v) (s.reg off.toNat)
      ∧ regsBut s t [off.toNat] ∧ t.svc = s.svc ∧ svcOnly s t) := by
  obtain ⟨-, -, -, -, hsec⟩ := id h
  have hno : ¬ (off.toNat / 0x100000 = 0x20C ∧ off.toNat ≠ SEC_MBOX_ARG ∧ off.toNat ≠ SEC_MBOX_CMD
      ∧ src.val ≠ 3 ∧ src.val ≠ 4) := by
    rintro ⟨hw, harg, hcmd, h3, h4⟩
    simp only [harg, hcmd, h3, h4, or_self] at hsec
    exact hsec hw
  have he : exec (.registerWrite off src v) s =
      done s (s.setReg off.toNat (r.fields.foldl (fieldWrite v) (s.reg off.toNat))) :=
    (if_neg hno).trans (by rw [ctlWrite_plain h, plainWrite_all hr])
  exact goes_of_done he ⟨State.reg_setReg_same .., fun o ho => State.reg_setReg_ne (List.ne_of_not_mem_cons ho) _, rfl,
    svcOnly.refl s⟩

/-- A write to the SEC_ window by a source that the window does not know is a violation: it is counted and raises its
event, and the register stays as it is. -/
theorem registerWrite_violation {off : W32} {src : Fin 22} (v : W64) (hw : off.toNat / 0x100000 = 0x20C)
    (harg : off.toNat ≠ SEC_MBOX_ARG) (hcmd : off.toNat ≠ SEC_MBOX_CMD) (h3 : src ≠ 3) (h4 : src ≠ 4)
    (hroom : s.fget SEC_CNT0 SEC_CNT0_VIOLATIONS < 2 ^ 15 - 1) (hcnt : off.toNat ≠ SEC_CNT0)
    (hjnl : off.toNat ≠ SEC_JNL_HEAD) :
    Goes (.registerWrite off src v) s (fun t => raised s t 0x1006 0 0x3F (off.toNat % 0x100000) src
      ∧ t.reg off.toNat = s.reg off.toNat
      ∧ t.fget SEC_CNT0 SEC_CNT0_VIOLATIONS = s.fget SEC_CNT0 SEC_CNT0_VIOLATIONS + 1 ∧ svcOnly s t) := by
  have hlog : off.toNat ≠ SVC_EVLOG := fun e => absurd (e ▸ hw) (by decide)
  have hlost : off.toNat ≠ SVC_EVLOG_LOST := fun e => absurd (e ▸ hw) (by decide)
  refine goes_of_done (if_pos ⟨hw, harg, hcmd, fun e => h3 (Fin.ext e), fun e => h4 (Fin.ext e)⟩)
    ⟨raised_event ?_ (State.bump_lanyard ..) .., ?_, ?_, (((svcOnly.refl s).bump ..).event ..).upd⟩
  · rw [State.bump, State.bumpBy, if_pos (by show _ ≤ 2 ^ 15 - 1; omega), State.reg_fset_ne (by decide)]
  · rw [reg_pending, State.reg_event hlog hlost hjnl, State.reg_bump hcnt hlog hlost hjnl]
  · rw [fget_pending, State.fget_event (by decide) (by decide) (by decide),
      State.fget_bump_same _ _ _ (by decide) (by decide) (by show _ < 2 ^ 15; omega)]

/-! ### Counter clears (R358) -/

/-- Whether a clear of a window takes a register. -/
def clearHit (window o : Nat) : Bool := o / 0x100000 == window && !(clearKeeps o)

theorem clearHit_iff {window o : Nat} : clearHit window o = true ↔ o / 0x100000 = window ∧ clearKeeps o = false := by
  simp [clearHit]

/-- A register listed in the table is set to what f makes of it where it is hit; every other keeps its value. -/
def setHits (hit : Nat → Bool) (f : Nat → W64 → W64) (l : Tab W64) (t : State) : State :=
  l.foldl (fun t e => if hit e.1 then t.setReg e.1 (f e.1 e.2) else t) t

/-- What a register reads once every listed register that is hit is set anew: the table lists each register once, and the
unlisted ones are those at their reset value. -/
theorem reg_setHits (hit : Nat → Bool) (f : Nat → W64 → W64) (o : Nat) :
    ∀ (l : Tab W64) (t : State), ctlWf l = true → (setHits hit f l t).reg o =
      if hit o = true ∧ Tab.look regReset l o ≠ regReset o then f o (Tab.look regReset l o) else t.reg o
  | [], _, _ => by simp [setHits]
  | (k, w) :: l, t, h => by
    simp only [ctlWf, Tab.wf, Bool.and_eq_true, decide_eq_true_eq] at h
    obtain ⟨⟨hw, habove⟩, hl⟩ := h
    have ih := reg_setHits hit f o l (if hit k then t.setReg k (f k w) else t) hl
    rw [setHits, List.foldl_cons]
    refine ih.trans ?_
    by_cases hk : o = k
    · subst hk
      rw [Tab.look_above habove o (Nat.le_refl o), if_neg (fun ⟨_, hne⟩ => hne rfl)]
      by_cases ho : hit o = true <;> simp [Tab.look, ho, hw]
    · have hkeep : (if hit k then t.setReg k (f k w) else t).reg o = t.reg o :=
        at_ite (State.reg · o) (State.reg_setReg_ne hk _) rfl
      rw [hkeep, Tab.look, if_neg hk]

theorem svcOnly_setHits (hit : Nat → Bool) (f : Nat → W64 → W64) (l : Tab W64) : svcOnly s (setHits hit f l s) := by
  refine svcOnly.foldl (fun u e => ?_) l (svcOnly.refl s)
  split
  · exact (svcOnly.refl u).setReg ..
  · exact svcOnly.refl u

/-- A counter clear clears the counters of its window, and their saturation marks. -/
theorem ctrClear_goes (window : Fin 4096) (h : ctlWf s.ctl = true) : Goes (.ctrClear window) s (fun t =>
    (∀ o, t.reg o = if o / 0x100000 = window.val ∧ clearKeeps o = false ∧ s.reg o ≠ regReset o
      then clearedCtrs o (s.reg o) else s.reg o)
    ∧ (∀ k, k / 64 / 0x100000 = window.val → clearKeeps (k / 64) = false →
      Tab.look (fun _ => false) t.svc.satRaised k = false)
    ∧ svcOnly s t) := by
  refine goes_of_done rfl ⟨fun o => ?_, fun k hw hk => ?_,
    (svcOnly_setHits (clearHit window) clearedCtrs s.ctl).upd⟩
  · refine (reg_setHits (clearHit window) clearedCtrs o s.ctl s h).trans ?_
    simp only [clearHit_iff, and_assoc]
    rfl
  · exact (Tab.look_dropIf ..).trans (if_pos (clearHit_iff.mpr ⟨hw, hk⟩))

/-! ### The control arbiter (R8, R360, R361) -/

/-- A write of an arbitrated register joins the round. -/
theorem arbitratedControlWrite_joins {off : W32} {src : Fin 22} (v : W64) (harb : arbitrated off.toNat = true)
    (hpwr : off.toNat ≠ PWR_STATE) (hport : isPortCfg off.toNat = false) :
    Goes (.arbitratedControlWrite off src v) s (fun t => t.svc.round = s.svc.round ++ [⟨off.toNat, src, v⟩]
      ∧ t.svc.slots = s.svc.slots ∧ (∀ o, t.reg o = s.reg o) ∧ svcOnly s t) := by
  have hres : s.arbReserved off.toNat v = s := by
    simp only [State.arbReserved, hpwr, hport, Bool.false_eq_true, if_false]
  have he : s.arbWrite off.toNat src v =
      { s with svc := { s.svc with round := s.svc.round ++ [⟨off.toNat, src, v⟩] } } := by
    simp only [State.arbWrite, hres, hpwr, if_false]
  exact goes_of_done ((if_pos harb).trans (congrArg (done s) he)) ⟨rfl, rfl, fun _ => rfl, svcOnly.refl s⟩

/-- A field's value is below the field's size. -/
theorem bits_lt (v : W64) (hi lo : Nat) : bits v hi lo < 2 ^ (hi + 1 - lo) := Nat.mod_lt _ (Nat.two_pow_pos _)

/-- A register field set to a field of the same place in a word reads that field. -/
theorem fget_fset_bits (o : Nat) (f : Fld) (v : W64) (hl : f.lo ≤ f.hi) (hh : f.hi < 64) :
    (s.fset o f (bits v f.hi f.lo)).fget o f = bits v f.hi f.lo := by
  rw [State.fget_fset _ _ _ hl hh, Nat.mod_eq_of_lt (bits_lt ..)]

theorem regAt_fabCm : regAt FAB_CM =
    some ⟨0x10, [], [⟨63, 32, .RSV, 0, false⟩, ⟨31, 16, .RW, 1000, false⟩, ⟨15, 0, .RW, 384, false⟩]⟩ := rfl

/-- Both fields of FAB_CM take part in the arbitration. -/
theorem arbFields_fabCm (src : Nat) (v : W64) :
    arbFields FAB_CM src v = [(FAB_CM_CNP_GAP, bits v 31 16), (FAB_CM_THRESH, bits v 15 0)] := rfl

/-- With no slot filled, a field takes its reset value. -/
theorem arbValue_empty (off : Nat) (f : Fld) : arbValue [] off f = bits (regReset off) f.hi f.lo := rfl

/-- A field of FAB_CM takes its effective value as it stands. -/
theorem applyField_fabCm (f : Fld) (n src : Nat) : s.applyField FAB_CM f n src = s.fset FAB_CM f n := rfl

/-- In FAB_CM, which has no limit field, the higher rank wins. -/
theorem beats_fabCm {x y : ArbSlot} (hx : x.off = FAB_CM) : x.beats y = decide (x.rank < y.rank) := by
  have hno : ∀ lo, limitField FAB_CM lo = false := fun _ => rfl
  simp only [ArbSlot.beats, hx, hno, Bool.false_eq_true, if_false]

/-- SVC_ARB_LAST as a round writes it: whether a field was lost, the winner, and the register's offset. -/
def arbLast (lost win off : Nat) : W64 := BitVec.ofNat 64 (lost * 2 ^ 63 + win * 2 ^ 58 + off)

theorem arbLast_fields {lost win off : Nat} (hl : lost < 2) (hw : win < 32) (ho : off < 2 ^ 32) :
    bits (arbLast lost win off) 63 63 = lost ∧ bits (arbLast lost win off) 62 58 = win
    ∧ bits (arbLast lost win off) 31 0 = off := by
  simp only [arbLast, bits, BitVec.toNat_ofNat]
  omega

/-- A write all of whose values act. -/
theorem arbOutcome_kept {w : ArbWrite}
    (hlost : (arbFields w.off w.src w.val).find? (fun x => arbValue s.svc.slots w.off x.1 != x.2) = none) :
    s.arbOutcome w = s.setReg (SVC_ARB_LAST w.src) (arbLast 0 w.src w.off) := by
  simp only [State.arbOutcome, hlost]
  rfl

/-- A write one of whose values is lost to the source of the winning request. -/
theorem arbOutcome_lost {w : ArbWrite} {x : Fld × Nat} {y : ArbSlot}
    (hlost : (arbFields w.off w.src w.val).find? (fun x => arbValue s.svc.slots w.off x.1 != x.2) = some x)
    (hwin : arbWinner s.svc.slots w.off x.1.lo = some y) : s.arbOutcome w =
      (s.setReg (SVC_ARB_LAST w.src) (arbLast 1 y.src w.off)).event 0x2201 0 0x3F w.off (w.src + y.src * 256) := by
  simp only [State.arbOutcome, hlost, hwin]
  rfl

/-- The requests that a write of FAB_CM makes. -/
def cmSlots (src : Nat) (v : W64) : List ArbSlot :=
  [⟨FAB_CM, 16, rankOf src, src, bits v 31 16⟩, ⟨FAB_CM, 0, rankOf src, src, bits v 15 0⟩]

section Round

variable {a b : Nat} {v w : W64}

/-- The requests of a round of two writes of FAB_CM by sources of two ranks: none gives way to another. -/
theorem cmRequests (hr : rankOf a < rankOf b) :
    [(⟨FAB_CM, a, v⟩ : ArbWrite), ⟨FAB_CM, b, w⟩].foldl (fun l w => (arbFields w.off w.src w.val).foldl (fun l x =>
      joinRound l ⟨w.off, x.1.lo, rankOf w.src, w.src, x.2⟩) l) [] = cmSlots a v ++ cmSlots b w := by
  have hne : rankOf a ≠ rankOf b := Nat.ne_of_lt hr
  simp [arbFields_fabCm, joinRound, ArbSlot.same, cmSlots, hne]

/-- They fill their slots where none was filled. -/
theorem cmFilled (hr : rankOf a < rankOf b) :
    (cmSlots a v ++ cmSlots b w).foldl fillSlot [] = cmSlots a v ++ cmSlots b w := by
  have hne : rankOf a ≠ rankOf b := Nat.ne_of_lt hr
  simp [fillSlot, ArbSlot.same, cmSlots, hne]

/-- The higher rank wins both fields. -/
theorem cmWinner_gap (hr : rankOf a < rankOf b) : arbWinner (cmSlots a v ++ cmSlots b w) FAB_CM FAB_CM_CNP_GAP.lo =
    some ⟨FAB_CM, 16, rankOf a, a, bits v 31 16⟩ := by
  have hle : rankOf a ≤ rankOf b := Nat.le_of_lt hr
  simp [arbWinner, cmSlots, beats_fabCm, hle]

theorem cmWinner_thresh (hr : rankOf a < rankOf b) : arbWinner (cmSlots a v ++ cmSlots b w) FAB_CM FAB_CM_THRESH.lo =
    some ⟨FAB_CM, 0, rankOf a, a, bits v 15 0⟩ := by
  have hle : rankOf a ≤ rankOf b := Nat.le_of_lt hr
  simp [arbWinner, cmSlots, beats_fabCm, hle]

/-- The round touches both fields. -/
theorem cmTouched : arbTouched (cmSlots a v ++ cmSlots b w) [⟨FAB_CM, a, v⟩, ⟨FAB_CM, b, w⟩] =
    [(FAB_CM, FAB_CM_CNP_GAP), (FAB_CM, FAB_CM_THRESH)] := by
  have hnamed : ([(⟨FAB_CM, a, v⟩ : ArbWrite), ⟨FAB_CM, b, w⟩].flatMap
      (fun w => (arbFields w.off w.src w.val).map (fun x => (w.off, x.1)))).eraseDups =
      [(FAB_CM, FAB_CM_CNP_GAP), (FAB_CM, FAB_CM_THRESH)] := by
    simp only [List.flatMap_cons, List.flatMap_nil, arbFields_fabCm, List.map_cons, List.map_nil]
    decide
  rw [arbTouched, hnamed]
  simp [cmSlots]

/-- The state in which the winning values act and the outcomes are not yet written. -/
def cmApplied (s : State) (a b : Nat) (v w : W64) : State :=
  (({ s with svc := { s.svc with slots := cmSlots a v ++ cmSlots b w, round := [] } } : State).fset FAB_CM FAB_CM_CNP_GAP
    (bits v 31 16)).fset FAB_CM FAB_CM_THRESH (bits v 15 0)

/-- The round ends: the winner's values act, then each write has its outcome. -/
theorem roundEnd_fabCm (hround : s.svc.round = [⟨FAB_CM, a, v⟩, ⟨FAB_CM, b, w⟩]) (hslots : s.svc.slots = [])
    (hr : rankOf a < rankOf b) :
    s.roundEnd = ((cmApplied s a b v w).arbOutcome ⟨FAB_CM, a, v⟩).arbOutcome ⟨FAB_CM, b, w⟩ := by
  simp only [State.roundEnd, hround, hslots, cmRequests hr, cmFilled hr, cmTouched, List.foldl_cons, List.foldl_nil,
    cmWinner_gap hr, cmWinner_thresh hr]
  simp [cmSlots, applyField_fabCm, cmApplied]

/-- The winner's outcome: nothing is lost. -/
theorem arbOutcome_winner (hs : s.svc.slots = cmSlots a v ++ cmSlots b w) (hr : rankOf a < rankOf b) :
    s.arbOutcome ⟨FAB_CM, a, v⟩ = s.setReg (SVC_ARB_LAST a) (arbLast 0 a FAB_CM) := by
  refine arbOutcome_kept ?_
  simp [arbFields_fabCm, arbValue, hs, cmWinner_gap hr, cmWinner_thresh hr]

/-- The loser's outcome names the winner, whichever of its fields is the first lost, and raises the event. -/
theorem arbOutcome_loser (hs : s.svc.slots = cmSlots a v ++ cmSlots b w) (hr : rankOf a < rankOf b)
    (hv : bits v 15 0 ≠ bits w 15 0) : s.arbOutcome ⟨FAB_CM, b, w⟩ =
      (s.setReg (SVC_ARB_LAST b) (arbLast 1 a FAB_CM)).event 0x2201 0 0x3F FAB_CM (b + a * 256) := by
  have hwgap := cmWinner_gap (v := v) (w := w) hr
  have hwthr := cmWinner_thresh (v := v) (w := w) hr
  rw [← hs] at hwgap hwthr
  have hgap : arbValue s.svc.slots FAB_CM FAB_CM_CNP_GAP = bits v 31 16 := by rw [arbValue, hwgap]
  have hthr : arbValue s.svc.slots FAB_CM FAB_CM_THRESH = bits v 15 0 := by rw [arbValue, hwthr]
  by_cases hg : bits v 31 16 = bits w 31 16
  · have hlost : (arbFields FAB_CM b w).find? (fun x => arbValue s.svc.slots FAB_CM x.1 != x.2) =
        some (FAB_CM_THRESH, bits w 15 0) := by simp [arbFields_fabCm, hgap, hthr, hg, hv]
    rw [arbOutcome_lost (w := ⟨FAB_CM, b, w⟩) hlost hwthr]
  · have hlost : (arbFields FAB_CM b w).find? (fun x => arbValue s.svc.slots FAB_CM x.1 != x.2) =
        some (FAB_CM_CNP_GAP, bits w 31 16) := by simp [arbFields_fabCm, hgap, hg]
    rw [arbOutcome_lost (w := ⟨FAB_CM, b, w⟩) hlost hwgap]

/-- The outcomes of both writes. -/
def cmOutcomes (s : State) (a b : Nat) : State :=
  (s.setReg (SVC_ARB_LAST a) (arbLast 0 a FAB_CM)).setReg (SVC_ARB_LAST b) (arbLast 1 a FAB_CM)

end Round

/-- A source's outcome register is none of the log's, the journal's or the arbitrated register. -/
theorem arbLast_apart (a : Nat) : SVC_ARB_LAST a ≠ SVC_EVLOG ∧ SVC_ARB_LAST a ≠ SVC_EVLOG_LOST
    ∧ SVC_ARB_LAST a ≠ SEC_JNL_HEAD ∧ SVC_ARB_LAST a ≠ FAB_CM := by
  simp only [SVC_ARB_LAST, SVC_EVLOG, SVC_EVLOG_LOST, SEC_JNL_HEAD, FAB_CM]
  omega

/-- A round of two writes of FAB_CM: the higher rank's values act, and the other source reads that it lost. -/
theorem arbRoundEnd_fabCm {a b : Nat} {v w : W64} (hround : s.svc.round = [⟨FAB_CM, a, v⟩, ⟨FAB_CM, b, w⟩])
    (hslots : s.svc.slots = []) (hr : rankOf a < rankOf b) (ha : a < 22) (hv : bits v 15 0 ≠ bits w 15 0) :
    Goes .arbRoundEnd s (fun t => t.svc.round = [] ∧ t.fget FAB_CM FAB_CM_THRESH = bits v 15 0
      ∧ t.fget FAB_CM FAB_CM_CNP_GAP = bits v 31 16
      ∧ t.fget (SVC_ARB_LAST a) SVC_ARB_LAST_SUPERSEDED = 0 ∧ t.fget (SVC_ARB_LAST b) SVC_ARB_LAST_SUPERSEDED = 1
      ∧ t.fget (SVC_ARB_LAST b) SVC_ARB_LAST_WINNER = a ∧ t.fget (SVC_ARB_LAST b) SVC_ARB_LAST_OFFSET = FAB_CM
      ∧ raised s t 0x2201 0 0x3F FAB_CM (b + a * 256) ∧ svcOnly s t) := by
  have hab : SVC_ARB_LAST a ≠ SVC_ARB_LAST b := by
    have hne : a ≠ b := fun e => Nat.lt_irrefl _ (e ▸ hr)
    simp only [SVC_ARB_LAST]
    omega
  obtain ⟨halog, halost, hajnl, hacm⟩ := arbLast_apart a
  obtain ⟨hblog, hblost, hbjnl, hbcm⟩ := arbLast_apart b
  have he : s.roundEnd = (cmOutcomes (cmApplied s a b v w) a b).event 0x2201 0 0x3F FAB_CM (b + a * 256) := by
    rw [roundEnd_fabCm hround hslots hr, arbOutcome_winner rfl hr, arbOutcome_loser rfl hr hv, cmOutcomes]
  have hcm : ∀ f, s.roundEnd.fget FAB_CM f = (cmApplied s a b v w).fget FAB_CM f := fun f => by
    rw [he, State.fget_event (by decide) (by decide) (by decide), cmOutcomes, State.fget_setReg_ne hbcm.symm,
      State.fget_setReg_ne hacm.symm]
  have hwinner : s.roundEnd.reg (SVC_ARB_LAST a) = arbLast 0 a FAB_CM := by
    rw [he, State.reg_event halog halost hajnl, cmOutcomes, State.reg_setReg_ne hab, State.reg_setReg_same]
  have hloser : s.roundEnd.reg (SVC_ARB_LAST b) = arbLast 1 a FAB_CM := by
    rw [he, State.reg_event hblog hblost hbjnl, cmOutcomes, State.reg_setReg_same]
  obtain ⟨hkept, -, -⟩ := arbLast_fields (lost := 0) (win := a) (off := FAB_CM) (by decide) (by omega) (by decide)
  obtain ⟨hlost, hwin, hoff⟩ := arbLast_fields (lost := 1) (win := a) (off := FAB_CM) (by decide) (by omega) (by decide)
  refine goes_of_done (u := s.roundEnd) rfl ⟨?_, (hcm _).trans ?_, (hcm _).trans ?_,
    (congrArg (bits · 63 63) hwinner).trans hkept, (congrArg (bits · 63 63) hloser).trans hlost,
    (congrArg (bits · 62 58) hloser).trans hwin, (congrArg (bits · 31 0) hloser).trans hoff, ?_, svcOnly.upd ?_⟩
  · show s.roundEnd.svc.round = []
    rw [he, svc_event]
    rfl
  · exact fget_fset_bits FAB_CM FAB_CM_THRESH v (by decide) (by decide)
  · exact (State.fget_fset_apart _ _ _ _ (by decide) (by decide) (by decide) (by decide)).trans
      (fget_fset_bits FAB_CM FAB_CM_CNP_GAP v (by decide) (by decide))
  · show raised s s.roundEnd 0x2201 0 0x3F FAB_CM (b + a * 256)
    rw [he]
    refine raised_event ?_ ?_ ..
    · rw [cmOutcomes, State.reg_setReg_ne hblog.symm, State.reg_setReg_ne halog.symm, cmApplied,
        State.reg_fset_ne (by decide), State.reg_fset_ne (by decide)]
      rfl
    · rw [cmOutcomes, State.setReg_lanyard, State.setReg_lanyard, cmApplied, State.fset_lanyard, State.fset_lanyard]
  · rw [he]
    exact ((((svcOnly.refl s).upd.fset ..).fset ..).setReg .. |>.setReg ..).event ..

/-- Neither another field nor another source holds a slot: the field released takes its reset value. -/
theorem svcArbRel_reset {src : Fin 22} {v : W64} {x : ArbSlot} (hv : bits v 31 0 = FAB_CM) (hslots : s.svc.slots = [x])
    (hoff : x.off = FAB_CM) (hlo : x.lo = 0) (hsrc : x.src = src.val) (hval : x.val ≠ bits (regReset FAB_CM) 15 0) :
    Goes (.svcArbRel src v) s (fun t => t.svc.slots = [] ∧ t.fget FAB_CM FAB_CM_THRESH = bits (regReset FAB_CM) 15 0
      ∧ regsBut s t [FAB_CM] ∧ svcOnly s t) := by
  have hmul : bits v 2 0 = 0 := by
    simp only [bits, FAB_CM] at hv ⊢
    omega
  obtain ⟨off, lo, rank, src', val⟩ := x
  obtain rfl : off = FAB_CM := hoff
  obtain rfl : lo = 0 := hlo
  obtain rfl : src' = src.val := hsrc
  have hgone : [(⟨FAB_CM, 0, rank, src, val⟩ : ArbSlot)].filter (fun x => x.off == FAB_CM && x.src == src.val) =
      [⟨FAB_CM, 0, rank, src, val⟩] := by simp
  have hleft : [(⟨FAB_CM, 0, rank, src, val⟩ : ArbSlot)].filter
      (fun x => !(x.off == FAB_CM && x.src == src.val)) = [] := by simp
  have he : s.arbRelease FAB_CM src = ({ s with svc := { s.svc with slots := [] } } : State).fset FAB_CM FAB_CM_THRESH
      (bits (regReset FAB_CM) 15 0) := by
    have hmoves : arbValue [] FAB_CM FAB_CM_THRESH ≠ arbValue [⟨FAB_CM, 0, rank, src, val⟩] FAB_CM FAB_CM_THRESH :=
      Ne.symm hval
    have hfind : [(⟨63, 32, .RSV, 0, false⟩ : FieldDef), ⟨31, 16, .RW, 1000, false⟩, ⟨15, 0, .RW, 384, false⟩].find?
        (fun f => f.lo == 0) = some ⟨15, 0, .RW, 384, false⟩ := rfl
    simp only [State.arbRelease, hslots, hgone, hleft, List.foldl_cons, List.foldl_nil, regAt_fabCm, hfind, if_neg hmoves,
      applyField_fabCm]
    rw [arbValue_empty]
  refine goes_of_done (if_pos hmul) ?_
  rw [hv, he]
  refine ⟨rfl, ?_, fun o ho => ?_, ((svcOnly.refl s).upd.fset ..).upd⟩
  · rw [fget_pending, fget_fset_bits _ FAB_CM_THRESH _ (by decide) (by decide)]
  · rw [reg_pending, State.reg_fset_ne (List.ne_of_not_mem_cons ho)]
    rfl

end Sys2Proof.Claims

open Sys2Proof.Claims

/-- Settles O47, a lemma for each case of the service cores' watchdogs, of register writes, of the arbiter's round and of the
counter clear. -/
theorem serviceControl : Obligations.ServiceControl := by
  unfold Obligations.ServiceControl
  refine ⟨fun c s => svcCoreRefresh_own c, fun c d s h => goes_nothing (svcCoreRefresh_nothing h),
    fun c s => svcWdogRefresh_goes c, fun c s => svcCoreWatchdog_due c,
    fun c s h => goes_nothing (if_neg (Nat.not_le.mpr h)), fun c s => svcCoreCacheUe_goes c,
    fun off src v s r => registerWrite_plain v, fun off src v s => registerWrite_violation v,
    fun off src v s => arbitratedControlWrite_joins v,
    fun off src v s h => goes_nothing (if_neg (h ▸ Bool.false_ne_true)), ?_,
    fun src v s x => svcArbRel_reset, fun window s => ctrClear_goes window⟩
  intro a b v w s hround hslots hr ha _ hv
  exact arbRoundEnd_fabCm hround hslots hr ha hv

end

section
/-! Chapter 2, graphs, knots and gloves: the rules of the operations that its statements share. An update either touches
the knot engine alone (`onlyKn`), or the contexts alone (`outsideKept`); a knot that nobody waits on, or that is not
reached, changes without releasing anyone. -/

namespace Sys2Proof.Machine

open Reg Claims

variable {s t u : State} {k : CtxId}

/-! ### Tables -/

theorem Tab.enter_enter {α : Type} (k : Nat) (v : α) : ∀ t : Tab α, Tab.enter k v (Tab.enter k v t) = Tab.enter k v t
  | [] => by simp [Tab.enter]
  | (j, w) :: t => by
    by_cases hj : k = j
    · simp [Tab.enter, hj]
    · by_cases hlt : k < j
      · simp [Tab.enter, hj, hlt]
      · simp [Tab.enter, hj, hlt, Tab.enter_enter k v t]

theorem Tab.drop_drop {α : Type} (k : Nat) : ∀ t : Tab α, Tab.drop k (Tab.drop k t) = Tab.drop k t
  | [] => rfl
  | (j, w) :: t => by
    by_cases hj : k = j
    · simp only [Tab.drop, if_pos hj, Tab.drop_drop k t]
    · simp only [Tab.drop, if_neg hj, Tab.drop_drop k t]

/-- Writing the same value twice is writing it once. -/
theorem Tab.store_store {α : Type} [DecidableEq α] (d : Nat → α) (t : Tab α) (k : Nat) (v : α) :
    Tab.store d (Tab.store d t k v) k v = Tab.store d t k v := by
  by_cases hv : v = d k
  · simp only [Tab.store, if_pos hv, Tab.drop_drop]
  · simp only [Tab.store, if_neg hv, Tab.enter_enter]

/-- The fold of `Tab.mapVal`, from any table reached so far. -/
theorem Tab.look_mapFold {α : Type} [DecidableEq α] (d : Nat → α) (f : Nat → α → α) (t : Tab α) (j : Nat) :
    ∀ (l acc : Tab α), Tab.look d (l.foldl (fun acc kv => Tab.store d acc kv.1 (f kv.1 (Tab.look d t kv.1))) acc) j =
      if j ∈ l.map Prod.fst then f j (Tab.look d t j) else Tab.look d acc j
  | [], _ => by simp
  | (i, v) :: l, acc => by
    rw [List.foldl_cons, Tab.look_mapFold d f t j l, Tab.look_store]
    by_cases hl : j ∈ l.map Prod.fst
    · rw [if_pos hl, if_pos (by simp only [List.map_cons, List.mem_cons]; exact .inr hl)]
    · by_cases hj : j = i
      · subst hj; simp
      · simp [hl, hj]

theorem Tab.look_unlisted {α : Type} (d : Nat → α) (j : Nat) : ∀ t : Tab α, j ∉ t.map Prod.fst → Tab.look d t j = d j
  | [], _ => rfl
  | (i, v) :: t, h => by
    simp only [List.map_cons, List.mem_cons, not_or] at h
    rw [Tab.look, if_neg h.1, Tab.look_unlisted d j t h.2]

/-- What a key reads once f is applied to every listed value, where f keeps what an unlisted key reads. -/
theorem Tab.look_mapVal {α : Type} [DecidableEq α] (d : Nat → α) (f : Nat → α → α) (t : Tab α) (j : Nat)
    (hd : f j (d j) = d j) : Tab.look d (Tab.mapVal d f t) j = f j (Tab.look d t j) := by
  refine (Tab.look_mapFold d f t j t t).trans ?_
  by_cases hj : j ∈ t.map Prod.fst
  · rw [if_pos hj]
  · rw [if_neg hj, Tab.look_unlisted d j t hj, hd]

/-! ### Frames -/

/-- Nothing but the knot engine has changed. -/
def onlyKn (s t : State) : Prop := t = { s with kn := t.kn }

theorem onlyKn.refl (s : State) : onlyKn s s := rfl

theorem onlyKn.trans (h : onlyKn s t) (g : onlyKn t u) : onlyKn s u := by
  rw [onlyKn] at h g ⊢
  rw [g, h]

theorem onlyKn.ctl (h : onlyKn s t) : t.ctl = s.ctl := by rw [h]
theorem onlyKn.mem (h : onlyKn s t) : t.mem = s.mem := by rw [h]
theorem onlyKn.tiles (h : onlyKn s t) : t.tiles = s.tiles := by rw [h]
theorem onlyKn.pending (h : onlyKn s t) : t.pending = s.pending := by rw [h]
theorem onlyKn.lanyard (h : onlyKn s t) : t.lanyard = s.lanyard := by rw [h]
theorem onlyKn.ctx (h : onlyKn s t) (k : CtxId) : t.ctx k = s.ctx k := by rw [h]; rfl
theorem onlyKn.reg (h : onlyKn s t) (o : Nat) : t.reg o = s.reg o := by rw [h]; rfl
theorem onlyKn.fget (h : onlyKn s t) (o : Nat) (f : Fld) : t.fget o f = s.fget o f := by rw [h]; rfl
theorem onlyKn.byte (h : onlyKn s t) (a : Nat) : t.byte a = s.byte a := by rw [h]; rfl
theorem onlyKn.memRegsKept (h : onlyKn s t) : memRegsKept s t := ⟨h.byte, h.reg⟩

/-- A fold of updates of the knot engine alone. -/
theorem onlyKn.foldl {β : Type} {f : State → β → State} (hf : ∀ u x, onlyKn u (f u x)) :
    ∀ (l : List β) {t : State}, onlyKn s t → onlyKn s (l.foldl f t)
  | [], _, h => h
  | x :: l, _, h => onlyKn.foldl hf l (h.trans (hf _ x))

/-- What every turn of a fold keeps, the fold keeps. -/
theorem foldl_keeps {α β : Type} (g : State → α) {f : State → β → State} (hf : ∀ u x, g (f u x) = g u) :
    ∀ (l : List β) (s : State), g (l.foldl f s) = g s
  | [], _ => rfl
  | x :: l, s => (foldl_keeps g hf l (f s x)).trans (hf s x)

theorem onlyKn_setKnot (i : Nat) (v : Knot) : onlyKn s (s.setKnot i v) := rfl
theorem onlyKn_setTask (q : Nat) (v : Option Task) : onlyKn s (s.setTask q v) := rfl
theorem onlyKn_setGraph (g : Nat) (v : Option Graph) : onlyKn s (s.setGraph g v) := rfl
theorem onlyKn_progressKnot (i : Nat) : onlyKn s (s.progressKnot i) := rfl
theorem onlyKn_dropWaiter (i : Nat) (w : Waiter) : onlyKn s (s.dropWaiter i w) := rfl

theorem State.outsideKept.kn (h : s.outsideKept t) : t.kn = s.kn :=
  show t.outside.kn = s.outside.kn from congrArg State.kn h.1
theorem State.outsideKept.ctl (h : s.outsideKept t) : t.ctl = s.ctl :=
  show t.outside.ctl = s.outside.ctl from congrArg State.ctl h.1
theorem State.outsideKept.lanyard (h : s.outsideKept t) : t.lanyard = s.lanyard :=
  show t.outside.lanyard = s.outside.lanyard from congrArg State.lanyard h.1
theorem State.outsideKept.reg (h : s.outsideKept t) (o : Nat) : t.reg o = s.reg o := by rw [State.reg, h.ctl]; rfl
theorem State.outsideKept.fget (h : s.outsideKept t) (o : Nat) (f : Fld) : t.fget o f = s.fget o f := by
  rw [State.fget, h.reg]; rfl
theorem State.outsideKept.knot (h : s.outsideKept t) (i : Nat) : t.knot i = s.knot i := by rw [State.knot, h.kn]; rfl
theorem State.outsideKept.task (h : s.outsideKept t) (q : Nat) : t.task q = s.task q := by rw [State.task, h.kn]; rfl
theorem State.outsideKept.memRegsKept (h : s.outsideKept t) : memRegsKept s t := ⟨h.2, h.reg⟩

/-! ### Events and journal entries touch neither memory, knots nor tiles -/

@[simp] theorem State.ctx_event (c n g w2 w3 : Nat) (k : CtxId) : (s.event c n g w2 w3).ctx k = s.ctx k := by
  simp [State.ctx, State.tile]
@[simp] theorem State.knot_event (c n g w2 w3 i : Nat) : (s.event c n g w2 w3).knot i = s.knot i := by simp [State.knot]
@[simp] theorem State.task_event (c n g w2 w3 q : Nat) : (s.event c n g w2 w3).task q = s.task q := by simp [State.task]
@[simp] theorem State.byte_event (c n g w2 w3 a : Nat) : (s.event c n g w2 w3).byte a = s.byte a := by simp [State.byte]

/-! ### Knots -/

/-- A knot that is not reached, or that nobody waits on, is written without a release. -/
theorem State.release_setKnot {i : Nat} {v : Knot} (h : releasesNone v) : (s.setKnot i v).release i = s.setKnot i v := by
  rw [State.release, State.knot_setKnot_same]
  split
  case isFalse => rfl
  case isTrue hr =>
    have hw : v.waiters = [] := h.resolve_left (Nat.not_lt.mpr (of_decide_eq_true hr))
    have hv : ({ v with waiters := [] } : Knot) = v := by rw [← hw]
    rw [hw, List.foldl_nil, hv]
    show ({ s with kn := _ } : State) = { s with kn := _ }
    rw [State.setKnot, Tab.store_store]

/-- An increment that releases nobody writes the knot. -/
theorem State.knotAdd_eq {i n : Nat} {taint : Bool} {marks : List Nat} {c : Bool} {v : Knot} (hn : 0 < n)
    (hv : v = { s.knot i with count := ((s.knot i).count + n) % 2 ^ 48, taint := (s.knot i).taint || taint,
                              marks := joinMarks (s.knot i).marks marks, compare := c })
    (h : releasesNone v) : s.knotAdd i n taint marks c = s.setKnot i v := by
  rw [State.knotAdd, if_neg (Nat.ne_of_gt hn), ← hv, State.release_setKnot h]

/-- A KSET that releases nobody writes the knot. -/
theorem State.knotSet_eq {i c g : Nat} {v : Knot}
    (hv : v = { s.knot i with count := c, target := g, taint := false, marks := [] }) (h : releasesNone v) :
    s.knotSet i c g = s.setKnot i v := by
  rw [State.knotSet, ← hv, State.release_setKnot h]

theorem knotsBecome_setKnot (i : Nat) (v : Knot) : knotsBecome s (s.setKnot i v) i v := fun j => State.knot_setKnot i j v

end Sys2Proof.Machine

namespace Sys2Proof.Claims

open Machine

theorem memRegsKept.trans {s t u : State} (h : memRegsKept s t) (g : memRegsKept t u) : memRegsKept s u :=
  ⟨fun a => (g.1 a).trans (h.1 a), fun o => (g.2 o).trans (h.2 o)⟩

end Sys2Proof.Claims
end

section
/-! O14 and O15: the knot instructions, KAT, and the ends of their waits (R14 to R16, R76, R322). -/

namespace Sys2Proof.Claims

open Machine Reg

variable {s t u : State} {k : CtxId}

/-! ### The words and their operands -/

theorem legal_ra {w : FmtB} (hd : w.rd = 0) (hb : w.rb = 0) (hc : w.rc = 0) (ho : w.opx = 0) :
    w.legal .no .g .no .no 0 = true := by simp [FmtB.legal, Use.ok, hd, hb, hc, ho]

theorem legal_ra_rb {w : FmtB} (hd : w.rd = 0) (hc : w.rc = 0) (ho : w.opx = 0) : w.legal .no .g .g .no 0 = true := by
  simp [FmtB.legal, Use.ok, hd, hc, ho]

theorem legal_ra_rb_rc {w : FmtB} (hd : w.rd = 0) (ho : w.opx = 0) : w.legal .no .g .g .g 0 = true := by
  simp [FmtB.legal, Use.ok, hd, ho]

/-- A handle of this device's knot i names it (R17, R18). -/
theorem handle_local {h : W64} {i : Nat} (hh : localHandle h i) :
    handle h = some (true, BitVec.ofNat 24 (bits h 37 14), i) := by
  obtain ⟨hrsv, hloc, hix⟩ := hh
  simp [handle, hrsv, hloc, hix]

/-! ### What counting an instruction leaves -/

@[simp] theorem quiet_count : (s.count k).quiet k = s.quiet k := by
  have hq : ∀ q, ((s.count k).tile k.tile).queue q = (s.tile k.tile).queue q := fun q => by
    unfold Tile.queue; split <;> simp
  simp only [State.quiet, hq]

@[simp] theorem ownsKnot_count (n i : Nat) : (s.count k).ownsKnot n i = s.ownsKnot n i := rfl
@[simp] theorem svcKnot_count (i : Nat) : (s.count k).svcKnot i = s.svcKnot i := rfl
@[simp] theorem knot_count (i : Nat) : (s.count k).knot i = s.knot i := rfl

@[simp] theorem ctxTaint_count : (s.count k).ctxTaint k = s.ctxTaint k := by
  simp only [State.ctxTaint, State.count_ctx_task, State.task_count]

@[simp] theorem ctxMarks_count : (s.count k).ctxMarks k = s.ctxMarks k := by
  simp only [State.ctxMarks, State.count_ctx_task, State.task_count]

@[simp] theorem knotPlus_count (i n : Nat) : knotPlus (s.count k) k i n = knotPlus s k i n := by
  simp only [knotPlus, knot_count, ctxTaint_count, ctxMarks_count]

/-! ### Digests of a knot's changes (R122) -/

theorem Ctx.sameRegs.trans {x y z : Ctx} (h : x.sameRegs y) (g : y.sameRegs z) : x.sameRegs z := by
  obtain ⟨gr, pr, pc, loops⟩ := h
  obtain ⟨gr', pr', pc', loops'⟩ := g
  exact ⟨fun q => (gr' q).trans (gr q), fun q => (pr' q).trans (pr q), pc'.trans pc, loops'.trans loops⟩

/-- A record changes a digest of its context, or nothing. -/
theorem dig_cases (k : CtxId) (n : Nat) (bs : List Byte) :
    ∃ x, s.dig k n bs = s.setCtx k x ∧ (s.ctx k).sameRegs x ∧ x.wait = (s.ctx k).wait ∧ x.task = (s.ctx k).task
      ∨ s.dig k n bs = s := by
  unfold State.dig
  dsimp only
  split
  · split <;> exact ⟨_, .inl ⟨rfl, Ctx.sameRegs_refl _, rfl, rfl⟩⟩
  · exact ⟨s.ctx k, .inr rfl⟩

theorem outsideKept_dig (n : Nat) (bs : List Byte) : s.outsideKept (s.dig k n bs) := by
  obtain ⟨x, ⟨h, -⟩ | h⟩ := dig_cases (s := s) k n bs
  · rw [h]; exact State.outsideKept_of rfl
  · rw [h]; exact State.outsideKept_of rfl

theorem othersKept_dig (n : Nat) (bs : List Byte) : s.othersKept (s.dig k n bs) k := by
  obtain ⟨x, ⟨h, -⟩ | h⟩ := dig_cases (s := s) k n bs
  · rw [h]; exact State.othersKept_mapCtx fun _ => x
  · rw [h]; exact ⟨fun _ _ => rfl, fun _ => rfl⟩

theorem sameRegs_dig (n : Nat) (bs : List Byte) : (s.ctx k).sameRegs ((s.dig k n bs).ctx k) := by
  obtain ⟨x, ⟨h, hx, -⟩ | h⟩ := dig_cases (s := s) k n bs
  · rw [h, State.ctx_setCtx_same]; exact hx
  · rw [h]; exact Ctx.sameRegs_refl _

@[simp] theorem knot_dig (n : Nat) (bs : List Byte) (i : Nat) : (s.dig k n bs).knot i = s.knot i := (outsideKept_dig n bs).knot i

/-! ### An instruction that changes a knot and completes -/

/-- The state of an instruction that is counted and has recorded a knot's change. -/
def counted (s : State) (k : CtxId) (i : Nat) (vs : List Nat) : State := (s.count k).dig k 2 (knotRec i vs)

theorem outsideKept_counted (i : Nat) (vs : List Nat) : s.outsideKept (counted s k i vs) :=
  State.onlyRegs_count.1.trans (outsideKept_dig _ _)

theorem othersKept_counted (i : Nat) (vs : List Nat) : s.othersKept (counted s k i vs) k :=
  State.othersKept_count.trans (othersKept_dig _ _)

theorem sameRegs_counted (i : Nat) (vs : List Nat) : (s.ctx k).sameRegs ((counted s k i vs).ctx k) :=
  Ctx.sameRegs.trans State.sameRegs_count (sameRegs_dig _ _)

/-- After its effect an instruction that ends ST_OK changes nothing outside the tiles, nor another context. -/
theorem ended_onlyRegs (w : FmtB) : u.onlyRegs ((u.finish k w ST_OK).issued k) k :=
  (State.onlyRegs_finish_ok w).trans State.onlyRegs_issued

theorem endedWith_onlyRegs {w : FmtB} (ht : w.tf = false) (st : Nat) : u.onlyRegs ((u.finish k w st).issued k) k :=
  (State.onlyRegs_finish ht st).trans State.onlyRegs_issued

/-- The knot is written, the instruction completes, and memory and registers stay. -/
theorem knotWritten (w : FmtB) (i : Nat) (vs : List Nat) (v : Knot) :
    knotsBecome s ((((counted s k i vs).setKnot i v).finish k w ST_OK).issued k) i v
      ∧ s.completed ((((counted s k i vs).setKnot i v).finish k w ST_OK).issued k) k w 0 0
      ∧ memRegsKept s ((((counted s k i vs).setKnot i v).finish k w ST_OK).issued k) := by
  have hend := (ended_onlyRegs (k := k) (u := (counted s k i vs).setKnot i v) w).1
  refine ⟨fun j => ?_, State.completed_finish ?_, ?_⟩
  · rw [hend.knot, State.knot_setKnot, (outsideKept_counted i vs).knot]
  · rw [State.ctx_setKnot]; exact sameRegs_counted i vs
  · exact (outsideKept_counted i vs).memRegsKept.trans ((onlyKn_setKnot i v).memRegsKept.trans hend.memRegsKept)

/-- An increment that is not refused and releases nobody. -/
theorem taskAdd_eq {w : FmtB} {i n : Nat} (hown : s.ownsKnot (s.ctx k).glove i = true) (hn : 0 < n)
    (hroom : (s.knot i).count + n < 2 ^ 48) (hrel : releasesNone (knotPlus s k i n)) :
    s.taskAdd k w i n = ((s.dig k 2 (knotRec i [n])).setKnot i (knotPlus s k i n)).finish k w ST_OK := by
  have hfull : s.knotFull i n = false := by
    rw [State.knotFull, decide_eq_false (Nat.not_le.mpr hroom), Bool.and_false]
  have hknot : knotPlus s k i n = { (s.dig k 2 (knotRec i [n])).knot i with
      count := (((s.dig k 2 (knotRec i [n])).knot i).count + n) % 2 ^ 48,
      taint := ((s.dig k 2 (knotRec i [n])).knot i).taint || s.ctxTaint k,
      marks := joinMarks ((s.dig k 2 (knotRec i [n])).knot i).marks (s.ctxMarks k), compare := false } := by
    rw [knot_dig, Nat.mod_eq_of_lt hroom]; rfl
  simp only [State.taskAdd, hown, hfull, State.knotAdd_eq hn hknot hrel, Bool.false_eq_true, if_false,
    Bool.true_eq_false]

theorem increment_local {w : FmtB} {i : Nat} (hh : localHandle ((s.ctx k).gr w.ra.toNat) i) (op n : Nat) :
    s.increment k w op n = s.taskAdd k w i n := by
  simp only [State.increment, handle_local hh, if_true]

/-- The state that a counted increment leads to. -/
theorem increment_count {w : FmtB} {i n : Nat} (h : knotReady s k w i) (hn : 0 < n)
    (hroom : (s.knot i).count + n < 2 ^ 48) (hrel : releasesNone (knotPlus s k i n)) (op : Nat) :
    (s.count k).increment k w op n = ((counted s k i [n]).setKnot i (knotPlus s k i n)).finish k w ST_OK := by
  obtain ⟨-, -, -, -, hh, hown⟩ := h
  rw [increment_local (s := s.count k) (i := i) (by rwa [State.count_ctx_gr]),
    taskAdd_eq (s := s.count k) (by rwa [State.count_ctx_glove, ownsKnot_count]) hn hroom (by rwa [knotPlus_count]),
    knotPlus_count]
  rfl

/-- A Format B instruction that issues: its effect on the counted state, and the end of its issue. -/
theorem issueB_eq {w : FmtB} {legal : Bool} {g : State → Option State} (h : ReadyB s k w) (hl : legal = true)
    (hu : g (s.count k) = some u) : s.issueB k w legal g = u.issued k := (State.issueB_leaves h hl hu).1

/-- KARRIVE: the increment, once nothing of the context waits in the tile's queues. -/
theorem exec_karrive {w : FmtB} (h : ReadyB s k w) (hd : w.rd = 0) (hb : w.rb = 0) (hc : w.rc = 0) (ho : w.opx = 0)
    (hq : s.quiet k = true) : exec (.karrive k w) s = done s (((s.count k).increment k w 1 1).issued k) :=
  congrArg (done s) (issueB_eq h (legal_ra hd hb hc ho) (if_pos (quiet_count.trans hq)))

/-- KADD of v. -/
theorem exec_kadd {w : FmtB} (h : ReadyB s k w) (hd : w.rd = 0) (hc : w.rc = 0) (ho : w.opx = 0)
    (hq : s.quiet k = true) : exec (.kadd k w) s = done s (State.issued (
      if 2 ^ 32 ≤ ((s.ctx k).gr w.rb.toNat).toNat then (s.count k).finish k w ST_RANGE
      else (s.count k).increment k w 2 ((s.ctx k).gr w.rb.toNat).toNat) k) := by
  refine congrArg (done s) (issueB_eq h (legal_ra_rb hd hc ho) ?_)
  simp only [quiet_count, hq, State.count_ctx_gr, if_true]
  split <;> rfl

theorem karrive_goes {w : FmtB} {i : Nat} (h : knotReady s k w i) (hb : w.rb = 0) (hc : w.rc = 0)
    (hroom : (s.knot i).count + 1 < 2 ^ 48) (hrel : releasesNone (knotPlus s k i 1)) :
    Goes (.karrive k w) s (fun t => knotsBecome s t i (knotPlus s k i 1) ∧ s.completed t k w 0 0 ∧ memRegsKept s t) := by
  obtain ⟨hr, hd, ho, hq, -⟩ := id h
  refine goes_of_done (exec_karrive hr hd hb hc ho hq) ?_
  rw [increment_count h Nat.one_pos hroom hrel]
  exact knotWritten w i [1] _

theorem kadd_goes {w : FmtB} {i n : Nat} (h : knotReady s k w i) (hc : w.rc = 0)
    (hv : n = ((s.ctx k).gr w.rb.toNat).toNat) (hn : 0 < n) (hlt : n < 2 ^ 32) (hroom : (s.knot i).count + n < 2 ^ 48)
    (hrel : releasesNone (knotPlus s k i n)) :
    Goes (.kadd k w) s (fun t => knotsBecome s t i (knotPlus s k i n) ∧ s.completed t k w 0 0 ∧ memRegsKept s t) := by
  obtain ⟨hr, hd, ho, hq, -⟩ := id h
  refine goes_of_done (exec_kadd hr hd hc ho hq) ?_
  rw [← hv, if_neg (Nat.not_le.mpr hlt), increment_count h hn hroom hrel]
  exact knotWritten w i [n] _

theorem kset_goes {w : FmtB} {i c g : Nat} {v : Knot} (h : knotReady s k w i)
    (hc : c = ((s.ctx k).gr w.rb.toNat).toNat) (hg : g = ((s.ctx k).gr w.rc.toNat).toNat) (hcl : c < 2 ^ 48)
    (hgl : g < 2 ^ 48) (hv : v = { s.knot i with count := c, target := g, taint := false, marks := [] })
    (hrel : releasesNone v) :
    Goes (.kset k w) s (fun t => knotsBecome s t i v ∧ s.completed t k w 0 0 ∧ memRegsKept s t) := by
  obtain ⟨hr, hd, ho, hq, hh, hown⟩ := id h
  have hset : (counted s k i [c, g]).knotSet i c g = (counted s k i [c, g]).setKnot i v :=
    State.knotSet_eq (by rw [(outsideKept_counted i [c, g]).knot]; exact hv) hrel
  refine goes_of_done (u := ((((counted s k i [c, g]).setKnot i v).finish k w ST_OK).issued k))
    (congrArg (done s) (issueB_eq hr (legal_ra_rb_rc hd ho) ?_)) (knotWritten w i [c, g] v)
  have hno : ¬ (2 ^ 48 ≤ c ∨ 2 ^ 48 ≤ g ∨ s.ownsKnot (s.ctx k).glove i = false) := by
    rw [hown]
    exact fun h => h.elim (Nat.not_le.mpr hcl) fun h => h.elim (Nat.not_le.mpr hgl) Bool.noConfusion
  simp only [quiet_count, hq, State.count_ctx_gr, handle_local hh, State.count_ctx_glove, ownsKnot_count, ← hc, ← hg,
    if_neg hno, if_true]
  exact congrArg (fun u : State => some (u.finish k w ST_OK)) hset

/-! ### Refusals -/

/-- An instruction refused with a status changes its context's registers alone. -/
theorem refused_finish {w : FmtB} (ht : w.tf = false) (st : Nat) : refused s (((s.count k).finish k w st).issued k) k w st := by
  obtain ⟨hw, hon⟩ := State.wrote_finish (k := k) (w := w) (s := s) (u := s.count k) State.sameRegs_count ht st
  exact ⟨hw, hon, State.onlyRegs_count.trans (endedWith_onlyRegs ht st)⟩

/-- An increment past the largest count is refused: its event, and no knot changed. -/
theorem karrive_overflows {w : FmtB} {i : Nat} (h : knotReady s k w i) (hb : w.rb = 0) (hc : w.rc = 0) (ht : w.tf = false)
    (hsvc : s.svcKnot i = false) (hover : 2 ^ 48 ≤ (s.knot i).count + 1) :
    Goes (.karrive k w) s (fun t => (∀ j, t.knot j = s.knot j)
      ∧ (s.ctx k).wrote (t.ctx k) 0 0 w.sd.toNat 3 ∧ ∀ a, t.byte a = s.byte a) := by
  obtain ⟨hr, hd, ho, hq, hh, hown⟩ := id h
  have hfull : (s.count k).knotFull i 1 = true := by
    rw [State.knotFull, svcKnot_count, hsvc, knot_count, decide_eq_true hover]; rfl
  have he : (s.count k).increment k w 1 1 =
      ((s.count k).event 0x0602 i (s.ctx k).glove 1 0).finish k w ST_KNOT_OVF := by
    rw [increment_local (s := s.count k) (i := i) (by rwa [State.count_ctx_gr])]
    simp only [State.taskAdd, State.count_ctx_glove, ownsKnot_count, hown, hfull, Bool.true_eq_false, if_false, if_true]
  refine goes_of_done (exec_karrive hr hd hb hc ho hq) ?_
  rw [he]
  have hend := (endedWith_onlyRegs (k := k) (u := (s.count k).event 0x0602 i (s.ctx k).glove 1 0) ht ST_KNOT_OVF).1
  refine ⟨fun j => (hend.knot j).trans ?_, (State.wrote_finish ?_ ht ST_KNOT_OVF).1, fun a => (hend.2 a).trans ?_⟩
  · rw [State.knot_event, knot_count]
  · rw [State.ctx_event]; exact State.sameRegs_count
  · rw [State.byte_event, State.byte_count]

theorem kadd_tooLarge {w : FmtB} {n : Nat} (hr : ReadyB s k w) (hd : w.rd = 0) (hc : w.rc = 0) (ho : w.opx = 0)
    (ht : w.tf = false) (hq : s.quiet k = true) (hv : n = ((s.ctx k).gr w.rb.toNat).toNat) (hn : 2 ^ 32 ≤ n) :
    Goes (.kadd k w) s (fun t => refused s t k w ST_RANGE) := by
  refine goes_of_done (exec_kadd hr hd hc ho hq) ?_
  rw [← hv, if_pos hn]
  exact refused_finish ht ST_RANGE

theorem karrive_foreign {w : FmtB} {i : Nat} (hr : ReadyB s k w) (hd : w.rd = 0) (hb : w.rb = 0) (hc : w.rc = 0)
    (ho : w.opx = 0) (ht : w.tf = false) (hq : s.quiet k = true) (hh : localHandle ((s.ctx k).gr w.ra.toNat) i)
    (hown : s.ownsKnot (s.ctx k).glove i = false) : Goes (.karrive k w) s (fun t => refused s t k w ST_RANGE) := by
  refine goes_of_done (exec_karrive hr hd hb hc ho hq) ?_
  have he : (s.count k).increment k w 1 1 = (s.count k).finish k w ST_RANGE := by
    rw [increment_local (s := s.count k) (i := i) (by rwa [State.count_ctx_gr])]
    simp only [State.taskAdd, State.count_ctx_glove, ownsKnot_count, hown, if_true]
  rw [he]
  exact refused_finish ht ST_RANGE

/-! ### Waits: how they begin and end (R16, R47) -/

/-- A context is the one of its own tile and number. -/
theorem ctxId_self (k : CtxId) : ctxId k.tile k.ctx = k := by
  rw [ctxId, Fin.ofNat_val_eq_self, Fin.ofNat_val_eq_self]

/-- A context that writes a status and goes on, from one that holds the registers of x. -/
theorem wrote_onFrom {x y : Ctx} (h : x.sameRegs y) (sd : Nat) (st : W64) :
    x.wrote ((y.setG sd st).onFrom y.pc) 0 0 sd st ∧ x.wentOn ((y.setG sd st).onFrom y.pc) := by
  obtain ⟨hgr, hpr, hpc, hloops⟩ := h
  refine ⟨⟨fun q => ?_, fun q => ?_⟩, ?_, ?_⟩
  · by_cases hq : q = 0 <;> simp [Ctx.gr_setG, hgr, hq]
  · simp [hpr]
  · simp [hpc, hloops]
  · simp [hpc, hloops]

theorem outsideKept_resume : s.outsideKept (s.resume k) :=
  (State.outsideKept_of (State.outside_mapCtx _)).trans State.onlyRegs_join.1

theorem othersKept_resume : s.othersKept (s.resume k) k :=
  (State.othersKept_mapCtx _).trans State.onlyRegs_join.2.1

theorem ctx_resume : (s.resume k).ctx k = { s.ctx k with wait := .none } := by
  rw [State.resume, State.ctx_join, State.ctx_mapCtx_same]

theorem sameRegs_resume : (s.ctx k).sameRegs ((s.resume k).ctx k) := by
  rw [ctx_resume]; exact Ctx.sameRegs_refl _

/-- A context whose wait ends with a status: the wait, the status in gSD, the next address, and nothing outside the tiles. -/
theorem resumed_finish {w : FmtB} {st : Nat} (h : w.tf = false ∨ st = ST_OK) :
    ((((s.resume k).finish k w st).ctx k).wait = .none
      ∧ (s.ctx k).wrote (((s.resume k).finish k w st).ctx k) 0 0 w.sd.toNat (BitVec.ofNat 64 st)
      ∧ (s.ctx k).wentOn (((s.resume k).finish k w st).ctx k))
      ∧ s.outsideKept ((s.resume k).finish k w st) ∧ s.othersKept ((s.resume k).finish k w st) k := by
  have hctx : ((s.resume k).finish k w st).ctx k =
      (((s.resume k).ctx k).setG w.sd.toNat (BitVec.ofNat 64 st)).onFrom ((s.resume k).ctx k).pc := by
    rcases h with h | rfl
    · exact State.ctx_finish h st
    · exact State.ctx_finish_ok w
  have hregs : (s.resume k).onlyRegs ((s.resume k).finish k w st) k := by
    rcases h with h | rfl
    · exact State.onlyRegs_finish h st
    · exact State.onlyRegs_finish_ok w
  obtain ⟨hout, hoth, -⟩ := hregs
  refine ⟨⟨?_, ?_⟩, outsideKept_resume.trans hout, othersKept_resume.trans hoth⟩
  · rw [hctx, Ctx.onFrom_wait, Ctx.setG_wait, ctx_resume]
  · rw [hctx]; exact wrote_onFrom sameRegs_resume _ _

/-- A context begins to wait and leaves the window. -/
def waiting (s : State) (k : CtxId) (x : Wait) : State := (s.mapCtx k (fun y => { y with wait := x })).leave k

theorem outsideKept_waiting (x : Wait) : s.outsideKept (waiting s k x) :=
  (State.outsideKept_of (State.outside_mapCtx _)).trans State.onlyRegs_leave.1

theorem ctx_waiting (x : Wait) : (waiting s k x).ctx k = { s.ctx k with wait := x } := by
  rw [waiting, State.ctx_leave, State.ctx_mapCtx_same]

/-- A counted instruction that begins a wait: the wait, and the pc and registers as they were. -/
theorem waiting_issued {x : Wait} (h : u.ctx k = (s.count k).ctx k) :
    (((waiting u k x).issued k).ctx k).wait = x ∧ (((waiting u k x).issued k).ctx k).pc = (s.ctx k).pc
      ∧ regsKept (s.ctx k) (((waiting u k x).issued k).ctx k) := by
  simp only [State.issued_ctx_wait, State.issued_ctx_pc, regsKept, State.issued_ctx_gr, State.issued_ctx_pr, ctx_waiting, h]
  exact ⟨trivial, State.count_ctx_pc k, State.count_ctx_gr k, State.count_ctx_pr k⟩

/-! ### KWAIT -/

/-- The task of a context takes over a knot's taint and marks (R37). -/
def taintedBy (s : State) (k : CtxId) (v : Knot) : State :=
  match (s.ctx k).task with
  | some q => s.taintTask q v.taint v.marks
  | none => s

theorem onlyKn_taintTask (q : Nat) (b : Bool) (m : List Nat) : onlyKn s (s.taintTask q b m) := by
  unfold State.taintTask; split <;> rfl

theorem knot_taintTask (q : Nat) (b : Bool) (m : List Nat) (i : Nat) : (s.taintTask q b m).knot i = s.knot i := by
  unfold State.taintTask; split <;> rfl

theorem onlyKn_taintedBy (v : Knot) : onlyKn s (taintedBy s k v) := by
  unfold taintedBy; split
  · exact onlyKn_taintTask ..
  · rfl

theorem knot_taintedBy (v : Knot) (i : Nat) : (taintedBy s k v).knot i = s.knot i := by
  unfold taintedBy; split
  · exact knot_taintTask ..
  · rfl

/-- KWAIT on a reached knot. -/
theorem exec_kwait_reached {w : FmtB} {i : Nat} (h : knotReady s k w i) (hc : w.rc = 0)
    (hreach : (s.knot i).target ≤ (s.knot i).count) : exec (.kwait k w) s =
      done s (((taintedBy (s.count k) k (s.knot i)).finish k w (if (s.knot i).taint then ST_TAINT else ST_OK)).issued k) := by
  obtain ⟨hr, hd, ho, hq, hh, hown⟩ := h
  have hreached : (s.knot i).reached = true := decide_eq_true hreach
  refine congrArg (done s) (issueB_eq hr (legal_ra_rb hd hc ho) ?_)
  simp only [quiet_count, hq, State.count_ctx_gr, handle_local hh, State.count_ctx_glove, ownsKnot_count, hown, knot_count,
    hreached, Bool.true_eq_false, if_true, if_false]
  rfl

/-- KWAIT on a knot that is not reached. -/
theorem exec_kwait_waits {w : FmtB} {i : Nat} (h : knotReady s k w i) (hc : w.rc = 0)
    (hwait : (s.knot i).count < (s.knot i).target) : exec (.kwait k w) s =
      done s ((waiting ((s.count k).setKnot i { s.knot i with waiters := (s.knot i).waiters ++ [.ctx k.tile k.ctx] }) k
        (.kwait i (if (s.ctx k).gr w.rb.toNat = 0 then none
          else some (s.lanyard.toNat + ((s.ctx k).gr w.rb.toNat).toNat)) w)).issued k) := by
  obtain ⟨hr, hd, ho, hq, hh, hown⟩ := h
  have hreached : (s.knot i).reached = false := decide_eq_false (Nat.not_le.mpr hwait)
  have hzero : ∀ v : W64, (v.toNat = 0) = (v = 0) := fun v => propext ⟨fun h => BitVec.eq_of_toNat_eq h, fun h => h ▸ rfl⟩
  refine congrArg (done s) (issueB_eq hr (legal_ra_rb hd hc ho) ?_)
  simp only [quiet_count, hq, State.count_ctx_gr, handle_local hh, State.count_ctx_glove, ownsKnot_count, hown, knot_count,
    hreached, hzero, Bool.true_eq_false, Bool.false_eq_true, if_true, if_false]
  rfl

theorem kwait_foreign {w : FmtB} {i : Nat} (hr : ReadyB s k w) (hd : w.rd = 0) (hc : w.rc = 0)
    (ho : w.opx = 0) (ht : w.tf = false) (hq : s.quiet k = true) (hh : localHandle ((s.ctx k).gr w.ra.toNat) i)
    (hown : s.ownsKnot (s.ctx k).glove i = false) : Goes (.kwait k w) s (fun t => refused s t k w ST_RANGE) := by
  refine goes_of_done (u := ((s.count k).finish k w ST_RANGE).issued k)
    (congrArg (done s) (issueB_eq hr (legal_ra_rb hd hc ho) ?_)) (refused_finish ht ST_RANGE)
  simp only [quiet_count, hq, State.count_ctx_gr, handle_local hh, State.count_ctx_glove, ownsKnot_count, hown, if_true]

theorem kwait_completes {w : FmtB} {i : Nat} (h : knotReady s k w i) (hc : w.rc = 0)
    (hreach : (s.knot i).target ≤ (s.knot i).count) (ht : w.tf = false) : Goes (.kwait k w) s (fun t =>
      (s.ctx k).wrote (t.ctx k) 0 0 w.sd.toNat (if (s.knot i).taint then 8 else 0) ∧ (s.ctx k).wentOn (t.ctx k)
      ∧ (∀ j, t.knot j = s.knot j) ∧ memRegsKept s t) := by
  refine goes_of_done (exec_kwait_reached h hc hreach) ?_
  have hkn := onlyKn_taintedBy (s := s.count k) (k := k) (s.knot i)
  have hend := (endedWith_onlyRegs (k := k) (u := taintedBy (s.count k) k (s.knot i)) ht
    (if (s.knot i).taint then ST_TAINT else ST_OK)).1
  obtain ⟨hw, hon⟩ := State.wrote_finish (w := w) (s := s) (u := taintedBy (s.count k) k (s.knot i))
    (by rw [hkn.ctx]; exact State.sameRegs_count) ht (if (s.knot i).taint then ST_TAINT else ST_OK)
  have hst : BitVec.ofNat 64 (if (s.knot i).taint then ST_TAINT else ST_OK) = if (s.knot i).taint then 8 else 0 := by
    split <;> rfl
  exact ⟨hst ▸ hw, hon, fun j => (hend.knot j).trans (knot_taintedBy _ j),
    memRegsKept.trans (s := s) hkn.memRegsKept hend.memRegsKept⟩

/-- A counted instruction that writes a knot and begins a wait. -/
theorem knotWritten_waiting (i : Nat) (v : Knot) (x : Wait) :
    (((waiting ((s.count k).setKnot i v) k x).issued k).ctx k).wait = x
      ∧ knotsBecome s ((waiting ((s.count k).setKnot i v) k x).issued k) i v
      ∧ (((waiting ((s.count k).setKnot i v) k x).issued k).ctx k).pc = (s.ctx k).pc
      ∧ regsKept (s.ctx k) (((waiting ((s.count k).setKnot i v) k x).issued k).ctx k)
      ∧ memRegsKept s ((waiting ((s.count k).setKnot i v) k x).issued k) := by
  obtain ⟨hw, hpc, hregs⟩ := waiting_issued (s := s) (k := k) (x := x) (State.ctx_setKnot i v k)
  have hout := (outsideKept_waiting (s := (s.count k).setKnot i v) (k := k) x).trans
    (State.onlyRegs_issued (k := k)).1
  exact ⟨hw, fun j => (hout.knot j).trans (State.knot_setKnot ..), hpc, hregs,
    memRegsKept.trans (s := s) (onlyKn_setKnot (s := s.count k) i v).memRegsKept hout.memRegsKept⟩

theorem kwait_joins {w : FmtB} {i : Nat} (h : knotReady s k w i) (hc : w.rc = 0)
    (hwait : (s.knot i).count < (s.knot i).target) : Goes (.kwait k w) s (fun t =>
      (t.ctx k).wait = .kwait i (if (s.ctx k).gr w.rb.toNat = 0 then none
        else some (s.lanyard.toNat + ((s.ctx k).gr w.rb.toNat).toNat)) w
      ∧ knotsBecome s t i { s.knot i with waiters := (s.knot i).waiters ++ [.ctx k.tile k.ctx] }
      ∧ (t.ctx k).pc = (s.ctx k).pc ∧ regsKept (s.ctx k) (t.ctx k) ∧ memRegsKept s t) :=
  goes_of_done (exec_kwait_waits h hc hwait) (knotWritten_waiting i _ _)

/-! ### The release of a waiting context, and the timeout -/

theorem knot_progressKnot (i j : Nat) : (s.progressKnot i).knot j = s.knot j := rfl

/-- A KWAIT on knot i ends with a status. -/
theorem endKwait_eq {i st : Nat} {d : Option Nat} {w : FmtB} (h : (s.ctx k).wait = .kwait i d w) :
    s.endKwait k i st = (s.resume k).finish k w st := by
  simp only [State.endKwait, h, if_true]

/-- A waiting context without a task is released ST_OK by a knot without taint. -/
theorem releaseOne_ctx {i : Nat} {d : Option Nat} {w : FmtB} {v : Knot} (hwait : (s.ctx k).wait = .kwait i d w)
    (htask : (s.ctx k).task = none) (htaint : v.taint = false) :
    s.releaseOne i v (.ctx k.tile k.ctx) = ((s.progressKnot i).resume k).finish k w ST_OK := by
  have hctx : (s.progressKnot i).ctx k = s.ctx k := (onlyKn_progressKnot i).ctx k
  rw [State.releaseOne, ctxId_self, hctx, htask, htaint]
  exact endKwait_eq (by rw [hctx, hwait])

/-- A reached knot whose one waiter is a context without a task releases it (R16). -/
theorem release_one {i : Nat} {d : Option Nat} {w : FmtB} {v : Knot} (hv : s.knot i = v) (hreach : v.target ≤ v.count)
    (hw : v.waiters = [.ctx k.tile k.ctx]) (hwait : (s.ctx k).wait = .kwait i d w) (htask : (s.ctx k).task = none)
    (htaint : v.taint = false) :
    s.release i = ((((s.setKnot i { v with waiters := [] }).progressKnot i).resume k).finish k w ST_OK) := by
  have hr : v.reached = true := decide_eq_true hreach
  rw [State.release, hv, if_pos hr, hw, List.foldl_cons, List.foldl_nil]
  exact releaseOne_ctx hwait htask htaint

/-- The state after an increment's release of the context k' that waited on knot i. -/
def released (s : State) (i : Nat) (v : Knot) (k : CtxId) (w : FmtB) : State :=
  ((((s.setKnot i v).setKnot i { v with waiters := [] }).progressKnot i).resume k).finish k w ST_OK

/-- What the release leaves: the knot without its waiters, the context gone on, and every other context as it was. -/
theorem released_leaves (i : Nat) (v : Knot) (w : FmtB) :
    (released s i v k w).knot i = { v with waiters := [] } ∧ ((released s i v k w).ctx k).wait = .none
      ∧ (s.ctx k).wrote ((released s i v k w).ctx k) 0 0 w.sd.toNat 0 ∧ (s.ctx k).wentOn ((released s i v k w).ctx k)
      ∧ memRegsKept s (released s i v k w) ∧ ∀ k', k' ≠ k → (released s i v k w).ctx k' = s.ctx k' := by
  have hkn : onlyKn s (((s.setKnot i v).setKnot i { v with waiters := [] }).progressKnot i) := rfl
  obtain ⟨⟨hw, hwr, hon⟩, hout, hoth, -⟩ := resumed_finish (k := k)
    (s := ((s.setKnot i v).setKnot i { v with waiters := [] }).progressKnot i) (w := w) (.inr rfl)
  rw [hkn.ctx] at hwr hon
  refine ⟨?_, hw, hwr, hon, hkn.memRegsKept.trans hout.memRegsKept, fun k' hk => (hoth k' hk).trans (hkn.ctx k')⟩
  rw [released, hout.knot, knot_progressKnot, State.knot_setKnot_same]

theorem karrive_releases {w w' : FmtB} {k' : CtxId} {d : Option Nat} {i : Nat} (h : knotReady s k w i) (hb : w.rb = 0)
    (hc : w.rc = 0) (hroom : (s.knot i).count + 1 < 2 ^ 48) (htarget : (s.knot i).target = (s.knot i).count + 1)
    (hne : k' ≠ k) (hwaiters : (s.knot i).waiters = [.ctx k'.tile k'.ctx]) (hwait : (s.ctx k').wait = .kwait i d w')
    (htask : (s.ctx k').task = none) (hkt : (s.knot i).taint = false) (hct : s.ctxTaint k = false) :
    Goes (.karrive k w) s (fun t => (t.knot i).count = (s.knot i).count + 1 ∧ (t.knot i).waiters = []
      ∧ (t.ctx k').wait = .none ∧ (s.ctx k').wrote (t.ctx k') 0 0 w'.sd.toNat 0 ∧ (s.ctx k').wentOn (t.ctx k')
      ∧ s.completed t k w 0 0 ∧ memRegsKept s t) := by
  obtain ⟨hr, hd, ho, hq, hh, hown⟩ := h
  have hcount := othersKept_counted (s := s) (k := k) i [1]
  have hctx : (counted s k i [1]).ctx k' = s.ctx k' := hcount.1 k' hne
  have hfull : (s.count k).knotFull i 1 = false := by
    rw [State.knotFull, knot_count, decide_eq_false (Nat.not_le.mpr hroom), Bool.and_false]
  have hadd : (counted s k i [1]).knotAdd i 1 (s.ctxTaint k) (s.ctxMarks k) =
      released (counted s k i [1]) i (knotPlus s k i 1) k' w' := by
    have hv : ({ (counted s k i [1]).knot i with
        count := (((counted s k i [1]).knot i).count + 1) % 2 ^ 48,
        taint := ((counted s k i [1]).knot i).taint || s.ctxTaint k,
        marks := joinMarks ((counted s k i [1]).knot i).marks (s.ctxMarks k), compare := false } : Knot) =
        knotPlus s k i 1 := by
      rw [(outsideKept_counted i [1]).knot, Nat.mod_eq_of_lt hroom]; rfl
    rw [State.knotAdd, if_neg Nat.one_ne_zero, hv]
    exact release_one (State.knot_setKnot_same ..) (Nat.le_of_eq htarget) hwaiters (by rw [State.ctx_setKnot, hctx, hwait])
      (by rw [State.ctx_setKnot, hctx, htask]) (by rw [knotPlus, hkt, hct]; rfl)
  have he : (s.count k).increment k w 1 1 =
      (released (counted s k i [1]) i (knotPlus s k i 1) k' w').finish k w ST_OK := by
    rw [increment_local (s := s.count k) (i := i) (by rwa [State.count_ctx_gr])]
    simp only [State.taskAdd, State.count_ctx_glove, ownsKnot_count, hown, hfull, Bool.true_eq_false, Bool.false_eq_true,
      if_false, ctxTaint_count, ctxMarks_count]
    exact congrArg (fun u : State => u.finish k w ST_OK) hadd
  obtain ⟨hknot, hw0, hwr, hon, hmem, hoth⟩ := released_leaves (s := counted s k i [1]) (k := k') i (knotPlus s k i 1) w'
  obtain ⟨hend, hoth', -⟩ := ended_onlyRegs (k := k) (u := released (counted s k i [1]) i (knotPlus s k i 1) k' w') w
  rw [hctx, ← hoth'.1 k' hne] at hwr hon
  rw [← hoth'.1 k' hne] at hw0
  rw [← hend.knot] at hknot
  refine goes_of_done (exec_karrive hr hd hb hc ho hq) ?_
  rw [he]
  refine ⟨congrArg Knot.count hknot, congrArg Knot.waiters hknot, hw0, hwr, hon, State.completed_finish ?_,
    (outsideKept_counted i [1]).memRegsKept.trans (hmem.trans hend.memRegsKept)⟩
  rw [hoth k hne.symm]
  exact sameRegs_counted i [1]

theorem kwaitTimeout_goes {w : FmtB} {i due : Nat} (hwait : (s.ctx k).wait = .kwait i (some due) w)
    (hdue : due ≤ s.lanyard.toNat) (ht : w.tf = false) :
    Goes (.kwaitTimeout k) s (fun t => (t.ctx k).wait = .none ∧ (s.ctx k).wrote (t.ctx k) 0 0 w.sd.toNat 9
      ∧ (s.ctx k).wentOn (t.ctx k)
      ∧ knotsBecome s t i { s.knot i with waiters := (s.knot i).waiters.filter (· != .ctx k.tile k.ctx) }
      ∧ memRegsKept s t) := by
  obtain ⟨⟨hw0, hwr, hon⟩, hout, -⟩ := resumed_finish (k := k) (s := s.dropWaiter i (.ctx k.tile k.ctx)) (w := w)
    (st := ST_TIMEOUT) (.inl ht)
  have he : exec (.kwaitTimeout k) s =
      done s (((s.dropWaiter i (.ctx k.tile k.ctx)).resume k).finish k w ST_TIMEOUT) := by
    show execKwaitTimeout k s = _
    simp only [execKwaitTimeout, hwait, hdue, if_true]
  refine goes_of_done he ⟨hw0, hwr, hon, fun j => (hout.knot j).trans (State.knot_setKnot ..), ?_⟩
  exact (onlyKn_dropWaiter i (.ctx k.tile k.ctx)).memRegsKept.trans hout.memRegsKept

/-! ### KAT (R322) -/

/-- The longest wait that a KAT takes: gRB, or 10 ms. -/
def katLongest (r : Nat) : Nat := if r = 0 then 10000000 else r

/-- KAT: its value compared with the lanyard. -/
theorem exec_kat {w : FmtB} {v r : Nat} (h : ReadyB s k w) (hd : w.rd = 0) (hc : w.rc = 0) (ho : w.opx = 0)
    (hv : v = ((s.ctx k).gr w.ra.toNat).toNat) (hr : r = ((s.ctx k).gr w.rb.toNat).toNat) :
    exec (.kat k w) s = done s (State.issued (
      if v ≤ s.lanyard.toNat then (s.count k).finish k w ST_OK
      else if katLongest r < v - s.lanyard.toNat then (s.count k).finish k w ST_TIMEOUT
      else waiting (s.count k) k (.kat v w)) k) := by
  refine congrArg (done s) (issueB_eq h (legal_ra_rb hd hc ho) ?_)
  simp only [State.count_ctx_gr, ← hv, ← hr, State.count_lanyard]
  split
  · rfl
  · show (if katLongest r < v - s.lanyard.toNat then _ else _) = _
    split <;> rfl

theorem kat_passed {w : FmtB} (h : ReadyB s k w) (hd : w.rd = 0) (hc : w.rc = 0) (ho : w.opx = 0)
    (hnow : ((s.ctx k).gr w.ra.toNat).toNat ≤ s.lanyard.toNat) :
    Goes (.kat k w) s (fun t => s.completed t k w 0 0 ∧ s.onlyRegs t k) := by
  refine goes_of_done (exec_kat h hd hc ho rfl rfl) ?_
  rw [if_pos hnow]
  exact ⟨State.completed_finish State.sameRegs_count, State.onlyRegs_count.trans (ended_onlyRegs w)⟩

theorem kat_waits {w : FmtB} {v r : Nat} (h : ReadyB s k w) (hd : w.rd = 0) (hc : w.rc = 0) (ho : w.opx = 0)
    (hv : v = ((s.ctx k).gr w.ra.toNat).toNat) (hr : r = ((s.ctx k).gr w.rb.toNat).toNat)
    (hlater : s.lanyard.toNat < v) (hshort : v - s.lanyard.toNat ≤ katLongest r) :
    Goes (.kat k w) s (fun t => (t.ctx k).wait = .kat v w ∧ (t.ctx k).pc = (s.ctx k).pc
      ∧ regsKept (s.ctx k) (t.ctx k)) := by
  refine goes_of_done (exec_kat h hd hc ho hv hr) ?_
  rw [if_neg (Nat.not_le.mpr hlater), if_neg (Nat.not_lt.mpr hshort)]
  exact waiting_issued rfl

theorem kat_tooLong {w : FmtB} {v r : Nat} (h : ReadyB s k w) (hd : w.rd = 0) (hc : w.rc = 0) (ho : w.opx = 0)
    (hv : v = ((s.ctx k).gr w.ra.toNat).toNat) (hr : r = ((s.ctx k).gr w.rb.toNat).toNat)
    (hlater : s.lanyard.toNat < v) (hlong : katLongest r < v - s.lanyard.toNat) (ht : w.tf = false) :
    Goes (.kat k w) s (fun t => refused s t k w ST_TIMEOUT) := by
  refine goes_of_done (exec_kat h hd hc ho hv hr) ?_
  rw [if_neg (Nat.not_le.mpr hlater), if_pos hlong]
  exact refused_finish ht ST_TIMEOUT

theorem katWake_goes {w : FmtB} {v : Nat} (hwait : (s.ctx k).wait = .kat v w) (hnow : v ≤ s.lanyard.toNat) :
    Goes (.katWake k) s (fun t => (t.ctx k).wait = .none ∧ s.completed t k w 0 0 ∧ s.outsideKept t) := by
  obtain ⟨⟨hw0, hwr, hon⟩, hout, -⟩ := resumed_finish (k := k) (s := s) (w := w) (.inr rfl)
  have he : exec (.katWake k) s = done s ((s.resume k).finish k w ST_OK) := by
    show execKatWake k s = _
    simp only [execKatWake, hwait, hnow, if_true]
  exact goes_of_done he ⟨hw0, ⟨hwr, hon⟩, hout⟩

end Sys2Proof.Claims

open Sys2Proof.Claims

/-- Settles O14, a lemma for each knot instruction and each of its refusals. -/
theorem knotArithmetic : Obligations.KnotArithmetic := by
  unfold Obligations.KnotArithmetic
  exact ⟨fun k w s i h hb hc _ hroom hrel => karrive_goes h hb hc hroom hrel,
    fun k w s i v h hc hv hpos hlt _ hroom hrel => kadd_goes h hc hv hpos hlt hroom hrel,
    fun k w s i c g v h hc hg hcl hgl hv hrel => kset_goes h hc hg hcl hgl hv hrel,
    fun k w s i h hb hc ht hsvc hover => karrive_overflows h hb hc ht hsvc hover,
    fun k w s v hr hd hc ho ht hq hv hlarge => kadd_tooLarge hr hd hc ho ht hq hv hlarge,
    fun k w s i hr hd hb hc ho ht hq hh hown =>
      ⟨karrive_foreign hr hd hb hc ho ht hq hh hown, kwait_foreign hr hd hc ho ht hq hh hown⟩⟩

/-- Settles O15, a lemma for each way a wait begins or ends. -/
theorem knotWaits : Obligations.KnotWaits := by
  unfold Obligations.KnotWaits
  exact ⟨fun k w s i h hc hreach ht => kwait_completes h hc hreach ht,
    fun k w s i h hc hwait => kwait_joins h hc hwait,
    fun k w k' w' d s i h hb hc _ hroom htarget hne hwaiters hwait htask hkt hct =>
      karrive_releases h hb hc hroom htarget hne hwaiters hwait htask hkt hct,
    fun k w s i due hwait hdue ht => kwaitTimeout_goes hwait hdue ht,
    fun k w s h hd hc ho hnow => kat_passed h hd hc ho hnow,
    fun k w s v r h hd hc ho hv hr hlater => ⟨kat_waits h hd hc ho hv hr hlater, kat_tooLong h hd hc ho hv hr hlater⟩,
    fun k w s v hwait hnow => katWake_goes hwait hnow⟩
end

section
/-! O18: increments of knots from outside, the service knots, and the job counters (R15, R19, R46, R340, R346). -/

namespace Sys2Proof.Claims

open Machine Reg

variable {s t u : State} {k : CtxId}

/-! ### Increments -/

/-- An increment from outside that releases nobody writes the knot. -/
theorem knotAdd_gains {i n : Nat} {taint : Bool} (hn : 0 < n) (hrel : releasesNone (knotGains (s.knot i) n taint)) :
    s.knotAdd i n taint [] = s.setKnot i (knotGains (s.knot i) n taint) := by
  have hmarks : joinMarks (s.knot i).marks [] = (s.knot i).marks := by simp [joinMarks]
  exact State.knotAdd_eq hn (by rw [hmarks]; rfl) hrel

/-- The state with one knot written. -/
theorem setKnot_leaves (i : Nat) (v : Knot) : knotsBecome s (s.setKnot i v) i v ∧ memRegsKept s (s.setKnot i v) :=
  ⟨knotsBecome_setKnot i v, (onlyKn_setKnot i v).memRegsKept⟩

theorem knotFull_false {i n : Nat} (hroom : (s.knot i).count + n < 2 ^ 48) : s.knotFull i n = false := by
  rw [State.knotFull, decide_eq_false (Nat.not_le.mpr hroom), Bool.and_false]

theorem knotFull_svc {i : Nat} (hsvc : s.svcKnot i = true) (n : Nat) : s.knotFull i n = false := by
  rw [State.knotFull, hsvc]; rfl

theorem knotOpReceive_goes {x : Rx} {p : Packet} {n : Nat} (h : accepts s x tKNOT_OP p u n) (hok : knotOpOk p = true)
    (hown : u.ownsKnot n (knotOpIx p) = true) (hby : 0 < knotOpBy p)
    (hroom : (u.knot (knotOpIx p)).count + knotOpBy p < 2 ^ 48)
    (hrel : releasesNone (knotGains (u.knot (knotOpIx p)) (knotOpBy p) (knotOpTaint p))) :
    Goes (.knotOpReceive x) s (fun t =>
      knotsBecome u t (knotOpIx p) (knotGains (u.knot (knotOpIx p)) (knotOpBy p) (knotOpTaint p)) ∧ memRegsKept u t) := by
  obtain ⟨hhead, hty, hdest, hscreen⟩ := h
  have hop : u.knotOp p n = u.setKnot (knotOpIx p) (knotGains (u.knot (knotOpIx p)) (knotOpBy p) (knotOpTaint p)) := by
    rw [← knotAdd_gains hby hrel]
    show (if (!(u.ownsKnot n (knotOpIx p))) = true then _ else
      if u.knotFull (knotOpIx p) (knotOpBy p) = true then _ else _) = _
    rw [hown, knotFull_false hroom]
    rfl
  have he : exec (.knotOpReceive x) s = done s (u.knotOp p n) := by
    show execKnotOpReceive x s = _
    simp only [execKnotOpReceive, hhead, hty, hdest, and_self, hok, hscreen, if_true]
  exact goes_of_done (he.trans (congrArg (done s) hop)) (setKnot_leaves _ _)

/-- A value of at most 32 bits. -/
theorem bits_high_eq_zero {v : W64} (h : v.toNat < 2 ^ 32) : bits v 63 32 = 0 := by
  rw [bits, Nat.div_eq_of_lt h, Nat.zero_mod]

theorem bits_high_ne_zero {v : W64} (h : 2 ^ 32 ≤ v.toNat) : bits v 63 32 ≠ 0 := by
  have hlt := v.isLt
  simp only [bits]
  omega

/-- The ACTIVE glove that owns a knot, if there is one. -/
def activeOwner (s : State) (i : Nat) : Option Nat :=
  (List.range 64).find? (fun n => s.gstate n == gACTIVE && s.ownsKnot n i)

theorem activeOwner_ne_none {i n : Nat} (hact : s.gstate n = gACTIVE) (hn : n < 64) (hown : s.ownsKnot n i = true) :
    activeOwner s i ≠ none := fun h =>
  List.find?_eq_none.mp h n (List.mem_range.mpr hn) (by rw [hact, hown]; rfl)

theorem activeOwner_eq_none {i : Nat} (h : ∀ n, n < 64 → s.gstate n = gACTIVE → s.ownsKnot n i = false) :
    activeOwner s i = none := by
  refine List.find?_eq_none.mpr fun n hn he => ?_
  obtain ⟨hact, hown⟩ := Bool.and_eq_true_iff.mp he
  exact Bool.false_ne_true ((h n (List.mem_range.mp hn) (eq_of_beq hact)).symm.trans hown)

/-- KNOT_REL that is not refused. -/
theorem knotRel_adds {i : Fin 16384} {v : W64} (core : Fin 18) (hlt : v.toNat < 2 ^ 32)
    (hown : activeOwner s i ≠ none ∨ s.svcKnot i = true) (hfull : s.knotFull i v.toNat = false) (hpos : 0 < v.toNat)
    (hrel : releasesNone (knotGains (s.knot i) v.toNat false)) :
    Goes (.knotRel i v core) s (fun t => knotsBecome s t i (knotGains (s.knot i) v.toNat false) ∧ memRegsKept s t) := by
  have hno : ¬ (bits v 63 32 ≠ 0 ∨ (activeOwner s i = none ∧ s.svcKnot i = false) ∨ s.knotFull i v.toNat = true) := by
    rintro (h | ⟨hnone, hsvc⟩ | h)
    · exact h (bits_high_eq_zero hlt)
    · exact hown.elim (· hnone) fun h => Bool.false_ne_true (hsvc.symm.trans h)
    · exact Bool.false_ne_true (hfull.symm.trans h)
  exact goes_of_done ((if_neg hno).trans (congrArg (done s) (knotAdd_gains hpos hrel))) (setKnot_leaves _ _)

theorem knotRel_refused {i : Fin 16384} {v : W64} (core : Fin 18) (h : 2 ^ 32 ≤ v.toNat ∨
    ((∀ n, n < 64 → s.gstate n = gACTIVE → s.ownsKnot n i = false) ∧ s.svcKnot i = false)) :
    Goes (.knotRel i v core) s (fun t => (∀ j, t.knot j = s.knot j) ∧ memKept s t) := by
  have hyes : bits v 63 32 ≠ 0 ∨ (activeOwner s i = none ∧ s.svcKnot i = false) ∨ s.knotFull i v.toNat = true :=
    h.elim (fun h => .inl (bits_high_ne_zero h)) fun ⟨h, hsvc⟩ => .inr (.inl ⟨activeOwner_eq_none h, hsvc⟩)
  exact goes_of_done (if_pos hyes) ⟨State.knot_event _ _ _ _ _, State.byte_event _ _ _ _ _⟩

/-! ### The service knots (R346) -/

theorem knotSvcWrite_goes {v : W64} (hclear : clearOfGloves s (bits v 13 0) (bits v 28 14)) (hidle : svcKnotsIdle s) :
    Goes (.knotSvcWrite v) s (fun t => t.fget KNOT_SVC KNOT_SVC_BASE = bits v 13 0
      ∧ t.fget KNOT_SVC KNOT_SVC_COUNT = bits v 28 14
      ∧ regsBut s t [KNOT_SVC] ∧ memKept s t ∧ ∀ j, t.knot j = s.knot j) := by
  have hclash : ((List.range 64).any fun n => s.gstate n != gFREE && s.gstate n != gRETIRED
      && decide (0 < bits v 28 14 ∧ 0 < s.kcount n ∧ bits v 13 0 < s.kbase n + s.kcount n
        ∧ s.kbase n < bits v 13 0 + bits v 28 14)) = false := by
    refine List.any_eq_false.mpr fun n hn he => ?_
    simp only [Bool.and_eq_true, bne_iff_ne, decide_eq_true_eq] at he
    obtain ⟨⟨hfree, hretired⟩, hc, hk, hb, hb'⟩ := he
    rcases hclear n (List.mem_range.mp hn) with h | h | h | h | h | h
    · exact hfree h
    · exact hretired h
    all_goals omega
  have hused : (s.fget SNS_TELEM0 SNS_TELEM0_ENABLE == 1 || [0, 1].any fun m => [0, 1].any fun d => (List.range 16).any
      fun r => s.fget (SVC_ETH_RING1 m d r) SVC_ETH_RING1_ENABLE == 1) = false := by
    obtain ⟨htelem, hring⟩ := hidle
    refine Bool.or_eq_false_iff.mpr ⟨beq_eq_false_iff_ne.mpr htelem, List.any_eq_false.mpr fun m hm => ?_⟩
    refine Bool.not_eq_true _ ▸ List.any_eq_false.mpr fun d hd => ?_
    refine Bool.not_eq_true _ ▸ List.any_eq_false.mpr fun r hr he => ?_
    refine hring m d r ?_ ?_ (List.mem_range.mp hr) (eq_of_beq he)
    · simp only [List.mem_cons, List.not_mem_nil, or_false] at hm; omega
    · simp only [List.mem_cons, List.not_mem_nil, or_false] at hd; omega
  have he : exec (.knotSvcWrite v) s =
      done s ((s.fset KNOT_SVC KNOT_SVC_BASE (bits v 13 0)).fset KNOT_SVC KNOT_SVC_COUNT (bits v 28 14)) := by
    show execKnotSvcWrite v s = _
    simp only [execKnotSvcWrite, hclash, hused, Bool.false_or, Bool.false_and, Bool.false_eq_true, if_false]
  refine goes_of_done he ⟨?_, ?_, fun o ho => ?_, fun _ => rfl, fun _ => rfl⟩
  · rw [fget_pending, State.fget_fset_apart _ _ _ _ (by decide) (by decide) (by decide) (by decide)]
    exact fget_fset_bits KNOT_SVC KNOT_SVC_BASE v (by decide) (by decide)
  · rw [fget_pending]
    exact fget_fset_bits KNOT_SVC KNOT_SVC_COUNT v (by decide) (by decide)
  · rw [reg_pending, State.reg_fset_ne (List.ne_of_not_mem_cons ho), State.reg_fset_ne (List.ne_of_not_mem_cons ho)]

/-! ### The job counters (R46) -/

/-- The job registers of every m of a list set to 0. -/
def clearJobs (s : State) (l : List Nat) : State :=
  l.foldl (fun s m => (s.setReg (KNOT_JOBCLI m) 0).setReg (KNOT_JOBCNT m) 0) s

theorem reg_clearJobs (o : Nat) : ∀ (l : List Nat) (s : State), (clearJobs s l).reg o =
    if ∃ m ∈ l, o = KNOT_JOBCLI m ∨ o = KNOT_JOBCNT m then 0 else s.reg o
  | [], _ => by simp [clearJobs]
  | m :: l, s => by
    rw [clearJobs, List.foldl_cons]
    refine (reg_clearJobs o l _).trans ?_
    rw [State.reg_setReg, State.reg_setReg]
    by_cases hl : ∃ m ∈ l, o = KNOT_JOBCLI m ∨ o = KNOT_JOBCNT m
    · obtain ⟨m', hm', ho⟩ := hl
      rw [if_pos ⟨m', hm', ho⟩, if_pos ⟨m', List.mem_cons_of_mem _ hm', ho⟩]
    · by_cases hcnt : o = KNOT_JOBCNT m <;> by_cases hcli : o = KNOT_JOBCLI m <;> simp [hl, hcnt, hcli]

theorem mem_clearJobs (l : List Nat) : (clearJobs s l).mem = s.mem := by
  refine foldl_keeps State.mem ?_ l s
  exact fun _ _ => rfl

/-- What KNOT_JOBCTL_CLEAR changes beside the job registers: JOB_FULL, and the counters' saturation marks. -/
def forgetJobs (s : State) : State :=
  { s with
    kn := { s.kn with jobFull := false }
    svc := { s.svc with
      satRaised := Tab.dropIf (fun k => decide (KNOT_JOBCNT 0 ≤ k / 64 ∧ k / 64 ≤ KNOT_JOBCNT 255)) s.svc.satRaised } }

theorem exec_knotJobctlClear :
    exec .knotJobctlClear s = done s (forgetJobs (clearJobs s (List.range 256))) := rfl

/-- The offsets that the statement excepts are those of the job registers. -/
theorem mem_jobOffsets {o : Nat} {l : List Nat} (h : ∃ m ∈ l, o = KNOT_JOBCLI m ∨ o = KNOT_JOBCNT m) :
    o ∈ l.flatMap fun m => [KNOT_JOBCLI m, KNOT_JOBCNT m] := by
  obtain ⟨m, hm, hom⟩ := h
  exact List.mem_flatMap.mpr ⟨m, hm, by simpa only [List.mem_cons, List.not_mem_nil, or_false] using hom⟩

/-- The job counters of every m of a list are cleared, and nothing else that the statement reads. -/
theorem forgetJobs_clearJobs (l : List Nat) (q : List Instr) {t : State}
    (ht : t = { forgetJobs (clearJobs s l) with pending := q }) :
    (∀ m ∈ l, t.reg (KNOT_JOBCLI m) = 0 ∧ t.reg (KNOT_JOBCNT m) = 0)
    ∧ regsBut s t (l.flatMap (fun m => [KNOT_JOBCLI m, KNOT_JOBCNT m])) ∧ memKept s t := by
  subst ht
  have hreg := fun o => reg_clearJobs o l s
  refine ⟨fun m hm => ⟨?_, ?_⟩, fun o ho => ?_, fun a => ?_⟩
  · exact (hreg _).trans (if_pos ⟨m, hm, .inl rfl⟩)
  · exact (hreg _).trans (if_pos ⟨m, hm, .inr rfl⟩)
  · exact (hreg o).trans (if_neg fun h => ho (mem_jobOffsets h))
  · exact congrArg (fun m => Tab.look (fun _ => 0) m a) (mem_clearJobs l)

theorem knotJobctlClear_goes : Goes .knotJobctlClear s (fun t =>
    (∀ m, m < 256 → t.reg (KNOT_JOBCLI m) = 0 ∧ t.reg (KNOT_JOBCNT m) = 0)
    ∧ regsBut s t ((List.range 256).flatMap (fun m => [KNOT_JOBCLI m, KNOT_JOBCNT m])) ∧ memKept s t) := by
  refine goes_of_done exec_knotJobctlClear ?_
  obtain ⟨h0, hbut, hmem⟩ := forgetJobs_clearJobs (s := s) (List.range 256) s.pending rfl
  exact ⟨fun m hm => h0 m (List.mem_range.mpr hm), hbut, hmem⟩

end Sys2Proof.Claims

open Sys2Proof.Claims

/-- Settles O18, a lemma for each command; a KNOT_REL is refused exactly where the rule says so. -/
theorem knotCommands : Obligations.KnotCommands := by
  unfold Obligations.KnotCommands
  exact ⟨fun x s p u n h hok hown hby _ hroom hrel => knotOpReceive_goes h hok hown hby hroom hrel,
    fun i v core s n hact hn hown _ hpos hlt hroom hrel =>
      knotRel_adds core hlt (.inl (activeOwner_ne_none hact hn hown)) (knotFull_false hroom) hpos hrel,
    fun i v core s hsvc hpos hlt hrel => knotRel_adds core hlt (.inr hsvc) (knotFull_svc hsvc _) hpos hrel,
    fun i v core s h => knotRel_refused core h,
    fun v s hclear hidle => knotSvcWrite_goes hclear hidle,
    fun s => knotJobctlClear_goes⟩
end

section
/-! O19: the watchdog, MAXRUN and the admission stall (R27, R34), and the fault that takes a glove down (R42). -/

namespace Sys2Proof.Machine

open Reg Claims

variable {s t u : State} {k : CtxId}

/-- A fold whose turn at x changes what is read at x alone, by g, changes what is read at the listed places, by g. -/
theorem foldl_at {σ β : Type} (look : σ → Nat → β) {f : σ → Nat → σ} (g : Nat → β → β)
    (hf : ∀ u x j, look (f u x) j = if j = x then g j (look u j) else look u j) (j : Nat) :
    ∀ (l : List Nat), l.Nodup → ∀ u, look (l.foldl f u) j = if j ∈ l then g j (look u j) else look u j
  | [], _, u => by simp
  | x :: l, hl, u => by
    obtain ⟨hx, hl⟩ := List.nodup_cons.mp hl
    rw [List.foldl_cons, foldl_at look g hf j l hl (f u x), hf]
    by_cases hj : j = x
    · subst hj; simp [hx]
    · simp [hj]

theorem Tile.ctx_dropCtx (v : Tile) (c j : Nat) : (v.dropCtx c).ctx j = v.ctx j := rfl

/-- What the teardown of glove n makes of a context: one of its tasks stops (R42). -/
def Ctx.stopFor (n : Nat) (x : Ctx) : Ctx :=
  if x.task.isSome ∧ x.glove = n then { x with stopped := true, wait := .none, moves := [], halt := .none } else x

theorem Tile.ctx_stopGlove (v : Tile) (n : Nat) {j : Nat} (hj : j < 16) : (v.stopGlove n).ctx j = (v.ctx j).stopFor n := by
  refine (foldl_at Tile.ctx (fun _ => Ctx.stopFor n) ?_ j (List.range 16) List.nodup_range v).trans
    (if_pos (List.mem_range.mpr hj))
  intro v x j
  dsimp only
  split
  case isTrue h =>
    rw [Tile.ctx_setCtx, Tile.ctx_dropCtx]
    by_cases hj : j = x
    · rw [if_pos hj, if_pos hj, hj, Ctx.stopFor, if_pos h]
    · rw [if_neg hj, if_neg hj]
  case isFalse h =>
    by_cases hj : j = x
    · rw [if_pos hj, hj, Ctx.stopFor, if_neg h]
    · rw [if_neg hj]

/-- A tile without tasks is as it was. -/
theorem Tile.stopGlove_empty (n : Nat) : ({} : Tile).stopGlove n = {} := List.foldl_fixed' (fun _ => rfl) _

theorem State.tiles_idleEngines (s : State) : s.idleEngines.tiles = s.tiles := by
  refine foldl_keeps State.tiles (fun u e => ?_) [0, 1] s
  split <;> rfl

theorem State.tile_stopTiles (n i : Nat) : (s.stopTiles n).tile i = (s.tile i).stopGlove n :=
  Tab.look_mapVal (fun _ => ({} : Tile)) (fun _ (v : Tile) => v.stopGlove n) s.tiles i (Tile.stopGlove_empty n)

theorem State.tiles_dropWork (n : Nat) : (s.dropWork n).tiles = s.tiles := rfl

theorem State.tile_goDown (n c i : Nat) : (s.goDown n c).tile i = (s.tile i).stopGlove n := by
  unfold State.goDown
  dsimp only
  rw [State.tile_fset, State.tile, State.tiles_idleEngines, State.tiles_dropWork, ← State.tile, State.tile_stopTiles,
    State.tile_fset, State.tile_fset]

theorem State.ctx_goDown (n c : Nat) : (s.goDown n c).ctx k = (s.ctx k).stopFor n := by
  rw [State.ctx, State.tile_goDown]
  exact Tile.ctx_stopGlove _ _ k.ctx.isLt

end Sys2Proof.Machine

namespace Sys2Proof.Claims

open Machine Reg

variable {s t u : State} {k : CtxId}

/-- The fault of an ACTIVE glove takes it down. -/
theorem goesDown_faultGlove {n : Nat} (ha : s.gstate n = gACTIVE) {c : Nat} (hc : c < 256) :
    goesDown s (s.faultGlove n c) n c := by
  refine ⟨State.gstate_faultGlove ha c, (State.cause_faultGlove ha c).trans (Nat.mod_eq_of_lt hc), fun a => ?_,
    fun k htask hglove => ?_⟩
  · exact congrArg (fun m => Tab.look (fun _ => 0) m a) (State.mem_faultGlove n c)
  · rw [State.faultGlove_active ha, State.ctx_goDown, Ctx.stopFor,
      if_pos ⟨Option.isSome_iff_ne_none.mpr htask, hglove⟩]
    exact ⟨rfl, rfl, rfl⟩

/-! ### The time a task runs (R34) -/

section
variable {q : Fin 4096} {r : Task} {tile c ns : Nat} (h : running s q r tile c ns)
include h

theorem exec_taskWatchdog : exec (.taskWatchdog q) s =
    if 10000000 ≤ ns then done s (s.faultGlove r.glove causeWATCHDOG) else done s s := by
  obtain ⟨hq, hph, hns⟩ := h
  show execTaskWatchdog q s = _
  simp only [execTaskWatchdog, hq, hph, hns]

theorem exec_taskMaxrunExceeded : exec (.taskMaxrunExceeded q) s =
    if r.longRaised = false ∧ r.maxrun * 1000 < ns then
      done s ((s.setTask q (some { r with longRaised := true })).event 0x0604 tile r.glove q (ns / 1000))
    else done s s := by
  obtain ⟨hq, hph, hns⟩ := h
  show execTaskMaxrunExceeded q s = _
  simp only [execTaskMaxrunExceeded, hq, hph, hns]

theorem taskWatchdog_faults (hlong : 10000000 ≤ ns) (ha : s.gstate r.glove = gACTIVE) :
    Goes (.taskWatchdog q) s (fun u => goesDown s u r.glove causeWATCHDOG) :=
  goes_of_done ((exec_taskWatchdog h).trans (if_pos hlong)) (goesDown_faultGlove ha (by decide))

theorem taskWatchdog_nothing (hshort : ns < 10000000) : Goes (.taskWatchdog q) s (fun u =>
    u.gstate r.glove = s.gstate r.glove ∧ memRegsKept s u ∧ ∀ k, u.ctx k = s.ctx k) :=
  goes_of_done ((exec_taskWatchdog h).trans (if_neg (Nat.not_le.mpr hshort)))
    ⟨rfl, ⟨fun _ => rfl, fun _ => rfl⟩, fun _ => rfl⟩

theorem taskMaxrunExceeded_raises (hfirst : r.longRaised = false) (hlong : r.maxrun * 1000 < ns) :
    Goes (.taskMaxrunExceeded q) s (fun u => u.task q = some { r with longRaised := true }
      ∧ raised s u 0x0604 tile r.glove q (ns / 1000) ∧ memKept s u ∧ ∀ k, u.ctx k = s.ctx k) :=
  goes_of_done ((exec_taskMaxrunExceeded h).trans (if_pos ⟨hfirst, hlong⟩))
    ⟨(State.task_event ..).trans (State.task_setTask_same _ _), raised_event (State.reg_setTask _ _ _) rfl _ _ _ _ _,
      fun _ => State.byte_event .., fun _ => State.ctx_event ..⟩

theorem taskMaxrunExceeded_nothing (hraised : r.longRaised = true) : Goes (.taskMaxrunExceeded q) s (fun u =>
    u.task q = some r ∧ memRegsKept s u ∧ ∀ k, u.ctx k = s.ctx k) :=
  goes_of_done ((exec_taskMaxrunExceeded h).trans (if_neg fun hno => Bool.false_ne_true (hno.1.symm.trans hraised)))
    ⟨h.1, ⟨fun _ => rfl, fun _ => rfl⟩, fun _ => rfl⟩

end

/-! ### The time a graph is held (R27) -/

theorem exec_admitStall {n : Fin 64} {d : Hold} (h : Tab.look (fun _ => none) s.kn.holds n = some d) :
    exec (.admitStall n) s =
      if d.since + 10000000 ≤ s.lanyard.toNat then done s (s.faultGlove n causeADMIT_STALL) else done s s := by
  show execAdmitStall n s = _
  simp only [execAdmitStall, h]

end Sys2Proof.Claims

open Sys2Proof.Claims

/-- Settles O19, by the two sides of each limit. -/
theorem taskLimits : Obligations.TaskLimits := by
  unfold Obligations.TaskLimits
  exact ⟨fun q s r tile c ns h hlong ha _ => taskWatchdog_faults h hlong ha,
    fun q s r tile c ns h hshort => taskWatchdog_nothing h hshort,
    fun q s r tile c ns h hfirst hlong => taskMaxrunExceeded_raises h hfirst hlong,
    fun q s r tile c ns h hraised => taskMaxrunExceeded_nothing h hraised,
    fun n s d h hlong ha => goes_of_done ((exec_admitStall h).trans (if_pos hlong)) (goesDown_faultGlove ha (by decide)),
    fun n s d h hshort => goes_of_done ((exec_admitStall h).trans (if_neg (Nat.not_le.mpr hshort)))
      ⟨rfl, fun _ => rfl, fun _ => rfl⟩⟩
end

section
/-! O21: the tile and the task that the rules choose, and the placement (R29, R31, R32, R394). -/

namespace Sys2Proof.Machine

/-- What holds of no items and is kept by each further one holds of a fold over all of them. -/
theorem foldl_invariant {α β : Type} (P : List α → β → Prop) {f : β → α → β} {b : β} (h0 : P [] b)
    (hs : ∀ seen x b, P seen b → P (seen ++ [x]) (f b x)) (l : List α) : P l (l.foldl f b) := by
  induction l using List.reverseRecOn with
  | nil => exact h0
  | append_singleton l x ih => rw [List.foldl_append]; exact hs l x _ ih

end Sys2Proof.Machine

namespace Sys2Proof.Claims

open Machine Reg

variable {s t u : State} {k : CtxId}

/-! ### The tile (R31) -/

/-- Among the tiles of a list, b is a candidate of the highest score; there is none where it names none. -/
def bestAmong (s : State) (q : Nat) (t : Task) (l : List Nat) (b : Option Nat) : Prop :=
  (∀ j, b = some j → j ∈ l ∧ s.candidate q t j = true ∧ ∀ i ∈ l, s.candidate q t i = true → s.score t i ≤ s.score t j)
    ∧ (b = none → ∀ i ∈ l, s.candidate q t i = false)

section
variable {q : Nat} {r : Task} {l : List Nat} {i j : Nat}

theorem bestAmong_skip {b : Option Nat} (hi : ¬ s.candidate q r i = true) (h : bestAmong s q r l b) :
    bestAmong s q r (l ++ [i]) b := by
  refine ⟨fun j hj => ?_, fun hb m hm => ?_⟩
  · obtain ⟨hmem, hcand, hmax⟩ := h.1 j hj
    refine ⟨List.mem_append_left _ hmem, hcand, fun m hm hc => ?_⟩
    rcases List.mem_append.mp hm with hm | hm
    · exact hmax m hm hc
    · exact absurd (List.mem_singleton.mp hm ▸ hc) hi
  · rcases List.mem_append.mp hm with hm | hm
    · exact h.2 hb m hm
    · exact List.mem_singleton.mp hm ▸ Bool.not_eq_true _ ▸ hi

/-- A tile j among those seen and the next, whose score no earlier candidate and not the next one exceeds. -/
theorem bestAmong_some (hj : j ∈ l ++ [i]) (hc : s.candidate q r j = true)
    (hmax : ∀ m ∈ l, s.candidate q r m = true → s.score r m ≤ s.score r j) (hi : s.score r i ≤ s.score r j) :
    bestAmong s q r (l ++ [i]) (some j) := by
  refine ⟨fun m hm => ?_, fun h => nomatch h⟩
  obtain rfl := Option.some.inj hm
  refine ⟨hj, hc, fun m hm hcand => ?_⟩
  rcases List.mem_append.mp hm with hm | hm
  · exact hmax m hm hcand
  · exact List.mem_singleton.mp hm ▸ hi

theorem bestTile_best (s : State) (q : Nat) (r : Task) : bestAmong s q r (List.range 256) (s.bestTile q r) := by
  refine foldl_invariant (b := none) (bestAmong s q r) ⟨(fun _ h => nomatch h), fun _ _ h => nomatch h⟩ (fun seen i b h => ?_) (List.range 256)
  split
  case isFalse hi => exact bestAmong_skip hi h
  case isTrue hi =>
    have hlast : i ∈ seen ++ [i] := List.mem_append_right _ List.mem_cons_self
    cases b with
    | none =>
      exact bestAmong_some hlast hi (fun m hm hc => absurd ((h.2 rfl m hm).symm.trans hc) Bool.false_ne_true) le_rfl
    | some j =>
      obtain ⟨hmem, hcand, hmax⟩ := h.1 j rfl
      dsimp only
      split
      case isTrue hlt =>
        exact bestAmong_some hlast hi (fun m hm hc => (hmax m hm hc).trans (by omega)) le_rfl
      case isFalse hlt => exact bestAmong_some (List.mem_append_left _ hmem) hcand hmax (by omega)

theorem bestTile_spec (h : s.bestTile q r = some j) : j < 256 ∧ s.candidate q r j = true
    ∧ ∀ i, i < 256 → s.candidate q r i = true → s.score r i ≤ s.score r j := by
  obtain ⟨hmem, hcand, hmax⟩ := (bestTile_best s q r).1 j h
  exact ⟨List.mem_range.mp hmem, hcand, fun i hi hc => hmax i (List.mem_range.mpr hi) hc⟩

end

/-! ### The task (R29) -/

/-- Task slot q is glove n's, may be dispatched and has a candidate tile. -/
def placeable (s : State) (n q : Nat) (t : Task) : Prop :=
  t.glove = n ∧ s.mayDispatch t = true ∧ (s.bestTile q t).isSome = true

/-- Among the slots of a list, b is placeable; none is where it names none. -/
def pickedFrom (s : State) (n : Nat) (l : List (Nat × Option Task)) (b : Option (Nat × Task)) : Prop :=
  (∀ q t, b = some (q, t) → (q, some t) ∈ l ∧ placeable s n q t)
    ∧ (b = none → ∀ q t, (q, some t) ∈ l → ¬ placeable s n q t)

theorem pickedFrom_skip {n : Nat} {l : List (Nat × Option Task)} {b : Option (Nat × Task)} {e : Nat × Option Task}
    (he : ∀ t, e.2 = some t → ¬ placeable s n e.1 t) (h : pickedFrom s n l b) : pickedFrom s n (l ++ [e]) b := by
  refine ⟨fun q t hb => ⟨List.mem_append_left _ (h.1 q t hb).1, (h.1 q t hb).2⟩, fun hb q t hm => ?_⟩
  rcases List.mem_append.mp hm with hm | hm
  · exact h.2 hb q t hm
  · obtain rfl := List.mem_singleton.mp hm
    exact he t rfl

theorem pickedFrom_some {n q : Nat} {t : Task} {l : List (Nat × Option Task)} (hm : (q, some t) ∈ l)
    (h : placeable s n q t) : pickedFrom s n l (some (q, t)) := by
  refine ⟨fun q' t' he => ?_, fun he => nomatch he⟩
  obtain ⟨rfl, rfl⟩ := Prod.mk.inj (Option.some.inj he)
  exact ⟨hm, h⟩

theorem pickIn_picked (s : State) (n : Nat) : pickedFrom s n s.kn.tasks (s.pickIn n) := by
  refine foldl_invariant (b := none) (pickedFrom s n) ⟨(fun _ _ h => nomatch h), fun _ _ _ h => nomatch h⟩ (fun seen e b h => ?_) _
  obtain ⟨q, r⟩ := e
  cases r with
  | none => exact pickedFrom_skip (fun _ h => nomatch h) h
  | some r =>
    dsimp only
    split
    case isFalse hno => exact pickedFrom_skip (fun t ht => Option.some.inj ht ▸ hno) h
    case isTrue hyes =>
      have hlast : (q, some r) ∈ seen ++ [(q, some r)] := List.mem_append_right _ List.mem_cons_self
      cases b with
      | none => exact pickedFrom_some hlast hyes
      | some x =>
        obtain ⟨hmem, hx⟩ := h.1 x.1 x.2 rfl
        dsimp only
        split
        · exact pickedFrom_some hlast hyes
        · exact pickedFrom_some (List.mem_append_left _ hmem) hx

/-- A task that a class's round robin chooses belongs to a glove of the class. -/
theorem pickClass_some {urgent : Bool} {last q : Nat} {t : Task} (h : s.pickClass urgent last = some (q, t)) :
    s.gurgent t.glove = urgent ∧ (q, some t) ∈ s.kn.tasks ∧ s.mayDispatch t = true := by
  obtain ⟨i, -, hi⟩ := List.exists_of_findSome?_eq_some h
  dsimp only at hi
  split at hi
  case isFalse => exact nomatch hi
  case isTrue hclass =>
    obtain ⟨hmem, hglove, hmay, -⟩ := (pickIn_picked s _).1 q t hi
    exact ⟨hglove ▸ eq_of_beq hclass, hmem, hmay⟩

/-- The round robin comes to every slot. -/
theorem roundRobin_meets (last : Nat) {n : Nat} (hn : n < 64) : ∃ i ∈ List.range 64, (last + 1 + i) % 64 = n :=
  ⟨(n + 64 - (last + 1) % 64) % 64, List.mem_range.mpr (by omega), by omega⟩

theorem pickClass_none {urgent : Bool} {last n : Nat} (h : s.pickClass urgent last = none) (hn : n < 64)
    (hclass : s.gurgent n = urgent) : s.pickIn n = none := by
  obtain ⟨i, hi, rfl⟩ := roundRobin_meets last hn
  have hnone := List.findSome?_eq_none_iff.mp h i hi
  dsimp only at hnone
  rwa [if_pos (beq_iff_eq.mpr hclass)] at hnone

theorem pick_spec {q : Nat} {t : Task} (h : s.pick = some (q, t)) : s.mayDispatch t = true ∧ (q, some t) ∈ s.kn.tasks
    ∧ (s.gurgent t.glove = false → ∀ r y, (r, some y) ∈ s.kn.tasks → s.mayDispatch y = true → y.glove < 64 →
        s.gurgent y.glove = true → s.bestTile r y = none) := by
  unfold State.pick at h
  split at h
  case h_1 x hx =>
    obtain ⟨hclass, hmem, hmay⟩ := pickClass_some (hx.trans h)
    exact ⟨hmay, hmem, fun hno => absurd (hclass.symm.trans hno) (by decide)⟩
  case h_2 hx =>
    obtain ⟨-, hmem, hmay⟩ := pickClass_some h
    refine ⟨hmay, hmem, fun _ r y hy hmayY hlt hurgent => ?_⟩
    have hnone := (pickIn_picked s y.glove).2 (pickClass_none hx hlt hurgent) r y hy
    exact Option.not_isSome_iff_eq_none.mp fun hsome => hnone ⟨rfl, hmayY, hsome⟩

/-! ### The placement (R32) -/

/-- The context that a placed task begins in, before its arguments are set. -/
def freshCtx (s : State) (q : Nat) (t : Task) (tile : Nat) : Ctx :=
  { task := some q, glove := t.glove, banks := (s.tile tile).freeBanks.take t.accNeed,
    pc := BitVec.ofNat 57 (bits (t.desc.getD 0 0) 56 0), dispatchedAt := s.lanyard.toNat }

/-- The context that a placed task begins in. -/
def placedCtx (s : State) (q : Nat) (t : Task) (tile : Nat) (step : W64) : Ctx :=
  (((freshCtx s q t tile).setG 1 (t.desc.getD 1 0)).setG 2 (BitVec.ofNat 64 (bits (t.desc.getD 15 0) 31 0))).setG 3 step

/-- A placed task. -/
def placedTask (s : State) (t : Task) (tile c : Nat) : Task :=
  { t with ph := .running tile c, runStart := s.lanyard.toNat, paused := 0, longRaised := false }

theorem gr_placedCtx (s : State) (q : Nat) (t : Task) (tile : Nat) (step : W64) (r : Nat) :
    (placedCtx s q t tile step).gr r = if r = 1 then t.desc.getD 1 0
      else if r = 2 then BitVec.ofNat 64 (bits (t.desc.getD 15 0) 31 0) else if r = 3 then step else 0 := by
  have hfresh : (freshCtx s q t tile).gr r = 0 := by simp [Ctx.gr, freshCtx]
  simp only [placedCtx, Ctx.gr_setG, hfresh]
  grind

variable {q : Nat} {r : Task} {tile c : Nat} {g : Graph}

/-- A tile whose banks that the task claims read 0. -/
def clearedTile (s : State) (r : Task) (tile : Nat) : Tile :=
  let v := s.tile tile
  let banks := v.freeBanks.take r.accNeed
  { v with
    banks := Tab.dropIf (fun k => banks.contains (k / 4096)) v.banks
    cells := Tab.dropIf (fun k => banks.contains (k / 256)) v.cells
    deadBanks := v.deadBanks.filter (fun b => !(banks.contains b)) }

/-- The task no longer waits for a reservation, and the round robin of its glove's class has served its glove. -/
def servedKn (s : State) (q : Nat) (r : Task) : KnotEngine :=
  let kn := { s.kn with reserved := Tab.mapVal (fun _ => []) (fun _ l => l.filter (· != q)) s.kn.reserved }
  if s.gurgent r.glove then { kn with lastUrgent := r.glove } else { kn with lastBulk := r.glove }

theorem servedKn_tasks (s : State) (q : Nat) (r : Task) : (servedKn s q r).tasks = s.kn.tasks := by
  unfold servedKn
  dsimp only
  split <;> rfl

/-- The state with a task placed, before its context joins those that wait for the window. -/
def placed (s : State) (q : Nat) (r : Task) (tile c : Nat) (step : W64) : State :=
  (s.setTile tile ((clearedTile s r tile).setCtx c (placedCtx s q r tile step))).setTask q (some (placedTask s r tile c))

/-- The state as the placement leaves it. -/
def dispatched (s : State) (q : Nat) (r : Task) (tile c : Nat) (step : W64) : State :=
  State.join { placed s q r tile c step with kn := servedKn (placed s q r tile c step) q r } (ctxId tile c)

theorem place_eq (hc : (List.range 16).find? (fun c => ((s.tile tile).ctx c).task.isNone) = some c)
    (hg : s.graph r.graph = some g) : s.place q r tile = dispatched s q r tile c g.stepId := by
  unfold State.place
  dsimp only
  rw [hc]
  dsimp only
  rw [hg]
  rfl

theorem ctx_placed (htile : tile < 256) (hc : c < 16) (step : W64) (k : CtxId) : (placed s q r tile c step).ctx k =
    if k = ctxId tile c then placedCtx s q r tile step else s.ctx k := by
  have hk : k = ctxId tile c ↔ k.tile.val = tile ∧ k.ctx.val = c := by
    rw [ctxId]
    constructor
    · rintro rfl
      exact ⟨Nat.mod_eq_of_lt htile, Nat.mod_eq_of_lt hc⟩
    · rintro ⟨rfl, rfl⟩
      exact (ctxId_self k).symm
  rw [placed, State.ctx_setTask, State.ctx_setTile, Tile.ctx_setCtx]
  by_cases ht : k.tile.val = tile
  · subst ht
    by_cases hkc : k.ctx.val = c
    · rw [if_pos rfl, if_pos hkc, if_pos (hk.mpr ⟨rfl, hkc⟩)]
    · rw [if_pos rfl, if_neg hkc, if_neg fun h => hkc (hk.mp h).2]
      rfl
  · rw [if_neg ht, if_neg fun h => ht (hk.mp h).1]

theorem placedCtx_eqs (s : State) (q : Nat) (r : Task) (tile : Nat) (step : W64) :
    (placedCtx s q r tile step).task = some q ∧ (placedCtx s q r tile step).glove = r.glove
      ∧ (placedCtx s q r tile step).pc = BitVec.ofNat 57 (bits (r.desc.getD 0 0) 56 0)
      ∧ (placedCtx s q r tile step).banks = (s.tile tile).freeBanks.take r.accNeed := by
  refine ⟨?_, ?_, ?_, ?_⟩ <;> simp [placedCtx, freshCtx]

theorem task_dispatched (step : W64) : (dispatched s q r tile c step).task q = some (placedTask s r tile c) := by
  rw [State.task, dispatched, State.join_kn]
  dsimp only
  rw [servedKn_tasks]
  exact State.task_setTask_same _ _

theorem memRegsKept_dispatched (step : W64) : memRegsKept s (dispatched s q r tile c step) := by
  refine ⟨fun a => ?_, fun o => ?_⟩
  · rw [State.byte, dispatched, State.join_mem]; rfl
  · rw [State.reg, dispatched, State.join_ctl]; rfl

theorem ctx_dispatched (htile : tile < 256) (hc : c < 16) (step : W64) (k : CtxId) :
    (dispatched s q r tile c step).ctx k = if k = ctxId tile c then placedCtx s q r tile step else s.ctx k :=
  (State.ctx_join (ctxId tile c) k).trans (ctx_placed htile hc step k)

theorem find_free_lt (hc : (List.range 16).find? (fun c => ((s.tile tile).ctx c).task.isNone) = some c) : c < 16 :=
  List.mem_range.mp (List.mem_of_find?_eq_some hc)

theorem exec_taskDispatch (hp : s.fget PWR_STATE PWR_STATE_STATE ≤ 1) (hgoal : s.pwr.goal = none)
    (hpick : s.pick = some (q, r)) (hbest : s.bestTile q r = some tile) :
    exec .taskDispatch s = done s (s.place q r tile) := by
  show execTaskDispatch s = _
  simp only [execTaskDispatch, hp, hgoal, and_self, if_true, hpick, hbest]

theorem taskDispatch_places (hp : s.fget PWR_STATE PWR_STATE_STATE ≤ 1) (hgoal : s.pwr.goal = none)
    (hpick : s.pick = some (q, r)) (hbest : s.bestTile q r = some tile)
    (hc : (List.range 16).find? (fun c => ((s.tile tile).ctx c).task.isNone) = some c) (hg : s.graph r.graph = some g) :
    Goes .taskDispatch s (fun u =>
      (∃ y, u.task q = some y ∧ y.ph = .running tile c ∧ y.desc = r.desc ∧ y.glove = r.glove ∧ y.runStart = s.lanyard.toNat)
      ∧ (u.ctx (ctxId tile c)).task = some q ∧ (u.ctx (ctxId tile c)).glove = r.glove
      ∧ (u.ctx (ctxId tile c)).pc = BitVec.ofNat 57 (bits (r.desc.getD 0 0) 56 0)
      ∧ (∀ i, (u.ctx (ctxId tile c)).gr i = if i = 1 then r.desc.getD 1 0
          else if i = 2 then BitVec.ofNat 64 (bits (r.desc.getD 15 0) 31 0) else if i = 3 then g.stepId else 0)
      ∧ (u.ctx (ctxId tile c)).banks = (s.tile tile).freeBanks.take r.accNeed
      ∧ (∀ k, k ≠ ctxId tile c → u.ctx k = s.ctx k) ∧ memRegsKept s u) := by
  refine goes_of_done ((exec_taskDispatch hp hgoal hpick hbest).trans (congrArg (done s) (place_eq hc hg))) ?_
  have hctx := ctx_dispatched (s := s) (q := q) (r := r) (bestTile_spec hbest).1 (find_free_lt hc) g.stepId
  have hthis := (hctx (ctxId tile c)).trans (if_pos rfl)
  obtain ⟨htask, hglove, hpc, hbanks⟩ := placedCtx_eqs s q r tile g.stepId
  exact ⟨⟨placedTask s r tile c, task_dispatched g.stepId, rfl, rfl, rfl, rfl⟩, (congrArg Ctx.task hthis).trans htask,
    (congrArg Ctx.glove hthis).trans hglove, (congrArg Ctx.pc hthis).trans hpc,
    fun i => (congrArg (Ctx.gr · i) hthis).trans (gr_placedCtx s q r tile g.stepId i),
    (congrArg Ctx.banks hthis).trans hbanks, fun k hk => (hctx k).trans (if_neg hk), memRegsKept_dispatched g.stepId⟩

theorem taskDispatch_nothing (h : 2 ≤ s.fget PWR_STATE PWR_STATE_STATE ∨ s.pwr.goal ≠ none) :
    Goes .taskDispatch s (fun u => (∀ q, u.task q = s.task q) ∧ (∀ k, u.ctx k = s.ctx k) ∧ memRegsKept s u) := by
  have hno : ¬ (s.fget PWR_STATE PWR_STATE_STATE ≤ 1 ∧ s.pwr.goal = none) := fun ⟨hp, hgoal⟩ =>
    h.elim (fun h => absurd hp (Nat.not_le.mpr h)) fun h => h hgoal
  exact goes_of_done (if_neg hno) ⟨fun _ => rfl, fun _ => rfl, fun _ => rfl, fun _ => rfl⟩

end Sys2Proof.Claims

open Sys2Proof.Claims

/-- Settles O21: the placement, what shuts it out, and what the folds of `bestTile` and `pick` choose. -/
theorem taskPlacement : Obligations.TaskPlacement := by
  unfold Obligations.TaskPlacement
  exact ⟨fun s q r tile c g hp hgoal hpick hbest hc hg => taskDispatch_places hp hgoal hpick hbest hc hg,
    fun s h => taskDispatch_nothing h, fun s q r tile h => bestTile_spec h, fun s q r h => pick_spec h⟩
end

section
/-! O22: HALT retires a task, and its graph after the last (R33). -/

namespace Sys2Proof.Claims

open Machine Reg

variable {s t u : State} {k : CtxId} {q : Nat} {r : Task} {g : Graph}

/-! ### The context is freed -/

/-- The digests of a context may have changed, and nothing else but the issue window. -/
def digested (s u : State) (k : CtxId) : Prop :=
  s.outsideKept u ∧ s.othersKept u k ∧ (u.ctx k).wait = (s.ctx k).wait

theorem digested.trans (h : digested s t k) (g : digested t u k) : digested s u k :=
  ⟨h.1.trans g.1, h.2.1.trans g.2.1, g.2.2.trans h.2.2⟩

theorem digested_dig (n : Nat) (bs : List Byte) : digested s (s.dig k n bs) k := by
  refine ⟨outsideKept_dig n bs, othersKept_dig n bs, ?_⟩
  obtain ⟨x, ⟨h, -, hwait, -⟩ | h⟩ := dig_cases (s := s) k n bs
  · rw [h, State.ctx_setCtx_same, hwait]
  · rw [h]

theorem digested_count : digested s (s.count k) k :=
  ⟨State.onlyRegs_count.1, State.othersKept_count, State.count_ctx_wait k⟩

theorem digested_foldl (l : List Nat) : ∀ {s}, digested s (l.foldl (fun s i => s.dig k 2 (knotRec i [1])) s) k := by
  induction l with
  | nil => exact ⟨State.outsideKept_of rfl, ⟨fun _ _ => rfl, fun _ => rfl⟩, rfl⟩
  | cons i l ih => exact (digested_dig 2 _).trans ih

theorem digested_digOuts (r : Task) : digested s (s.digOuts k r) k := digested_foldl r.outs

/-- Context k is empty; the others, knots, tasks, graphs, memory and registers are as before. -/
structure Freed (s u : State) (k : CtxId) : Prop where
  empty : u.ctx k = {}
  others : ∀ k', k' ≠ k → u.ctx k' = s.ctx k'
  knots : ∀ i, u.knot i = s.knot i
  tasks : ∀ q, u.task q = s.task q
  graphs : ∀ n, u.graph n = s.graph n
  memRegs : memRegsKept s u

/-- What a context waits for is told that it no longer does (R33). -/
def unwaited (s : State) (k : CtxId) : State :=
  match (s.ctx k).wait with
  | .kwait j _ _ => s.dropWaiter j (.ctx k.tile k.ctx)
  | _ => s

theorem unwaited_eq (h : (s.ctx k).wait = .none) : unwaited s k = s := by rw [unwaited, h]

theorem onlyKn_unwaited (s : State) (k : CtxId) : onlyKn s (unwaited s k) := by
  unfold unwaited
  split
  · exact onlyKn_dropWaiter _ _
  · exact onlyKn.refl s

theorem task_unwaited (s : State) (k : CtxId) (q : Nat) : (unwaited s k).task q = s.task q := by
  unfold unwaited
  split <;> rfl

/-- A tile with one context emptied, and its sieve records gone. -/
def emptiedTile (v : Tile) (c : Nat) : Tile :=
  { (v.dropCtx c).setCtx c {} with sieve := (v.dropCtx c).sieve.filter (fun r => r.ctx != c) }

theorem ctx_emptiedTile (v : Tile) (c j : Nat) : (emptiedTile v c).ctx j = if j = c then {} else v.ctx j :=
  Tile.ctx_setCtx (v.dropCtx c) c j {}

theorem clearCtx_eq (s : State) (k : CtxId) : s.clearCtx k =
    ((unwaited (s.detach k) k).setTile k.tile (emptiedTile (s.tile k.tile) k.ctx)).fillWindow k.tile := by
  have htile : s.tile k.tile = (unwaited (s.detach k) k).tile k.tile := by
    rw [State.tile, State.tile, (onlyKn_unwaited _ k).tiles]
    rfl
  rw [htile]
  rfl

theorem ctxId_eq_iff {k k' : CtxId} : k' = k ↔ k'.tile.val = k.tile.val ∧ k'.ctx.val = k.ctx.val := by
  obtain ⟨a, b⟩ := k
  obtain ⟨a', b'⟩ := k'
  simp [Fin.ext_iff]

theorem ctx_clearCtx (s : State) (k k' : CtxId) : (s.clearCtx k).ctx k' = if k' = k then {} else s.ctx k' := by
  rw [clearCtx_eq, State.ctx_fillWindow, State.ctx_setTile]
  by_cases ht : k'.tile.val = k.tile.val
  · rw [if_pos ht, ctx_emptiedTile]
    by_cases hc : k'.ctx.val = k.ctx.val
    · rw [if_pos hc, if_pos (ctxId_eq_iff.mpr ⟨ht, hc⟩)]
    · rw [if_neg hc, if_neg fun h => hc (ctxId_eq_iff.mp h).2, State.ctx, ht]
  · rw [if_neg ht, if_neg fun h => ht (ctxId_eq_iff.mp h).1, (onlyKn_unwaited _ k).ctx]
    rfl

theorem task_clearCtx (s : State) (k : CtxId) (q : Nat) : (s.clearCtx k).task q = s.task q := by
  rw [clearCtx_eq, State.task, State.fillWindow_kn]
  exact task_unwaited (s.detach k) k q

theorem clearCtx_mem (s : State) (k : CtxId) : (s.clearCtx k).mem = s.mem := by
  rw [clearCtx_eq, State.fillWindow_mem]
  exact (onlyKn_unwaited (s.detach k) k).mem

theorem clearCtx_ctl (s : State) (k : CtxId) : (s.clearCtx k).ctl = s.ctl := by
  rw [clearCtx_eq, State.fillWindow_ctl]
  exact (onlyKn_unwaited (s.detach k) k).ctl

theorem clearCtx_kn (hw : (s.ctx k).wait = .none) : (s.clearCtx k).kn = s.kn := by
  have hwait : ((s.detach k).ctx k).wait = .none := hw
  rw [clearCtx_eq, State.fillWindow_kn, unwaited_eq hwait]
  rfl

theorem memRegsKept_clearCtx (s : State) (k : CtxId) : memRegsKept s (s.clearCtx k) :=
  ⟨fun a => by rw [State.byte, clearCtx_mem]; rfl, fun o => by rw [State.reg, clearCtx_ctl]; rfl⟩

/-- A reservation is all that freeing a context can leave in the knot engine. -/
theorem reserve_eq (n : Nat) : ∃ e, s.reserve n = { s with kn := { s.kn with reserved := e } } := by
  unfold State.reserve
  dsimp only
  split
  · exact ⟨_, rfl⟩
  · exact ⟨s.kn.reserved, rfl⟩

theorem onlyKn_reserve (s : State) (n : Nat) : onlyKn s (s.reserve n) := by
  obtain ⟨e, he⟩ := reserve_eq (s := s) n
  rw [he]
  rfl

/-- What HALT frees before the task retires. -/
def freed (s : State) (k : CtxId) (r : Task) : State := ((s.keepRanges k.tile r).clearCtx k).reserve k.tile

theorem freed_kn (r : Task) (hw : (s.ctx k).wait = .none) :
    ∃ kept e, (freed s k r).kn = { s.kn with kept := kept, reserved := e } := by
  have hw' : ((s.keepRanges k.tile r).ctx k).wait = .none := hw
  obtain ⟨e, he⟩ := reserve_eq (s := (s.keepRanges k.tile r).clearCtx k) k.tile
  rw [freed, he, clearCtx_kn hw']
  exact ⟨_, e, rfl⟩

theorem ctx_freed (s : State) (k : CtxId) (r : Task) (k' : CtxId) :
    (freed s k r).ctx k' = if k' = k then {} else s.ctx k' :=
  ((onlyKn_reserve _ _).ctx k').trans (ctx_clearCtx (s.keepRanges k.tile r) k k')

theorem memRegsKept_freed (s : State) (k : CtxId) (r : Task) : memRegsKept s (freed s k r) := by
  have hclear := memRegsKept_clearCtx (s.keepRanges k.tile r) k
  exact memRegsKept.trans ⟨fun _ => rfl, fun _ => rfl⟩ (hclear.trans (onlyKn_reserve _ _).memRegsKept)

theorem freed_halted (r : Task) (hw : (s.ctx k).wait = .none) (hd : digested s t k) : Freed s (freed t k r) k := by
  obtain ⟨hout, hothers, hwait⟩ := hd
  obtain ⟨kept, e, hkn⟩ := freed_kn r (hwait.trans hw)
  constructor
  case empty => exact (ctx_freed t k r k).trans (if_pos rfl)
  case others => exact fun k' hk => ((ctx_freed t k r k').trans (if_neg hk)).trans (hothers.1 k' hk)
  case knots => exact fun i => (by rw [State.knot, hkn]; rfl : (freed t k r).knot i = t.knot i).trans (hout.knot i)
  case tasks => exact fun q => (by rw [State.task, hkn]; rfl : (freed t k r).task q = t.task q).trans (hout.task q)
  case graphs => exact fun n => by rw [State.graph, hkn, hout.kn]; rfl
  case memRegs => exact hout.memRegsKept.trans (memRegsKept_freed t k r)

/-- An emptied context takes no checkpoint and stays in no window. -/
theorem issued_empty (h : u.ctx k = {}) : u.issued k = u := by
  have hcheck : u.checkpoint k = u := by simp [State.checkpoint, h]
  simp [State.issued, hcheck, h, Ctx.held]

/-! ### The outputs gain (R33) -/

theorem calm.mono {i m n : Nat} (h : calm s i n) (hm : m ≤ n) : calm s i m :=
  ⟨lt_of_le_of_lt (Nat.add_le_add_left hm _) h.1, h.2⟩

/-- The knots of a list have gained 1 for each of their places there, nobody is released, and nothing but knots changed. -/
structure Gained (s u : State) (l : List Nat) : Prop where
  only : u = { s with kn := { s.kn with knots := u.kn.knots } }
  count : ∀ i, (u.knot i).count = (s.knot i).count + l.count i
  waiters : ∀ i, (u.knot i).waiters = (s.knot i).waiters

theorem Gained.trans {l m : List Nat} (h : Gained s t l) (g : Gained t u m) : Gained s u (l ++ m) where
  only := by rw [g.only, h.only]
  count i := by rw [g.count, h.count, List.count_append, Nat.add_assoc]
  waiters i := (g.waiters i).trans (h.waiters i)

theorem Gained.onlyKn {l : List Nat} (h : Gained s u l) : onlyKn s u := by rw [Machine.onlyKn, h.only]

theorem gained_retireAdd {i : Nat} (h : calm s i 1) (n : Nat) (taint : Bool) (marks : List Nat) (c : Bool) (b : Nat) :
    Gained s (s.retireAdd n i taint marks c b) [i] := by
  obtain ⟨hroom, hw⟩ := h
  have he := State.knotAdd_eq (s := s) (i := i) (n := 1) (taint := taint) (marks := marks) (c := c) Nat.one_pos rfl (.inr hw)
  rw [State.retireAdd, knotFull_false hroom, if_neg Bool.false_ne_true, he]
  constructor
  case only => rfl
  case count =>
    intro j
    rw [State.knot_setKnot]
    by_cases hj : j = i
    · subst hj; rw [if_pos rfl, List.count_singleton_self]; exact Nat.mod_eq_of_lt hroom
    · rw [if_neg hj, List.count_singleton, if_neg (by simpa using Ne.symm hj), Nat.add_zero]
  case waiters =>
    intro j
    rw [State.knot_setKnot]
    split
    · next hj => rw [hj]
    · rfl

theorem gained_outs (n : Nat) (taint : Bool) (marks : List Nat) (c : Bool) : ∀ (l : List Nat) {s : State},
    (∀ i ∈ l, calm s i l.length) → Gained s (l.foldl (fun s i => s.retireAdd n i taint marks c) s) l
  | [], _, _ => ⟨rfl, fun _ => rfl, fun _ => rfl⟩
  | i :: l, s, h => by
    have h1 := gained_retireAdd ((h i List.mem_cons_self).mono (Nat.le_add_left 1 _)) n taint marks c 3
    refine h1.trans (gained_outs n taint marks c l fun j hj => ?_)
    obtain ⟨hroom, hw⟩ := h j (List.mem_cons_of_mem _ hj)
    refine ⟨?_, (h1.waiters j).trans hw⟩
    have hone : List.count j [i] ≤ 1 := List.count_le_length
    rw [h1.count, List.length_cons] at *
    omega

/-! ### The task retires, and its graph steps -/

theorem Gained.graph {l : List Nat} (h : Gained s u l) (n : Nat) : u.graph n = s.graph n := by rw [h.only]; rfl
theorem Gained.task {l : List Nat} (h : Gained s u l) (q : Nat) : u.task q = s.task q := by rw [h.only]; rfl

/-- The task's increments are made and its slot is free; its graph has still to step. -/
def slotFreed (s : State) (q : Nat) (r : Task) : State :=
  (r.outs.foldl (fun s i => s.retireAdd r.glove i r.taint r.marks r.compare) s).freeSlot q r.glove

theorem retireTask_eq (hq : s.task q = some r) :
    s.retireTask q = (slotFreed s q r).graphStep r.graph r.taint r.marks := by
  rw [State.retireTask, hq]
  rfl

theorem onlyKn_freeSlot (s : State) (q n : Nat) : onlyKn s (s.freeSlot q n) := rfl

/-- Slot q is free; the outputs have gained; graphs, and all but the knot engine, are as before. -/
structure SlotFreed (s u : State) (q : Nat) (l : List Nat) : Prop where
  only : onlyKn s u
  count : ∀ i, (u.knot i).count = (s.knot i).count + l.count i
  waiters : ∀ i, (u.knot i).waiters = (s.knot i).waiters
  graph : ∀ n, u.graph n = s.graph n
  free : u.task q = none

theorem slotFreed_calm (hcalm : ∀ i ∈ r.outs, calm s i r.outs.length) : SlotFreed s (slotFreed s q r) q r.outs where
  only := (gained_outs r.glove r.taint r.marks r.compare r.outs hcalm).onlyKn.trans (onlyKn_freeSlot _ q r.glove)
  count := (gained_outs r.glove r.taint r.marks r.compare r.outs hcalm).count
  waiters := (gained_outs r.glove r.taint r.marks r.compare r.outs hcalm).waiters
  graph := (gained_outs r.glove r.taint r.marks r.compare r.outs hcalm).graph
  free := State.task_setTask_same q none

/-- A graph that has lost one more of its tasks. -/
def stepped (g : Graph) (taint : Bool) (marks : List Nat) : Graph :=
  { g with remaining := g.remaining - 1, taint := g.taint || taint, marks := joinMarks g.marks marks }

theorem graph_setGraph (n m : Nat) (v : Option Graph) : (s.setGraph n v).graph m = if m = n then v else s.graph m :=
  Tab.look_store ..

theorem graphStep_more {n : Nat} (hg : s.graph n = some g) (hmore : 1 < g.remaining) (taint : Bool) (marks : List Nat) :
    s.graphStep n taint marks = s.setGraph n (some (stepped g taint marks)) := by
  have hleft : g.remaining - 1 ≠ 0 := by omega
  simp only [State.graphStep, hg, if_neg hleft]
  rfl

theorem graphStep_last {n : Nat} (hg : s.graph n = some g) (hlast : g.remaining = 1) (hend : g.stepEnd = false)
    (taint : Bool) (marks : List Nat) : s.graphStep n taint marks =
      (s.setGraph n none).retireAdd g.glove g.doneKnot (g.taint || taint) (joinMarks g.marks marks) false := by
  have hleft : g.remaining - 1 = 0 := by omega
  simp only [State.graphStep, hg, hleft, hend, Bool.false_eq_true, false_and, if_true, if_false]

/-! ### HALT -/

theorem bare_halt {w : FmtA} (hb : bareWord w) (hi : w.imm = 0) :
    (w.rd == 0 && w.ra == 0 && w.rb == 0 && !w.i && w.fn == 0 && w.imm == 0) = true := by
  obtain ⟨hd, ha, hb, hi', hf⟩ := hb
  simp [hd, ha, hb, hi', hf, hi]

/-- A task outside twin mode retires as soon as its context is freed. -/
theorem haltTask_eq (htwin : s.twin r.glove = false) :
    s.haltTask k q r = (freed (s.digOuts k r) k r).retireTask q := by
  have htwin' : (s.digOuts k r).twin r.glove = false := by
    rw [State.twin, (digested_digOuts r).1.fget]
    exact htwin
  simp only [State.haltTask, htwin', Bool.false_and, Bool.false_eq_true, if_false]
  rfl

/-- The state in which a halted task, its context freed, retires. -/
def haltFreed (s : State) (k : CtxId) (r : Task) : State := freed ((s.count k).digOuts k r) k r

section
variable {w : FmtA} (h : halting s k w q r)
include h

theorem freed_haltFreed : Freed s (haltFreed s k r) k := by
  obtain ⟨⟨hcan, -, -⟩, -⟩ := h
  have hw : (s.ctx k).wait = .none := by
    simp only [State.canIssue, Bool.and_eq_true, beq_iff_eq] at hcan
    exact hcan.1.1.2
  exact freed_halted r hw (digested_count.trans (digested_digOuts r))

theorem exec_halt : exec (.halt k w) s = done s (((haltFreed s k r).retireTask q).issued k) := by
  obtain ⟨⟨hcan, hlock, hguard⟩, hbare, himm, hquiet, hmoves, htask, hq, htwin⟩ := h
  have hgo : ¬ ((s.ctx k).guard w.pg w.pn = true ∧ (s.quiet k = false ∨ (s.ctx k).moves.isEmpty = false)) := by
    rw [hquiet, hmoves]
    exact fun hno => hno.2.elim (fun h => nomatch h) fun h => nomatch h
  show execHalt k w s = _
  rw [execHalt, if_neg hgo, State.issueA_go hcan hlock (bare_halt hbare himm) hguard]
  simp only [State.count_ctx_task, htask, State.task_count, hq]
  rw [haltTask_eq (show (s.count k).twin r.glove = false from htwin)]
  rfl

theorem task_halting : s.task q = some r := by
  obtain ⟨-, -, -, -, -, -, hq, -⟩ := h
  exact hq

/-- What the slot's freeing has done, of the state before HALT. -/
theorem slotFreed_haltFreed (hcalm : ∀ i ∈ r.outs, calm s i r.outs.length) :
    SlotFreed (haltFreed s k r) (slotFreed (haltFreed s k r) q r) q r.outs :=
  slotFreed_calm fun i hi => by
    obtain ⟨hroom, hw⟩ := hcalm i hi
    rw [calm, (freed_haltFreed h).knots]
    exact ⟨hroom, hw⟩

theorem halt_more (hg : s.graph r.graph = some g) (hmore : 1 < g.remaining)
    (hcalm : ∀ i ∈ r.outs, calm s i r.outs.length) :
    Goes (.halt k w) s (fun u => u.task q = none ∧ u.ctx k = {} ∧ (∀ k', k' ≠ k → u.ctx k' = s.ctx k')
      ∧ (∀ i, (u.knot i).count = (s.knot i).count + r.outs.count i)
      ∧ (∃ h, u.graph r.graph = some h ∧ h.remaining = g.remaining - 1) ∧ memRegsKept s u) := by
  have hf := freed_haltFreed h
  have hs := slotFreed_haltFreed h hcalm
  have hq : (haltFreed s k r).task q = some r := (hf.tasks q).trans (task_halting h)
  have hg' := (hs.graph r.graph).trans ((hf.graphs r.graph).trans hg)
  have he : (haltFreed s k r).retireTask q =
      (slotFreed (haltFreed s k r) q r).setGraph r.graph (some (stepped g r.taint r.marks)) :=
    (retireTask_eq hq).trans (graphStep_more hg' hmore _ _)
  have honly := hs.only.trans (onlyKn_setGraph r.graph (some (stepped g r.taint r.marks)))
  have hempty := (honly.ctx k).trans hf.empty
  refine goes_of_done (u := (slotFreed (haltFreed s k r) q r).setGraph r.graph (some (stepped g r.taint r.marks)))
    ((exec_halt h).trans (congrArg (done s) ?_)) ⟨hs.free, hempty, fun k' hk => (honly.ctx k').trans (hf.others k' hk),
      fun i => (hs.count i).trans (by rw [hf.knots]), ⟨_, (graph_setGraph _ _ _).trans (if_pos rfl), rfl⟩,
      hf.memRegs.trans honly.memRegsKept⟩
  rw [he]
  exact issued_empty hempty

theorem halt_last (hg : s.graph r.graph = some g) (hlast : g.remaining = 1) (hend : g.stepEnd = false)
    (hcalm : ∀ i ∈ g.doneKnot :: r.outs, calm s i (r.outs.length + 1)) :
    Goes (.halt k w) s (fun u => u.task q = none ∧ u.ctx k = {} ∧ u.graph r.graph = none
      ∧ (∀ i, (u.knot i).count = (s.knot i).count + (g.doneKnot :: r.outs).count i) ∧ memRegsKept s u) := by
  have hf := freed_haltFreed h
  have hs := slotFreed_haltFreed h fun i hi => (hcalm i (List.mem_cons_of_mem _ hi)).mono (Nat.le_succ _)
  have hq : (haltFreed s k r).task q = some r := (hf.tasks q).trans (task_halting h)
  have hg' := (hs.graph r.graph).trans ((hf.graphs r.graph).trans hg)
  have hdone : calm ((slotFreed (haltFreed s k r) q r).setGraph r.graph none) g.doneKnot 1 := by
    obtain ⟨hroom, hw⟩ := hcalm g.doneKnot List.mem_cons_self
    have hcount := (hs.count g.doneKnot).trans (by rw [hf.knots])
    have hle : r.outs.count g.doneKnot ≤ r.outs.length := List.count_le_length
    refine ⟨?_, (hs.waiters _).trans ((congrArg Knot.waiters (hf.knots _)).trans hw)⟩
    show ((slotFreed (haltFreed s k r) q r).knot g.doneKnot).count + 1 < 2 ^ 48
    omega
  have hgain := gained_retireAdd hdone g.glove (g.taint || r.taint) (joinMarks g.marks r.marks) false 3
  have he := (retireTask_eq hq).trans (graphStep_last hg' hlast hend _ _)
  have honly := (hs.only.trans (onlyKn_setGraph r.graph none)).trans hgain.onlyKn
  have hempty := (honly.ctx k).trans hf.empty
  refine goes_of_done ((exec_halt h).trans (congrArg (done s) ((congrArg (State.issued · k) he).trans (issued_empty hempty))))
    ⟨(hgain.task q).trans hs.free, hempty, (hgain.graph _).trans ((graph_setGraph _ _ _).trans (if_pos rfl)), fun i => ?_,
      hf.memRegs.trans honly.memRegsKept⟩
  have hcount : ((slotFreed (haltFreed s k r) q r).knot i).count = (s.knot i).count + r.outs.count i :=
    (hs.count i).trans (by rw [hf.knots])
  refine (hgain.count i).trans ?_
  show ((slotFreed (haltFreed s k r) q r).knot i).count + _ = _
  rw [hcount, List.count_singleton, List.count_cons, Nat.add_assoc]

end

theorem halt_waits {w : FmtA} (hr : ReadyA s k w) (hwait : s.quiet k = false ∨ (s.ctx k).moves ≠ []) :
    Goes (.halt k w) s (fun u => (∀ k', u.ctx k' = s.ctx k') ∧ (∀ q, u.task q = s.task q) ∧ memRegsKept s u) := by
  obtain ⟨-, -, hguard⟩ := hr
  have hstay : (s.ctx k).guard w.pg w.pn = true ∧ (s.quiet k = false ∨ (s.ctx k).moves.isEmpty = false) :=
    ⟨hguard, hwait.imp id fun h => List.isEmpty_eq_false_iff.mpr h⟩
  exact goes_of_done (congrArg (done s) (if_pos hstay)) ⟨fun _ => rfl, fun _ => rfl, fun _ => rfl, fun _ => rfl⟩

end Sys2Proof.Claims

open Sys2Proof.Claims

/-- Settles O22: with tasks of the graph left, after the last, and while work of the context is left. -/
theorem taskRetirement : Obligations.TaskRetirement := by
  unfold Obligations.TaskRetirement
  exact ⟨fun k w s q r g h hg hmore hcalm => halt_more h hg hmore hcalm,
    fun k w s q r g h hg hlast hend hcalm => halt_last h hg hlast hend hcalm,
    fun k w s hr _ _ hwait => halt_waits hr hwait⟩
end

section
/-! O20: ADMIT_GRAPH admits, holds or rejects the next graph (R24 to R27). -/

namespace Sys2Proof.Claims

open Machine Reg

variable {s t u : State} {n : Nat} {g : GraphList}

/-! ### The next graph -/

/-- What becomes of a graph list in hand (R25 to R27). -/
def considered (s : State) (n : Nat) (g : GraphList) : State :=
  if s.graphCheck n g ≠ ST_OK then s.rejectGraph n g (s.graphCheck n g)
  else if s.graphHeld n g then
    match Tab.look (fun _ => none) s.kn.holds n with
    | some _ => s
    | none => { s with kn := { s.kn with
        holds := Tab.store (fun _ => none) s.kn.holds n (some ⟨s.lanyard.toNat, g.inits.map initKnot⟩) } }
  else s.admitNow n g

theorem admitGraph_eq (h : graphNext s n g) : s.admitGraph n = considered s n g := by
  obtain ⟨addr, head, tasks, inits⟩ := g
  obtain ⟨hact, hahead, hring, hne, halign, hlt, hhead, hmapped, ws, hws, htasks, hinits⟩ := h
  dsimp only [GraphList.ntask, GraphList.nkinit] at hring hne halign hlt hhead hmapped hws htasks hinits
  subst htasks hinits
  have haddr : (BitVec.ofNat 64 addr).toNat = addr := by
    rw [BitVec.toNat_ofNat, Nat.mod_eq_of_lt (hlt.trans (by decide))]
  have hok : ¬ (addr = 0 ∨ addr % 64 ≠ 0) := fun h => h.elim hne (· halign)
  unfold State.admitGraph
  simp only [hact, hahead, and_self, if_true, hring, List.getD_cons_zero, haddr, if_neg hok, hhead, hmapped,
    Bool.not_true, Bool.false_eq_true, if_false, hws]
  rfl

theorem admitGraph_nothing (h : s.gstate n ≠ gACTIVE ∨
    (s.knot (s.fget (KNOT_GLOVE_ADM1 n) KNOT_GLOVE_ADM1_ADM_KNOT)).count ≤ s.taken n) : s.admitGraph n = s := by
  refine if_neg ?_
  rintro ⟨hact, hahead⟩
  exact h.elim (· hact) fun h => Nat.not_le.mpr hahead h

/-! ### TAKEN and STATUS -/

theorem taken_takenUp (s : State) (n : Nat) : (s.takenUp n).taken n = (s.taken n + 1) % 2 ^ 48 :=
  State.fget_fset _ _ _ (by decide) (by decide)

theorem holds_takenUp (s : State) (n : Nat) : Tab.look (fun _ => none) (s.takenUp n).kn.holds n = none :=
  Tab.look_store_same (fun _ => (none : Option Hold)) s.kn.holds n none

theorem reg_takenUp {o : Nat} (h : o ≠ KNOT_GLOVE_ADM1 n) : (s.takenUp n).reg o = s.reg o := State.reg_fset_ne h _ _

theorem reg_congr (h : u.ctl = s.ctl) (o : Nat) : u.reg o = s.reg o := by rw [State.reg, h]; rfl

theorem taken_congr (h : u.ctl = s.ctl) (n : Nat) : u.taken n = s.taken n := by
  rw [State.taken, State.fget, reg_congr h]
  rfl

/-- What neither a byte of memory nor a line's poison changes, a glove's write of memory does not. -/
theorem setVbytesGo_keeps {α : Type} (f : State → α) (hbyte : ∀ u a b, f (State.setByte u a b) = f u)
    (hpoison : ∀ u a k, f (State.clearPoison u a k) = f u) (n : Nat) : ∀ (bs : List Byte) (s : State) (va : Nat),
    f (s.setVbytesGo n va bs) = f s
  | [], _, _ => rfl
  | b :: bs, s, va => by
    rw [State.setVbytesGo]
    refine (setVbytesGo_keeps f hbyte hpoison n bs _ (va + 1)).trans ?_
    split
    · exact (hpoison _ _ _).trans (hbyte _ _ _)
    · rfl

theorem graphStatus_kn (n a st : Nat) : (s.graphStatus n a st).kn = s.kn :=
  setVbytesGo_keeps State.kn (fun _ _ _ => rfl) (fun _ _ _ => at_ite State.kn rfl rfl) n _ s _

theorem graphStatus_ctl (n a st : Nat) : (s.graphStatus n a st).ctl = s.ctl :=
  setVbytesGo_keeps State.ctl (fun _ _ _ => rfl) (fun _ _ _ => at_ite State.ctl rfl rfl) n _ s _

/-- The end of an admission: STATUS written, and TAKEN advanced. -/
theorem taken_graphStatus_takenUp (n a st : Nat) : ((s.graphStatus n a st).takenUp n).taken n = (s.taken n + 1) % 2 ^ 48 := by
  rw [taken_takenUp, taken_congr (graphStatus_ctl n a st)]

/-! ### Admission (R25) -/

/-- Only knots have changed, and none of their waiters. -/
structure KnotsSet (s u : State) : Prop where
  only : u = { s with kn := { s.kn with knots := u.kn.knots } }
  waiters : ∀ i, (u.knot i).waiters = (s.knot i).waiters

theorem knotsSet_knotSet {i : Nat} (h : (s.knot i).waiters = []) (c d : Nat) : KnotsSet s (s.knotSet i c d) := by
  rw [State.knotSet_eq rfl (.inr h)]
  refine ⟨rfl, fun j => ?_⟩
  rw [State.knot_setKnot]
  split
  · next hj => rw [hj]
  · rfl

/-- The initialisations of a graph that nobody's wait holds release nobody. -/
theorem knotsSet_inits : ∀ (l : List (List W64)) {s : State}, (∀ d ∈ l, (s.knot (initKnot d)).waiters = []) →
    KnotsSet s (l.foldl (fun s d => s.knotSet (initKnot d) (bits (d.getD 0 0) 47 0) (bits (d.getD 1 0) 47 0)) s)
  | [], _, _ => ⟨rfl, fun _ => rfl⟩
  | d :: l, s, h => by
    have h1 := knotsSet_knotSet (h d List.mem_cons_self) (bits (d.getD 0 0) 47 0) (bits (d.getD 1 0) 47 0)
    have h2 := knotsSet_inits l fun e he => (h1.waiters _).trans (h e (List.mem_cons_of_mem _ he))
    exact ⟨by rw [List.foldl_cons, h2.only, h1.only], fun i => (h2.waiters i).trans (h1.waiters i)⟩

/-- What tasks, the lists of waiters and the order of readiness are no part of, a registration keeps. -/
theorem register_keeps {α : Type} (f : State → α) (htask : ∀ u q v, f (State.setTask u q v) = f u)
    (hknot : ∀ u i v, f (State.setKnot u i v) = f u)
    (horder : ∀ u m, f { u with kn := { u.kn with order := m } } = f u) (n gid q ix : Nat) (d : List W64) :
    f (s.register n gid q ix d) = f s := by
  have hready : ∀ u, f (State.readyTask u q) = f u := fun u => by
    unfold State.readyTask
    split
    · split
      · exact (horder _ _).trans (htask _ _ _)
      · rfl
    · rfl
  exact (hready _).trans ((foldl_keeps f (fun u i => hknot u i _) _ _).trans (htask s q _))

/-- The tasks of a graph registered. -/
def registered (s : State) (n gid : Nat) (l : List ((Nat × List W64) × Nat)) : State :=
  l.foldl (fun s e => s.register n gid e.1.1 e.2 e.1.2) s

theorem registered_graphs (n gid : Nat) (l : List ((Nat × List W64) × Nat)) (s : State) :
    (registered s n gid l).kn.graphs = s.kn.graphs :=
  foldl_keeps (fun u => u.kn.graphs) (fun _ _ => register_keeps (fun u => u.kn.graphs) (fun _ _ _ => rfl)
    (fun _ _ _ => rfl) (fun _ _ => rfl) ..) l s

theorem registered_ctl (n gid : Nat) (l : List ((Nat × List W64) × Nat)) (s : State) :
    (registered s n gid l).ctl = s.ctl :=
  foldl_keeps State.ctl (fun _ _ => register_keeps State.ctl (fun _ _ _ => rfl) (fun _ _ _ => rfl) (fun _ _ => rfl) ..) l s

/-- The knots of a graph that nobody's wait holds. -/
theorem waiters_of_not_held (h : s.graphHeld n g = false) : ∀ d ∈ g.inits, (s.knot (initKnot d)).waiters = [] := by
  intro d hd
  have hany := (Bool.or_eq_false_iff.mp h).2
  have hd' := List.any_eq_false.mp hany d hd
  simpa using hd'

/-- The knots of a graph set as its records say. -/
def inited (s : State) (g : GraphList) : State :=
  g.inits.foldl (fun s d => s.knotSet (initKnot d) (bits (d.getD 0 0) 47 0) (bits (d.getD 1 0) 47 0)) s

/-- A graph named by the next order, before its tasks are registered. -/
def named (s : State) (n : Nat) (g : GraphList) : State :=
  { s with kn := { s.kn with order := s.kn.order + 1 } }.setGraph s.kn.order (some (graphMade s n g))

theorem graph_named (s : State) (n : Nat) (g : GraphList) : (named s n g).graph s.kn.order = some (graphMade s n g) := by
  rw [named, graph_setGraph, if_pos rfl]

theorem admitNow_eq (s : State) (n : Nat) (g : GraphList) : s.admitNow n g =
    ((registered (named (inited s g) n g) n (inited s g).kn.order
      (((named (inited s g) n g).freeSlots g.ntask).zip g.tasks).zipIdx).graphStatus n g.addr ST_OK).takenUp n := rfl

theorem admitNow_spec (h : s.graphHeld n g = false) : (s.admitNow n g).taken n = (s.taken n + 1) % 2 ^ 48
    ∧ (s.admitNow n g).graph s.kn.order = some (graphMade s n g)
    ∧ Tab.look (fun _ => none) (s.admitNow n g).kn.holds n = none := by
  have hset : KnotsSet s (inited s g) := knotsSet_inits g.inits (waiters_of_not_held h)
  have horder : (inited s g).kn.order = s.kn.order := by rw [hset.only]
  have hctl : (inited s g).ctl = s.ctl := by rw [hset.only]
  have hmade : graphMade (inited s g) n g = graphMade s n g := by
    rw [graphMade, graphMade, horder, taken_congr hctl]
  rw [admitNow_eq, horder]
  refine ⟨?_, ?_, holds_takenUp _ n⟩
  · rw [taken_graphStatus_takenUp, taken_congr (registered_ctl n s.kn.order _ _)]
    exact congrArg (fun m => (m + 1) % 2 ^ 48) (taken_congr hctl n)
  · have hgraphs : ∀ u : State, ((u.graphStatus n g.addr ST_OK).takenUp n).kn.graphs = u.kn.graphs := fun u =>
      (congrArg KnotEngine.graphs (graphStatus_kn n g.addr ST_OK) : (u.graphStatus n g.addr ST_OK).kn.graphs = u.kn.graphs)
    rw [State.graph, hgraphs, registered_graphs]
    have hnamed := graph_named (inited s g) n g
    rwa [horder, hmade] at hnamed

/-! ### Rejection (R25) -/

/-- A graph rejected, before its DONE_KNOT gains. -/
def rejected (s : State) (n : Nat) (g : GraphList) (st : Nat) : State :=
  ((s.graphStatus n g.addr st).takenUp n).event 0x0603 0 n g.addr (s.ringIx n + st * 2 ^ 32)

theorem rejected_reg {o : Nat} (h1 : o ≠ SVC_EVLOG) (h2 : o ≠ SVC_EVLOG_LOST) (h3 : o ≠ SEC_JNL_HEAD) (st : Nat) :
    (rejected s n g st).reg o = ((s.graphStatus n g.addr st).takenUp n).reg o := State.reg_event h1 h2 h3 ..

theorem taken_rejected (st : Nat) : (rejected s n g st).taken n = (s.taken n + 1) % 2 ^ 48 := by
  rw [State.taken, State.fget, rejected_reg, ← State.fget, ← State.taken, taken_graphStatus_takenUp]
  all_goals simp only [KNOT_GLOVE_ADM1, SVC_EVLOG, SVC_EVLOG_LOST, SEC_JNL_HEAD]; omega

theorem ownsKnot_rejected (st i : Nat) : (rejected s n g st).ownsKnot n i = s.ownsKnot n i := by
  have hcfg : (rejected s n g st).reg (KNOT_GLOVE_CFG1 n) = s.reg (KNOT_GLOVE_CFG1 n) := by
    rw [rejected_reg, reg_takenUp, reg_congr (graphStatus_ctl n g.addr st)]
    all_goals simp only [KNOT_GLOVE_ADM1, KNOT_GLOVE_CFG1, SVC_EVLOG, SVC_EVLOG_LOST, SEC_JNL_HEAD]; omega
  have hbase : (rejected s n g st).kbase n = s.kbase n := by rw [State.kbase, State.fget, hcfg]; rfl
  have hcount : (rejected s n g st).kcount n = s.kcount n := by rw [State.kcount, State.fget, hcfg]; rfl
  rw [State.ownsKnot, hbase, hcount]
  rfl

theorem rejectGraph_spec (hown : s.ownsKnot n g.doneKnot = false) (st : Nat) :
    (s.rejectGraph n g st).taken n = (s.taken n + 1) % 2 ^ 48 ∧ ∀ i, (s.rejectGraph n g st).knot i = s.knot i := by
  have he : s.rejectGraph n g st = rejected s n g st :=
    if_neg fun h => Bool.false_ne_true (hown.symm.trans ((ownsKnot_rejected st _).symm.trans h))
  rw [he]
  refine ⟨taken_rejected st, fun i => (State.knot_event ..).trans ?_⟩
  have hkn : ((s.graphStatus n g.addr st).takenUp n).kn.knots = s.kn.knots :=
    (congrArg KnotEngine.knots (graphStatus_kn n g.addr st) : (s.graphStatus n g.addr st).kn.knots = s.kn.knots)
  rw [State.knot, hkn]
  rfl

/-! ### ADMIT_GRAPH -/

theorem admitGraph_admits (h : graphNext s n g) (hok : s.graphCheck n g = ST_OK) (hheld : s.graphHeld n g = false) :
    s.admitGraph n = s.admitNow n g := by
  rw [admitGraph_eq h, considered, if_neg (not_not_intro hok), hheld, if_neg Bool.false_ne_true]

/-- The state with a graph held. -/
def heldBack (s : State) (n : Nat) (g : GraphList) : State :=
  { s with kn := { s.kn with
      holds := Tab.store (fun _ => none) s.kn.holds n (some ⟨s.lanyard.toNat, g.inits.map initKnot⟩) } }

theorem admitGraph_holds (h : graphNext s n g) (hok : s.graphCheck n g = ST_OK) (hheld : s.graphHeld n g = true)
    (hnone : Tab.look (fun _ => none) s.kn.holds n = none) : s.admitGraph n = heldBack s n g := by
  rw [admitGraph_eq h, considered, if_neg (not_not_intro hok), hheld, if_pos rfl, hnone]
  rfl

theorem holds_heldBack (s : State) (n : Nat) (g : GraphList) : Tab.look (fun _ => none) (heldBack s n g).kn.holds n =
    some ⟨s.lanyard.toNat, g.inits.map initKnot⟩ :=
  Tab.look_store_same (fun _ => (none : Option Hold)) s.kn.holds n (some ⟨s.lanyard.toNat, g.inits.map initKnot⟩)

theorem goes_admitGraph {n : Fin 64} {P : State → Prop} (he : s.admitGraph n = u) (hP : P { u with pending := s.pending }) :
    Goes (.admitGraph n) s P := goes_of_done (congrArg (done s) he) hP

end Sys2Proof.Claims

open Sys2Proof.Claims

/-- Settles O20, by what becomes of the list in hand. -/
theorem graphAdmission : Obligations.GraphAdmission := by
  unfold Obligations.GraphAdmission
  exact ⟨fun n s g h hok hheld => goes_admitGraph (admitGraph_admits h hok hheld) (admitNow_spec hheld),
    fun n s g h hok hheld hnone => goes_admitGraph (admitGraph_holds h hok hheld hnone)
      ⟨holds_heldBack s n g, fun _ => rfl, fun _ => rfl, fun _ => rfl⟩,
    fun n s g h hbad hown => goes_admitGraph ((admitGraph_eq h).trans (if_pos hbad)) (rejectGraph_spec hown _),
    fun n s h => goes_admitGraph (admitGraph_nothing h) ⟨fun _ => rfl, ⟨fun _ => rfl, fun _ => rfl⟩, rfl⟩⟩
end

section
/-! O17: the life of a glove: CREATE, TEARDOWN, drain and scrub (R40, R42, R44, R46). -/

namespace Sys2Proof.Claims

open Machine Reg

variable {s t u : State} {k : CtxId} {n : Nat}

/-! ### What counters, events and journal entries leave alone -/

/-- The offsets of the gloves' own registers. -/
def gloveWindow (o : Nat) : Prop := KNOT_GLOVE_CFG0 0 ≤ o ∧ o < KNOT_GLOVE_CFG0 64

theorem gloveWindow_ctl (hn : n < 64) : gloveWindow (KNOT_GLOVE_CTL n) := by
  simp only [gloveWindow, KNOT_GLOVE_CTL, KNOT_GLOVE_CFG0]; omega
theorem gloveWindow_cfg0 (hn : n < 64) : gloveWindow (KNOT_GLOVE_CFG0 n) := by
  simp only [gloveWindow, KNOT_GLOVE_CFG0]; omega
theorem gloveWindow_cfg1 (hn : n < 64) : gloveWindow (KNOT_GLOVE_CFG1 n) := by
  simp only [gloveWindow, KNOT_GLOVE_CFG1, KNOT_GLOVE_CFG0]; omega
theorem gloveWindow_adm1 (hn : n < 64) : gloveWindow (KNOT_GLOVE_ADM1 n) := by
  simp only [gloveWindow, KNOT_GLOVE_ADM1, KNOT_GLOVE_CFG0]; omega

/-- The gloves' own registers are as before. -/
def gloveRegsKept (s u : State) : Prop := ∀ o, gloveWindow o → u.reg o = s.reg o

theorem gloveRegsKept.refl (s : State) : gloveRegsKept s s := fun _ _ => rfl

theorem gloveRegsKept.trans (h : gloveRegsKept s t) (g : gloveRegsKept t u) : gloveRegsKept s u :=
  fun o ho => (g o ho).trans (h o ho)

theorem gloveRegsKept.fget (h : gloveRegsKept s u) {o : Nat} (ho : gloveWindow o) (f : Fld) : u.fget o f = s.fget o f := by
  rw [State.fget, h o ho]; rfl

theorem gloveRegsKept_ctl (h : u.ctl = s.ctl) : gloveRegsKept s u := fun o _ => reg_congr h o

theorem gloveRegsKept.foldl {β : Type} {f : State → β → State} (hf : ∀ u x, gloveRegsKept u (f u x)) :
    ∀ (l : List β) {t : State}, gloveRegsKept s t → gloveRegsKept s (l.foldl f t)
  | [], _, h => h
  | x :: l, _, h => gloveRegsKept.foldl hf l (h.trans (hf _ x))

theorem ne_of_gloveWindow {o p : Nat} (ho : ¬ gloveWindow o) (hp : gloveWindow p) : p ≠ o := fun h => ho (h ▸ hp)

theorem gloveRegsKept_setReg {o : Nat} (ho : ¬ gloveWindow o) (v : W64) : gloveRegsKept s (s.setReg o v) :=
  fun _ hp => State.reg_setReg_ne (ne_of_gloveWindow ho hp) v

theorem gloveRegsKept_fset {o : Nat} (ho : ¬ gloveWindow o) (f : Fld) (v : Nat) : gloveRegsKept s (s.fset o f v) :=
  fun _ hp => State.reg_fset_ne (ne_of_gloveWindow ho hp) f v

/-- A register of the log or of the journal is no glove's. -/
theorem gloveWindow_not_log {o : Nat} (ho : gloveWindow o) : o ≠ SVC_EVLOG ∧ o ≠ SVC_EVLOG_LOST ∧ o ≠ SEC_JNL_HEAD := by
  simp only [gloveWindow, KNOT_GLOVE_CFG0, SVC_EVLOG, SVC_EVLOG_LOST, SEC_JNL_HEAD] at *; omega

/-- Memory, tiles and knots and the gloves' own registers are as before, and so is the journal. -/
structure Noted (s u : State) : Prop where
  mem : u.mem = s.mem
  tiles : u.tiles = s.tiles
  knots : u.kn.knots = s.kn.knots
  regs : gloveRegsKept s u
  journal : u.sec.journal = s.sec.journal

theorem Noted.refl (s : State) : Noted s s := ⟨rfl, rfl, rfl, .refl s, rfl⟩

theorem Noted.trans (h : Noted s t) (g : Noted t u) : Noted s u :=
  ⟨g.mem.trans h.mem, g.tiles.trans h.tiles, g.knots.trans h.knots, h.regs.trans g.regs, g.journal.trans h.journal⟩

theorem noted_fset {o : Nat} (ho : ¬ gloveWindow o) (f : Fld) (v : Nat) : Noted s (s.fset o f v) :=
  ⟨rfl, rfl, rfl, gloveRegsKept_fset ho f v, rfl⟩

theorem logRec_sec (r : EvRec) : (s.logRec r).sec = s.sec := by
  unfold State.logRec
  exact at_ite State.sec (at_ite State.sec (by rw [State.fset_sec, State.fset_sec]) (by rw [State.fset_sec, State.fset_sec]))
    (by rw [State.fset_sec])

/-- An event that the journal has no type for. -/
theorem event_sec {code : Nat} (h : eventJournal code = none) (a b c d : Nat) : (s.event code a b c d).sec = s.sec := by
  unfold State.event
  rw [h]
  exact logRec_sec _

theorem bumpBy_sec (o : Nat) (f : Fld) (ovf : Bool) (m : Nat) : (s.bumpBy o f ovf m).sec = s.sec := by
  have hovf : ∀ v : Nat, State.sec (if ovf = true then (s.fset o f v).fset o ⟨63, 63⟩ 1 else s.fset o f v) = s.sec :=
    fun v => at_ite State.sec (by rw [State.fset_sec, State.fset_sec]) (by rw [State.fset_sec])
  unfold State.bumpBy
  dsimp only
  refine at_ite State.sec (by rw [State.fset_sec]) (at_ite State.sec (hovf _) ?_)
  rw [event_sec (by decide)]
  exact hovf _

theorem noted_event {code : Nat} (h : eventJournal code = none) (a b c d : Nat) : Noted s (s.event code a b c d) where
  mem := State.event_mem ..
  tiles := State.event_tiles ..
  knots := congrArg KnotEngine.knots (State.event_kn ..)
  journal := congrArg Security.journal (event_sec h ..)
  regs _ ho := by
    obtain ⟨h1, h2, h3⟩ := gloveWindow_not_log ho
    exact State.reg_event h1 h2 h3 ..

theorem noted_bumpBy {o : Nat} (ho : ¬ gloveWindow o) (f : Fld) (ovf : Bool) (m : Nat) : Noted s (s.bumpBy o f ovf m) where
  mem := State.bumpBy_mem ..
  tiles := State.bumpBy_tiles ..
  knots := congrArg KnotEngine.knots (State.bumpBy_kn ..)
  journal := congrArg Security.journal (bumpBy_sec ..)
  regs _ hp := by
    obtain ⟨h1, h2, h3⟩ := gloveWindow_not_log hp
    exact State.reg_bumpBy (ne_of_gloveWindow ho hp) h1 h2 h3 ..

theorem jobcnt_not_glove (m : Nat) : ¬ gloveWindow (KNOT_JOBCNT m) := by
  simp only [gloveWindow, KNOT_JOBCNT, KNOT_GLOVE_CFG0]; omega
theorem jobcli_not_glove (m : Nat) : ¬ gloveWindow (KNOT_JOBCLI m) := by
  simp only [gloveWindow, KNOT_JOBCLI, KNOT_GLOVE_CFG0]; omega

theorem noted_jobBump (m : Nat) : Noted s (s.bump (KNOT_JOBCNT m) KNOT_JOBCNT_COUNT 1) :=
  noted_bumpBy (jobcnt_not_glove m) _ _ _

theorem noted_jobFull (s : State) : Noted s { s with kn := { s.kn with jobFull := true } } :=
  ⟨rfl, rfl, rfl, gloveRegsKept_ctl rfl, rfl⟩

theorem noted_countJob (client : Nat) : Noted s (s.countJob client) := by
  unfold State.countJob
  split
  case h_1 m _ => exact noted_jobBump m
  case h_2 =>
    split
    case h_1 m _ =>
      exact ((noted_fset (jobcli_not_glove m) _ _).trans (noted_fset (jobcli_not_glove m) _ _)).trans (noted_jobBump m)
    case h_2 =>
      dsimp only
      split
      · exact noted_jobBump 255
      · exact ((noted_jobBump (s := s) 255).trans (noted_jobFull _)).trans (noted_event (by decide) ..)

theorem noted_d2Gloves (s : State) (l : List Nat) : Noted s { s with sec := { s.sec with d2Gloves := l } } :=
  ⟨rfl, rfl, rfl, gloveRegsKept_ctl rfl, rfl⟩

theorem noted_noteD2 (n : Nat) : Noted s (s.noteD2 n) := by
  have hstat : ¬ gloveWindow SEC_STAT := by simp only [gloveWindow, SEC_STAT, KNOT_GLOVE_CFG0]; omega
  unfold State.noteD2
  split
  · exact (noted_d2Gloves s _).trans (noted_bumpBy hstat _ _ _)
  · exact .refl s

theorem noted_setReg {o : Nat} (ho : ¬ gloveWindow o) (v : W64) : Noted s (s.setReg o v) :=
  ⟨rfl, rfl, rfl, gloveRegsKept_setReg ho v, rfl⟩

theorem meas_not_glove (n j : Nat) : ¬ gloveWindow (SEC_GLOVE_MEAS n j) := by
  simp only [gloveWindow, SEC_GLOVE_MEAS, KNOT_GLOVE_CFG0]; omega

/-- The measurements of a slot set to 0. -/
def measCleared (s : State) (n : Nat) (l : List Nat) : State := l.foldl (fun s j => s.setReg (SEC_GLOVE_MEAS n j) 0) s

theorem noted_measCleared (n : Nat) : ∀ (l : List Nat) {s : State}, Noted s (measCleared s n l)
  | [], s => .refl s
  | j :: l, _ => (noted_setReg (meas_not_glove n j) 0).trans (noted_measCleared n l)

/-! ### CREATE (R40) -/

/-- The slot's knots and teardown record cleared. -/
def vacated (s : State) (n : Nat) : State := (s.clearKnots (s.kbase n) (s.kcount n)).setRecord n none

/-- The slot's knots cleared, its TAKEN, causes and REMOTE_NAK at 0, and its state ACTIVE. -/
def activated (s : State) (n : Nat) : State :=
  ((((((vacated s n).fset (KNOT_GLOVE_ADM1 n) KNOT_GLOVE_ADM1_TAKEN 0).fset (KNOT_GLOVE_CTL n) KNOT_GLOVE_CTL_CAUSE 0).fset
    (KNOT_GLOVE_CTL n) KNOT_GLOVE_CTL_REMOTE_NAK 0).gstatus n ST_OK).fset (KNOT_GLOVE_CTL n) KNOT_GLOVE_CTL_STATE gACTIVE)

/-- What the knot engine forgets of the slot's last glove. -/
def forgotten (s : State) (n : Nat) : State :=
  { s with kn := { s.kn with
    causes := Tab.store (fun _ => []) s.kn.causes n [], still := Tab.store (fun _ => false) s.kn.still n false,
    replay := Tab.store (fun _ => false) s.kn.replay n false } }

theorem noted_forgotten (s : State) (n : Nat) : Noted s (forgotten s n) := ⟨rfl, rfl, rfl, gloveRegsKept_ctl rfl, rfl⟩

/-- The slot of a new glove, before its job is counted. -/
def opened (s : State) (n : Nat) : State := measCleared (forgotten (activated s n) n) n (List.range 8)

/-- The payload of a glove's journal entry of type 0x0005 (assumption 12). -/
def gloveEntry (s : State) (n : Nat) : List Byte :=
  leBytes 2 (s.fget (KNOT_GLOVE_CFG0 n) KNOT_GLOVE_CFG0_CLIENT) ++ leBytes 2 (s.gid n) ++ leBytes 2 (s.gepoch n)

/-- A new glove, its job counted. -/
def jobCounted (s : State) (n : Nat) : State := s.countJob (s.fget (KNOT_GLOVE_CFG0 n) KNOT_GLOVE_CFG0_CLIENT)

/-- The journal entry of a new glove. -/
def entered (s : State) (n : Nat) : State :=
  (jobCounted s n).journal 0x0005 0xFF n (leBytes 2 (s.fget (KNOT_GLOVE_CFG0 n) KNOT_GLOVE_CFG0_CLIENT)
    ++ leBytes 2 ((jobCounted s n).gid n) ++ leBytes 2 ((jobCounted s n).gepoch n))

theorem createNow_eq (s : State) (n : Nat) : s.createNow n = (entered (opened s n) n).noteD2 n := rfl

theorem noted_opened (s : State) (n : Nat) : Noted (activated s n) (opened s n) :=
  (noted_forgotten _ n).trans (noted_measCleared n _)

theorem gloveRegsKept.gid (h : gloveRegsKept s u) (hn : n < 64) : u.gid n = s.gid n := h.fget (gloveWindow_cfg0 hn) _
theorem gloveRegsKept.gepoch (h : gloveRegsKept s u) (hn : n < 64) : u.gepoch n = s.gepoch n := h.fget (gloveWindow_cfg0 hn) _
theorem gloveRegsKept.gstate (h : gloveRegsKept s u) (hn : n < 64) : u.gstate n = s.gstate n := h.fget (gloveWindow_ctl hn) _

theorem gloveRegsKept.gloveEntry (h : gloveRegsKept s u) (hn : n < 64) : gloveEntry u n = gloveEntry s n := by
  rw [Claims.gloveEntry, h.fget (gloveWindow_cfg0 hn), h.gid hn, h.gepoch hn]
  rfl

theorem journal_entered (hn : n < 64) : ∃ e, (entered s n).sec.journal = s.sec.journal ++ [e]
    ∧ e.ty = 5 ∧ e.slot = n ∧ e.payload = gloveEntry s n := by
  have hcount : Noted s (jobCounted s n) := noted_countJob _
  refine ⟨_, congrArg (· ++ [_]) hcount.journal, rfl, rfl, ?_⟩
  dsimp only
  rw [hcount.regs.gid hn, hcount.regs.gepoch hn]
  rfl

/-- Memory, tiles, knots and the gloves' own registers of a glove just made are those of its slot when activated. -/
structure MadeFrom (s u : State) : Prop where
  mem : u.mem = s.mem
  tiles : u.tiles = s.tiles
  knots : u.kn.knots = s.kn.knots
  regs : gloveRegsKept s u

theorem Noted.madeFrom (h : Noted s u) : MadeFrom s u := ⟨h.mem, h.tiles, h.knots, h.regs⟩

theorem MadeFrom.trans (h : MadeFrom s t) (g : MadeFrom t u) : MadeFrom s u :=
  ⟨g.mem.trans h.mem, g.tiles.trans h.tiles, g.knots.trans h.knots, h.regs.trans g.regs⟩

theorem MadeFrom.knot (h : MadeFrom s u) (i : Nat) : u.knot i = s.knot i := by rw [State.knot, h.knots]; rfl
theorem MadeFrom.ctx (h : MadeFrom s u) (k : CtxId) : u.ctx k = s.ctx k := by rw [State.ctx, State.tile, h.tiles]; rfl
theorem MadeFrom.byte (h : MadeFrom s u) (a : Nat) : u.byte a = s.byte a := by rw [State.byte, h.mem]; rfl

theorem madeFrom_journal (ty src slot : Nat) (p : List Byte) : MadeFrom s (s.journal ty src slot p) :=
  ⟨rfl, rfl, rfl, fun _ ho => State.reg_journal (gloveWindow_not_log ho).2.2 ..⟩

theorem madeFrom_entered (s : State) (n : Nat) : MadeFrom s (entered s n) :=
  (noted_countJob _).madeFrom.trans (madeFrom_journal ..)

theorem madeFrom_createNow (s : State) (n : Nat) : MadeFrom (activated s n) (s.createNow n) := by
  rw [createNow_eq]
  exact ((noted_opened s n).madeFrom.trans (madeFrom_entered _ n)).trans (noted_noteD2 n).madeFrom

theorem onlyKn_vacated (s : State) (n : Nat) : onlyKn s (vacated s n) := rfl

theorem activated_eq (s : State) (n : Nat) : ∃ c, activated s n = { vacated s n with ctl := c } := ⟨_, rfl⟩

theorem activated_sec (s : State) (n : Nat) : (activated s n).sec = s.sec := by
  obtain ⟨c, he⟩ := activated_eq s n
  rw [he, onlyKn_vacated s n]

theorem activated_tiles (s : State) (n : Nat) : (activated s n).tiles = s.tiles := by
  obtain ⟨c, he⟩ := activated_eq s n
  rw [he, onlyKn_vacated s n]

theorem activated_mem (s : State) (n : Nat) : (activated s n).mem = s.mem := by
  obtain ⟨c, he⟩ := activated_eq s n
  rw [he, onlyKn_vacated s n]

theorem knot_activated (s : State) (n i : Nat) : (activated s n).knot i = if s.ownsKnot n i then {} else s.knot i := by
  obtain ⟨c, he⟩ := activated_eq s n
  rw [he]
  exact Tab.look_dropIf (fun _ => ({} : Knot)) (fun k => s.ownsKnot n k) s.kn.knots i

theorem cfg0_activated (s : State) (n : Nat) : (activated s n).reg (KNOT_GLOVE_CFG0 n) = s.reg (KNOT_GLOVE_CFG0 n) := by
  have hctl : KNOT_GLOVE_CFG0 n ≠ KNOT_GLOVE_CTL n := by simp only [KNOT_GLOVE_CFG0, KNOT_GLOVE_CTL]; omega
  have hadm : KNOT_GLOVE_CFG0 n ≠ KNOT_GLOVE_ADM1 n := by simp only [KNOT_GLOVE_CFG0, KNOT_GLOVE_ADM1]; omega
  simp only [activated, State.gstatus, State.reg_fset_ne hctl, State.reg_fset_ne hadm]
  rfl

theorem gloveEntry_activated (s : State) (n : Nat) : gloveEntry (activated s n) n = gloveEntry s n := by
  simp only [gloveEntry, State.gid, State.gepoch, State.fget, cfg0_activated]

theorem journalled_createNow (hn : n < 64) : journalled s (s.createNow n) 5 n (gloveEntry (activated s n) n) := by
  obtain ⟨e, he, hty, hslot, hpay⟩ := journal_entered (s := opened s n) hn
  have hopened := noted_opened s n
  have hjournal : (s.createNow n).sec.journal = s.sec.journal ++ [e] := by
    rw [createNow_eq, (noted_noteD2 n).journal, he, hopened.journal, activated_sec]
  refine ⟨e, ?_, hty, hslot, hpay.trans (hopened.regs.gloveEntry hn)⟩
  rw [hjournal, List.drop_left]
  exact List.mem_singleton_self e

/-- The fields of a slot's registers when it is activated. -/
theorem fields_activated (s : State) (n : Nat) : (activated s n).gstate n = gACTIVE
    ∧ (activated s n).fget (KNOT_GLOVE_CTL n) KNOT_GLOVE_CTL_STATUS = ST_OK
    ∧ (activated s n).fget (KNOT_GLOVE_CTL n) KNOT_GLOVE_CTL_CAUSE = 0
    ∧ (activated s n).fget (KNOT_GLOVE_ADM1 n) KNOT_GLOVE_ADM1_TAKEN = 0 := by
  have hne : KNOT_GLOVE_ADM1 n ≠ KNOT_GLOVE_CTL n := by simp only [KNOT_GLOVE_ADM1, KNOT_GLOVE_CTL]; omega
  refine ⟨?_, ?_, ?_, ?_⟩
  · exact State.fget_fset _ _ _ (by decide) (by decide)
  · rw [activated, State.fget_fset_apart _ _ _ _ (by decide) (by decide) (by decide) (by decide), State.gstatus]
    exact State.fget_fset _ _ _ (by decide) (by decide)
  · simp only [activated, State.gstatus]
    rw [State.fget_fset_apart _ _ _ _ (by decide) (by decide) (by decide) (by decide),
      State.fget_fset_apart _ _ _ _ (by decide) (by decide) (by decide) (by decide),
      State.fget_fset_apart _ _ _ _ (by decide) (by decide) (by decide) (by decide)]
    exact State.fget_fset _ _ _ (by decide) (by decide)
  · simp only [activated, State.gstatus]
    rw [State.fget_fset_ne hne, State.fget_fset_ne hne, State.fget_fset_ne hne, State.fget_fset_ne hne]
    exact State.fget_fset _ _ _ (by decide) (by decide)

theorem create_makes {n : Fin 64} (h : s.createStatus n = ST_OK) : Goes (.create n) s (fun t =>
    t.gstate n = gACTIVE ∧ t.fget (KNOT_GLOVE_CTL n) KNOT_GLOVE_CTL_STATUS = ST_OK
      ∧ t.fget (KNOT_GLOVE_CTL n) KNOT_GLOVE_CTL_CAUSE = 0 ∧ t.fget (KNOT_GLOVE_ADM1 n) KNOT_GLOVE_ADM1_TAKEN = 0
      ∧ (∀ i, t.knot i = if s.ownsKnot n i then {} else s.knot i) ∧ (∀ k, t.ctx k = s.ctx k) ∧ memKept s t
      ∧ journalled s t 5 n (gloveEntry s n)) := by
  refine goes_of_done (u := s.createNow n) (if_pos h) ?_
  have hmade := madeFrom_createNow s n
  obtain ⟨hstate, hstatus, hcause, htaken⟩ := fields_activated s n
  have hjournal := journalled_createNow (s := s) n.isLt
  rw [gloveEntry_activated] at hjournal
  refine ⟨(hmade.regs.gstate n.isLt).trans hstate, (hmade.regs.fget (gloveWindow_ctl n.isLt) _).trans hstatus,
    (hmade.regs.fget (gloveWindow_ctl n.isLt) _).trans hcause, (hmade.regs.fget (gloveWindow_adm1 n.isLt) _).trans htaken,
    fun i => (hmade.knot i).trans (knot_activated s n i), fun k => (hmade.ctx k).trans ?_, fun a => (hmade.byte a).trans ?_,
    hjournal⟩
  · rw [State.ctx, State.tile, activated_tiles]; rfl
  · rw [State.byte, activated_mem]; rfl

end Sys2Proof.Claims
end

section
/-! O17, further: CREATE refused, TEARDOWN, drain and scrub (R40, R42, R44). -/

namespace Sys2Proof.Claims

open Machine Reg

variable {s t u : State} {k : CtxId} {n : Nat}

/-! ### CREATE refused (R40) -/

theorem createStatus_busy (h : s.gstate n = gTEARDOWN ∨ s.gstate n = gSCRUB) : s.createStatus n = ST_BUSY := by
  have hdying : (s.gstate n == gTEARDOWN || s.gstate n == gSCRUB) = true := by simpa using h
  simp only [State.createStatus, hdying, Bool.true_or, if_true]

theorem createStatus_denied (h : s.gstate n = gACTIVE)
    (hsame : ∀ m, m < 64 → s.gid m = s.gid n → s.gstate m ≠ gTEARDOWN ∧ s.gstate m ≠ gSCRUB) :
    s.createStatus n = ST_DENIED := by
  have hdying : (gACTIVE == gTEARDOWN || gACTIVE == gSCRUB) = false := rfl
  have hany : ((List.range 64).filter fun m => s.gid m == s.gid n).any
      (fun m => s.gstate m == gTEARDOWN || s.gstate m == gSCRUB) = false := by
    refine List.any_eq_false.mpr fun m hm => ?_
    obtain ⟨hm, hgid⟩ := List.mem_filter.mp hm
    obtain ⟨h1, h2⟩ := hsame m (List.mem_range.mp hm) (eq_of_beq hgid)
    simp [h1, h2]
  simp only [State.createStatus, h, hdying, hany, Bool.or_false, Bool.false_eq_true, if_false, true_or, if_true]

/-- A command's status alone is written. -/
theorem statusOnly (s : State) (n : Nat) {st : Nat} (hst : st < 16) :
    (s.gstatus n st).fget (KNOT_GLOVE_CTL n) KNOT_GLOVE_CTL_STATUS = st ∧ (s.gstatus n st).gstate n = s.gstate n
      ∧ regsBut s (s.gstatus n st) [KNOT_GLOVE_CTL n] :=
  ⟨(State.fget_fset _ _ _ (by decide) (by decide)).trans (Nat.mod_eq_of_lt hst),
    State.fget_fset_apart _ _ _ _ (by decide) (by decide) (by decide) (by decide),
    fun _ ho => State.reg_fset_ne (List.ne_of_not_mem_cons ho) _ _⟩

/-- A command that only answers a status. -/
theorem goes_statusOnly {c : Instr} {st : Nat} (he : exec c s = done s (s.gstatus n st)) (hst : st < 16) :
    Goes c s (fun t => t.fget (KNOT_GLOVE_CTL n) KNOT_GLOVE_CTL_STATUS = st ∧ t.gstate n = s.gstate n
      ∧ regsBut s t [KNOT_GLOVE_CTL n] ∧ memKept s t ∧ (∀ i, t.knot i = s.knot i) ∧ ∀ k, t.ctx k = s.ctx k) := by
  obtain ⟨hstatus, hstate, hregs⟩ := statusOnly s n hst
  exact goes_of_done he ⟨hstatus, hstate, hregs, fun _ => rfl, fun _ => rfl, fun _ => rfl⟩

theorem exec_create_refused {n : Fin 64} {st : Nat} (h : s.createStatus n = st) (hne : st ≠ ST_OK) :
    exec (.create n) s = done s (s.gstatus n st) := by
  subst h
  exact if_neg hne

/-! ### TEARDOWN (R42) -/

theorem exec_teardown (n : Fin 64) (s : State) : exec (.teardown n) s =
    if s.gstate n = gFREE ∨ s.gstate n = gRETIRED then done s (s.gstatus n ST_RANGE)
    else done s ((s.faultGlove n causeCOMMAND).gstatus n ST_OK) := rfl

theorem teardown_nothing {n : Fin 64} (h : s.gstate n = gFREE ∨ s.gstate n = gRETIRED) : Goes (.teardown n) s (fun t =>
    t.fget (KNOT_GLOVE_CTL n) KNOT_GLOVE_CTL_STATUS = ST_RANGE ∧ t.gstate n = s.gstate n
      ∧ regsBut s t [KNOT_GLOVE_CTL n] ∧ memKept s t ∧ ∀ k, t.ctx k = s.ctx k) := by
  obtain ⟨t, he, hq, hstatus, hstate, hregs, hmem, -, hctx⟩ :=
    goes_statusOnly (st := ST_RANGE) ((exec_teardown n s).trans (if_pos h)) (by decide)
  exact ⟨t, he, hq, hstatus, hstate, hregs, hmem, hctx⟩

theorem kn_idleEngines (s : State) : s.idleEngines.kn = s.kn := by
  refine foldl_keeps State.kn (fun u e => ?_) [0, 1] s
  split <;> rfl

theorem knot_goDown (s : State) (n c i : Nat) : (s.goDown n c).knot i = s.knot i := by
  unfold State.goDown
  dsimp only
  rw [State.knot, State.fset_kn, kn_idleEngines]
  rfl

theorem teardown_active {n : Fin 64} (ha : s.gstate n = gACTIVE) : Goes (.teardown n) s (fun t =>
    goesDown s t n causeCOMMAND ∧ t.fget (KNOT_GLOVE_CTL n) KNOT_GLOVE_CTL_STATUS = ST_OK ∧ ∀ i, t.knot i = s.knot i) := by
  have hno : ¬ (s.gstate n = gFREE ∨ s.gstate n = gRETIRED) := by rw [ha]; decide
  obtain ⟨hdown, hcause, hmem, hctx⟩ := goesDown_faultGlove ha (c := causeCOMMAND) (by decide)
  obtain ⟨hstatus, hstate, -⟩ := statusOnly (s.faultGlove n causeCOMMAND) n (st := ST_OK) (by decide)
  refine goes_of_done ((exec_teardown n s).trans (if_neg hno)) ⟨⟨hstate.trans hdown, ?_, hmem, hctx⟩, hstatus, fun i => ?_⟩
  · exact (State.fget_fset_apart _ _ _ _ (by decide) (by decide) (by decide) (by decide)).trans hcause
  · exact (congrArg (State.knot · i) (State.faultGlove_active ha _)).trans (knot_goDown s n _ i)

/-! ### Drain (R42 steps 2 and 3) -/

/-- The state as the revocation leaves it before the directory's epochs go. -/
theorem revoke_eq (s : State) (n : Nat) : ∃ v, s.revoke n =
    State.fset (State.fset v (BRM_DIR_NEXTEP n) BRM_DIR_NEXTEP_ARMED 0) (BRM_DIR_CUREP n) BRM_DIR_CUREP_VALID 0 := ⟨_, rfl⟩

theorem drain_goes {n : Fin 64} (hdown : s.gstate n = gTEARDOWN) (hleft : s.outboundLeft (s.gid n) (s.gepoch n) = false) :
    Goes (.gloveDrainDone n) s (fun t => t.gstate n = gSCRUB
      ∧ t.fget (BRM_DIR_CUREP n) BRM_DIR_CUREP_VALID = 0 ∧ t.fget (BRM_DIR_NEXTEP n) BRM_DIR_NEXTEP_ARMED = 0) := by
  have hcur : BRM_DIR_CUREP n ≠ KNOT_GLOVE_CTL n := by simp only [BRM_DIR_CUREP, KNOT_GLOVE_CTL]; omega
  have hnext : BRM_DIR_NEXTEP n ≠ KNOT_GLOVE_CTL n := by simp only [BRM_DIR_NEXTEP, KNOT_GLOVE_CTL]; omega
  have hapart : BRM_DIR_NEXTEP n ≠ BRM_DIR_CUREP n := by simp only [BRM_DIR_CUREP, BRM_DIR_NEXTEP]; omega
  obtain ⟨v, hv⟩ := revoke_eq s n
  refine goes_of_done (if_pos ⟨hdown, hleft⟩) ⟨?_, ?_, ?_⟩
  · rw [State.gstate, fget_pending, State.fget_fset _ _ _ (by decide) (by decide)]
    rfl
  · rw [fget_pending, State.fget_fset_ne hcur, hv]
    exact State.fget_fset _ _ _ (by decide) (by decide)
  · rw [fget_pending, State.fget_fset_ne hnext, hv, State.fget_fset_ne hapart]
    exact State.fget_fset _ _ _ (by decide) (by decide)

/-! ### Scrub (R42 steps 4 to 6) -/

theorem zeroVirt_keeps {α : Type} (f : State → α) (hf : ∀ u a, f (State.setByte u a 0) = f u) (n : Nat) :
    ∀ (m va : Nat) (s : State), f (s.zeroVirt n va m) = f s
  | 0, _, _ => rfl
  | m + 1, va, s => by
    rw [State.zeroVirt]
    refine (zeroVirt_keeps f hf n m (va + 1) _).trans ?_
    split
    · exact hf _ _
    · rfl

theorem poolStat_not_glove (c : Nat) : ¬ gloveWindow (POOL_STAT c) := by
  simp only [gloveWindow, POOL_STAT, KNOT_GLOVE_CFG0]; omega

/-- Memory, pages and pools may have changed; tiles and the gloves' own registers have not. -/
def storesOnly (s u : State) : Prop := gloveRegsKept s u ∧ u.tiles = s.tiles

theorem storesOnly.trans (h : storesOnly s t) (g : storesOnly t u) : storesOnly s u :=
  ⟨h.1.trans g.1, g.2.trans h.2⟩

theorem storesOnly_ctl (hc : u.ctl = s.ctl) (ht : u.tiles = s.tiles) : storesOnly s u := ⟨gloveRegsKept_ctl hc, ht⟩

theorem storesOnly_foldl {β : Type} {f : State → β → State} (hf : ∀ u x, storesOnly u (f u x)) :
    ∀ (l : List β) {s : State}, storesOnly s (l.foldl f s)
  | [], _ => storesOnly_ctl rfl rfl
  | x :: l, _ => (hf _ x).trans (storesOnly_foldl hf l)

theorem storesOnly_zeroVirt (n va m : Nat) : storesOnly s (s.zeroVirt n va m) :=
  storesOnly_ctl (zeroVirt_keeps State.ctl (fun _ _ => rfl) n m va s) (zeroVirt_keeps State.tiles (fun _ _ => rfl) n m va s)

theorem storesOnly_poolStat (c : Nat) (f : Fld) (v : Nat) : storesOnly s (s.fset (POOL_STAT c) f v) :=
  ⟨gloveRegsKept_fset (poolStat_not_glove c) f v, rfl⟩

theorem storesOnly_scrubPool (n c : Nat) : storesOnly s (s.scrubPool n c) := by
  unfold State.scrubPool
  split
  · exact (((storesOnly_zeroVirt _ _ _).trans (storesOnly_zeroVirt _ _ _)).trans (storesOnly_poolStat c _ _)).trans
      (storesOnly_poolStat c _ _)
  · exact storesOnly_ctl rfl rfl

/-- The pools of glove n scrubbed, of a list. -/
def poolsScrubbed (s : State) (n : Nat) (l : List Nat) : State := l.foldl (fun s c => s.scrubPool n c) s

/-- The pages of a list zeroed. -/
def pagesZeroed (s : State) (l : List Nat) : State :=
  l.foldl (fun s p => (s.zeroMem (p * 65536) 65536).setPage p { s.page p with pinned := false }) s

theorem storesOnly_poolsScrubbed (n : Nat) (l : List Nat) : storesOnly s (poolsScrubbed s n l) :=
  storesOnly_foldl (fun _ c => storesOnly_scrubPool n c) l

theorem storesOnly_pagesZeroed (l : List Nat) : storesOnly s (pagesZeroed s l) :=
  storesOnly_foldl (f := fun s p => (s.zeroMem (p * 65536) 65536).setPage p { s.page p with pinned := false })
    (fun _ _ => storesOnly_ctl rfl rfl) l

/-- Glove n's contexts of every tile, and the cells of its slices, cleared. -/
def tilesScrubbed (s : State) (n : Nat) (slices : List Nat) : State :=
  { s with
    tiles := Tab.mapVal (fun _ => {}) (Tile.scrub n) s.tiles
    slice := Tab.dropIf (fun k => slices.contains (k / 1024)) s.slice }

/-- The knot engine holds no task, graph or comparison of glove n. -/
def tasksForgotten (s : State) (n : Nat) : State :=
  let keep := fun (_ : Nat) (l : List (List KeptRange)) => l.map (fun rs => rs.filter (fun r => r.glove != n))
  { s with kn := { s.kn with
    tasks := Tab.mapVal (fun _ => none) (dropOf Task.glove n) s.kn.tasks,
    graphs := Tab.mapVal (fun _ => none) (dropOf Graph.glove n) s.kn.graphs,
    kept := Tab.mapVal (fun _ => []) keep s.kn.kept,
    twins := s.kn.twins.filter (fun t => t.glove != n), digests := s.kn.digests.filter (fun t => t.glove != n),
    still := Tab.store (fun _ => false) s.kn.still n false, replay := Tab.store (fun _ => false) s.kn.replay n false } }

/-- The knots of the slot, and what the knot engine holds of the glove, cleared. -/
def knotsScrubbed (s : State) (n : Nat) : State := tasksForgotten (s.clearKnots (s.kbase n) (s.kcount n)) n

/-- A scrub is that of the stores, then that of the tiles, then that of the knots. -/
theorem scrub_eq (s : State) (n : Nat) :
    ∃ v slices, storesOnly s v ∧ s.scrub n = knotsScrubbed (tilesScrubbed v n slices) n := by
  unfold State.scrub
  extract_lets pages slices pools zeroed tiled cleared keep
  refine ⟨zeroed, slices, (storesOnly_poolsScrubbed n (List.range 256)).trans (storesOnly_pagesZeroed pages), ?_⟩
  clear_value zeroed
  rfl

theorem tile_tilesScrubbed (v : State) (n : Nat) (slices : List Nat) (i : Nat) :
    (tilesScrubbed v n slices).tile i = (v.tile i).scrub n i :=
  Tab.look_mapVal (fun _ => ({} : Tile)) (Tile.scrub n) v.tiles i rfl

/-! The scrub of one tile -/

theorem ctx_scrub (v : Tile) (n i : Nat) {j : Nat} (hj : j < 16) (htask : (v.ctx j).task ≠ none)
    (hglove : (v.ctx j).glove = n) : (v.scrub n i).ctx j = {} := by
  have hin : j ∈ (List.range 16).filter (fun c => (v.ctx c).task.isSome && (v.ctx c).glove == n) :=
    List.mem_filter.mpr ⟨List.mem_range.mpr hj, by simp [Option.isSome_iff_ne_none, htask, hglove]⟩
  refine (foldl_at Tile.ctx (fun _ _ => {}) ?_ j _ (List.nodup_range.filter _) _).trans (if_pos hin)
  intro v x j
  exact Tile.ctx_setCtx (v.dropCtx x) x j {}

theorem regs_scrub (s : State) (n : Nat) : gloveRegsKept s (s.scrub n) := by
  obtain ⟨v, slices, ⟨hregs, -⟩, he⟩ := scrub_eq s n
  rw [he]
  exact hregs.trans (gloveRegsKept_ctl rfl)

theorem ctx_scrubbed (htask : (s.ctx k).task ≠ none) (hglove : (s.ctx k).glove = n) : (s.scrub n).ctx k = {} := by
  obtain ⟨v, slices, ⟨-, htiles⟩, he⟩ := scrub_eq s n
  have htile : v.tile k.tile = s.tile k.tile := by rw [State.tile, htiles]; rfl
  have hctx : (s.scrub n).ctx k = ((s.tile k.tile).scrub n k.tile).ctx k.ctx := by
    rw [he, ← htile, ← tile_tilesScrubbed v n slices]
    rfl
  rw [hctx]
  exact ctx_scrub _ n _ k.ctx.isLt htask hglove

theorem knot_scrubbed (hn : n < 64) {i : Nat} (hown : s.ownsKnot n i = true) : (s.scrub n).knot i = {} := by
  obtain ⟨v, slices, ⟨hregs, -⟩, he⟩ := scrub_eq s n
  have hv : gloveRegsKept s (tilesScrubbed v n slices) := hregs.trans (gloveRegsKept_ctl rfl)
  have hown' : (tilesScrubbed v n slices).ownsKnot n i = true := by
    rw [← hown, State.ownsKnot, State.kbase, State.kcount, hv.fget (gloveWindow_cfg1 hn), hv.fget (gloveWindow_cfg1 hn)]
    rfl
  generalize tilesScrubbed v n slices = w at he hown'
  rw [he]
  exact (Tab.look_dropIf (fun _ => ({} : Knot)) (fun k => w.ownsKnot n k) w.kn.knots i).trans (if_pos hown')

/-- A scrubbed slot under its next epoch. -/
def nextEpoch (s : State) (n : Nat) : State := (s.scrub n).fset (KNOT_GLOVE_CFG0 n) KNOT_GLOVE_CFG0_EPOCH (s.gepoch n + 1)

theorem gid_nextEpoch (hn : n < 64) : (nextEpoch s n).gid n = s.gid n :=
  (State.fget_fset_apart _ _ _ _ (by decide) (by decide) (by decide) (by decide)).trans ((regs_scrub s n).gid hn)

theorem gepoch_nextEpoch (s : State) (n : Nat) : (nextEpoch s n).gepoch n = (s.gepoch n + 1) % 65536 :=
  State.fget_fset _ _ _ (by decide) (by decide)

theorem knots_nextEpoch (s : State) (n : Nat) : (nextEpoch s n).kn.knots = (s.scrub n).kn.knots := by
  rw [nextEpoch, State.fset_kn]
theorem tiles_nextEpoch (s : State) (n : Nat) : (nextEpoch s n).tiles = (s.scrub n).tiles := by
  rw [nextEpoch, State.fset_tiles]

/-- The slot RETIRED, and its teardown record. -/
def retired (s : State) (n : Nat) : State :=
  (s.fset (KNOT_GLOVE_CTL n) KNOT_GLOVE_CTL_STATE gRETIRED).setRecord n (some (s.gid n, s.gepoch n))

theorem fget_setRecord (m : Nat) (r : Option (Nat × Nat)) (o : Nat) (f : Fld) : (s.setRecord m r).fget o f = s.fget o f := rfl

theorem cfg0_retired (s : State) (n : Nat) (f : Fld) :
    (retired s n).fget (KNOT_GLOVE_CFG0 n) f = s.fget (KNOT_GLOVE_CFG0 n) f := by
  have hne : KNOT_GLOVE_CFG0 n ≠ KNOT_GLOVE_CTL n := by simp only [KNOT_GLOVE_CFG0, KNOT_GLOVE_CTL]; omega
  rw [retired, fget_setRecord, State.fget_fset_ne hne]

theorem gstate_retired (s : State) (n : Nat) : (retired s n).gstate n = gRETIRED := by
  rw [State.gstate, retired, fget_setRecord, State.fget_fset _ _ _ (by decide) (by decide)]
  rfl

theorem record_retired (s : State) (n : Nat) : (retired s n).record n = some (s.gid n, s.gepoch n) :=
  Tab.look_store_same (fun _ => (none : Option (Nat × Nat))) s.kn.records n (some (s.gid n, s.gepoch n))

theorem knot_retired (s : State) (n i : Nat) : (retired s n).knot i = s.knot i := rfl
theorem ctx_retired (s : State) (n : Nat) (k : CtxId) : (retired s n).ctx k = s.ctx k := rfl

/-- The journal entry of a scrub in state v, of the epoch that ends and with the glove's causes (R44). -/
def scrubEntered (v : State) (n old : Nat) : State :=
  v.journal 0x0006 0xFF n (leBytes 2 (v.gid n) ++ leBytes 2 old ++ leBytes 2 (old + 1)
    ++ (v.fget (KNOT_GLOVE_CTL n) KNOT_GLOVE_CTL_CAUSE :: Tab.look (fun _ => []) v.kn.causes n).map
      (fun c => BitVec.ofNat 8 c))

/-- The causes kept beside the slot's first are gone. -/
def causesForgotten (s : State) (n : Nat) : State :=
  { s with kn := { s.kn with causes := Tab.store (fun _ => []) s.kn.causes n [] } }

/-- The entry made, and the causes gone. -/
def scrubLogged (v : State) (n old : Nat) : State := causesForgotten (scrubEntered v n old) n

theorem regs_scrubLogged (v : State) (n old : Nat) : gloveRegsKept v (scrubLogged v n old) :=
  fun _ ho => State.reg_journal (gloveWindow_not_log ho).2.2 ..

theorem knots_scrubLogged (v : State) (n old : Nat) : (scrubLogged v n old).kn.knots = v.kn.knots := rfl

theorem tiles_scrubLogged (v : State) (n old : Nat) : (scrubLogged v n old).tiles = v.tiles := rfl

theorem exec_gloveScrubDone {n : Fin 64} (h : s.gstate n = gSCRUB) :
    exec (.gloveScrubDone n) s = done s (retired (scrubLogged (nextEpoch s n) n (s.gepoch n)) n) := by
  have hexec : exec (.gloveScrubDone n) s = execGloveScrubDone n s := rfl
  refine hexec.trans ?_
  delta execGloveScrubDone nextEpoch
  refine (if_pos h).trans ?_
  generalize s.scrub n = v
  rfl

theorem gloveScrubDone_goes {n : Fin 64} (h : s.gstate n = gSCRUB) : Goes (.gloveScrubDone n) s (fun t =>
    t.gstate n = gRETIRED ∧ t.gid n = s.gid n ∧ t.gepoch n = (s.gepoch n + 1) % 65536
      ∧ t.record n = some (s.gid n, (s.gepoch n + 1) % 65536) ∧ (∀ i, s.ownsKnot n i = true → t.knot i = {})
      ∧ ∀ k, (s.ctx k).task ≠ none → (s.ctx k).glove = n → t.ctx k = {}) := by
  have hregs := regs_scrubLogged (nextEpoch s n) n (s.gepoch n)
  have hgid := (hregs.gid n.isLt).trans (gid_nextEpoch n.isLt)
  have hepoch := (hregs.gepoch n.isLt).trans (gepoch_nextEpoch s n)
  have hknots := (knots_scrubLogged (nextEpoch s n) n (s.gepoch n)).trans (knots_nextEpoch s n)
  have htiles := (tiles_scrubLogged (nextEpoch s n) n (s.gepoch n)).trans (tiles_nextEpoch s n)
  have he := exec_gloveScrubDone h
  generalize scrubLogged (nextEpoch s n) n (s.gepoch n) = u at hgid hepoch hknots htiles he
  have hknot : ∀ i, u.knot i = (s.scrub n).knot i := fun i => by rw [State.knot, hknots]; rfl
  have hctx : ∀ k, u.ctx k = (s.scrub n).ctx k := fun k => by rw [State.ctx, State.tile, htiles]; rfl
  have hrecord := record_retired u n
  rw [hgid, hepoch] at hrecord
  exact goes_of_done he ⟨gstate_retired u n, (cfg0_retired u n _).trans hgid, (cfg0_retired u n _).trans hepoch, hrecord,
    fun i hown => ((knot_retired u n i).trans (hknot i)).trans (knot_scrubbed n.isLt hown),
    fun k htask hglove => ((ctx_retired u n k).trans (hctx k)).trans (ctx_scrubbed htask hglove)⟩

end Sys2Proof.Claims

open Sys2Proof.Claims

/-- Settles O17, a lemma for each stage of a glove's life. -/
theorem gloveLife : Obligations.GloveLife := by
  unfold Obligations.GloveLife
  refine ⟨fun n s h => create_makes h,
    fun n s h => goes_statusOnly (exec_create_refused (createStatus_busy h) (by decide)) (by decide), fun n s h hsame => ?_,
    fun n s h => teardown_nothing h, fun n s h => teardown_active h, fun n s h hleft => drain_goes h hleft,
    fun n s h => gloveScrubDone_goes h⟩
  rw [← h]
  exact goes_statusOnly (exec_create_refused (createStatus_denied h hsame) (by decide)) (by decide)
end

section
/-! O43: the self-test of a tile, its end, and the fence of a tile through the arbiter (R36, R94, R100, R360). -/

namespace Sys2Proof.Claims

open Machine Reg

variable {s t u : State} {n : Nat}

/-! ### The registers of a tile -/

/-- Nothing but control registers has changed. -/
def ctlWritten (s u : State) : Prop := u = { s with ctl := u.ctl }

theorem ctlWritten.refl (s : State) : ctlWritten s s := rfl

theorem ctlWritten.trans (h : ctlWritten s t) (g : ctlWritten t u) : ctlWritten s u := by
  rw [ctlWritten] at h g ⊢
  rw [g, h]

theorem ctlWritten_fset (o : Nat) (f : Fld) (v : Nat) : ctlWritten s (s.fset o f v) := rfl
theorem ctlWritten_setReg (o : Nat) (v : W64) : ctlWritten s (s.setReg o v) := rfl

theorem ctlWritten.ctlOnly (h : ctlWritten s u) : ctlOnly s u := by
  rw [h]
  exact ⟨⟨rfl, rfl, rfl, rfl, rfl, rfl, rfl, rfl, rfl⟩, rfl⟩

theorem ctlWritten.svc (h : ctlWritten s u) : u.svc = s.svc := by rw [h]

theorem ctlOnly.upd {q : List Instr} (h : ctlOnly s u) : ctlOnly s { u with pending := q } := h

theorem ctlOnly.trans (h : ctlOnly s t) (g : ctlOnly t u) : ctlOnly s u := by
  obtain ⟨⟨h1, h2, h3, h4, h5, h6, h7, h8, h9⟩, h10⟩ := h
  obtain ⟨⟨g1, g2, g3, g4, g5, g6, g7, g8, g9⟩, g10⟩ := g
  exact ⟨⟨g1.trans h1, g2.trans h2, g3.trans h3, g4.trans h4, g5.trans h5, g6.trans h6, g7.trans h7, g8.trans h8,
    g9.trans h9⟩, g10.trans h10⟩

theorem ctlOnly_event (c a b d e : Nat) : ctlOnly s (s.event c a b d e) :=
  ⟨⟨State.event_mem .., State.event_kn .., State.event_tiles .., State.event_slice .., State.event_rt .., State.event_ports ..,
    State.event_hub .., State.event_brm .., State.event_pwr ..⟩, State.event_mm ..⟩

/-- Two registers of one tile's window are apart. -/
theorem tile_apart {d e : Nat} (h : d ≠ e) (n : Nat) : d + 0x100000 * n ≠ e + 0x100000 * n := by omega

/-- A tile's window lies below the registers of the event log, of the journal and of the arbiter. -/
theorem tile_low {d n : Nat} (hd : d < 0x100000) (hn : n < 256) : d + 0x100000 * n < 0x10000000 := by omega

theorem test_low (n : Fin 256) : TILE_TEST n < 0x10000000 := tile_low (by decide) n.isLt
theorem testmap_low (n : Fin 256) : TILE_TESTMAP n < 0x10000000 := tile_low (by decide) n.isLt
theorem colmap_low (n : Fin 256) : TILE_COLMAP n < 0x10000000 := tile_low (by decide) n.isLt
theorem cap_low (n : Fin 256) : TILE_CAP n < 0x10000000 := tile_low (by decide) n.isLt
theorem ctl_low (n : Fin 256) : TILE_CTL n < 0x10000000 := tile_low (by decide) n.isLt

theorem low_not_log {o : Nat} (ho : o < 0x10000000) : o ≠ SVC_EVLOG ∧ o ≠ SVC_EVLOG_LOST ∧ o ≠ SEC_JNL_HEAD := by
  simp only [SVC_EVLOG, SVC_EVLOG_LOST, SEC_JNL_HEAD]
  omega

theorem reg_event_low {o : Nat} (ho : o < 0x10000000) (c a b d e : Nat) : (s.event c a b d e).reg o = s.reg o := by
  obtain ⟨h1, h2, h3⟩ := low_not_log ho
  exact State.reg_event h1 h2 h3 ..

theorem fget_event_low {o : Nat} (ho : o < 0x10000000) (f : Fld) (c a b d e : Nat) :
    (s.event c a b d e).fget o f = s.fget o f := by
  rw [State.fget, reg_event_low ho]
  rfl

/-! ### The end of a fence (R94, R100) -/

theorem ctlWritten_unfenceTile (n : Nat) : ctlWritten s (s.unfenceTile n) := by
  unfold State.unfenceTile
  dsimp only
  split <;> rfl

theorem reg_unfenceTile {o : Nat} (h1 : o ≠ TILE_CTL n) (h2 : o ≠ TILE_CAP n) : (s.unfenceTile n).reg o = s.reg o := by
  unfold State.unfenceTile
  exact at_ite (State.reg · o) (by rw [State.reg_fset_ne h2, State.reg_fset_ne h1]) (State.reg_fset_ne h1 _ _)

theorem fget_unfenceTile {o : Nat} (h1 : o ≠ TILE_CTL n) (h2 : o ≠ TILE_CAP n) (f : Fld) :
    (s.unfenceTile n).fget o f = s.fget o f := by
  rw [State.fget, reg_unfenceTile h1 h2]
  rfl

theorem fence_unfenceTile (s : State) (n : Nat) : (s.unfenceTile n).fget (TILE_CTL n) TILE_CTL_FENCE = 0 := by
  have hcap : TILE_CTL n ≠ TILE_CAP n := tile_apart (by decide) n
  have hfset : (s.fset (TILE_CTL n) TILE_CTL_FENCE 0).fget (TILE_CTL n) TILE_CTL_FENCE = 0 :=
    State.fget_fset _ _ _ (by decide) (by decide)
  unfold State.unfenceTile
  exact at_ite (fun u => u.fget (TILE_CTL n) TILE_CTL_FENCE) (by rw [State.fget_fset_ne hcap, hfset]) hfset

/-- The tile is released unless a self-test runs or has found it below grade. -/
theorem fenced_unfenceTile (s : State) (n : Nat) : (s.unfenceTile n).fget (TILE_CAP n) TILE_CAP_FENCED =
    if s.fget (TILE_TEST n) TILE_TEST_RUNNING = 0 ∧ s.fget (TILE_TEST n) TILE_TEST_RESULT ≠ 3 then 0
    else s.fget (TILE_CAP n) TILE_CAP_FENCED := by
  have htest : TILE_TEST n ≠ TILE_CTL n := tile_apart (by decide) n
  have hcap : TILE_CAP n ≠ TILE_CTL n := tile_apart (by decide) n
  simp only [State.unfenceTile, State.fget_fset_ne htest]
  split
  · exact State.fget_fset _ _ _ (by decide) (by decide)
  · exact State.fget_fset_ne hcap _ _ _

theorem width_unfenceTile (s : State) (n : Nat) :
    (s.unfenceTile n).fget (TILE_CAP n) TILE_CAP_WIDTH = s.fget (TILE_CAP n) TILE_CAP_WIDTH := by
  have hcap : TILE_CAP n ≠ TILE_CTL n := tile_apart (by decide) n
  have hctl : ∀ v, (s.fset (TILE_CTL n) TILE_CTL_FENCE v).fget (TILE_CAP n) TILE_CAP_WIDTH =
      s.fget (TILE_CAP n) TILE_CAP_WIDTH := fun v => State.fget_fset_ne hcap _ _ v
  unfold State.unfenceTile
  refine at_ite (fun u => u.fget (TILE_CAP n) TILE_CAP_WIDTH) ?_ (hctl 0)
  exact (State.fget_fset_apart _ _ _ _ (by decide) (by decide) (by decide) (by decide)).trans (hctl 0)

/-! ### The self-test (R94) -/

theorem testStart_starts {n : Fin 256} (hf : s.fenced n = true) (ho : (s.tile n).occupied = 0) :
    Goes (.tileTestStart n) s (fun u => u.fget (TILE_TEST n) TILE_TEST_RUNNING = 1 ∧ u.fget (TILE_TEST n) TILE_TEST_RESULT = 0
      ∧ u.fget (TILE_TEST n) TILE_TEST_STATUS = ST_OK ∧ regsBut s u [TILE_TEST n] ∧ ctlOnly s u) := by
  refine goes_of_done (if_pos ⟨hf, ho⟩) ⟨?_, ?_, ?_, fun o h => ?_,
    (((ctlWritten_fset _ _ _).trans (ctlWritten_fset _ _ _)).trans (ctlWritten_fset _ _ _)).ctlOnly.upd⟩
  · rw [fget_pending, State.fget_fset_apart _ _ _ _ (by decide) (by decide) (by decide) (by decide),
      State.fget_fset_apart _ _ _ _ (by decide) (by decide) (by decide) (by decide)]
    exact State.fget_fset _ _ _ (by decide) (by decide)
  · rw [fget_pending, State.fget_fset_apart _ _ _ _ (by decide) (by decide) (by decide) (by decide)]
    exact State.fget_fset _ _ _ (by decide) (by decide)
  · rw [fget_pending]
    exact State.fget_fset _ _ _ (by decide) (by decide)
  · rw [reg_pending]
    simp only [State.reg_fset_ne (List.ne_of_not_mem_cons h)]

theorem testStart_refused {n : Fin 256} (h : s.fenced n = false ∨ (s.tile n).occupied ≠ 0) :
    Goes (.tileTestStart n) s (fun u => u.fget (TILE_TEST n) TILE_TEST_STATUS = ST_BUSY
      ∧ u.fget (TILE_TEST n) TILE_TEST_RUNNING = s.fget (TILE_TEST n) TILE_TEST_RUNNING
      ∧ regsBut s u [TILE_TEST n] ∧ ctlOnly s u) := by
  have hno : ¬ (s.fenced n = true ∧ (s.tile n).occupied = 0) := fun ⟨hf, ho⟩ =>
    h.elim (fun h => Bool.false_ne_true (h.symm.trans hf)) fun h => h ho
  refine goes_of_done (if_neg hno) ⟨?_, ?_, fun o h => ?_, (ctlWritten_fset _ _ _).ctlOnly.upd⟩
  · rw [fget_pending]
    exact State.fget_fset _ _ _ (by decide) (by decide)
  · rw [fget_pending]
    exact State.fget_fset_apart _ _ _ _ (by decide) (by decide) (by decide) (by decide)
  · rw [reg_pending, State.reg_fset_ne (List.ne_of_not_mem_cons h)]

/-- A tile released when its self-test ends, unless TILE_CTL fences it. -/
def testReleased (s : State) (n : Nat) : State := if s.fget (TILE_CTL n) TILE_CTL_FENCE = 0 then s.unfenceTile n else s

theorem ctlWritten_testReleased (s : State) (n : Nat) : ctlWritten s (testReleased s n) := by
  unfold testReleased
  split
  · exact ctlWritten_unfenceTile n
  · exact .refl s

theorem reg_testReleased {o : Nat} (h1 : o ≠ TILE_CTL n) (h2 : o ≠ TILE_CAP n) : (testReleased s n).reg o = s.reg o :=
  at_ite (State.reg · o) (reg_unfenceTile h1 h2) rfl

theorem test_testReleased (s : State) (n : Nat) (f : Fld) : (testReleased s n).fget (TILE_TEST n) f = s.fget (TILE_TEST n) f := by
  have hctl : TILE_TEST n ≠ TILE_CTL n := tile_apart (by decide) n
  have hcap : TILE_TEST n ≠ TILE_CAP n := tile_apart (by decide) n
  rw [State.fget, reg_testReleased hctl hcap]
  rfl

theorem testmap_testReleased (s : State) (n : Nat) : (testReleased s n).reg (TILE_TESTMAP n) = s.reg (TILE_TESTMAP n) :=
  reg_testReleased (tile_apart (by decide) n) (tile_apart (by decide) n)

theorem colmap_testReleased (s : State) (n : Nat) : (testReleased s n).reg (TILE_COLMAP n) = s.reg (TILE_COLMAP n) :=
  reg_testReleased (tile_apart (by decide) n) (tile_apart (by decide) n)

theorem width_testReleased (s : State) (n : Nat) :
    (testReleased s n).fget (TILE_CAP n) TILE_CAP_WIDTH = s.fget (TILE_CAP n) TILE_CAP_WIDTH :=
  at_ite (fun u => u.fget (TILE_CAP n) TILE_CAP_WIDTH) (width_unfenceTile s n) rfl

theorem fenced_testReleased (hrun : s.fget (TILE_TEST n) TILE_TEST_RUNNING = 0)
    (hres : s.fget (TILE_TEST n) TILE_TEST_RESULT ≠ 3) (hctl : s.fget (TILE_CTL n) TILE_CTL_FENCE = 0) :
    (testReleased s n).fget (TILE_CAP n) TILE_CAP_FENCED = 0 := by
  rw [testReleased, if_pos hctl, fenced_unfenceTile, if_pos ⟨hrun, hres⟩]

theorem belowGrade_testReleased (hres : s.fget (TILE_TEST n) TILE_TEST_RESULT = 3) :
    (testReleased s n).fget (TILE_CAP n) TILE_CAP_FENCED = s.fget (TILE_CAP n) TILE_CAP_FENCED := by
  refine at_ite (fun u => u.fget (TILE_CAP n) TILE_CAP_FENCED) ?_ rfl
  rw [fenced_unfenceTile, if_neg fun h => h.2 hres]

/-- The end of a self-test: no longer running, with its map and its result. -/
def tested (s : State) (n : Nat) (map : W64) (r : Nat) : State :=
  ((s.fset (TILE_TEST n) TILE_TEST_RUNNING 0).setReg (TILE_TESTMAP n) map).fset (TILE_TEST n) TILE_TEST_RESULT r

/-- A tile narrowed past its failed columns. -/
def narrowed (s : State) (n : Nat) (map : W64) : State :=
  ((tested s n map 2).setReg (TILE_COLMAP n) (s.reg (TILE_COLMAP n) ||| map)).fset (TILE_CAP n) TILE_CAP_WIDTH
    (64 - popCount (s.reg (TILE_COLMAP n) ||| map))

theorem ctlWritten_tested (s : State) (n : Nat) (map : W64) (r : Nat) : ctlWritten s (tested s n map r) := rfl

theorem reg_tested {o : Nat} (h1 : o ≠ TILE_TEST n) (h2 : o ≠ TILE_TESTMAP n) (map : W64) (r : Nat) :
    (tested s n map r).reg o = s.reg o := by
  rw [tested, State.reg_fset_ne h1, State.reg_setReg_ne h2, State.reg_fset_ne h1]

theorem running_tested (s : State) (n : Nat) (map : W64) (r : Nat) :
    (tested s n map r).fget (TILE_TEST n) TILE_TEST_RUNNING = 0 := by
  have hne : TILE_TEST n ≠ TILE_TESTMAP n := tile_apart (by decide) n
  rw [tested, State.fget_fset_apart _ _ _ _ (by decide) (by decide) (by decide) (by decide), State.fget,
    State.reg_setReg_ne hne]
  exact State.fget_fset _ _ _ (by decide) (by decide)

theorem result_tested (s : State) (n : Nat) (map : W64) {r : Nat} (hr : r < 4) :
    (tested s n map r).fget (TILE_TEST n) TILE_TEST_RESULT = r :=
  (State.fget_fset _ _ _ (by decide) (by decide)).trans (Nat.mod_eq_of_lt hr)

theorem testmap_tested (s : State) (n : Nat) (map : W64) (r : Nat) : (tested s n map r).reg (TILE_TESTMAP n) = map := by
  have hne : TILE_TESTMAP n ≠ TILE_TEST n := tile_apart (by decide) n
  rw [tested, State.reg_fset_ne hne, State.reg_setReg_same]

theorem colmap_tested (s : State) (n : Nat) (map : W64) (r : Nat) :
    (tested s n map r).reg (TILE_COLMAP n) = s.reg (TILE_COLMAP n) :=
  reg_tested (tile_apart (by decide) n) (tile_apart (by decide) n) map r

theorem cap_tested (s : State) (n : Nat) (map : W64) (r : Nat) (f : Fld) :
    (tested s n map r).fget (TILE_CAP n) f = s.fget (TILE_CAP n) f := by
  have hcap : (tested s n map r).reg (TILE_CAP n) = s.reg (TILE_CAP n) :=
    reg_tested (tile_apart (by decide) n) (tile_apart (by decide) n) map r
  rw [State.fget, hcap]
  rfl

theorem ctl_tested (s : State) (n : Nat) (map : W64) (r : Nat) (f : Fld) :
    (tested s n map r).fget (TILE_CTL n) f = s.fget (TILE_CTL n) f := by
  have hctl : (tested s n map r).reg (TILE_CTL n) = s.reg (TILE_CTL n) :=
    reg_tested (tile_apart (by decide) n) (tile_apart (by decide) n) map r
  rw [State.fget, hctl]
  rfl

theorem colmap_running (s : State) (n : Nat) (map : W64) :
    ((s.fset (TILE_TEST n) TILE_TEST_RUNNING 0).setReg (TILE_TESTMAP n) map).reg (TILE_COLMAP n) = s.reg (TILE_COLMAP n) := by
  have htest : TILE_COLMAP n ≠ TILE_TEST n := tile_apart (by decide) n
  have hmap : TILE_COLMAP n ≠ TILE_TESTMAP n := tile_apart (by decide) n
  rw [State.reg_setReg_ne hmap, State.reg_fset_ne htest]

theorem ctlWritten_narrowed (s : State) (n : Nat) (map : W64) : ctlWritten s (narrowed s n map) :=
  ((ctlWritten_tested s n map 2).trans (ctlWritten_setReg _ _)).trans (ctlWritten_fset _ _ _)

theorem test_narrowed (s : State) (n : Nat) (map : W64) (f : Fld) :
    (narrowed s n map).fget (TILE_TEST n) f = (tested s n map 2).fget (TILE_TEST n) f := by
  have hcap : TILE_TEST n ≠ TILE_CAP n := tile_apart (by decide) n
  have hcol : TILE_TEST n ≠ TILE_COLMAP n := tile_apart (by decide) n
  rw [narrowed, State.fget_fset_ne hcap, State.fget, State.reg_setReg_ne hcol]
  rfl

theorem testmap_narrowed (s : State) (n : Nat) (map : W64) : (narrowed s n map).reg (TILE_TESTMAP n) = map := by
  have hcap : TILE_TESTMAP n ≠ TILE_CAP n := tile_apart (by decide) n
  have hcol : TILE_TESTMAP n ≠ TILE_COLMAP n := tile_apart (by decide) n
  rw [narrowed, State.reg_fset_ne hcap, State.reg_setReg_ne hcol, testmap_tested]

theorem colmap_narrowed (s : State) (n : Nat) (map : W64) :
    (narrowed s n map).reg (TILE_COLMAP n) = s.reg (TILE_COLMAP n) ||| map := by
  have hcap : TILE_COLMAP n ≠ TILE_CAP n := tile_apart (by decide) n
  rw [narrowed, State.reg_fset_ne hcap, State.reg_setReg_same]

theorem width_narrowed (s : State) (n : Nat) (map : W64) : (narrowed s n map).fget (TILE_CAP n) TILE_CAP_WIDTH =
    64 - popCount (s.reg (TILE_COLMAP n) ||| map) := by
  rw [narrowed, State.fget_fset _ _ _ (by decide) (by decide)]
  generalize popCount (s.reg (TILE_COLMAP n) ||| map) = p
  exact Nat.mod_eq_of_lt (lt_of_le_of_lt (Nat.sub_le 64 p) (by decide))

section
variable {n : Fin 256} {map : W64} (hrun : s.fget (TILE_TEST n.val) TILE_TEST_RUNNING = 1)
include hrun

theorem exec_selfTest_passes : exec (.tileSelfTestDone n 0) s = done s (testReleased (tested s n 0 1) n) := by
  show execTileSelfTestDone n 0 s = _
  simp only [execTileSelfTestDone, hrun, if_true]
  exact (apply_ite (done s) _ _ _).symm

theorem exec_selfTest_narrows (hmap : map ≠ 0) (hw : popCount (s.reg (TILE_COLMAP n.val) ||| map) ≤ 4) :
    exec (.tileSelfTestDone n map) s = done s (testReleased ((narrowed s n map).event 0x0103 n 0x3F map.toNat
      (64 - popCount (s.reg (TILE_COLMAP n.val) ||| map))) n) := by
  have hwide : 60 ≤ 64 - popCount (s.reg (TILE_COLMAP n.val) ||| map) := by omega
  show execTileSelfTestDone n map s = _
  simp only [execTileSelfTestDone, hrun, if_true, if_neg hmap, colmap_running, if_pos hwide]
  exact (apply_ite (done s) _ _ _).symm

theorem exec_selfTest_fails (hmap : map ≠ 0) (hw : 4 < popCount (s.reg (TILE_COLMAP n.val) ||| map)) :
    exec (.tileSelfTestDone n map) s =
      done s (testReleased ((tested s n map 3).event 0x0104 n 0x3F map.toNat 0) n) := by
  have hnarrow : ¬ 60 ≤ 64 - popCount (s.reg (TILE_COLMAP n.val) ||| map) := by omega
  show execTileSelfTestDone n map s = _
  simp only [execTileSelfTestDone, hrun, if_true, if_neg hmap, colmap_running, if_neg hnarrow]
  exact (apply_ite (done s) _ _ _).symm

theorem selfTest_passes : Goes (.tileSelfTestDone n 0) s (fun u =>
    u.fget (TILE_TEST n) TILE_TEST_RUNNING = 0 ∧ u.fget (TILE_TEST n) TILE_TEST_RESULT = 1
      ∧ u.reg (TILE_TESTMAP n) = 0 ∧ u.reg (TILE_COLMAP n) = s.reg (TILE_COLMAP n)
      ∧ (s.fget (TILE_CTL n) TILE_CTL_FENCE = 0 → u.fget (TILE_CAP n) TILE_CAP_FENCED = 0) ∧ ctlOnly s u) := by
  have hres : (tested s n 0 1).fget (TILE_TEST n) TILE_TEST_RESULT = 1 := result_tested s n 0 (by decide)
  have hrunning := running_tested s n 0 1
  refine goes_of_done (exec_selfTest_passes hrun) ⟨(test_testReleased _ n _).trans hrunning, (test_testReleased _ n _).trans hres,
    (testmap_testReleased _ n).trans (testmap_tested s n 0 1), (colmap_testReleased _ n).trans (colmap_tested s n 0 1),
    fun hctl => ?_, ((ctlWritten_tested s n 0 1).trans (ctlWritten_testReleased _ n)).ctlOnly.upd⟩
  exact fenced_testReleased hrunning (by rw [hres]; decide) ((ctl_tested s n 0 1 _).trans hctl)

theorem selfTest_narrows (hmap : map ≠ 0) (hw : popCount (s.reg (TILE_COLMAP n.val) ||| map) ≤ 4) :
    Goes (.tileSelfTestDone n map) s (fun u => u.fget (TILE_TEST n) TILE_TEST_RUNNING = 0
      ∧ u.fget (TILE_TEST n) TILE_TEST_RESULT = 2 ∧ u.reg (TILE_TESTMAP n) = map
      ∧ u.reg (TILE_COLMAP n) = s.reg (TILE_COLMAP n) ||| map
      ∧ u.fget (TILE_CAP n) TILE_CAP_WIDTH = 64 - popCount (s.reg (TILE_COLMAP n) ||| map) ∧ ctlOnly s u) := by
  refine goes_of_done (exec_selfTest_narrows hrun hmap hw) ⟨(test_testReleased _ n _).trans ?_,
    (test_testReleased _ n _).trans ?_, (testmap_testReleased _ n).trans ?_, (colmap_testReleased _ n).trans ?_,
    (width_testReleased _ n).trans ?_,
    (((ctlWritten_narrowed s n map).ctlOnly.trans (ctlOnly_event _ _ _ _ _)).trans (ctlWritten_testReleased _ n).ctlOnly).upd⟩
  · rw [fget_event_low (test_low n), test_narrowed, running_tested]
  · rw [fget_event_low (test_low n), test_narrowed, result_tested s n map (by decide)]
  · rw [reg_event_low (testmap_low n), testmap_narrowed]
  · rw [reg_event_low (colmap_low n), colmap_narrowed]
  · rw [fget_event_low (cap_low n), width_narrowed]

theorem selfTest_fails (hmap : map ≠ 0) (hw : 4 < popCount (s.reg (TILE_COLMAP n.val) ||| map)) :
    Goes (.tileSelfTestDone n map) s (fun u => u.fget (TILE_TEST n) TILE_TEST_RUNNING = 0
      ∧ u.fget (TILE_TEST n) TILE_TEST_RESULT = 3 ∧ u.reg (TILE_TESTMAP n) = map
      ∧ u.reg (TILE_COLMAP n) = s.reg (TILE_COLMAP n)
      ∧ u.fget (TILE_CAP n) TILE_CAP_FENCED = s.fget (TILE_CAP n) TILE_CAP_FENCED
      ∧ raised s u 0x0104 n 0x3F map.toNat 0 ∧ ctlOnly s u) := by
  have hres : ((tested s n map 3).event 0x0104 n 0x3F map.toNat 0).fget (TILE_TEST n) TILE_TEST_RESULT = 3 :=
    (fget_event_low (test_low n) _ _ _ _ _ _).trans (result_tested s n map (by decide))
  have hevlog : (tested s n map 3).reg SVC_EVLOG = s.reg SVC_EVLOG := by
    refine reg_tested ?_ ?_ map 3
    · simp only [SVC_EVLOG, TILE_TEST]; omega
    · simp only [SVC_EVLOG, TILE_TESTMAP]; omega
  have hraised := raised_event hevlog (u := tested s n map 3) rfl 0x0104 n 0x3F map.toNat 0
  rw [raised, ← (ctlWritten_testReleased _ n).svc] at hraised
  refine goes_of_done (exec_selfTest_fails hrun hmap hw) ⟨(test_testReleased _ n _).trans ?_, (test_testReleased _ n _).trans hres,
    (testmap_testReleased _ n).trans ?_, (colmap_testReleased _ n).trans ?_, (belowGrade_testReleased hres).trans ?_, hraised,
    (((ctlWritten_tested s n map 3).ctlOnly.trans (ctlOnly_event _ _ _ _ _)).trans (ctlWritten_testReleased _ n).ctlOnly).upd⟩
  · exact (fget_event_low (test_low n) _ _ _ _ _ _).trans (running_tested s n map 3)
  · exact (reg_event_low (testmap_low n) _ _ _ _ _).trans (testmap_tested s n map 3)
  · exact (reg_event_low (colmap_low n) _ _ _ _ _).trans (colmap_tested s n map 3)
  · exact (fget_event_low (cap_low n) _ _ _ _ _ _).trans (cap_tested s n map 3 _)

end

end Sys2Proof.Claims
end

section
/-! O43, further: a write of TILE_CTL, whose round of arbitration ends with it, and what the fence does (R36, R100, R360). -/

namespace Sys2Proof.Claims

open Machine Reg

variable {s t u : State} {n src : Nat}

/-! ### A write of TILE_CTL, whose round ends with it (R360) -/

theorem isTileCtl_tileCtl (hn : n < 256) : isTileCtl (TILE_CTL n) = true := by
  have hlow : TILE_CTL n < TILE_CTL 256 := by simp only [TILE_CTL]; omega
  have hmod : TILE_CTL n % 0x100000 = 0x10 := by simp only [TILE_CTL]; omega
  simp [isTileCtl, hlow, hmod]

theorem window_tileCtl (n : Nat) : TILE_CTL n / 0x100000 = n := by simp only [TILE_CTL]; omega

theorem isPortCfg_tileCtl (hn : n < 256) : isPortCfg (TILE_CTL n) = false := by
  have hlow : ¬ (PORT_CFG 0 ≤ TILE_CTL n ∧ TILE_CTL n < PORT_CFG 32) := by simp only [PORT_CFG, TILE_CTL]; omega
  rw [isPortCfg, decide_eq_false hlow, Bool.false_and]

/-- TILE_CTL is none of the registers that the arbiter treats apart. -/
theorem tileCtl_ne (hn : n < 256) : TILE_CTL n ≠ PWR_STATE ∧ TILE_CTL n ≠ PWR_LIMIT ∧ TILE_CTL n ≠ TIME_CFG := by
  simp only [TILE_CTL, PWR_STATE, PWR_LIMIT, TIME_CFG]; omega

theorem regAt_tileCtl (hn : n < 256) : regAt (TILE_CTL n) =
    some ⟨0x10, [], [⟨63, 1, .RSV, 0, false⟩, ⟨0, 0, .RW, 0, false⟩]⟩ := by
  have hmod : TILE_CTL n % 0x100000 = 0x10 := by simp only [TILE_CTL]; omega
  rw [regAt, window_tileCtl, hmod, windowRegs, if_pos hn]
  rfl

/-- Its one arbitrated field is FENCE. -/
theorem arbFields_tileCtl (hn : n < 256) (src : Nat) (v : W64) :
    arbFields (TILE_CTL n) src v = [(TILE_CTL_FENCE, bits v 0 0)] := by
  obtain ⟨hpwr, hlimit, htime⟩ := tileCtl_ne hn
  have hclamp : ∀ f x, arbClamp (TILE_CTL n) f x = x := fun f x => by
    simp only [arbClamp, hlimit, isPortCfg_tileCtl hn, Bool.false_eq_true, false_and, if_false]
  simp [arbFields, regAt_tileCtl hn, hclamp, hpwr, hlimit, htime, isPortCfg_tileCtl hn]

/-- The request that a write of FENCE makes. -/
def fenceSlot (n src : Nat) (v : W64) : ArbSlot := ⟨TILE_CTL n, 0, rankOf src, src, bits v 0 0⟩

section
variable {l : List ArbSlot} (hl : ∀ x ∈ l, x.off ≠ TILE_CTL n)
include hl

/-- Nobody else asks for the field: the write's request is the only one. -/
theorem arbWinner_fence (src : Nat) (v : W64) :
    arbWinner (l ++ [fenceSlot n src v]) (TILE_CTL n) 0 = some (fenceSlot n src v) := by
  have hnone : l.filter (fun x => x.off == TILE_CTL n && x.lo == 0) = [] :=
    List.filter_eq_nil_iff.mpr fun x hx => by simp [hl x hx]
  have hone : [fenceSlot n src v].filter (fun x => x.off == TILE_CTL n && x.lo == 0) = [fenceSlot n src v] := by
    simp [fenceSlot]
  rw [arbWinner, List.filter_append, hnone, hone]
  rfl

theorem fillSlot_fence (src : Nat) (v : W64) : fillSlot l (fenceSlot n src v) = l ++ [fenceSlot n src v] := by
  have hall : l.filter (fun y => !(y.same (fenceSlot n src v))) = l :=
    List.filter_eq_self.mpr fun y hy => by simp [ArbSlot.same, fenceSlot, hl y hy]
  rw [fillSlot, hall]

end

/-- The state in which a write of FENCE alone has filled its slot. -/
def fenceAsked (s : State) (n src : Nat) (v : W64) : State :=
  { s with svc := { s.svc with slots := s.svc.slots ++ [fenceSlot n src v], round := [] } }

theorem arbWrite_tileCtl (hn : n < 256) (src : Nat) (v : W64) : s.arbWrite (TILE_CTL n) src v =
    { s with svc := { s.svc with round := s.svc.round ++ [⟨TILE_CTL n, src, v⟩] } } := by
  obtain ⟨hpwr, -, -⟩ := tileCtl_ne hn
  simp only [State.arbWrite, State.arbReserved, hpwr, isPortCfg_tileCtl hn, Bool.false_eq_true, if_false]

theorem arbTouched_fence (hn : n < 256) (src : Nat) (v : W64) :
    arbTouched [fenceSlot n src v] [⟨TILE_CTL n, src, v⟩] = [(TILE_CTL n, TILE_CTL_FENCE)] := by
  rw [arbTouched, List.flatMap_singleton, arbFields_tileCtl hn]
  simp [fenceSlot, List.eraseDups_cons]

theorem arbSolo_tileCtl (hn : n < 256) (hcalm : arbCalm s (TILE_CTL n)) (src : Nat) (v : W64) :
    s.arbSolo (TILE_CTL n) src v =
      ((fenceAsked s n src v).applyField (TILE_CTL n) TILE_CTL_FENCE (bits v 0 0) src).arbOutcome ⟨TILE_CTL n, src, v⟩ := by
  obtain ⟨hround, hslots⟩ := hcalm
  have hjoin : joinRound [] ⟨TILE_CTL n, TILE_CTL_FENCE.lo, rankOf src, src, bits v 0 0⟩ = [fenceSlot n src v] := rfl
  have hfill : [fenceSlot n src v].foldl fillSlot s.svc.slots = s.svc.slots ++ [fenceSlot n src v] :=
    fillSlot_fence hslots src v
  have hmine : [fenceSlot n src v].contains (fenceSlot n src v) = true := by simp
  rw [State.arbSolo, arbWrite_tileCtl hn, hround]
  simp only [State.roundEnd, List.nil_append, List.foldl_cons, List.foldl_nil, arbFields_tileCtl hn, hjoin,
    arbTouched_fence hn, fillSlot_fence hslots, arbWinner_fence hslots, hmine, Bool.true_or, if_true]
  rfl

/-- The write completes: it is not superseded, and SVC_ARB_LAST tells its source so. -/
theorem arbOutcome_fence (hn : n < 256) (hcalm : arbCalm s (TILE_CTL n)) (v : W64)
    (hu : u.svc.slots = s.svc.slots ++ [fenceSlot n src v]) : u.arbOutcome ⟨TILE_CTL n, src, v⟩ =
      u.setReg (SVC_ARB_LAST src) (arbLast 0 src (TILE_CTL n)) := by
  refine arbOutcome_kept ?_
  have hval : arbValue u.svc.slots (TILE_CTL n) TILE_CTL_FENCE = bits v 0 0 := by
    rw [hu, arbValue, arbWinner_fence hcalm.2]
    rfl
  simp [arbFields_tileCtl hn, hval]

theorem applyField_fence (hn : n < 256) {x : Nat} (hx : x = 1) (hf : s.fget (TILE_CTL n) TILE_CTL_FENCE = 0) (src : Nat) :
    s.applyField (TILE_CTL n) TILE_CTL_FENCE x src = s.fenceTile n := by
  rw [State.applyField, if_pos (isTileCtl_tileCtl hn), if_pos hx, window_tileCtl, hf]
  rfl

theorem applyField_unfence (hn : n < 256) {x : Nat} (hx : x ≠ 1) (src : Nat) :
    s.applyField (TILE_CTL n) TILE_CTL_FENCE x src = s.unfenceTile n := by
  rw [State.applyField, if_pos (isTileCtl_tileCtl hn), if_neg hx, window_tileCtl]

theorem bits_zero_of_set {v : W64} (h : v.getLsbD 0 = true) : bits v 0 0 = 1 := by
  rw [BitVec.getLsbD, Nat.testBit_zero] at h
  simpa [bits] using h

theorem bits_zero_of_clear {v : W64} (h : v.getLsbD 0 = false) : bits v 0 0 ≠ 1 := by
  rw [BitVec.getLsbD, Nat.testBit_zero] at h
  simpa [bits] using h

theorem ctlOnly_fenceAsked (s : State) (n src : Nat) (v : W64) :
    ctlOnly s (fenceAsked s n src v) := ⟨⟨rfl, rfl, rfl, rfl, rfl, rfl, rfl, rfl, rfl⟩, rfl⟩

theorem fget_fenceAsked (src : Nat) (v : W64) (o : Nat) (f : Fld) : (fenceAsked s n src v).fget o f = s.fget o f := rfl
theorem ctx_fenceAsked (src : Nat) (v : W64) (k : CtxId) : (fenceAsked s n src v).ctx k = s.ctx k := rfl
theorem slots_fenceAsked (src : Nat) (v : W64) :
    (fenceAsked s n src v).svc.slots = s.svc.slots ++ [fenceSlot n src v] := rfl

/-- A register of a tile is not the arbiter's. -/
theorem low_not_arbLast {o : Nat} (ho : o < 0x10000000) (src : Nat) : o ≠ SVC_ARB_LAST src := by
  simp only [SVC_ARB_LAST]; omega

/-! ### The release of a fence -/

/-- The state after a write of FENCE that has had its effect. -/
def answeredFence (u : State) (n src : Nat) : State := u.setReg (SVC_ARB_LAST src) (arbLast 0 src (TILE_CTL n))

theorem fget_answeredFence {o : Nat} (ho : o < 0x10000000) (n src : Nat) (f : Fld) :
    (answeredFence u n src).fget o f = u.fget o f := by
  rw [State.fget, answeredFence, State.reg_setReg_ne (low_not_arbLast ho src)]
  rfl

theorem exec_tileCtlWrite_release {n : Fin 256} {src : Fin 22} {v : W64} (hcalm : arbCalm s (TILE_CTL n.val))
    (hv : v.getLsbD 0 = false) : exec (.tileCtlWrite n src v) s =
      done s (answeredFence ((fenceAsked s n src v).unfenceTile n) n src) := by
  have hexec : exec (.tileCtlWrite n src v) s = done s (s.arbSolo (TILE_CTL n) src v) := rfl
  have hslots : ((fenceAsked s n src v).unfenceTile n).svc.slots = s.svc.slots ++ [fenceSlot n src v] := by
    rw [(ctlWritten_unfenceTile n.val).svc]
    rfl
  rw [hexec, arbSolo_tileCtl n.isLt hcalm, applyField_unfence n.isLt (bits_zero_of_clear hv),
    arbOutcome_fence n.isLt hcalm v hslots]
  rfl

theorem tileCtlWrite_releases {n : Fin 256} {src : Fin 22} {v : W64} (hcalm : arbCalm s (TILE_CTL n.val))
    (hv : v.getLsbD 0 = false) : Goes (.tileCtlWrite n src v) s (fun u => u.fget (TILE_CTL n) TILE_CTL_FENCE = 0
      ∧ u.fget (TILE_CAP n) TILE_CAP_FENCED = (if s.fget (TILE_TEST n) TILE_TEST_RUNNING = 0
          ∧ s.fget (TILE_TEST n) TILE_TEST_RESULT ≠ 3 then 0 else s.fget (TILE_CAP n) TILE_CAP_FENCED) ∧ ctlOnly s u) := by
  refine goes_of_done (exec_tileCtlWrite_release hcalm hv) ⟨?_, ?_, ?_⟩
  · rw [fget_pending, fget_answeredFence (ctl_low n), fence_unfenceTile]
  · rw [fget_pending, fget_answeredFence (cap_low n), fenced_unfenceTile]
    rfl
  · exact (((ctlOnly_fenceAsked s n src v).trans (ctlWritten_unfenceTile n.val).ctlOnly).trans
      (ctlWritten_setReg _ _).ctlOnly).upd

/-! ### The fence (R36) -/

/-- A tile marked fenced. -/
def fenceMarked (s : State) (n : Nat) : State :=
  (s.fset (TILE_CTL n) TILE_CTL_FENCE 1).fset (TILE_CAP n) TILE_CAP_FENCED 1

theorem ctx_fenceMarked (s : State) (n : Nat) (k : CtxId) : (fenceMarked s n).ctx k = s.ctx k := by
  rw [State.ctx, fenceMarked, State.tile_fset, State.tile_fset]
  rfl

/-- A tile whose units have given up their work. -/
def emptyUnits (v : Tile) : Tile := { v with mmaQ := [], vecQ := [], spmQ := [], sieveQ := [] }

/-- A tile fenced, its units' work given up, before its tasks are. -/
def unitsFenced (s : State) (n : Nat) : State :=
  (fenceMarked s n).setTile n (emptyUnits ((fenceMarked s n).tile n))

theorem fenceTile_eq (s : State) (n : Nat) :
    s.fenceTile n = (List.range 16).foldl (fun s c => s.fenceTask (ctxId n c)) (unitsFenced s n) := rfl

theorem ctx_unitsFenced (s : State) (n : Nat) (k : CtxId) : (unitsFenced s n).ctx k = s.ctx k := by
  rw [unitsFenced, State.ctx_setTile, ← ctx_fenceMarked s n k]
  split
  · next h => rw [State.ctx, h]; rfl
  · rfl

theorem svc_unitsFenced (s : State) (n : Nat) : (unitsFenced s n).svc = s.svc := by
  rw [unitsFenced, State.setTile_svc, fenceMarked, State.fset_svc, State.fset_svc]

theorem ctx_ctxId {c : Nat} (hn : n < 256) (hc : c < 16) : s.ctx (ctxId n c) = (s.tile n).ctx c := by
  have ht : (ctxId n c).tile.val = n := Nat.mod_eq_of_lt hn
  have hx : (ctxId n c).ctx.val = c := Nat.mod_eq_of_lt hc
  rw [State.ctx, ht, hx]

/-- The fields and queues of a fenced tile. -/
theorem tileFenced_unitsFenced (s : State) (n : Nat) : tileFenced (unitsFenced s n) n := by
  have hne : TILE_CTL n ≠ TILE_CAP n := tile_apart (by decide) n
  have htile : (unitsFenced s n).tile n = emptyUnits ((fenceMarked s n).tile n) := State.tile_setTile_same _ _
  refine ⟨?_, ?_, congrArg Tile.mmaQ htile, congrArg Tile.vecQ htile, congrArg Tile.spmQ htile,
    congrArg Tile.sieveQ htile⟩
  · rw [unitsFenced, State.fget_setTile, fenceMarked, State.fget_fset_ne hne]
    exact State.fget_fset _ _ _ (by decide) (by decide)
  · rw [unitsFenced, State.fget_setTile, fenceMarked]
    exact State.fget_fset _ _ _ (by decide) (by decide)

theorem fenceTask_idle {k : CtxId} (h : (s.ctx k).task = none) : s.fenceTask k = s := by
  simp only [State.fenceTask, h]

theorem fenceTasks_idle : ∀ (l : List Nat) (s : State), (∀ c ∈ l, (s.ctx (ctxId n c)).task = none) →
    l.foldl (fun s c => s.fenceTask (ctxId n c)) s = s
  | [], _, _ => rfl
  | c :: l, s, h => by
    rw [List.foldl_cons, fenceTask_idle (h c List.mem_cons_self)]
    exact fenceTasks_idle l s fun d hd => h d (List.mem_cons_of_mem _ hd)

/-- Where one context alone holds a task, the fence decides that task. -/
theorem fenceTasks_one {c : Nat} {l : List Nat} (hc : c ∈ l) (hl : l.Nodup)
    (hidle : ∀ d ∈ l, d ≠ c → (s.ctx (ctxId n d)).task = none)
    (hafter : ∀ d ∈ l, ((s.fenceTask (ctxId n c)).ctx (ctxId n d)).task = none) :
    l.foldl (fun s c => s.fenceTask (ctxId n c)) s = s.fenceTask (ctxId n c) := by
  obtain ⟨l₁, l₂, rfl⟩ := List.append_of_mem hc
  have hbefore : ∀ d ∈ l₁, d ≠ c := fun d hd h =>
    (List.nodup_append.mp hl).2.2 d hd c List.mem_cons_self h
  rw [List.foldl_append, fenceTasks_idle l₁ s fun d hd => hidle d (List.mem_append_left _ hd) (hbefore d hd),
    List.foldl_cons]
  exact fenceTasks_idle l₂ _ fun d hd => hafter d (List.mem_append_right _ (List.mem_cons_of_mem _ hd))

theorem exec_tileCtlWrite_fence {n : Fin 256} {src : Fin 22} {v : W64} (hcalm : arbCalm s (TILE_CTL n.val))
    (hv : v.getLsbD 0 = true) (hf : s.fget (TILE_CTL n.val) TILE_CTL_FENCE = 0)
    (he : (fenceAsked s n src v).fenceTile n = u) (hu : u.svc = (fenceAsked s n src v).svc) :
    exec (.tileCtlWrite n src v) s = done s (answeredFence u n src) := by
  have hexec : exec (.tileCtlWrite n src v) s = done s (s.arbSolo (TILE_CTL n) src v) := rfl
  have hslots : u.svc.slots = s.svc.slots ++ [fenceSlot n src v] := by rw [hu, slots_fenceAsked]
  have hf' := (fget_fenceAsked (n := n) src v (TILE_CTL n) TILE_CTL_FENCE).trans hf
  rw [hexec, arbSolo_tileCtl n.isLt hcalm, applyField_fence n.isLt (bits_zero_of_set hv) hf', he,
    arbOutcome_fence n.isLt hcalm v hslots, answeredFence]

theorem tile_answeredFence (n src m : Nat) : (answeredFence u n src).tile m = u.tile m := State.tile_setReg ..

theorem ctx_answeredFence (n src : Nat) (k : CtxId) : (answeredFence u n src).ctx k = u.ctx k := State.ctx_setReg ..

theorem tileFenced_answered {n : Fin 256} (h : tileFenced u n) (src : Nat) : tileFenced (answeredFence u n src) n := by
  obtain ⟨hfence, hcap, hqueues⟩ := h
  refine ⟨(fget_answeredFence (ctl_low n) n src _).trans hfence, (fget_answeredFence (cap_low n) n src _).trans hcap, ?_⟩
  rw [tile_answeredFence]
  exact hqueues

/-- Nothing but tiles, control registers and the service complex has changed. -/
def fenceKept (s u : State) : Prop := u = { s with ctl := u.ctl, tiles := u.tiles, svc := u.svc }

theorem fenceKept.trans (h : fenceKept s t) (g : fenceKept t u) : fenceKept s u := by
  rw [fenceKept] at h g ⊢
  rw [g, h]

theorem fenceKept.netKept (h : fenceKept s u) : netKept { s with tiles := u.tiles } u := by
  rw [h]
  exact ⟨rfl, rfl, rfl, rfl, rfl, rfl, rfl⟩

theorem fenceKept.mem (h : fenceKept s u) : u.mem = s.mem := by rw [h]

theorem ctlWritten.fenceKept (h : ctlWritten s u) : fenceKept s u := by rw [Claims.fenceKept, h]

theorem fenceKept_fenceAsked (n src : Nat) (v : W64) : fenceKept s (fenceAsked s n src v) := rfl

theorem fenceKept_setTile (n : Nat) (v : Tile) : fenceKept s (s.setTile n v) := rfl

theorem fenceKept_unitsFenced (s : State) (n : Nat) : fenceKept s (unitsFenced s n) :=
  ((ctlWritten_fset _ _ _).fenceKept.trans (ctlWritten_fset _ _ _).fenceKept).trans (fenceKept_setTile _ _)

theorem goes_fenced {c : Instr} (he : exec c s = done s u) (hf : tileFenced u n) (hctx : ∀ k, u.ctx k = s.ctx k)
    (hkept : fenceKept s u) : Goes c s (fun u => tileFenced u n ∧ (∀ k, u.ctx k = s.ctx k)
      ∧ netKept { s with tiles := u.tiles } u) := goes_of_done he ⟨hf, hctx, hkept.netKept⟩

theorem tileCtlWrite_fences {n : Fin 256} {src : Fin 22} {v : W64} (hcalm : arbCalm s (TILE_CTL n.val))
    (hv : v.getLsbD 0 = true) (hf : s.fget (TILE_CTL n.val) TILE_CTL_FENCE = 0)
    (hidle : ∀ c, c < 16 → ((s.tile n.val).ctx c).task = none) :
    Goes (.tileCtlWrite n src v) s (fun u => tileFenced u n ∧ (∀ c, u.ctx c = s.ctx c)
      ∧ netKept { s with tiles := u.tiles } u) := by
  have hctx : ∀ k, (unitsFenced (fenceAsked s n src v) n).ctx k = s.ctx k := fun k =>
    (ctx_unitsFenced _ _ k).trans (ctx_fenceAsked src v k)
  have he : (fenceAsked s n src v).fenceTile n = unitsFenced (fenceAsked s n src v) n := by
    rw [fenceTile_eq]
    refine fenceTasks_idle _ _ fun c hc => ?_
    have hc' := List.mem_range.mp hc
    rw [hctx, ctx_ctxId n.isLt hc']
    exact hidle c hc'
  have hkept : fenceKept s (answeredFence (unitsFenced (fenceAsked s n src v) n) n src) :=
    ((fenceKept_fenceAsked n src v).trans (fenceKept_unitsFenced _ n)).trans (ctlWritten_setReg _ _).fenceKept
  exact goes_fenced (exec_tileCtlWrite_fence hcalm hv hf he (svc_unitsFenced _ _))
    (tileFenced_answered (tileFenced_unitsFenced _ n) src) (fun k => (ctx_answeredFence n src k).trans (hctx k)) hkept

/-! ### The fence of a tile with one restartable task (R36) -/

section
variable {k : CtxId} {q : Nat} {r : Task}

/-- A task ready to be placed again. -/
def readyAgain (s : State) (r : Task) : Task := { r with ph := .ready, readyAt := s.kn.order }

/-- A task ready to be placed again, next in the order of readiness. -/
def queuedAgain (s : State) (q : Nat) (r : Task) : State :=
  let s := s.setTask q (some (readyAgain s r))
  { s with kn := { s.kn with order := s.kn.order + 1 } }

theorem onlyKn_queuedAgain (s : State) (q : Nat) (r : Task) : onlyKn s (queuedAgain s q r) := rfl

theorem task_queuedAgain (s : State) (q : Nat) (r : Task) : (queuedAgain s q r).task q = some (readyAgain s r) :=
  State.task_setTask_same q (some (readyAgain s r))

theorem fenceTask_restartable (htask : (s.ctx k).task = some q) (hact : s.gstate (s.ctx k).glove = gACTIVE)
    (hq : s.task q = some r) (hr : r.restartable = true) : s.fenceTask k = queuedAgain (s.clearCtx k) q r := by
  simp only [State.fenceTask, htask, hact, hq, hr, ne_eq, not_true_eq_false, if_true, if_false]
  rfl

theorem onlyKn.svc (h : onlyKn s t) : t.svc = s.svc := by rw [h]

theorem clearCtx_svc (s : State) (k : CtxId) : (s.clearCtx k).svc = s.svc := by
  rw [clearCtx_eq, State.fillWindow_svc, State.setTile_svc]
  exact (onlyKn.svc (onlyKn_unwaited (s.detach k) k)).trans rfl

/-- The queues of a context's tile that its emptying leaves empty. -/
theorem queues_emptiedTile {v : Tile} (c : Nat) (h : v.mmaQ = [] ∧ v.vecQ = [] ∧ v.spmQ = [] ∧ v.sieveQ = []) :
    (emptiedTile v c).mmaQ = [] ∧ (emptiedTile v c).vecQ = [] ∧ (emptiedTile v c).spmQ = []
      ∧ (emptiedTile v c).sieveQ = [] := by
  obtain ⟨hmma, hvec, hspm, hsieve⟩ := h
  simp only [emptiedTile, Tile.dropCtx, Tile.setCtx, hmma, hvec, hspm, hsieve, List.filter_nil, and_self]

theorem tileFenced_clearCtx (h : tileFenced s k.tile) : tileFenced (s.clearCtx k) k.tile := by
  obtain ⟨hfence, hcap, hqueues⟩ := h
  have hreg := (memRegsKept_clearCtx s k).2
  have hfget : ∀ o f, (s.clearCtx k).fget o f = s.fget o f := fun o f => by rw [State.fget, hreg]; rfl
  refine ⟨(hfget _ _).trans hfence, (hfget _ _).trans hcap, ?_⟩
  simp only [clearCtx_eq, State.fillWindow_mmaQ, State.fillWindow_vecQ, State.fillWindow_spmQ, State.fillWindow_sieveQ,
    State.tile_setTile_same]
  exact queues_emptiedTile k.ctx hqueues

/-- A context's task taken back by the fence of its tile. -/
def takenBack (s : State) (k : CtxId) (q : Nat) (r : Task) : State := queuedAgain (s.clearCtx k) q r

theorem tileFenced_queuedAgain (h : tileFenced s n) : tileFenced (queuedAgain s q r) n := h

theorem tileFenced_takenBack (h : tileFenced s k.tile) : tileFenced (takenBack s k q r) k.tile :=
  tileFenced_queuedAgain (tileFenced_clearCtx h)

theorem ctx_takenBack (s : State) (k : CtxId) (q : Nat) (r : Task) (k' : CtxId) :
    (takenBack s k q r).ctx k' = if k' = k then {} else s.ctx k' :=
  ((onlyKn_queuedAgain _ q r).ctx k').trans (ctx_clearCtx s k k')

theorem svc_takenBack (s : State) (k : CtxId) (q : Nat) (r : Task) : (takenBack s k q r).svc = s.svc :=
  (onlyKn.svc (onlyKn_queuedAgain _ q r)).trans (clearCtx_svc s k)

theorem mem_takenBack (s : State) (k : CtxId) (q : Nat) (r : Task) : (takenBack s k q r).mem = s.mem :=
  (onlyKn_queuedAgain _ q r).mem.trans (clearCtx_mem s k)

theorem task_takenBack (s : State) (k : CtxId) (q : Nat) (r : Task) :
    (takenBack s k q r).task q = some (readyAgain (s.clearCtx k) r) := task_queuedAgain _ q r

theorem task_answeredFence (m src q : Nat) : (answeredFence u m src).task q = u.task q := State.task_setReg ..
theorem mem_answeredFence (m src : Nat) : (answeredFence u m src).mem = u.mem := State.setReg_mem _ _

theorem goes_fencedTask {c : Instr} (he : exec c s = done s u) (hf : tileFenced u n)
    (htask : u.task q = some (readyAgain t r)) (hctx : ∀ k', u.ctx k' = if k' = k then {} else s.ctx k')
    (hmem : u.mem = s.mem) : Goes c s (fun u => tileFenced u n
      ∧ (∃ y, u.task q = some y ∧ y.ph = .ready ∧ y.desc = r.desc) ∧ u.ctx k = {} ∧ (∀ c, c ≠ k → u.ctx c = s.ctx c)
      ∧ memKept s u) :=
  goes_of_done he ⟨hf, ⟨_, htask, rfl, rfl⟩, (hctx k).trans (if_pos rfl), fun k' hk => (hctx k').trans (if_neg hk),
    fun a => congrArg (fun m => Tab.look (fun _ => (0 : Byte)) m a) hmem⟩

theorem gstate_unitsFenced (s : State) (m : Fin 256) (n : Nat) : (unitsFenced s m).gstate n = s.gstate n := by
  have hctl : KNOT_GLOVE_CTL n ≠ TILE_CTL m := by simp only [KNOT_GLOVE_CTL, TILE_CTL]; omega
  have hcap : KNOT_GLOVE_CTL n ≠ TILE_CAP m := by simp only [KNOT_GLOVE_CTL, TILE_CAP]; omega
  rw [State.gstate, unitsFenced, State.fget_setTile, fenceMarked, State.fget_fset_ne hcap, State.fget_fset_ne hctl]
  rfl

theorem task_unitsFenced (s : State) (n q : Nat) : (unitsFenced s n).task q = s.task q := by
  rw [unitsFenced, State.task, State.setTile_kn, fenceMarked, State.fset_kn, State.fset_kn]
  rfl

theorem tileCtlWrite_takesBack {n : Fin 256} {src : Fin 22} {v : W64} {c : Nat} (hcalm : arbCalm s (TILE_CTL n.val))
    (hv : v.getLsbD 0 = true) (hf : s.fget (TILE_CTL n.val) TILE_CTL_FENCE = 0) (hk : k = ctxId n c) (hc : c < 16)
    (hidle : ∀ d, d < 16 → d ≠ c → ((s.tile n.val).ctx d).task = none) (htask : (s.ctx k).task = some q)
    (hact : s.gstate (s.ctx k).glove = gACTIVE) (hq : s.task q = some r) (hr : r.restartable = true) :
    Goes (.tileCtlWrite n src v) s (fun u => tileFenced u n ∧ (∃ y, u.task q = some y ∧ y.ph = .ready ∧ y.desc = r.desc)
      ∧ u.ctx k = {} ∧ (∀ c, c ≠ k → u.ctx c = s.ctx c) ∧ memKept s u) := by
  have hktile : k.tile.val = n.val := hk ▸ Nat.mod_eq_of_lt n.isLt
  have hctx : ∀ k', (unitsFenced (fenceAsked s n src v) n).ctx k' = s.ctx k' := fun k' =>
    (ctx_unitsFenced _ _ k').trans (ctx_fenceAsked src v k')
  have hone : (unitsFenced (fenceAsked s n src v) n).fenceTask k =
      takenBack (unitsFenced (fenceAsked s n src v) n) k q r := by
    refine fenceTask_restartable ?_ ?_ ?_ hr
    · rw [hctx, htask]
    · rw [hctx, gstate_unitsFenced]; exact hact
    · rw [task_unitsFenced]; exact hq
  have hother : ∀ d, d < 16 → d ≠ c → (s.ctx (ctxId n d)).task = none := fun d hd hne => by
    rw [ctx_ctxId n.isLt hd]; exact hidle d hd hne
  have hback := ctx_takenBack (unitsFenced (fenceAsked s n src v) n) k q r
  have he : (fenceAsked s n src v).fenceTile n = takenBack (unitsFenced (fenceAsked s n src v) n) k q r := by
    rw [fenceTile_eq, ← hone, hk]
    rw [hk] at hone hback
    refine fenceTasks_one (List.mem_range.mpr hc) List.nodup_range (fun d hd hne => ?_) fun d hd => ?_
    · rw [hctx]
      exact hother d (List.mem_range.mp hd) hne
    · rw [hone, hback]
      split
      · rfl
      · next hne =>
        rw [hctx]
        exact hother d (List.mem_range.mp hd) fun h => hne (h ▸ rfl)
  have hfenced : tileFenced (takenBack (unitsFenced (fenceAsked s n src v) n) k q r) n :=
    hktile ▸ tileFenced_takenBack (hktile ▸ tileFenced_unitsFenced _ n)
  refine goes_fencedTask (exec_tileCtlWrite_fence hcalm hv hf he ((svc_takenBack _ k q r).trans (svc_unitsFenced _ _)))
    (tileFenced_answered hfenced src) (t := (unitsFenced (fenceAsked s n src v) n).clearCtx k)
    ((task_answeredFence n src q).trans (task_takenBack _ k q r)) (fun k' => ?_) ?_
  · rw [ctx_answeredFence, hback, hctx]
  · rw [mem_answeredFence, mem_takenBack]
    exact ((fenceKept_fenceAsked n src v).trans (fenceKept_unitsFenced _ n)).mem

end

end Sys2Proof.Claims

open Sys2Proof.Claims

/-- Settles O43, a lemma for each outcome of a self-test and of a write of TILE_CTL. -/
theorem tileFencesAndTests : Obligations.TileFencesAndTests := by
  unfold Obligations.TileFencesAndTests
  exact ⟨fun n s hf ho => testStart_starts hf ho, fun n s h => testStart_refused h, fun n s hrun => selfTest_passes hrun,
    fun n map s hrun hmap hw => selfTest_narrows hrun hmap hw, fun n map s hrun hmap hw => selfTest_fails hrun hmap hw,
    fun n src v s hcalm hv hf hidle => tileCtlWrite_fences hcalm hv hf hidle,
    fun n src v s k q r c hcalm hv hf hk hc hidle htask hact hq hr =>
      tileCtlWrite_takesBack hcalm hv hf hk hc hidle htask hact hq hr,
    fun n src v s hcalm hv => tileCtlWrite_releases hcalm hv⟩
end

section
/-! Chapters 4, 6, 7 and 8: the rules of a tile's queues, which stand beside its contexts and its storage (R48, R88). -/

namespace Sys2Proof.Machine

variable {s : State} {k : CtxId}

/-! ### The queues of a tile -/

/-- The queues stand beside the contexts and the issue window. -/
theorem Tile.queue_rest (v : Tile) (q : Nat) : v.rest.queue q = v.queue q := by
  unfold Tile.queue; split <;> rfl

theorem Tile.queue_of_rest {v v' : Tile} (h : v'.rest = v.rest) (q : Nat) : v'.queue q = v.queue q := by
  rw [← Tile.queue_rest, h, Tile.queue_rest]

theorem Tile.conflict_of_rest {v v' : Tile} (h : v'.rest = v.rest) (c q : Nat) (r w : List Region) :
    v'.conflict c q r w = v.conflict c q r w := by
  simp only [Tile.conflict, Tile.queue_of_rest h]

theorem State.rest_count (n : Nat) : ((s.count k).tile n).rest = (s.tile n).rest := State.othersKept_count.2 n

@[simp] theorem State.conflict_count (c q : Nat) (r w : List Region) :
    ((s.count k).tile k.tile).conflict c q r w = (s.tile k.tile).conflict c q r w :=
  Tile.conflict_of_rest (State.rest_count _) ..

@[simp] theorem State.waits_count (q : Nat) (r w : List Region) : (s.count k).waits k q r w = s.waits k q r w := by
  simp only [State.waits, Tile.queue_of_rest (State.rest_count (s := s) (k := k) k.tile), State.conflict_count]

@[simp] theorem State.bank_count (i : Nat) : ((s.count k).ctx k).bank i = (s.ctx k).bank i := by
  simp only [Ctx.bank, State.count_ctx_banks]

@[simp] theorem State.tlsBytes_count (n a l : Nat) : ((s.count k).tile n).tlsBytes a l = (s.tile n).tlsBytes a l := by
  simp only [Tile.tlsBytes, State.count_tls]

/-- An instruction that enters a queue changes its tile's queues alone. -/
theorem State.enqueue_eq (q : Nat) (e : Queued) : ∃ m v p i, s.enqueue k q e =
    s.setTile k.tile { s.tile k.tile with mmaQ := m, vecQ := v, spmQ := p, sieveQ := i } := by
  unfold State.enqueue
  dsimp only
  split <;> exact ⟨_, _, _, _, rfl⟩

theorem State.outside_enqueue (q : Nat) (e : Queued) : (s.enqueue k q e).outside = s.outside := rfl

theorem State.ctx_enqueue (q : Nat) (e : Queued) : (s.enqueue k q e).ctx k = s.ctx k := by
  obtain ⟨m, v, p, i, h⟩ := State.enqueue_eq (s := s) (k := k) q e
  rw [h, State.ctx, State.tile_setTile_same]
  rfl

theorem State.banks_enqueue (q : Nat) (e : Queued) :
    ((s.enqueue k q e).tile k.tile).banks = (s.tile k.tile).banks := by
  obtain ⟨m, v, p, i, h⟩ := State.enqueue_eq (s := s) (k := k) q e
  rw [h, State.tile_setTile_same]

theorem State.tls_enqueue (q : Nat) (e : Queued) : ((s.enqueue k q e).tile k.tile).tls = (s.tile k.tile).tls := by
  obtain ⟨m, v, p, i, h⟩ := State.enqueue_eq (s := s) (k := k) q e
  rw [h, State.tile_setTile_same]

/-- The instruction stands last in its queue, and the other queues are as before. -/
theorem State.queue_enqueue {q j : Nat} (hq : q ≤ 3) (hj : j ≤ 3) (e : Queued) :
    ((s.enqueue k q e).tile k.tile).queue j =
      if j = q then (s.tile k.tile).queue j ++ [e] else (s.tile k.tile).queue j := by
  unfold State.enqueue
  rw [State.tile_setTile_same]
  interval_cases q <;> interval_cases j <;> rfl

end Sys2Proof.Machine
end

section
/-! O10: matrix, vector, lace, sparse and sieve instructions at issue (R48, R88, R127, R156, R168). -/

namespace Sys2Proof.Claims

open Machine Reg

variable {s u : State} {k : CtxId} {w : FmtB}

/-- The state after an instruction that has gone into queue q as e and completed ST_OK. -/
def queuedInto (s : State) (k : CtxId) (w : FmtB) (q : Nat) (e : Queued) : State :=
  (((s.count k).enqueue k q e).finish k w ST_OK).issued k

theorem queued_goes {c : Instr} {q : Nat} {e : Queued} {E : Queued → Prop}
    (he : exec c s = done s (queuedInto s k w q e)) (hq : q ≤ 3)
    (hctx : e.ctx = k.ctx.val) (hw : e.w = w) (hE : E e) : Goes c s (fun t => queuedAt s t k w q E) := by
  obtain ⟨hout, ⟨-, htile⟩, hrest⟩ := ended_onlyRegs (k := k) (u := (s.count k).enqueue k q e) w
  have hqueue : ∀ j, j ≤ 3 → ((queuedInto s k w q e).tile k.tile).queue j =
      if j = q then (s.tile k.tile).queue j ++ [e] else (s.tile k.tile).queue j := fun j hj => by
    rw [queuedInto, Tile.queue_of_rest (htile _), State.queue_enqueue hq hj, Tile.queue_of_rest (State.rest_count _)]
  refine goes_of_done he ⟨⟨e, (hqueue q hq).trans (if_pos rfl), hctx, hw, hE⟩,
    fun j hj hne => (hqueue j hj).trans (if_neg hne), ?_, ?_, ?_, ?_, ?_⟩
  · exact State.completed_finish (by rw [State.ctx_enqueue]; exact State.sameRegs_count)
  · exact State.onlyRegs_count.1.trans ((State.outsideKept_of (State.outside_enqueue q e)).trans hout)
  · exact hrest.trans (by rw [State.ctx_enqueue]; exact State.onlyRegs_count.2.2)
  · exact (congrArg Tile.banks (htile k.tile)).trans ((State.banks_enqueue q e).trans (State.count_banks k _))
  · exact (congrArg Tile.tls (htile k.tile)).trans ((State.tls_enqueue q e).trans (State.count_tls k _))

/-! ### The matrix array (R72, R81, R88) -/

/-- An MMA or MMA.NM as it stands in the M-array's queue. -/
def mmaEntry (s : State) (k : CtxId) (w : FmtB) (nm : Bool) (b : Nat) : Queued :=
  let da := (s.ctx k).desc w.ra.toNat
  let db := (s.ctx k).desc w.rb.toNat
  { s.queued k 4 (if nm then 1 else 0) w with
    a := da, b := db, bankD := b, reads := (TDesc.of da).regions ++ (TDesc.of db).regions ++ [.bank b], writes := [.bank b] }

theorem mmaIssue_eq {nm : Bool} {b : Nat} (hb : (u.ctx k).bank w.rd.toNat = some b)
    (hst : mmaStatus w nm (TDesc.of ((u.ctx k).desc w.ra.toNat)) (TDesc.of ((u.ctx k).desc w.rb.toNat)) = ST_OK)
    (hroom : u.waits k 0 (mmaEntry u k w nm b).reads [.bank b] = false) :
    u.mmaIssue k w nm = some ((u.enqueue k 0 (mmaEntry u k w nm b)).finish k w ST_OK) := by
  have hroom' : ¬ u.waits k 0 (mmaEntry u k w nm b).reads [.bank b] = true := by rw [hroom]; exact Bool.false_ne_true
  unfold State.mmaIssue
  simp only [hb, hst, ne_eq, not_true_eq_false, if_false]
  exact if_neg hroom'

/-- An instruction that is issued as an MMA enters the M-array's queue. -/
theorem mma_queues {c : CtxId → FmtB → Instr} {nm : Bool}
    (hc : ∀ k w s, exec (c k w) s = done s (s.issueB k w (mmaLegal w nm) (fun s => s.mmaIssue k w nm))) :
    mmaQueues c nm := by
  intro k w s b da db hr hl hb hda hdb hst hroom
  subst hda hdb
  refine queued_goes (e := mmaEntry (s.count k) k w nm b) ((hc k w s).trans (congrArg (done s) (issueB_eq hr hl ?_)))
    (by decide) rfl rfl ⟨rfl, State.count_ctx_desc k _, State.count_ctx_desc k _, rfl⟩
  refine mmaIssue_eq ?_ ?_ ?_
  · rw [State.bank_count]; exact hb
  · rw [State.count_ctx_desc, State.count_ctx_desc]; exact hst
  · simp only [mmaEntry, State.count_ctx_desc, State.waits_count]; exact hroom

/-! ### Vector and lace instructions (R73, R127, R137) -/

/-- A vector or lace instruction as it stands in the vector engine's queue, with its element count. -/
def vecEntry (e : Queued) (n : Nat) (regs : List Region × List Region) : Queued :=
  { e with d := e.d ++ [BitVec.ofNat 64 n], reads := regs.1, writes := regs.2 }

theorem vecIssue_eq {cls op d a b n : Nat} {e : Queued} {status : Queued → Nat → Nat}
    {regs : Queued → Nat → List Region × List Region} (hd : (u.ctx k).spBank (spD w) w.rd = some d)
    (ha : (u.ctx k).spBank (spA w) w.ra = some a) (hb : (u.ctx k).spBank (spB w) w.rb = some b)
    (hn : n = ((u.ctx k).gr w.rc.toNat).toNat) (he : e = u.vecQueued k cls op w d a b) (hst : status e n = ST_OK)
    (hroom : u.waits k 1 (regs e n).1 (regs e n).2 = false) :
    u.vecIssue k cls op w status regs = some ((u.enqueue k 1 (vecEntry e n (regs e n))).finish k w ST_OK) := by
  subst hn he
  unfold State.vecIssue
  simp only [hd, ha, hb, hst, hroom, ne_eq, not_true_eq_false, if_false, Bool.false_eq_true]
  rfl

/-- Counting an instruction changes of its queued form the index alone. -/
theorem vecQueued_count (cls op d a b : Nat) : (s.count k).vecQueued k cls op w d a b =
    { s.vecQueued k cls op w d a b with count := (s.ctx k).issued } := by
  simp only [State.vecQueued, State.queued, State.ctx_count, Nat.add_sub_cancel]
  rfl

/-- An instruction that is issued as a vector instruction enters the vector engine's queue, where neither its status nor its
storage depends on its index. -/
theorem vec_queues {c : CtxId → FmtB → Instr} {cls op : Nat} {legal : FmtB → Bool}
    {status : State → CtxId → Queued → Nat → Nat} {regs : FmtB → Queued → Nat → List Region × List Region}
    (hstatus : ∀ s k e n i, status (s.count k) k { e with count := i } n = status s k e n)
    (hregs : ∀ w e n i, regs w { e with count := i } n = regs w e n)
    (hc : ∀ k w s u, ReadyB s k w → legal w = true → (cls = 5 ∧ op = 4 ∧ (fnOf w = 5 ∨ fnOf w = 6) ∧ spA w = 2 →
        (s.tile k.tile).conflict k.ctx 4 (TDesc.of ((s.ctx k).desc w.ra.toNat)).regions [] = false) →
      (s.count k).vecIssue k cls op w (status (s.count k) k) (regs w) = some u → exec (c k w) s = done s (u.issued k)) :
    vecQueues c cls op legal status regs := by
  intro k w s d a b n e hr hl hd ha hb hn he hst hroom hfree
  have hbank : ∀ sp f, ((s.count k).ctx k).spBank sp f = (s.ctx k).spBank sp f := fun sp f => by
    simp only [Ctx.spBank, State.bank_count]
  have hcount : (s.count k).vecQueued k cls op w d a b = { e with count := (s.ctx k).issued } := he ▸ vecQueued_count ..
  have hissue := vecIssue_eq (u := s.count k) (k := k) (w := w) (cls := cls) (op := op)
    (status := status (s.count k) k) (regs := regs w) ((hbank _ _).trans hd) ((hbank _ _).trans ha) ((hbank _ _).trans hb)
    (by rw [State.count_ctx_gr]; exact hn) hcount.symm ((hstatus ..).trans hst)
    (by rw [hregs, State.waits_count]; exact hroom)
  refine queued_goes (hc k w s _ hr hl hfree hissue) (by decide) ?_ ?_ ?_ <;> subst he
  · rfl
  · rfl
  · refine ⟨rfl, rfl, ?_, rfl, rfl, rfl, rfl, rfl, rfl, rfl, rfl⟩
    simp [Queued.n, vecEntry, hn]

/-- The storage of a vector instruction enters its issue at the queued instruction alone. -/
theorem vecIssue_regs_congr {cls op : Nat} {status : Queued → Nat → Nat}
    {regs regs' : Queued → Nat → List Region × List Region} (h : ∀ e n, e.w = w → regs e n = regs' e n) :
    u.vecIssue k cls op w status regs = u.vecIssue k cls op w status regs' := by
  unfold State.vecIssue
  dsimp only
  split
  · rw [h _ _ rfl]
  · rfl

/-- The operands of a queued instruction do not depend on its index. -/
theorem opD_count (e : Queued) (i : Nat) : Queued.opD { e with count := i } = e.opD := rfl
theorem opA_count (e : Queued) (i : Nat) : Queued.opA { e with count := i } = e.opA := rfl

theorem vcvtStatus_count (e : Queued) (n i : Nat) : vcvtStatus { e with count := i } n = vcvtStatus e n := by
  unfold vcvtStatus
  rw [opD_count, opA_count]

theorem vop_queues : vecQueues .vop 5 0 (fun w => vecLegal w true (usesB (fnOf w)) 0 && decide (fnOf w ≤ 0x18))
    (fun _ _ => vopStatus) (regsAD (fun w => usesB (fnOf w)) id (fun _ n => n) true) := by
  refine vec_queues (fun _ _ _ _ _ => rfl) (fun _ _ _ _ => rfl) fun k w s u hr hl _ hu =>
    congrArg (done s) (issueB_eq hr hl ?_)
  refine (vecIssue_regs_congr fun e n he => ?_).trans hu
  subst he
  rfl

theorem vbc_queues : vecQueues .vbc 5 2
    (fun w => vecLegal w true true (ox 13 13) && vbcCode (fnOf w) && (spB w == 0 || spB w == 2))
    (fun _ _ => vbcStatus) (regsAD (fun _ => true) (fun _ => 64) (fun _ n => n) true) :=
  vec_queues (fun _ _ _ _ _ => rfl) (fun _ _ _ _ => rfl) fun _ _ s _ hr hl _ hu =>
    congrArg (done s) (issueB_eq hr hl hu)

/-- The storage of an instruction that reads A alone and does not read D. -/
theorem regsAD_onlyA (nb : Nat → Nat) (nd : FmtB → Nat → Nat) (w : FmtB) (e : Queued) (n : Nat) :
    regsAD (fun _ => false) nb nd false w e n = (e.opA.regions e.ctx n, e.opD.regions e.ctx (nd w n)) := by
  simp [regsAD]

theorem vred_queues : vecQueues .vred 5 1 (fun w => vecLegal w true false (ox 13 13) && decide (fnOf w ≤ 4))
    (fun _ _ => vredStatus) (regsAD (fun _ => false) id (fun w n => vredCount w n) false) := by
  refine vec_queues (fun _ _ _ _ _ => rfl) (fun _ _ _ _ => rfl) fun k w s u hr hl _ hu =>
    congrArg (done s) (issueB_eq hr hl ?_)
  exact (vecIssue_regs_congr fun e n _ => (regsAD_onlyA id vredCount w e n).symm).trans hu

theorem vcvt_queues : vecQueues .vcvt 5 3 (fun w => vecLegal w true false (ox 12 12) && fnOf w == 0)
    (fun _ _ => vcvtStatus) (regsAD (fun _ => false) id (fun _ n => n) false) := by
  refine vec_queues (fun _ _ => vcvtStatus_count) (fun _ _ _ _ => rfl) fun k w s u hr hl _ hu =>
    congrArg (done s) (issueB_eq hr hl ?_)
  exact (vecIssue_regs_congr fun e n _ => (regsAD_onlyA id (fun _ n => n) w e n).symm).trans hu

theorem laceRun_queues : vecQueues .laceRun 6 1
    (fun w => vecLegal w true (w.ox 13 13 == 1) (ox 13 12) && fnOf w == 0) (fun s k => laceStatus (s.ctx k).lace)
    (regsAD (fun w => w.ox 13 13 == 1) id (fun _ n => n) false) := by
  refine vec_queues (fun s k e n i => ?_) (fun _ _ _ _ => rfl) fun k w s u hr hl _ hu =>
    congrArg (done s) (issueB_eq hr hl ?_)
  · rw [State.count_ctx_lace]; rfl
  · refine (vecIssue_regs_congr fun e n _ => ?_).trans hu
    simp [regsAD]

/-- VXA's status reads of the tile the TLS alone. -/
theorem vxaStatus_count (e : Queued) (n i : Nat) :
    vxaStatus ((s.count k).tile k.tile) { e with count := i } n = vxaStatus (s.tile k.tile) e n := by
  have hrec : ∀ d n, ((s.count k).tile k.tile).records d n = (s.tile k.tile).records d n := fun d n => by
    simp only [Tile.records, State.tlsBytes_count]
  simp only [vxaStatus, hrec]
  rfl

/-- A VXA that adds or loads records takes them from the TLS. -/
theorem spA_of_vxaLegal (hl : vxaLegal w = true) (hf : fnOf w = 5 ∨ fnOf w = 6) : spA w = 2 := by
  rcases hf with hf | hf <;> · simp [vxaLegal, hf] at hl; exact hl.2

theorem vxa_queues : vecQueues .vxa 5 4 vxaLegal (fun s k => vxaStatus (s.tile k.tile)) (fun _ => vxaRegs) := by
  refine vec_queues (fun s k e n i => vxaStatus_count e n i) (fun _ _ _ _ => rfl) fun k w s u hr hl hfree hu =>
    congrArg (done s) (issueB_eq hr hl ((if_neg ?_).trans hu))
  rintro ⟨hf, hc⟩
  have hsp := spA_of_vxaLegal hl hf
  rw [if_pos hsp, State.conflict_count, State.count_ctx_desc, hfree ⟨rfl, rfl, hf, hsp⟩] at hc
  exact Bool.false_ne_true hc

/-! ### The S-unit (R149, R152, R153, R156) -/

/-- The entry of an instruction of the S-unit, with the records of its descriptors. -/
def spmEntry (s : State) (k : CtxId) (w : FmtB) (op : Nat) (reads writes : List Region) : Queued :=
  { s.queued k 7 op w with
    d := (s.ctx k).desc w.rd.toNat, a := (s.ctx k).desc w.ra.toNat, reads := reads, writes := writes }

theorem exec_spenc {d a : TDesc} (hr : ReadyB s k w) (hl : w.legal .t .t .no .g (ox 3 0) = true)
    (hd : d = TDesc.of ((s.ctx k).desc w.rd.toNat)) (ha : a = TDesc.of ((s.ctx k).desc w.ra.toNat))
    (hst : spencStatus (w.ox 3 0) d a = ST_OK)
    (hroom : s.waits k 2 a.regions (.greg k.ctx w.rc.toNat :: d.regions) = false) :
    exec (.spenc k w) s = done s (queuedInto s k w 2
      (spmEntry (s.count k) k w 1 a.regions (.greg k.ctx w.rc.toNat :: d.regions))) := by
  subst hd ha
  refine congrArg (done s) (issueB_eq hr hl ?_)
  simp only [State.count_ctx_desc, State.waits_count, hst, hroom, spmEntry, ne_eq, not_true_eq_false, if_false,
    Bool.false_eq_true]

theorem exec_spdec {d a : TDesc} (hr : ReadyB s k w) (hl : w.legal .t .t .no .no 0 = true)
    (hd : d = TDesc.of ((s.ctx k).desc w.rd.toNat)) (ha : a = TDesc.of ((s.ctx k).desc w.ra.toNat))
    (hfree : unlocked s k a.regions []) (hst : spdecStatus (s.tile k.tile) d a = ST_OK)
    (hroom : s.waits k 2 a.regions d.regions = false) :
    exec (.spdec k w) s = done s (queuedInto s k w 2 (spmEntry (s.count k) k w 2 a.regions d.regions)) := by
  subst hd ha
  have hst' : spdecStatus ((s.count k).tile k.tile) (TDesc.of ((s.ctx k).desc w.rd.toNat))
      (TDesc.of ((s.ctx k).desc w.ra.toNat)) = ST_OK := by
    simp only [spdecStatus, Tile.slot, State.tlsBytes_count]; exact hst
  refine congrArg (done s) (issueB_eq hr hl ?_)
  simp only [State.count_ctx_desc, State.waits_count, State.locked_count, show s.locked k _ [] = false from hfree, hst',
    hroom, spmEntry, ne_eq, not_true_eq_false, if_false, Bool.false_eq_true]

/-- An SPMM as it stands in the S-unit's queue. -/
def spmmEntry (s : State) (k : CtxId) (w : FmtB) (bank : Nat) (reads writes : List Region) : Queued :=
  { spmEntry s k w 0 reads writes with b := (s.ctx k).desc w.rb.toNat, bankD := bank }

theorem exec_spmm {d a b : TDesc} {dst : List Region} {bank : Nat} (hr : ReadyB s k w)
    (hl : w.legal (if w.ox 0 0 = 1 then .t else .bank) .t .t .no (ox 0 0) = true)
    (hd : d = TDesc.of ((s.ctx k).desc w.rd.toNat)) (ha : a = TDesc.of ((s.ctx k).desc w.ra.toNat))
    (hb : b = TDesc.of ((s.ctx k).desc w.rb.toNat))
    (hbank : (if w.ox 0 0 = 1 then some 0 else (s.ctx k).bank w.rd.toNat) = some bank)
    (hdst : dst = (if w.ox 0 0 = 1 then d.regions else [.bank bank])) (hfree : unlocked s k a.regions [])
    (hst : spmmStatus (s.tile k.tile) (w.ox 0 0 == 1) d a b = ST_OK)
    (hroom : s.waits k 2 (a.regions ++ b.regions ++ dst) dst = false) :
    exec (.spmm k w) s = done s (queuedInto s k w 2
      (spmmEntry (s.count k) k w bank (a.regions ++ b.regions ++ dst) dst)) := by
  subst hd ha hb hdst
  have hst' : spmmStatus ((s.count k).tile k.tile) (w.ox 0 0 == 1) (TDesc.of ((s.ctx k).desc w.rd.toNat))
      (TDesc.of ((s.ctx k).desc w.ra.toNat)) (TDesc.of ((s.ctx k).desc w.rb.toNat)) = ST_OK := by
    simp only [spmmStatus, Tile.slot, State.tlsBytes_count]; exact hst
  refine congrArg (done s) (issueB_eq hr hl ?_)
  unfold State.spmmIssue
  simp only [beq_iff_eq] at hst' ⊢
  simp only [State.count_ctx_desc, State.waits_count, State.locked_count, State.bank_count, hbank,
    show s.locked k _ [] = false from hfree, hst', hroom, spmmEntry, spmEntry, ne_eq, not_true_eq_false, if_false,
    Bool.false_eq_true]

/-! ### The sieve (R168, R171) -/

/-- A SIEVE as it stands in the sieve's queue. -/
def sieveEntry (s : State) (k : CtxId) (w : FmtB) (b : Nat) (gb gc : W64) (reads : List Region) : Queued :=
  { s.queued k 0x8 0 w with bankA := b, ga := gb, gb := gc, reads := reads }

theorem sieveDue_count : ((s.count k).tile k.tile).sieveDue = (s.tile k.tile).sieveDue := by
  simp only [Tile.sieveDue, State.count_sieveQ]

theorem exec_sieve {b : Nat} {gb gc : W64} {reads : List Region} (hr : ReadyB s k w)
    (hl : w.legal .no .bank .g .g (ox 25 18) = true) (hfn : svFn w ≠ 3) (hb : (s.ctx k).bank w.ra.toNat = some b)
    (hgb : gb = (s.ctx k).gr w.rb.toNat) (hgc : gc = (s.ctx k).gr w.rc.toNat)
    (hreads : reads = [.bank b, .vreg k.ctx 31] ++ (if svPass w = 1 then [.vreg k.ctx 30] else []))
    (hst : sieveStatus w gb gc = ST_OK) (hroom : s.waits k 3 reads [] = false)
    (hlist : (s.tile k.tile).sieve.length + (s.tile k.tile).sieveDue + svNeed w gb gc ≤ 4096) :
    exec (.sieve k w) s = done s (queuedInto s k w 3 (sieveEntry (s.count k) k w b gb gc reads)) := by
  subst hgb hgc hreads
  refine congrArg (done s) (issueB_eq hr (by rw [hl, bne_iff_ne.mpr hfn]; rfl) ?_)
  simp only [State.bank_count, hb, State.count_ctx_gr, hst, State.waits_count, hroom, State.count_sieve, sieveDue_count,
    Nat.not_lt.mpr hlist, sieveEntry, ne_eq, not_true_eq_false, if_false, Bool.false_eq_true]

end Sys2Proof.Claims

open Sys2Proof.Claims

/-- Settles O10, a lemma for each unit's issue: every one of them ends in an entry of the unit's queue. -/
theorem unitInstructionsQueue : Obligations.UnitInstructionsQueue := by
  unfold Obligations.UnitInstructionsQueue
  refine ⟨mma_queues fun _ _ _ => rfl, mma_queues fun _ _ _ => rfl, vop_queues, vbc_queues, vred_queues, vcvt_queues,
    vxa_queues, laceRun_queues, ?_, ?_, ?_, ?_⟩
  · intro k w s d a b dst bank hr hl hd ha hb hbank hdst hfree hst hroom
    exact queued_goes (exec_spmm hr hl hd ha hb hbank hdst hfree hst hroom) (by decide) rfl rfl ⟨rfl, rfl, rfl⟩
  · intro k w s d a hr hl hd ha hst hroom
    exact queued_goes (exec_spenc hr hl hd ha hst hroom) (by decide) rfl rfl ⟨rfl, List.mem_cons_self⟩
  · intro k w s d a hr hl hd ha hfree hst hroom
    exact queued_goes (exec_spdec hr hl hd ha hfree hst hroom) (by decide) rfl rfl ⟨rfl, rfl⟩
  · intro k w s b gb gc reads hr hl hfn hb hgb hgc hreads hst hroom hlist
    exact queued_goes (exec_sieve hr hl hfn hb hgb hgc hreads hst hroom hlist) (by decide) rfl rfl ⟨rfl, rfl, rfl⟩
end

section
/-! O13: the oldest instruction of a queue ends (R88, R90, R94, R127, R131, R150, R172). First the rules of the storage it
writes: banks, v-registers and the TLS. -/

namespace Sys2Proof.Machine

variable {s : State}

/-! ### The rows of a bank -/

/-- A table after words are written from a key on: each of their keys reads its word, and every other as before. -/
theorem Tab.look_fill {α : Type} [DecidableEq α] (d : Nat → α) (j : Nat) : ∀ (vs : List α) (t : Tab α) (k : Nat),
    Tab.look d (Tab.fill d t k vs) j = if k ≤ j then (vs[j - k]?).getD (Tab.look d t j) else Tab.look d t j
  | [], t, k => by simp [Tab.fill]
  | v :: vs, t, k => by
    rw [Tab.fill, Tab.look_fill d j vs, Tab.look_store]
    rcases Nat.lt_trichotomy j k with h | rfl | h
    · rw [if_neg (by omega), if_neg (by omega), if_neg (by omega)]
    · simp
    · have hsub : j - k = j - (k + 1) + 1 := by omega
      rw [if_pos (by omega), if_neg (by omega), if_pos (by omega), hsub, List.getElem?_cons_succ]

/-- A tile after a row is written from the first column of row m of bank b on. -/
def Tile.setRow (v : Tile) (b m : Nat) (r : List W32) : Tile :=
  { v with banks := Tab.fill (fun _ => 0) v.banks (4096 * b + 64 * m) r }

/-- Rows are written one after the other into a bank that is not dead. -/
theorem Tile.setRows_cons {v : Tile} {b : Nat} (h : v.deadBanks.contains b = false) (m : Nat) (r : List W32)
    (rs : List (List W32)) : v.setRows b m (r :: rs) = (v.setRow b m r).setRows b (m + 1) rs := by
  rw [Tile.setRows, if_neg (by rw [h]; exact Bool.false_ne_true)]
  rfl

/-- Writing rows changes the banks alone. -/
theorem Tile.setRows_eq (b : Nat) : ∀ (rs : List (List W32)) (v : Tile) (m : Nat),
    ∃ banks, v.setRows b m rs = { v with banks := banks }
  | [], v, _ => ⟨v.banks, rfl⟩
  | r :: rs, v, m => by
    unfold Tile.setRows
    split
    · exact ⟨v.banks, rfl⟩
    · obtain ⟨banks, h⟩ := Tile.setRows_eq b rs (v.setRow b m r) (m + 1)
      exact ⟨banks, h⟩

theorem Tile.setRows_mmaQ (v : Tile) (b m : Nat) (rs : List (List W32)) : (v.setRows b m rs).mmaQ = v.mmaQ := by
  obtain ⟨_, h⟩ := Tile.setRows_eq b rs v m
  rw [h]

theorem Tile.setRows_tls (v : Tile) (b m : Nat) (rs : List (List W32)) : (v.setRows b m rs).tls = v.tls := by
  obtain ⟨_, h⟩ := Tile.setRows_eq b rs v m
  rw [h]

theorem Tile.bankAt_setRow (v : Tile) {b m c i n : Nat} {r : List W32} (hr : r.length ≤ 64) (hm : m < 64) (hi : i < 64)
    (hn : n < 64) : (v.setRow b m r).bankAt c i n =
      if c = b ∧ i = m then (r[n]?).getD (v.bankAt c i n) else v.bankAt c i n := by
  rw [Tile.bankAt, Tile.setRow, Tab.look_fill, ← Tile.bankAt]
  by_cases h : c = b ∧ i = m
  · obtain ⟨rfl, rfl⟩ := h
    simp
  · rw [if_neg h]
    split
    · have hout : r.length ≤ 4096 * c + 64 * i + n - (4096 * b + 64 * m) := by
        have hne : c ≠ b ∨ i ≠ m := not_and_or.mp h
        omega
      rw [List.getElem?_eq_none hout]
      rfl
    · rfl

/-- An element of a bank after rows are written from row m of bank b on. -/
theorem Tile.bankAt_setRows {b c i n : Nat} (hi : i < 64) (hn : n < 64) : ∀ (rs : List (List W32)) (v : Tile) (m : Nat),
    v.deadBanks.contains b = false → (∀ r ∈ rs, r.length ≤ 64) → m + rs.length ≤ 64 →
    (v.setRows b m rs).bankAt c i n =
      if c = b ∧ m ≤ i then ((rs[i - m]?).bind (·[n]?)).getD (v.bankAt c i n) else v.bankAt c i n
  | [], v, m, _, _, _ => by simp [Tile.setRows]
  | r :: rs, v, m, hdead, hrow, hlen => by
    rw [List.length_cons] at hlen
    rw [Tile.setRows_cons hdead, Tile.bankAt_setRows hi hn rs (v.setRow b m r) (m + 1) hdead
      (fun x hx => hrow x (List.mem_cons_of_mem _ hx)) (by omega),
      Tile.bankAt_setRow v (hrow r List.mem_cons_self) (by omega) hi hn]
    by_cases hc : c = b
    · rcases Nat.lt_trichotomy i m with h | rfl | h
      · rw [if_neg (by omega), if_neg (by omega), if_neg (by omega)]
      · simp [hc]
      · have hsub : i - m = i - (m + 1) + 1 := by omega
        rw [if_pos (by omega), if_neg (by omega), if_pos (by omega), hsub, List.getElem?_cons_succ]
    · simp [hc]

/-! ### The lanes of a v-register -/

theorem Tile.lane_setOpnd (v : Tile) (c r i q : Nat) (x : W32) {j : Nat} (hi : i < 128) (hj : j < 128) :
    ((v.setOpnd c (.v r) i x).ctx c).lane q j = if q = r ∧ j = i then x else (v.ctx c).lane q j := by
  have hdiv : i / 128 = 0 := Nat.div_eq_of_lt hi
  have hmod : i % 128 = i := Nat.mod_eq_of_lt hi
  rw [Tile.setOpnd, Tile.ctx_setCtx_same, Ctx.lane, Tab.look_store, hdiv, hmod, ← Ctx.lane]
  exact if_congr (by omega) rfl rfl

/-- The lanes of a v-register after its first n elements are written. -/
theorem Tile.lane_setOpnds (v : Tile) (c r q : Nat) (f : Nat → W32) {j : Nat} (hj : j < 128) : ∀ n, n ≤ 128 →
    ((v.setOpnds c (.v r) ((List.range n).map fun i => (i, f i))).ctx c).lane q j =
      if q = r ∧ j < n then f j else (v.ctx c).lane q j
  | 0, _ => by simp [Tile.setOpnds]
  | n + 1, hn => by
    have ih := Tile.lane_setOpnds v c r q f hj n (by omega)
    rw [Tile.setOpnds] at ih ⊢
    rw [List.range_succ, List.map_append, List.foldl_append, List.map_singleton, List.foldl_cons, List.foldl_nil,
      Tile.lane_setOpnd _ c r n q _ (by omega) hj, ih]
    by_cases hjn : j = n
    · subst hjn; simp
    · simp only [hjn, and_false, if_false, show j < n + 1 ↔ j < n by omega]

/-- Writing elements of v-registers changes the contexts alone. -/
theorem Tile.setOpnds_v_eq (c r : Nat) : ∀ (l : List (Nat × W32)) (v : Tile),
    ∃ ctxs, v.setOpnds c (.v r) l = { v with ctxs := ctxs }
  | [], v => ⟨v.ctxs, rfl⟩
  | x :: l, v => by
    obtain ⟨ctxs, h⟩ := Tile.setOpnds_v_eq c r l (v.setOpnd c (.v r) x.1 x.2)
    exact ⟨ctxs, h⟩

theorem Tile.setOpnds_v_vecQ (v : Tile) (c r : Nat) (l : List (Nat × W32)) :
    (v.setOpnds c (.v r) l).vecQ = v.vecQ := by
  obtain ⟨_, h⟩ := Tile.setOpnds_v_eq c r l v
  rw [h]

theorem Tile.setOpnds_v_banks (v : Tile) (c r : Nat) (l : List (Nat × W32)) :
    (v.setOpnds c (.v r) l).banks = v.banks := by
  obtain ⟨_, h⟩ := Tile.setOpnds_v_eq c r l v
  rw [h]

/-! ### The TLS -/

/-- Writing byte ranges of the TLS changes the TLS alone, and who wrote it. -/
theorem Tile.foldl_setTls_eq (g : Nat) : ∀ (l : List (Nat × List Byte)) (v : Tile),
    ∃ tls tlsBy, l.foldl (fun v r => v.setTls g r.1 r.2) v = { v with tls := tls, tlsBy := tlsBy }
  | [], v => ⟨v.tls, v.tlsBy, rfl⟩
  | x :: l, v => by
    obtain ⟨tls, tlsBy, h⟩ := Tile.foldl_setTls_eq g l (v.setTls g x.1 x.2)
    exact ⟨tls, tlsBy, h⟩

/-! ### Counters, records and the head of a queue -/

@[simp] theorem State.tile_bump (o : Nat) (f : Fld) (n t : Nat) : (s.bump o f n).tile t = s.tile t := by
  simp only [State.tile, State.bump_tiles]

@[simp] theorem State.byte_bump (o : Nat) (f : Fld) (n a : Nat) : (s.bump o f n).byte a = s.byte a := by
  simp only [State.byte, State.bump_mem]

@[simp] theorem State.tile_event (c u g w2 w3 t : Nat) : (s.event c u g w2 w3).tile t = s.tile t := by
  simp only [State.tile, State.event_tiles]

theorem State.tile_popMma (t : Nat) :
    (s.popQueue t 0).tile t = { s.tile t with mmaQ := (s.tile t).mmaQ.drop 1 } := State.tile_setTile_same ..
theorem State.tile_popVec (t : Nat) :
    (s.popQueue t 1).tile t = { s.tile t with vecQ := (s.tile t).vecQ.drop 1 } := State.tile_setTile_same ..
theorem State.tile_popSpm (t : Nat) :
    (s.popQueue t 2).tile t = { s.tile t with spmQ := (s.tile t).spmQ.drop 1 } := State.tile_setTile_same ..
theorem State.tile_popSieve (t : Nat) :
    (s.popQueue t 3).tile t = { s.tile t with sieveQ := (s.tile t).sieveQ.drop 1 } := State.tile_setTile_same ..

theorem State.byte_popQueue (t q a : Nat) : (s.popQueue t q).byte a = s.byte a := rfl

end Sys2Proof.Machine

namespace Sys2Proof.Claims

open Machine Reg

variable {s : State} {t : Fin 256} {e : Queued} {r : List Queued}

/-- The tiles do not depend on the queue of waiting commands. -/
theorem tile_pending (q : List Instr) (n : Nat) : State.tile { s with pending := q } n = s.tile n := rfl

/-! ### The matrix array (R81, R88, R90) -/

/-- What an MMA writes depends on the tile's storage alone. -/
theorem mmaRows_popped (v : Tile) (q : List Queued) (e : Queued) : mmaRows { v with mmaQ := q } e = mmaRows v e := rfl

/-- An MMA that ends writes its rows; its record and the fold counter touch no storage of the tile. -/
theorem rest_mmaWrite (t : Nat) :
    ((s.mmaWrite t e).tile t).rest = ((s.tile t).setRows e.bankD 0 (mmaRows (s.tile t) e)).rest := by
  have hdig : ∀ (u : State) (bs : List Byte), ((u.dig (ctxId t e.ctx) 0 bs).tile t).rest = (u.tile t).rest :=
    fun u bs => (othersKept_dig 0 bs).2 t
  unfold State.mmaWrite
  dsimp only
  split
  · rw [State.tile_bump, hdig, State.tile_setTile_same]
  · rw [hdig, State.tile_setTile_same]

theorem byte_mmaWrite (t a : Nat) : (s.mmaWrite t e).byte a = s.byte a := by
  have hdig : ∀ (u : State) (bs : List Byte), (u.dig (ctxId t e.ctx) 0 bs).byte a = u.byte a :=
    fun u bs => (outsideKept_dig 0 bs).2 a
  unfold State.mmaWrite
  dsimp only
  split
  · rw [State.byte_bump, hdig, State.byte_setTile]
  · rw [hdig, State.byte_setTile]

theorem exec_mmaComplete (hq : (s.tile t).mmaQ = e :: r) :
    exec (.mmaComplete t .none) s = done s ((s.popQueue t 0).mmaWrite t e) := by
  show execMmaComplete t .none s = _
  simp only [execMmaComplete, hq, if_true]

theorem mma_ends (hq : (s.tile t).mmaQ = e :: r) (hdead : (s.tile t).deadBanks.contains e.bankD = false)
    (hm : (mmaRows (s.tile t) e).length ≤ 64) (hn : ∀ row ∈ mmaRows (s.tile t) e, row.length ≤ 64) :
    Goes (.mmaComplete t .none) s (fun u => (u.tile t).mmaQ = r
      ∧ (∀ m n row, m < 64 → n < 64 → (mmaRows (s.tile t) e)[m]? = some row →
        (u.tile t).bankAt e.bankD m n = if n < row.length then row.getD n 0 else (s.tile t).bankAt e.bankD m n)
      ∧ (∀ c m n, c ≠ e.bankD → m < 64 → n < 64 → (u.tile t).bankAt c m n = (s.tile t).bankAt c m n)
      ∧ (u.tile t).tls = (s.tile t).tls ∧ ∀ a, u.byte a = s.byte a) := by
  have hrest : (((s.popQueue t 0).mmaWrite t e).tile t).rest =
      (Tile.setRows { s.tile t with mmaQ := r } e.bankD 0 (mmaRows (s.tile t) e)).rest := by
    rw [rest_mmaWrite, State.tile_popMma, mmaRows_popped, hq]
    rfl
  have hbank : ∀ c m n, m < 64 → n < 64 → (((s.popQueue t 0).mmaWrite t e).tile t).bankAt c m n =
      if c = e.bankD then (((mmaRows (s.tile t) e)[m]?).bind (·[n]?)).getD ((s.tile t).bankAt c m n)
      else (s.tile t).bankAt c m n := fun c m n hm' hn' => by
    refine (congrArg (fun v : Tile => v.bankAt c m n) hrest).trans ?_
    refine (Tile.bankAt_setRows hm' hn' _ { s.tile t with mmaQ := r } 0 hdead hn (by omega)).trans ?_
    exact if_congr (by simp) rfl rfl
  refine goes_of_done (exec_mmaComplete hq)
    ⟨?_, fun m n row hm' hn' hrow => ?_, fun c m n hc hm' hn' => ?_, ?_, fun a => ?_⟩
  · exact (congrArg Tile.mmaQ hrest).trans (Tile.setRows_mmaQ ..)
  · refine (hbank e.bankD m n hm' hn').trans ?_
    rw [if_pos rfl, hrow, Option.bind_some]
    split
    · next h => rw [List.getElem?_eq_getElem h, List.getD_eq_getElem _ _ h]; rfl
    · next h => rw [List.getElem?_eq_none (Nat.not_lt.mp h)]; rfl
  · exact (hbank c m n hm' hn').trans (if_neg hc)
  · exact (congrArg Tile.tls hrest).trans (Tile.setRows_tls ..)
  · exact byte_mmaWrite (s := s.popQueue t 0) t a

/-! ### A residue fault (R36, R94) -/

/-- The fence of a tile that runs no task empties its units' queues. -/
theorem fenceTile_idle (h : ∀ c, c < 16 → ((s.tile t).ctx c).task = none) : s.fenceTile t = unitsFenced s t := by
  rw [fenceTile_eq]
  refine fenceTasks_idle _ _ fun c hc => ?_
  have hc' := List.mem_range.mp hc
  rw [ctx_unitsFenced, ctx_ctxId t.isLt hc']
  exact h c hc'

theorem banks_unitsFenced (s : State) (n : Nat) : ((unitsFenced s n).tile n).banks = (s.tile n).banks := by
  rw [unitsFenced, State.tile_setTile_same, fenceMarked, State.tile_fset, State.tile_fset, emptyUnits]

/-- The state of a tile whose array found a residue fault, before the tile is fenced. -/
def residueFound (s : State) (t : Nat) (e : Queued) (col : Nat) : State :=
  ((s.setTile t { s.tile t with deadBanks := (s.tile t).deadBanks ++ [e.bankD] }).bump (TILE_ARRAY_CNT t)
    TILE_ARRAY_CNT_RESIDUE 1).event 0x0102 t ((s.tile t).ctx e.ctx).glove col e.ctx

theorem tile_residueFound (t col : Nat) : (residueFound s t e col).tile t =
    { s.tile t with deadBanks := (s.tile t).deadBanks ++ [e.bankD] } := by
  rw [residueFound, State.tile_event, State.tile_bump, State.tile_setTile_same]

theorem exec_mmaComplete_residue {col : Fin 64} {blk : Nat} (hq : (s.tile t).mmaQ = e :: r) :
    exec (.mmaComplete t (.residue col blk)) s = done s ((residueFound (s.popQueue t 0) t e col).fenceTile t) := by
  show execMmaComplete t (.residue col blk) s = _
  simp only [execMmaComplete, hq, reduceCtorEq, if_false]
  rfl

theorem residue_fences {col : Fin 64} {blk : Nat} (hq : (s.tile t).mmaQ = e :: r)
    (hidle : ∀ c, c < 16 → ((s.tile t).ctx c).task = none) :
    Goes (.mmaComplete t (.residue col blk)) s (fun u => u.fenced t = true ∧ (u.tile t).banks = (s.tile t).banks
      ∧ (u.tile t).mmaQ = []) := by
  have htile : (residueFound (s.popQueue t 0) t e col).tile t =
      { s.tile t with mmaQ := (s.tile t).mmaQ.drop 1, deadBanks := (s.tile t).deadBanks ++ [e.bankD] } := by
    rw [tile_residueFound, State.tile_popMma]
  refine goes_of_done (exec_mmaComplete_residue hq) ?_
  rw [fenceTile_idle fun c hc => by rw [htile]; exact hidle c hc]
  obtain ⟨-, hcap, hmma, -⟩ := tileFenced_unitsFenced (residueFound (s.popQueue t 0) t e col) t
  refine ⟨?_, ?_, hmma⟩
  · rw [State.fenced, fget_pending, hcap]
    rfl
  · rw [tile_pending, banks_unitsFenced, htile]

/-! ### VOP on v-registers (R127, R131) -/

/-- Up to 128 elements are one chunk. -/
theorem overChunks_one {α : Type} {n : Nat} (h1 : 1 ≤ n) (h2 : n ≤ 128) (f : α → List Nat → α) (a : α) :
    overChunks n f a = f a (List.range n) := by
  have hone : (n + 127) / 128 = 1 := by omega
  have hix : chunkIx n 0 = List.range n := by simp [chunkIx, h2]
  rw [overChunks, hone, List.range_one, List.foldl_cons, List.foldl_nil, hix]

/-- A vector instruction that ends with its results in v-registers: they are written, and the engine's busy time counts. -/
theorem vecEnd_v (t : Nat) (h : spD e.w = 0) : s.vecEnd t e =
    (s.setTile t ((s.tile t).vecRun e).1).bump (TILE_VEC_CNT t) TILE_VEC_CNT_BUSY
      ((e.n + 127) / 128 + (if e.cls = 5 ∧ e.op = 1 then 7 else 0)) := by
  have hd : e.opD = .v e.w.rd.toNat := if_pos h
  unfold State.vecEnd State.vecDig
  rw [hd]

/-- What a VOP on v-registers leaves in lane j of its destination. -/
def vopLane (x : Ctx) (w : FmtB) (j : Nat) : W32 :=
  vecOp (fnOf w) (x.lane w.ra.toNat j) (x.lane w.rb.toNat j) (x.lane w.rd.toNat j)

/-- A VOP of one chunk on v-registers writes its lanes. -/
theorem vecRun_vop {v : Tile} (hcls : e.cls = 5) (hop : e.op = 0) (hd : spD e.w = 0) (ha : spA e.w = 0)
    (hb : spB e.w = 0) (h1 : 1 ≤ e.n) (h2 : e.n ≤ 128) : (v.vecRun e).1 =
      v.setOpnds e.ctx (.v e.w.rd.toNat) ((List.range e.n).map fun i => (i, vopLane (v.ctx e.ctx) e.w i)) := by
  have hD : e.opD = .v e.w.rd.toNat := if_pos hd
  have hA : e.opA = .v e.w.ra.toNat := if_pos ha
  have hB : e.opB = .v e.w.rb.toNat := if_pos hb
  have hcls' : e.cls ≠ 6 := by omega
  unfold Tile.vecRun
  simp only [if_neg hcls', hop, if_true, overChunks_one h1 h2, hD, hA, hB]
  refine congrArg _ (List.map_congr_left fun i hi => ?_)
  have hlt : i < 128 := Nat.lt_of_lt_of_le (List.mem_range.mp hi) h2
  simp only [Tile.opnd32, Nat.div_eq_of_lt hlt, Nat.mod_eq_of_lt hlt, Nat.add_zero]
  rfl

theorem exec_vecInstrComplete (hq : (s.tile t).vecQ = e :: r) :
    exec (.vecInstrComplete t none) s = done s ((s.popQueue t 1).vecEnd t e) := by
  show execVecInstrComplete t none s = _
  simp only [execVecInstrComplete, hq]

theorem vop_ends {n : Nat} (hq : (s.tile t).vecQ = e :: r) (hcls : e.cls = 5) (hop : e.op = 0) (hd : spD e.w = 0)
    (ha : spA e.w = 0) (hb : spB e.w = 0) (hn : n = e.n) (h1 : 1 ≤ n) (h2 : n ≤ 128) :
    Goes (.vecInstrComplete t none) s (fun u => (u.tile t).vecQ = r
      ∧ (∀ j, j < n → ((u.tile t).ctx e.ctx).lane e.w.rd.toNat j = vopLane ((s.tile t).ctx e.ctx) e.w j)
      ∧ (∀ v j, j < 128 → v ≠ e.w.rd.toNat ∨ n ≤ j →
          ((u.tile t).ctx e.ctx).lane v j = ((s.tile t).ctx e.ctx).lane v j)
      ∧ (u.tile t).banks = (s.tile t).banks ∧ ∀ a, u.byte a = s.byte a) := by
  subst hn
  have htile : ((s.popQueue t 1).vecEnd t e).tile t = Tile.setOpnds { s.tile t with vecQ := r } e.ctx (.v e.w.rd.toNat)
      ((List.range e.n).map fun i => (i, vopLane ((s.tile t).ctx e.ctx) e.w i)) := by
    rw [vecEnd_v t hd, State.tile_bump, State.tile_setTile_same, vecRun_vop hcls hop hd ha hb h1 h2, State.tile_popVec, hq]
    rfl
  have hlane : ∀ v j, j < 128 → ((((s.popQueue t 1).vecEnd t e).tile t).ctx e.ctx).lane v j =
      if v = e.w.rd.toNat ∧ j < e.n then vopLane ((s.tile t).ctx e.ctx) e.w j
      else ((s.tile t).ctx e.ctx).lane v j := fun v j hj => by
    rw [htile]; exact Tile.lane_setOpnds _ _ _ _ _ hj _ h2
  refine goes_of_done (exec_vecInstrComplete hq) ⟨?_, fun j hj => ?_, fun v j hj hout => ?_, ?_, fun a => ?_⟩
  · exact (congrArg Tile.vecQ htile).trans (Tile.setOpnds_v_vecQ ..)
  · exact (hlane _ j (by omega)).trans (if_pos ⟨rfl, hj⟩)
  · exact (hlane v j hj).trans (if_neg (by omega))
  · exact (congrArg Tile.banks htile).trans (Tile.setOpnds_v_banks ..)
  · show ((s.popQueue t 1).vecEnd t e).byte a = _
    rw [vecEnd_v t hd, State.byte_bump, State.byte_setTile]
    rfl

/-! ### SPENC into the MX form (R149, R150) -/

/-- SPENC of form 6 writes its rows into the TLS, and the form and the bytes written into its result register, where that is
not the status register (R58). -/
theorem spencRun_mx (t : Nat) (hform : e.w.ox 3 0 = 6) (hsd : e.w.rc ≠ e.w.sd) : ∃ tls tlsBy, s.spencRun t e =
    (s.setTile t { s.tile t with tls := tls, tlsBy := tlsBy }).mapCtx (ctxId t e.ctx) (fun x => x.setG e.w.rc.toNat
      (BitVec.ofNat 64 (6 + 16 * ((TDesc.of e.a).dim 1 * (TDesc.of e.d).span)))) := by
  unfold State.spencRun State.spencResult
  simp only [hform, if_true, if_neg hsd, Nat.mul_comm 16]
  obtain ⟨tls, tlsBy, h⟩ := Tile.foldl_setTls_eq ((s.tile t).ctx e.ctx).glove _ (s.tile t)
  exact ⟨tls, tlsBy, by rw [h]⟩

theorem spmQ_spencRun (t : Nat) (hform : e.w.ox 3 0 = 6) (hsd : e.w.rc ≠ e.w.sd) :
    ((s.spencRun t e).tile t).spmQ = (s.tile t).spmQ := by
  obtain ⟨tls, tlsBy, hrun⟩ := spencRun_mx (s := s) t hform hsd
  rw [hrun, State.mapCtx_spmQ, State.tile_setTile_same]

theorem banks_spencRun (t : Nat) (hform : e.w.ox 3 0 = 6) (hsd : e.w.rc ≠ e.w.sd) :
    ((s.spencRun t e).tile t).banks = (s.tile t).banks := by
  obtain ⟨tls, tlsBy, hrun⟩ := spencRun_mx (s := s) t hform hsd
  rw [hrun, State.mapCtx_banks, State.tile_setTile_same]

theorem byte_spencRun (t : Nat) (hform : e.w.ox 3 0 = 6) (hsd : e.w.rc ≠ e.w.sd) (a : Nat) :
    (s.spencRun t e).byte a = s.byte a := by
  obtain ⟨tls, tlsBy, hrun⟩ := spencRun_mx (s := s) t hform hsd
  rw [hrun, State.byte_mapCtx, State.byte_setTile]

theorem gr_spencRun (t : Nat) (hform : e.w.ox 3 0 = 6) (hrc : e.w.rc ≠ 0) (hsd : e.w.rc ≠ e.w.sd) :
    ((s.spencRun t e).ctx (ctxId t e.ctx)).gr e.w.rc.toNat =
      BitVec.ofNat 64 (6 + 16 * ((TDesc.of e.a).dim 1 * (TDesc.of e.d).span)) := by
  have hrc' : e.w.rc.toNat ≠ 0 := fun h => hrc (BitVec.eq_of_toNat_eq h)
  obtain ⟨tls, tlsBy, hrun⟩ := spencRun_mx (s := s) t hform hsd
  rw [hrun, State.ctx_mapCtx_same, Ctx.gr_setG, if_neg hrc', if_pos rfl]

theorem exec_spenc_ends (hq : (s.tile t).spmQ = e :: r) (hop : e.op = 1) :
    exec (.spmInstrComplete t none) s = done s ((s.popQueue t 2).spencRun t e) := by
  show execSpmInstrComplete t none s = _
  simp only [execSpmInstrComplete, hq, hop, if_true]
  rfl

theorem spenc_ends {x : CtxId} (hq : (s.tile t).spmQ = e :: r) (hop : e.op = 1) (hform : e.w.ox 3 0 = 6)
    (hrc : e.w.rc ≠ 0) (hsd : e.w.rc ≠ e.w.sd) (hx : x = ctxId t e.ctx) :
    Goes (.spmInstrComplete t none) s (fun u => (u.tile t).spmQ = r
      ∧ (u.ctx x).gr e.w.rc.toNat = BitVec.ofNat 64 (6 + 16 * ((TDesc.of e.a).dim 1 * (TDesc.of e.d).span))
      ∧ (u.tile t).banks = (s.tile t).banks ∧ ∀ a, u.byte a = s.byte a) := by
  subst hx
  refine goes_of_done (exec_spenc_ends hq hop) ⟨?_, gr_spencRun t hform hrc hsd, ?_, byte_spencRun t hform hsd⟩
  · rw [tile_pending, spmQ_spencRun t hform hsd, State.tile_popSpm, hq, List.drop_one, List.tail_cons]
  · rw [tile_pending, banks_spencRun t hform hsd, State.tile_popSpm]

/-! ### The sieve (R172) -/

theorem sieve_ends (hq : (s.tile t).sieveQ = e :: r) :
    Goes (.sieveComplete t) s (fun u => (u.tile t).sieveQ = r
      ∧ (u.tile t).sieve = (s.tile t).sieve ++ sieveRecords (s.tile t) e
      ∧ (u.tile t).banks = (s.tile t).banks ∧ ∀ a, u.byte a = s.byte a) := by
  have hexec : exec (.sieveComplete t) s = done s ((s.popQueue t 3).setTile t
      { s.tile t with sieveQ := r, sieve := (s.tile t).sieve ++ sieveRecords (s.tile t) e }) := by
    show execSieveComplete t s = _
    simp only [execSieveComplete, hq, State.tile_popSieve, List.drop_one, List.tail_cons]
  refine goes_of_done hexec ⟨?_, ?_, ?_, fun _ => rfl⟩
  · rw [tile_pending, State.tile_setTile_same]
  · rw [tile_pending, State.tile_setTile_same]
  · rw [tile_pending, State.tile_setTile_same]

end Sys2Proof.Claims

open Sys2Proof.Claims

/-- Settles O13, a lemma for the end of each unit's oldest instruction and one for the residue fault. -/
theorem unitInstructionsEnd : Obligations.UnitInstructionsEnd := by
  unfold Obligations.UnitInstructionsEnd
  refine ⟨fun t s e r hq hdead hm hn => mma_ends hq (Bool.eq_false_iff.mpr hdead) hm hn,
    fun t s e r col blk hq hidle => residue_fences hq hidle,
    fun t s e r n hq hcls hop hd ha hb hn h1 h2 => vop_ends hq hcls hop hd ha hb hn h1 h2,
    fun t s e r x hq hop hform _ hrc hsd hx => spenc_ends hq hop hform hrc hsd hx,
    fun t s e r hq => sieve_ends hq⟩
end

section
/-! What the fabric touches when a packet is sent, refused or counted against its port: the router, the ports, the hub's
list of packets sent, the ports' counters, and the logs (R255, R259 to R265, R273). And what a command that receives a
packet does once the packet has passed the destination's checks (R274). -/

namespace Sys2Proof.Claims

open Machine Reg

variable {s t u : State}

theorem netKept.refl (s : State) : netKept s s := ⟨rfl, rfl, rfl, rfl, rfl, rfl, rfl⟩

theorem netKept.trans (h : netKept s t) (g : netKept t u) : netKept s u := by
  obtain ⟨mem, kn, tiles, slice, mm, brm, pwr⟩ := h
  obtain ⟨mem', kn', tiles', slice', mm', brm', pwr'⟩ := g
  exact ⟨mem'.trans mem, kn'.trans kn, tiles'.trans tiles, slice'.trans slice, mm'.trans mm, brm'.trans brm, pwr'.trans pwr⟩

theorem netKept.setReg (h : netKept s t) (o : Nat) (v : W64) : netKept s (t.setReg o v) := h
theorem netKept.fset (h : netKept s t) (o : Nat) (f : Fld) (n : Nat) : netKept s (t.fset o f n) := h

/-- The registers that sending, refusing and counting a packet write: a port's state, its counters and its record of
violations, the event log's pointers and the journal's head. -/
def fabricReg (o : Nat) : Prop :=
  (∃ p, o = PORT_STAT p ∨ o = PORT_CNT3 p ∨ o = PORT_CNT4 p ∨ o = PORT_VIOL p)
    ∨ o = SVC_EVLOG ∨ o = SVC_EVLOG_LOST ∨ o = SEC_JNL_HEAD

theorem fabricReg_stat (p : Nat) : fabricReg (PORT_STAT p) := .inl ⟨p, .inl rfl⟩
theorem fabricReg_cnt3 (p : Nat) : fabricReg (PORT_CNT3 p) := .inl ⟨p, .inr (.inl rfl)⟩
theorem fabricReg_cnt4 (p : Nat) : fabricReg (PORT_CNT4 p) := .inl ⟨p, .inr (.inr (.inl rfl))⟩
theorem fabricReg_viol (p : Nat) : fabricReg (PORT_VIOL p) := .inl ⟨p, .inr (.inr (.inr rfl))⟩

theorem ne_of_fabricReg {o p : Nat} (ho : fabricReg o) (hp : ¬ fabricReg p) : p ≠ o := fun h => hp (h ▸ ho)

theorem not_log_of_not_fabricReg {o : Nat} (ho : ¬ fabricReg o) : o ≠ SVC_EVLOG ∧ o ≠ SVC_EVLOG_LOST ∧ o ≠ SEC_JNL_HEAD :=
  ⟨fun h => ho (.inr (.inl h)), fun h => ho (.inr (.inr (.inl h))), fun h => ho (.inr (.inr (.inr h)))⟩

/-- Nothing but the fabric, its registers and the logs has changed. -/
structure FabricOnly (s t : State) : Prop where
  net : netKept s t
  regs : ∀ o, ¬ fabricReg o → t.reg o = s.reg o

theorem FabricOnly.refl (s : State) : FabricOnly s s := ⟨.refl s, fun _ _ => rfl⟩

theorem FabricOnly.ite {c : Prop} [Decidable c] (ht : FabricOnly s t) (hu : FabricOnly s u) :
    FabricOnly s (if c then t else u) := by
  split
  · exact ht
  · exact hu

/-- The router, the ports and the hub may change. -/
theorem FabricOnly.upd {r : Router} {p : Tab Port} {x : Hub} (h : FabricOnly s t) :
    FabricOnly s { t with rt := r, ports := p, hub := x } := ⟨h.net, h.regs⟩

theorem FabricOnly.setPort (h : FabricOnly s t) (p : Nat) (v : Port) : FabricOnly s (t.setPort p v) := h.upd

theorem FabricOnly.fset (h : FabricOnly s t) {o : Nat} (ho : fabricReg o) (f : Fld) (n : Nat) : FabricOnly s (t.fset o f n) :=
  ⟨h.net.fset o f n, fun p hp => (State.reg_fset_ne (ne_of_fabricReg ho hp) f n).trans (h.regs p hp)⟩

theorem FabricOnly.event (h : FabricOnly s t) (c n g w2 w3 : Nat) : FabricOnly s (t.event c n g w2 w3) where
  net := h.net.trans ⟨State.event_mem .., State.event_kn .., State.event_tiles .., State.event_slice .., State.event_mm ..,
    State.event_brm .., State.event_pwr ..⟩
  regs o ho := by
    obtain ⟨h1, h2, h3⟩ := not_log_of_not_fabricReg ho
    exact (State.reg_event h1 h2 h3 ..).trans (h.regs o ho)

theorem FabricOnly.bumpBy (h : FabricOnly s t) {o : Nat} (ho : fabricReg o) (f : Fld) (v : Bool) (n : Nat) :
    FabricOnly s (t.bumpBy o f v n) where
  net := h.net.trans ⟨State.bumpBy_mem .., State.bumpBy_kn .., State.bumpBy_tiles .., State.bumpBy_slice ..,
    State.bumpBy_mm .., State.bumpBy_brm .., State.bumpBy_pwr ..⟩
  regs p hp := by
    obtain ⟨h1, h2, h3⟩ := not_log_of_not_fabricReg hp
    exact (State.reg_bumpBy (ne_of_fabricReg ho hp) h1 h2 h3 ..).trans (h.regs p hp)

/-! ### Sending (R259 to R265) -/

theorem FabricOnly.stamp (h : FabricOnly s t) (p : Packet) : FabricOnly s (t.stamp p).2 := h.upd
theorem FabricOnly.toLocal (h : FabricOnly s t) (p : Packet) : FabricOnly s (t.toLocal p) := h.upd

theorem FabricOnly.keepSent (h : FabricOnly s t) (p : Packet) : FabricOnly s (t.keepSent p) := .ite h.upd h

theorem FabricOnly.toOutq (h : FabricOnly s t) (p : Packet) (port : Nat) : FabricOnly s (t.toOutq p port) :=
  .upd (.ite (h.bumpBy (fabricReg_cnt4 port) ..) h)

theorem FabricOnly.localNak (h : FabricOnly s t) (p : Packet) : FabricOnly s (t.localNak p) := .ite h (.toLocal (h.stamp _) _)

theorem FabricOnly.notePort (h : FabricOnly s t) (slot p : Nat) : FabricOnly s (t.notePort slot p) :=
  .ite h (.ite h.upd h.upd)

theorem FabricOnly.emit (h : FabricOnly s t) (p : Packet) : FabricOnly s (t.emit p) := by
  unfold State.emit
  dsimp only
  refine .ite (.toLocal (.keepSent (h.stamp p) _) _) ?_
  split
  · exact .localNak (h.keepSent p) p
  · exact .toOutq (.keepSent (.ite (.setPort (.stamp h.upd _) _ _) (.stamp h.upd _)) _) _ _

theorem FabricOnly.send (h : FabricOnly s t) (p : Packet) : FabricOnly s (t.send p) := by
  unfold State.send
  dsimp only
  refine .ite ?_ (h.emit _)
  cases t.droute (slotOf p.dest) with
  | none => exact .ite h.upd (h.emit _)
  | some o => exact .ite (.upd (h.notePort _ o)) (.emit (h.notePort _ o) _)

/-! ### Refusing (R255, R273, R274) -/

theorem FabricOnly.nak (h : FabricOnly s t) (p : Packet) (code : Nat) : FabricOnly s (t.nak p code) := by
  unfold State.nak
  dsimp only
  refine .ite h (.ite (h.send _) ?_)
  split
  · exact h.send _
  · exact .ite (h.bumpBy (fabricReg_cnt3 _) ..) (.send (h.setPort ..) _)

theorem FabricOnly.violate (h : FabricOnly s t) (p code : Nat) : FabricOnly s (t.violate p code) := by
  have hviol := fabricReg_viol p
  have hb := h.bumpBy hviol PORT_VIOL_COUNT false 1
  have hcounted := FabricOnly.ite (c := (t.bumpBy (PORT_VIOL p) PORT_VIOL_COUNT false 1).fget (PORT_VIOL p) PORT_VIOL_VALID = 0)
    ((hb.fset hviol PORT_VIOL_LAST code).fset hviol PORT_VIOL_VALID 1) hb
  exact .ite (.ite (.event (.fset (.setPort hcounted _ _) (fabricReg_stat p) _ _) ..) (.setPort hcounted _ _)) h

/-- A violation is counted without a packet. -/
theorem rt_violate (p code : Nat) : (s.violate p code).rt = s.rt := by
  have hb : (s.bumpBy (PORT_VIOL p) PORT_VIOL_COUNT false 1).rt = s.rt := State.bumpBy_rt ..
  unfold State.violate
  dsimp only
  refine at_ite State.rt (at_ite State.rt ?_ ?_) rfl
  · rw [State.event_rt, State.fset_rt, State.setPort_rt]
    exact at_ite State.rt (by rw [State.fset_rt, State.fset_rt, hb]) hb
  · rw [State.setPort_rt]
    exact at_ite State.rt (by rw [State.fset_rt, State.fset_rt, hb]) hb

theorem FabricOnly.popIn (h : FabricOnly s t) (x : Rx) : FabricOnly s (t.popIn x) := by
  unfold State.popIn
  split
  · exact h
  · exact .ite (.setPort h.upd _ _) h.upd

theorem FabricOnly.seqCheck (h : FabricOnly s t) (p : Packet) : FabricOnly s (t.seqCheck p).2 := by
  unfold State.seqCheck
  split
  · exact h
  · dsimp only
    split
    · exact h.upd
    · exact h

theorem FabricOnly.malformed (h : FabricOnly s t) (x : Rx) (p : Packet) : FabricOnly s (t.malformed x p) :=
  ((h.seqCheck p).nak p _).violate ..

/-! ### Receiving (R274) -/

/-- A packet whose own layout is as it should be, and that passes the destination's checks, is handed on. -/
theorem receive_accepted {x : Rx} {ty : Nat} {p : Packet} {n : Nat} (h : accepts s x ty p u n) {mine ok : Packet → Bool}
    (hmine : mine p = true) (hok : ok p = true) (f : State → Packet → Nat → State) : s.receive x ty mine ok f = f u p n := by
  obtain ⟨hhead, hty, hdest, hscreen⟩ := h
  rw [State.receive, hhead]
  dsimp only
  rw [if_pos ⟨hty, hdest, hmine⟩, if_pos hok, hscreen]

/-- A packet whose own layout is not as it should be is refused as MALFORMED. -/
theorem receive_malformed {x : Rx} {ty : Nat} {p : Packet} (hhead : s.headOf x = some p) (hty : p.ty = ty)
    (hdest : p.dest = s.self) {mine ok : Packet → Bool} (hmine : mine p = true) (hok : ok p = false)
    (f : State → Packet → Nat → State) : s.receive x ty mine ok f = (s.popIn x).malformed x p := by
  rw [State.receive, hhead]
  dsimp only
  rw [if_pos ⟨hty, hdest, hmine⟩, if_neg (hok ▸ Bool.false_ne_true)]

end Sys2Proof.Claims
end

section
/-! O44: the digests of twin mode (R123 to R125): a DIGEST waits, agrees or differs; a RING names a window; and what 10 ms
without the twin's digest, or without a digest's subject, lead to. -/

namespace Sys2Proof.Claims

open Machine Reg

variable {s t u : State} {x : Rx} {p : Packet} {n : Nat} {h : TwinHeld} {d : TwinDigest}

/-! ### A DIGEST arrives (R124) -/

/-- The state with one more digest waiting. -/
def withDigest (u : State) (d : TwinDigest) : State := { u with kn := { u.kn with digests := u.kn.digests ++ [d] } }

theorem onlyKn_withDigest (u : State) (d : TwinDigest) : onlyKn u (withDigest u d) := rfl

theorem exec_twinDigestReceive (hc : twinComes s x 0x20 64 p u n) (h7 : p.word 7 = 0) :
    exec (.twinDigestReceive x) s = done s (withDigest u (digestOf u p n)).twinSweep := by
  obtain ⟨hacc, hkind, hlen, hhead⟩ := hc
  have hmine : (mgKind p == 0x20 || !(mgKnown p)) = true := by rw [hkind]; rfl
  have hok : (mgKind p == 0x20 && p.len == 64 && twinHeadOk p && p.word 7 == 0) = true := by
    rw [hkind, hlen, hhead, h7]; rfl
  exact congrArg (done s) (receive_accepted hacc hmine hok _)

/-- With no subject held, nothing is compared. -/
theorem twinSweep_none (htw : s.kn.twins = []) : s.twinSweep = s := by rw [State.twinSweep, htw]; rfl

/-- With one subject held, that one is compared. -/
theorem twinSweep_one (htw : s.kn.twins = [h]) : s.twinSweep = s.compareTwin h := by rw [State.twinSweep, htw]; rfl

theorem digest_waits (hc : twinComes s x 0x20 64 p u n) (h7 : p.word 7 = 0) (htw : u.kn.twins = []) :
    Goes (.twinDigestReceive x) s (fun t => t.kn.digests = u.kn.digests ++ [digestOf u p n] ∧ t.kn.twins = []
      ∧ t.kn.tasks = u.kn.tasks ∧ memRegsKept u t ∧ t.tiles = u.tiles) := by
  have hsweep : (withDigest u (digestOf u p n)).twinSweep = withDigest u (digestOf u p n) := twinSweep_none htw
  exact goes_of_done ((exec_twinDigestReceive hc h7).trans (congrArg (done s) hsweep))
    ⟨rfl, htw, rfl, (onlyKn_withDigest u (digestOf u p n)).memRegsKept, rfl⟩

/-- A MGMT packet of an unknown kind is refused (R124). -/
theorem unknown_refused (hhead : s.headOf x = some p) (hty : p.ty = tMGMT) (hdest : p.dest = s.self)
    (hknown : mgKnown p = false) :
    Goes (.twinDigestReceive x) s (fun t => t.rt = ((((s.popIn x).seqCheck p).2).nak p nakMALFORMED).rt ∧ netKept s t) := by
  have hkind : (mgKind p == 0x20) = false := beq_eq_false_iff_ne.mpr fun hk => by
    rw [mgKnown, hk] at hknown
    exact absurd hknown (by decide)
  have hmine : (mgKind p == 0x20 || !(mgKnown p)) = true := by rw [hknown, hkind]; rfl
  have hok : (mgKind p == 0x20 && p.len == 64 && twinHeadOk p && p.word 7 == 0) = false := by rw [hkind]; rfl
  exact goes_of_done (congrArg (done s) (receive_malformed hhead hty hdest hmine hok _))
    ⟨rt_violate .., (((FabricOnly.refl s).popIn x).malformed x p).net⟩

/-! ### The comparison (R123, R125) -/

section
variable (hdig : u.kn.digests = []) (hnot : h.diverged = false) (hm : d.matches' h = true)
include hdig hnot hm

/-- A digest that arrives where no other waits, and that is of the subject held, is the one compared, and is used up. -/
theorem compareTwin_withDigest {o : Option Nat} (hdiff : diffStream h.digs d.digs = o) :
    (withDigest u d).compareTwin h = o.elim (u.applyTwin h) fun i => u.diverge h i (d.digs.getD i 0) := by
  have hwait : (withDigest u d).kn.digests = [d] := by rw [withDigest, hdig]; rfl
  have hfind : (withDigest u d).kn.digests.find? (fun e => e.matches' h) = some d := by
    rw [hwait]; exact List.find?_cons_of_pos hm
  have hleft : (withDigest u d).kn.digests.filter (fun e => e != d) = u.kn.digests := by
    rw [hwait, hdig, List.filter_cons_of_neg (by simp), List.filter_nil]
  simp only [State.compareTwin, hnot, hfind, hleft, Bool.false_eq_true, if_false, hdiff]
  cases o <;> rfl

theorem twinSweep_agrees (htw : u.kn.twins = [h]) (hdiff : diffStream h.digs d.digs = none) :
    (withDigest u d).twinSweep = u.applyTwin h :=
  (twinSweep_one (s := withDigest u d) htw).trans (compareTwin_withDigest hdig hnot hm hdiff)

theorem twinSweep_differs (htw : u.kn.twins = [h]) {i : Nat} (hdiff : diffStream h.digs d.digs = some i) :
    (withDigest u d).twinSweep = u.diverge h i (d.digs.getD i 0) :=
  (twinSweep_one (s := withDigest u d) htw).trans (compareTwin_withDigest hdig hnot hm hdiff)

end

theorem heldFits.not_diverged (hf : heldFits h) : h.diverged = false := by
  obtain ⟨-, -, -, hnot⟩ := hf
  exact hnot

/-! ### A held task retires (R33, R123) -/

/-- The state without the held subject of what it holds back. -/
def unheld (u : State) (w : TwinWhat) : State :=
  { u with kn := { u.kn with twins := u.kn.twins.filter (fun t => t.what != w) } }

theorem applyTwin_task {q : Nat} (hw : h.what = .task q) : u.applyTwin h = (unheld u (.task q)).retireTask q := by
  rw [State.applyTwin, hw]; rfl

/-- The retirement of a task changes no twin's subject and no digest. -/
theorem twins_slotFreed {q : Nat} {r : Task} (hcalm : ∀ i ∈ r.outs, calm s i r.outs.length) :
    (slotFreed s q r).kn.twins = s.kn.twins ∧ (slotFreed s q r).kn.digests = s.kn.digests := by
  have hg := (gained_outs r.glove r.taint r.marks r.compare r.outs hcalm).only
  rw [slotFreed, hg]
  exact ⟨rfl, rfl⟩

theorem digest_retires {q : Nat} {r : Task} {g : Graph} (hc : twinComes s x 0x20 64 p u n) (h7 : p.word 7 = 0)
    (htw : u.kn.twins = [h]) (hdig : u.kn.digests = []) (hf : heldFits h)
    (hm : (digestOf u p n).matches' h = true) (hdiff : diffStream h.digs (digestOf u p n).digs = none)
    (hw : h.what = .task q) (hq : u.task q = some r) (hgraph : u.graph r.graph = some g) (hmore : 1 < g.remaining)
    (hcalm : ∀ i ∈ r.outs, calm u i r.outs.length) :
    Goes (.twinDigestReceive x) s (fun y => y.task q = none ∧ y.kn.twins = [] ∧ y.kn.digests = []
      ∧ (∀ i, (y.knot i).count = (u.knot i).count + r.outs.count i) ∧ y.mem = u.mem) := by
  have hcalm' : ∀ i ∈ r.outs, calm (unheld u (.task q)) i r.outs.length := hcalm
  have hfreed := slotFreed_calm (q := q) hcalm'
  obtain ⟨htwins, hdigests⟩ := twins_slotFreed (q := q) hcalm'
  have hsweep : (withDigest u (digestOf u p n)).twinSweep =
      (slotFreed (unheld u (.task q)) q r).setGraph r.graph (some (stepped g r.taint r.marks)) :=
    calc (withDigest u (digestOf u p n)).twinSweep
      _ = u.applyTwin h := twinSweep_agrees hdig hf.not_diverged hm htw hdiff
      _ = (unheld u (.task q)).retireTask q := applyTwin_task hw
      _ = (slotFreed (unheld u (.task q)) q r).graphStep r.graph r.taint r.marks := retireTask_eq hq
      _ = _ := graphStep_more ((hfreed.graph r.graph).trans hgraph) hmore _ _
  have hnone : u.kn.twins.filter (fun t => t.what != .task q) = [] := by rw [htw]; simp [hw]
  exact goes_of_done ((exec_twinDigestReceive hc h7).trans (congrArg (done s) hsweep))
    ⟨hfreed.free, htwins.trans hnone, hdigests.trans hdig, hfreed.count, hfreed.only.mem⟩

/-! ### A divergence (R125) -/

/-- The subject is marked, and its glove stands still. -/
def stilled (s : State) (h : TwinHeld) : State :=
  { s with kn := { s.kn with
    twins := s.kn.twins.map (fun x => if x.what = h.what then { x with diverged := true } else x)
    still := Tab.store (fun _ => false) s.kn.still h.glove true } }

/-- KNOT_TWIN_DIV0 of a divergence. -/
def divWord (h : TwinHeld) (stream : Nat) : Nat :=
  2 ^ 63 + b1 h.wrapped * 2 ^ 62 + h.glove % 64 * 2 ^ 56 + stream * 2 ^ 53 + h.task * 2 ^ 35 + h.subject * 2 ^ 33

/-- KNOT_TWIN_DIV0 to DIV4 written. -/
def divWritten (s : State) (h : TwinHeld) (stream : Nat) (theirs : W64) : State :=
  ((((s.setReg KNOT_TWIN_DIV0 (BitVec.ofNat 64 (divWord h stream))).setReg KNOT_TWIN_DIV1 h.id).setReg KNOT_TWIN_DIV2
    (BitVec.ofNat 64 h.graph)).setReg KNOT_TWIN_DIV3 (if stream = 4 then 0 else h.digs.getD stream 0)).setReg
    KNOT_TWIN_DIV4 theirs

/-- The divergence is recorded unless an earlier one is. -/
def divRecorded (s : State) (h : TwinHeld) (stream : Nat) (theirs : W64) : State :=
  if s.fget KNOT_TWIN_DIV0 KNOT_TWIN_DIV0_VALID = 0 then divWritten s h stream theirs else s

theorem netKept_divRecorded (s : State) (h : TwinHeld) (stream : Nat) (theirs : W64) :
    netKept s (divRecorded s h stream theirs) := by
  have hs := netKept.refl s
  unfold divRecorded
  split
  · exact ((((hs.setReg ..).setReg ..).setReg ..).setReg ..).setReg ..
  · exact hs

/-- What follows the record, the event and the RING to the twin, stays within the fabric and the logs. -/
theorem fabricOnly_diverge (s : State) (h : TwinHeld) (stream : Nat) (theirs : W64) :
    FabricOnly (divRecorded (stilled s h) h stream theirs) (s.diverge h stream theirs) := ((FabricOnly.refl _).event ..).send _

theorem kn_diverge (s : State) (h : TwinHeld) (stream : Nat) (theirs : W64) :
    (s.diverge h stream theirs).kn = (stilled s h).kn := by
  obtain ⟨-, kn, -⟩ := (netKept_divRecorded ..).trans (fabricOnly_diverge s h stream theirs).net
  exact kn

/-- The fields of a divergence's record. -/
theorem bits_divWord {stream : Nat} (hf : heldFits h) (hs : stream < 8) :
    bits (BitVec.ofNat 64 (divWord h stream)) 63 63 = 1 ∧ bits (BitVec.ofNat 64 (divWord h stream)) 61 56 = h.glove
      ∧ bits (BitVec.ofNat 64 (divWord h stream)) 55 53 = stream ∧ bits (BitVec.ofNat 64 (divWord h stream)) 46 35 = h.task
      ∧ bits (BitVec.ofNat 64 (divWord h stream)) 34 33 = h.subject := by
  obtain ⟨hg, ht, hsub, -⟩ := hf
  have hw : b1 h.wrapped ≤ 1 := by cases h.wrapped <;> decide
  simp only [bits, divWord, BitVec.toNat_ofNat]
  generalize b1 h.wrapped = w at hw
  refine ⟨?_, ?_, ?_, ?_, ?_⟩ <;> omega

theorem not_fabricReg_twinDiv {o : Nat} (h1 : KNOT_TWIN_DIV0 ≤ o) (h2 : o ≤ KNOT_TWIN_DIV4) : ¬ fabricReg o := by
  simp only [fabricReg, PORT_STAT, PORT_CNT3, PORT_CNT4, PORT_VIOL, SVC_EVLOG, SVC_EVLOG_LOST, SEC_JNL_HEAD, KNOT_TWIN_DIV0,
    KNOT_TWIN_DIV4] at *
  rintro (⟨q, h⟩ | h) <;> omega

theorem reg_divWritten (s : State) (h : TwinHeld) (stream : Nat) (theirs : W64) :
    (divWritten s h stream theirs).reg KNOT_TWIN_DIV0 = BitVec.ofNat 64 (divWord h stream)
      ∧ (divWritten s h stream theirs).reg KNOT_TWIN_DIV1 = h.id
      ∧ (divWritten s h stream theirs).reg KNOT_TWIN_DIV2 = BitVec.ofNat 64 h.graph
      ∧ (divWritten s h stream theirs).reg KNOT_TWIN_DIV4 = theirs := by
  simp only [divWritten, State.reg_setReg, KNOT_TWIN_DIV0, KNOT_TWIN_DIV1, KNOT_TWIN_DIV2, KNOT_TWIN_DIV3, KNOT_TWIN_DIV4]
  simp

theorem valid_divRecorded {stream : Nat} (hf : heldFits h) (hs : stream < 8) (theirs : W64) :
    (divRecorded s h stream theirs).fget KNOT_TWIN_DIV0 KNOT_TWIN_DIV0_VALID = 1 := by
  unfold divRecorded
  split
  case isTrue =>
    rw [State.fget, (reg_divWritten ..).1]
    exact (bits_divWord hf hs).1
  case isFalse hset =>
    have hlt : s.fget KNOT_TWIN_DIV0 KNOT_TWIN_DIV0_VALID < 2 := bits_lt ..
    omega

theorem diverge_diverged {stream : Nat} (hf : heldFits h) (hs : stream < 8) (theirs : W64) :
    twinDiverged s (s.diverge h stream theirs) h stream theirs := by
  have hfab := fabricOnly_diverge s h stream theirs
  have hreg : ∀ o, KNOT_TWIN_DIV0 ≤ o → o ≤ KNOT_TWIN_DIV4 →
      (s.diverge h stream theirs).reg o = (divRecorded (stilled s h) h stream theirs).reg o :=
    fun o h1 h2 => hfab.regs o (not_fabricReg_twinDiv h1 h2)
  obtain ⟨mem, kn, tiles, -⟩ := (netKept_divRecorded ..).trans hfab.net
  refine ⟨(congrArg KnotEngine.twins kn :), ?_, ?_, fun hfree => ?_, mem, tiles, (congrArg KnotEngine.knots kn :),
    (congrArg KnotEngine.tasks kn :)⟩
  · rw [kn]
    exact Tab.look_store_same (fun _ => false) s.kn.still h.glove true
  · rw [State.fget, hreg _ (by decide) (by decide)]
    exact valid_divRecorded hf hs theirs
  · have hwritten : divRecorded (stilled s h) h stream theirs = divWritten (stilled s h) h stream theirs := if_pos hfree
    obtain ⟨h0, h1, h2, h4⟩ := reg_divWritten (stilled s h) h stream theirs
    obtain ⟨-, hglove, hstream, htask, hsubject⟩ := bits_divWord hf hs
    rw [hwritten] at hreg
    simp only [State.fget]
    rw [hreg KNOT_TWIN_DIV0 (by decide) (by decide), hreg KNOT_TWIN_DIV1 (by decide) (by decide),
      hreg KNOT_TWIN_DIV2 (by decide) (by decide), hreg KNOT_TWIN_DIV4 (by decide) (by decide), h0]
    exact ⟨hglove, hstream, htask, hsubject, h1, h2, h4⟩

/-- A stream in which digests differ is one of the four. -/
theorem diffStream_lt {a b : List W64} {i : Nat} (hd : diffStream a b = some i) : i < 4 :=
  List.mem_range.mp (List.mem_of_find?_eq_some hd)

theorem digest_diverges {i : Nat} (hc : twinComes s x 0x20 64 p u n) (h7 : p.word 7 = 0) (htw : u.kn.twins = [h])
    (hdig : u.kn.digests = []) (hf : heldFits h) (hm : (digestOf u p n).matches' h = true)
    (hdiff : diffStream h.digs (digestOf u p n).digs = some i) :
    Goes (.twinDigestReceive x) s (fun t => twinDiverged u t h i ((digestOf u p n).digs.getD i 0) ∧ t.kn.digests = []) := by
  have hi : i < 8 := (diffStream_lt hdiff).trans (by decide)
  have hsweep := twinSweep_differs hdig hf.not_diverged hm htw hdiff
  exact goes_of_done ((exec_twinDigestReceive hc h7).trans (congrArg (done s) hsweep))
    ⟨diverge_diverged hf hi _, (congrArg KnotEngine.digests (kn_diverge u h i _)).trans hdig⟩

/-! ### A RING arrives (R124, R125) -/

/-- The first window that differs, and whether a ring wrapped, are written to KNOT_TWIN_DIV0. -/
def windowNamed (u : State) (w : Nat) (wrapped : Bool) : State :=
  (u.fset KNOT_TWIN_DIV0 KNOT_TWIN_DIV0_WINDOW w).fset KNOT_TWIN_DIV0 KNOT_TWIN_DIV0_WRAPPED (b1 wrapped)

theorem netKept_windowNamed (u : State) (w : Nat) (wrapped : Bool) : netKept u (windowNamed u w wrapped) :=
  ((netKept.refl u).fset ..).fset ..

section
variable {w : Nat} (hc : twinComes s x 0x21 1568 p u n) (h3 : bits (p.word 3) 63 7 = 0)
  (hfind : u.kn.twins.find? (fun h => h.glove == n && h.subject == bits (p.word 0) 9 8 && h.task == bits (p.word 0) 21 10
    && h.id == p.word 1 && h.graph == bits (p.word 2) 47 0 && h.diverged) = some h) (hnames : divNames u n h)
  (hw : firstDiff h.ring.reverse ((ringOf p).take h.ring.length) h.oldest (bits (p.word 3) 5 0) = some w)
include hc h3 hfind hnames hw

theorem exec_twinRingReceive :
    exec (.twinRingReceive x) s = done s (windowNamed u w (h.wrapped || (p.word 3).getLsbD 6)) := by
  obtain ⟨hacc, hkind, hlen, hhead⟩ := hc
  obtain ⟨hglove, hid, htask, hsubject⟩ := hnames
  have hmine : (mgKind p == 0x21) = true := by rw [hkind]; rfl
  have hok : (p.len == 1568 && twinHeadOk p && bits (p.word 3) 63 7 == 0) = true := by rw [hlen, hhead, h3]; rfl
  refine congrArg (done s) ((receive_accepted hacc hmine hok _).trans ?_)
  have hw' : firstDiff h.ring.reverse ((ringOf p).take h.ring.reverse.length) h.oldest (bits (p.word 3) 5 0) = some w := by
    rw [List.length_reverse, hw]
  rw [ringOf] at hw'
  simp only [hfind, hglove, hid, htask, hsubject, beq_self_eq_true, Bool.and_self, if_true, hw']
  rfl

theorem ring_names (hlt : w < 64) :
    Goes (.twinRingReceive x) s (fun t => t.fget KNOT_TWIN_DIV0 KNOT_TWIN_DIV0_WINDOW = w
      ∧ t.fget KNOT_TWIN_DIV0 KNOT_TWIN_DIV0_WRAPPED = (if h.wrapped || (p.word 3).getLsbD 6 then 1 else 0)
      ∧ regsBut u t [KNOT_TWIN_DIV0] ∧ netKept u t) := by
  refine goes_of_done (exec_twinRingReceive hc h3 hfind hnames hw)
    ⟨?_, ?_, fun o ho => ?_, netKept_windowNamed u w (h.wrapped || (p.word 3).getLsbD 6)⟩
  · rw [fget_pending, windowNamed, State.fget_fset_apart _ _ _ _ (by decide) (by decide) (by decide) (by decide),
      State.fget_fset _ _ _ (by decide) (by decide)]
    exact Nat.mod_eq_of_lt hlt
  · rw [fget_pending, windowNamed, State.fget_fset _ _ _ (by decide) (by decide)]
    cases h.wrapped || (p.word 3).getLsbD 6 <;> rfl
  · have ho' := List.ne_of_not_mem_cons ho
    rw [reg_pending, windowNamed, State.reg_fset_ne ho', State.reg_fset_ne ho']

end

/-! ### Ten milliseconds (R124, R125) -/

theorem digest_missing {q : Nat} (hq : s.kn.twins[q]? = some h) (hf : heldFits h) (hdue : h.since + twinWait ≤ s.lanyard.toNat) :
    Goes (.twinDigestMissing q) s (fun t => twinDiverged s t h 4 0) := by
  have he : exec (.twinDigestMissing q) s = done s (s.diverge h 4 0) := by
    show execTwinDigestMissing q s = _
    simp only [execTwinDigestMissing, hq, if_pos (And.intro hf.not_diverged hdue)]
  exact goes_of_done he (diverge_diverged hf (by decide) 0)

theorem digest_not_missing {q : Nat} (hq : s.kn.twins[q]? = some h) (hsoon : s.lanyard.toNat < h.since + twinWait) :
    Goes (.twinDigestMissing q) s (fun t => netKept s t ∧ memRegsKept s t) := by
  have he : exec (.twinDigestMissing q) s = done s s := by
    show execTwinDigestMissing q s = _
    simp only [execTwinDigestMissing, hq, if_neg fun hdue : _ ∧ _ => Nat.not_le.mpr hsoon hdue.2]
  exact goes_of_done he ⟨.refl s, (onlyKn.refl s).memRegsKept⟩

/-- The state without the j-th digest. -/
def discarded (s : State) (j : Nat) : State := { s with kn := { s.kn with digests := s.kn.digests.eraseIdx j } }

theorem digest_discarded {j : Nat} (hj : s.kn.digests[j]? = some d) (hdue : d.since + twinWait ≤ s.lanyard.toNat) :
    Goes (.twinDigestDiscard j) s (fun t => t.kn.digests = s.kn.digests.eraseIdx j ∧ t.kn.twins = s.kn.twins
      ∧ t.kn.tasks = s.kn.tasks ∧ t.mem = s.mem ∧ t.tiles = s.tiles) := by
  have he : exec (.twinDigestDiscard j) s = done s ((discarded s j).bump TIME_CNT0 TIME_CNT0_IGNORED 1) := by
    show execTwinDigestDiscard j s = _
    simp only [execTwinDigestDiscard, hj, if_pos hdue]
    rfl
  have hkn : ((discarded s j).bump TIME_CNT0 TIME_CNT0_IGNORED 1).kn = (discarded s j).kn := State.bump_kn ..
  exact goes_of_done he ⟨(congrArg KnotEngine.digests hkn :), (congrArg KnotEngine.twins hkn :), (congrArg KnotEngine.tasks hkn :),
    State.bump_mem .., State.bump_tiles ..⟩

theorem digest_not_discarded {j : Nat} (hj : s.kn.digests[j]? = some d) (hsoon : s.lanyard.toNat < d.since + twinWait) :
    Goes (.twinDigestDiscard j) s (fun t => netKept s t ∧ memRegsKept s t) := by
  have he : exec (.twinDigestDiscard j) s = done s s := by
    show execTwinDigestDiscard j s = _
    simp only [execTwinDigestDiscard, hj, if_neg (Nat.not_le.mpr hsoon)]
  exact goes_of_done he ⟨.refl s, (onlyKn.refl s).memRegsKept⟩

end Sys2Proof.Claims

open Sys2Proof.Claims

/-- Settles O44: a DIGEST that waits, agrees, differs or is of no known kind; a RING; and the two waits of 10 ms. -/
theorem twinMode : Obligations.TwinMode := by
  unfold Obligations.TwinMode
  exact ⟨fun x s p u n hc h7 htw => digest_waits hc h7 htw,
    fun x s p u n h q r g hc h7 htw hdig hf hm hdiff hw hq hgraph hmore hcalm =>
      digest_retires hc h7 htw hdig hf hm hdiff hw hq hgraph hmore hcalm,
    fun x s p u n h i hc h7 htw hdig hf hm hdiff => digest_diverges hc h7 htw hdig hf hm hdiff,
    fun x s p hhead hty hdest hknown => unknown_refused hhead hty hdest hknown,
    fun x s p u n h w hc h3 hfind hnames hlt hw => ring_names hc h3 hfind hnames hw hlt,
    fun q s h hq hf hdue => digest_missing hq hf hdue,
    fun q s h hq hsoon => digest_not_missing hq hsoon,
    fun j s d hj hdue => digest_discarded hj hdue,
    fun j s d hj hsoon => digest_not_discarded hj hsoon⟩
end

section
/-! States that meet the hypotheses of O44's clauses. -/

namespace Sys2Proof.Tests

open Machine Reg Claims

/-- The crossbar's own input on VC6. -/
def twinRx : Rx := ⟨32, 6⟩

/-- A MGMT packet of glove 0 with these words. -/
def twinPkt (ws : List W64) : Packet :=
  { ty := tMGMT, vc := 6, gloved := true, sync := true, len := 8 * ws.length, data := wordsBytes ws }

/-- A DIGEST for task 3 of graph 7 in step 5, and a RING for it whose oldest window is e. -/
def digestPkt (ds : List W64) : Packet := twinPkt ([0x20 + 3 * 2 ^ 10, 5, 7] ++ ds ++ [0])
def ringPkt (e : List W64) : Packet := twinPkt ([0x21 + 3 * 2 ^ 10, 5, 7, 0] ++ e ++ List.replicate 189 0)

/-- That task in slot 0, with one output knot, and its digests, held since time 0. -/
def twinTask : Task := { glove := 0, graph := 0, index := 3, desc := [0, 0, 0x10, 0, 0, 9], ph := .held }
def twinSubject : TwinHeld := ⟨.task 0, 0, 0, 3, 5, 7, [1, 2, 3, 4], [(1, 2, 3)], 1, 0, false⟩

/-- The knot engine that holds subjects hs, the task, and its graph with two tasks left. -/
def twinEngine (hs : List TwinHeld) : KnotEngine :=
  { twins := hs, tasks := [(0, some twinTask)], graphs := [(0, some ⟨0, 5, 8, false, 2, 7, false, [], 0⟩)] }

/-- At 10 ms: glove 0 is ACTIVE, subjects hs are held, and packet p waits. -/
def twinState (hs : List TwinHeld) (p : Packet) : State :=
  (({ State.reset with lanyard := 10000000, kn := twinEngine hs } : State).fset
    (KNOT_GLOVE_CTL 0) KNOT_GLOVE_CTL_STATE gACTIVE).setInq 32 6 [p]

/-- That state once the packet has passed the destination's checks. -/
def twinTaken (hs : List TwinHeld) (p : Packet) : State := ((twinState hs p).screen twinRx p).1

/-- A DIGEST comes with no subject held, with the subject's own digests, and with another KNOT digest. -/
theorem witness_TwinMode_digest :
    twinComes (twinState [] (digestPkt [1, 2, 3, 4])) twinRx 0x20 64 (digestPkt [1, 2, 3, 4]) (twinTaken [] (digestPkt [1, 2, 3, 4])) 0
      ∧ (let u := twinTaken [twinSubject] (digestPkt [1, 2, 3, 4]);
        twinComes (twinState [twinSubject] (digestPkt [1, 2, 3, 4])) twinRx 0x20 64 (digestPkt [1, 2, 3, 4]) u 0
          ∧ (digestPkt [1, 2, 3, 4]).word 7 = 0 ∧ u.kn.twins = [twinSubject] ∧ u.kn.digests = [] ∧ heldFits twinSubject
          ∧ (digestOf u (digestPkt [1, 2, 3, 4]) 0).matches' twinSubject = true
          ∧ diffStream twinSubject.digs (digestOf u (digestPkt [1, 2, 3, 4]) 0).digs = none ∧ u.task 0 = some twinTask
          ∧ (u.graph 0).map Graph.remaining = some 2 ∧ twinTask.outs = [9] ∧ calm u 9 1)
      ∧ (let u := twinTaken [twinSubject] (digestPkt [1, 2, 9, 4]);
        twinComes (twinState [twinSubject] (digestPkt [1, 2, 9, 4])) twinRx 0x20 64 (digestPkt [1, 2, 9, 4]) u 0
          ∧ (digestOf u (digestPkt [1, 2, 9, 4]) 0).matches' twinSubject = true
          ∧ diffStream twinSubject.digs (digestOf u (digestPkt [1, 2, 9, 4]) 0).digs = some 2) := by
  unfold twinComes accepts heldFits calm; decide +kernel

/-- The subject after its divergence, and the state in which its record is made. -/
def twinDiverse : TwinHeld := { twinSubject with diverged := true }
def twinRecorded (p : Packet) : State :=
  ((twinState [twinDiverse] p).fset KNOT_TWIN_DIV0 KNOT_TWIN_DIV0_TASK 3).setReg KNOT_TWIN_DIV1 5

/-- A RING comes whose window 0 differs; and a MGMT packet of no known kind. -/
theorem witness_TwinMode_ring :
    (let u := ((twinRecorded (ringPkt [1, 2, 9])).screen twinRx (ringPkt [1, 2, 9])).1;
      twinComes (twinRecorded (ringPkt [1, 2, 9])) twinRx 0x21 1568 (ringPkt [1, 2, 9]) u 0
        ∧ u.kn.twins = [twinDiverse] ∧ divNames u 0 twinDiverse ∧ bits ((ringPkt [1, 2, 9]).word 3) 63 7 = 0
        ∧ firstDiff twinDiverse.ring.reverse ((ringOf (ringPkt [1, 2, 9])).take twinDiverse.ring.length) twinDiverse.oldest
          (bits ((ringPkt [1, 2, 9]).word 3) 5 0) = some 0)
      ∧ (twinState [] (twinPkt [0x30])).headOf twinRx = some (twinPkt [0x30]) ∧ mgKnown (twinPkt [0x30]) = false
      ∧ (twinPkt [0x30]).dest = (twinState [] (twinPkt [0x30])).self := by
  unfold twinComes accepts divNames; decide +kernel

/-- A subject and a digest held since time 0 have waited 10 ms. -/
theorem witness_TwinMode_waits :
    (let s := twinState [twinSubject] (twinPkt []);
      s.kn.twins[0]? = some twinSubject ∧ heldFits twinSubject ∧ twinSubject.since + 10000000 ≤ s.lanyard.toNat)
      ∧ (let s := withDigest (twinState [] (twinPkt [])) ⟨0, 0, 3, 5, 7, [1, 2, 3, 4], 0⟩;
        s.kn.digests[0]? = some ⟨0, 0, 3, 5, 7, [1, 2, 3, 4], 0⟩ ∧ 0 + 10000000 ≤ s.lanyard.toNat) := by
  unfold heldFits; decide +kernel

end Sys2Proof.Tests
end

section
/-! Accesses of a glove's memory (R211 to R217): they look at no tile, and change the memory and its tiers alone. -/

namespace Sys2Proof.Machine

open Reg

variable {s t u : State} {k : CtxId}

/-! ### The tiles aside -/

/-- The state with these tiles in place of its own. -/
def State.withTiles (s : State) (v : Tab Tile) : State := { s with tiles := v }

theorem State.count_eq_withTiles (s : State) (k : CtxId) : s.count k = s.withTiles (s.count k).tiles := rfl

theorem State.translate_withTiles (v : Tab Tile) (n va : Nat) (r : Right) :
    (s.withTiles v).translate n va r = s.translate n va r := rfl

theorem State.localRange_withTiles (v : Tab Tile) (n : Nat) (r : Right) : ∀ len va : Nat,
    (s.withTiles v).localRange n r va len = s.localRange n r va len
  | 0, _ => rfl
  | len + 1, va => by
    rw [State.localRange, State.localRange, State.translate_withTiles, State.localRange_withTiles v n r len]

theorem State.mapped_withTiles (v : Tab Tile) (n va len : Nat) (r : Right) :
    (s.withTiles v).mapped n va len r = s.mapped n va len r := State.localRange_withTiles v n r _ _

theorem State.vbytesGo_withTiles (v : Tab Tile) (n : Nat) : ∀ len va : Nat,
    (s.withTiles v).vbytesGo n va len = s.vbytesGo n va len
  | 0, _ => rfl
  | len + 1, va => by
    rw [State.vbytesGo, State.vbytesGo, State.translate_withTiles, State.vbytesGo_withTiles v n len]
    rfl

theorem State.vbytes_withTiles (v : Tab Tile) (n va len : Nat) : (s.withTiles v).vbytes n va len = s.vbytes n va len := by
  rw [State.vbytes, State.vbytes, State.mapped_withTiles, State.vbytesGo_withTiles]

theorem State.vwords_withTiles (v : Tab Tile) (n va len : Nat) : (s.withTiles v).vwords n va len = s.vwords n va len := by
  rw [State.vwords, State.vwords, State.vbytes_withTiles]

theorem State.vpoisonGo_withTiles (v : Tab Tile) (n : Nat) : ∀ lines va : Nat,
    (s.withTiles v).vpoisonGo n va lines = s.vpoisonGo n va lines
  | 0, _ => rfl
  | lines + 1, va => by
    rw [State.vpoisonGo, State.vpoisonGo, State.translate_withTiles, State.vpoisonGo_withTiles v n lines]
    rfl

theorem State.vpoison_withTiles (v : Tab Tile) (n va len : Nat) :
    (s.withTiles v).vpoison n va len = s.vpoison n va len := State.vpoisonGo_withTiles v n _ _

theorem State.touch_withTiles (v : Tab Tile) (p die : Nat) (demand : Bool) :
    (s.withTiles v).touch p die demand = (s.touch p die demand).map (·.withTiles v) := by
  unfold State.touch
  rw [show (s.withTiles v).page p = s.page p from rfl]
  split
  case h_1 => rfl
  case h_2 =>
    unfold State.placeHbm
    rw [show (s.withTiles v).freeChan 256 = s.freeChan 256 from rfl]
    cases s.freeChan 256 with
    | none => rfl
    | some c =>
      dsimp only
      rw [show (s.withTiles v).freeIn c = s.freeIn c from rfl]
      cases s.freeIn c <;> rfl
  case h_3 c _ _ =>
    rw [show (s.withTiles v).fget (HBM_CH_STAT c) HBM_CH_STAT_STATE = s.fget (HBM_CH_STAT c) HBM_CH_STAT_STATE from rfl]
    split
    · dsimp only
      rw [show (s.withTiles v).free = s.free from rfl]
      split <;> rfl
    · rfl

theorem State.touchRange_withTiles (v : Tab Tile) (n die : Nat) (demand : Bool) : ∀ (pages va : Nat) (s : State),
    (s.withTiles v).touchRange n die demand va pages = (s.touchRange n die demand va pages).map (·.withTiles v)
  | 0, _, _ => rfl
  | pages + 1, va, s => by
    rw [State.touchRange, State.touchRange, show (s.withTiles v).anyRight n va = s.anyRight n va from rfl]
    cases s.anyRight n va with
    | none => exact State.touchRange_withTiles v n die demand pages _ _
    | some a =>
      dsimp only
      rw [State.touch_withTiles]
      split
      · cases s.touch (a / 65536) die demand with
        | none => rfl
        | some s' => exact State.touchRange_withTiles v n die demand pages _ _
      · exact State.touchRange_withTiles v n die demand pages _ _

/-- A read by an engine, whatever the tiles hold. -/
theorem State.engineRead_withTiles {n die va len : Nat} {bs : List Byte} (v : Tab Tile)
    (h : s.engineRead n die va len = some (u, bs)) :
    (s.withTiles v).engineRead n die va len = some (u.withTiles v, bs) := by
  unfold State.engineRead at h ⊢
  rw [State.vbytes_withTiles, State.touchRange_withTiles]
  cases hv : s.vbytes n va len with
  | none => rw [hv] at h; cases h
  | some cs =>
    rw [hv] at h
    obtain ⟨x, hx, he⟩ := Option.map_eq_some_iff.mp h
    cases he
    rw [hx]
    rfl

theorem State.setVbytesGo_withTiles (v : Tab Tile) (n : Nat) : ∀ (bs : List Byte) (va : Nat) (s : State),
    (s.withTiles v).setVbytesGo n va bs = (s.setVbytesGo n va bs).withTiles v
  | [], _, _ => rfl
  | b :: bs, va, s => by
    rw [State.setVbytesGo, State.setVbytesGo, ← State.setVbytesGo_withTiles v n bs, State.translate_withTiles]
    cases s.translate n va .W with
    | none => rfl
    | some a =>
      refine congrArg (fun x => State.setVbytesGo x n (va + 1) bs) ?_
      dsimp only [State.clearPoison]
      split <;> rfl

/-- A write of a glove's memory, whatever the tiles hold. -/
theorem State.setVbytes_withTiles {n va : Nat} {bs : List Byte} (v : Tab Tile) (h : s.setVbytes n va bs = some u) :
    (s.withTiles v).setVbytes n va bs = some (u.withTiles v) := by
  unfold State.setVbytes at h ⊢
  rw [State.mapped_withTiles, State.touchRange_withTiles]
  split at h
  case isFalse => cases h
  case isTrue hm =>
    rw [if_pos hm]
    cases ht : s.touchRange n 0 false va (pagesMet va bs.length) with
    | none => rw [ht] at h; cases h
    | some x =>
      rw [ht] at h
      cases h
      exact congrArg some (State.setVbytesGo_withTiles v n bs va x)

/-! ### The memory and its tiers -/

/-- Nothing but the memory, its tiers and the model's own counter has changed. -/
def onlyStorage (s t : State) : Prop := t = { s with free := t.free, mem := t.mem, mm := t.mm }

theorem onlyStorage.refl (s : State) : onlyStorage s s := rfl

theorem onlyStorage.trans (h : onlyStorage s t) (g : onlyStorage t u) : onlyStorage s u := by
  rw [onlyStorage] at h g ⊢
  rw [g, h]

theorem onlyStorage.ctl (h : onlyStorage s t) : t.ctl = s.ctl := by rw [h]
theorem onlyStorage.kn (h : onlyStorage s t) : t.kn = s.kn := by rw [h]
theorem onlyStorage.brm (h : onlyStorage s t) : t.brm = s.brm := by rw [h]
theorem onlyStorage.tiles (h : onlyStorage s t) : t.tiles = s.tiles := by rw [h]
theorem onlyStorage.lanyard (h : onlyStorage s t) : t.lanyard = s.lanyard := by rw [h]

/-- A touched page changes the tiers alone, and no byte of the memory. -/
theorem State.touch_storage {p die : Nat} {demand : Bool} (h : s.touch p die demand = some t) :
    onlyStorage s t ∧ t.mem = s.mem := by
  unfold State.touch at h
  split at h
  case h_1 => cases h; exact ⟨rfl, rfl⟩
  case h_2 =>
    unfold State.placeHbm at h
    split at h
    · cases h
    · split at h
      · cases h
      · cases h; exact ⟨rfl, rfl⟩
  case h_3 =>
    split at h
    · dsimp only at h
      split at h <;> (cases h; exact ⟨rfl, rfl⟩)
    · cases h; exact ⟨rfl, rfl⟩

theorem State.touchRange_storage {n die : Nat} {demand : Bool} : ∀ (pages va : Nat) (s : State),
    s.touchRange n die demand va pages = some t → onlyStorage s t ∧ t.mem = s.mem
  | 0, _, _, h => by cases h; exact ⟨rfl, rfl⟩
  | pages + 1, va, s, h => by
    rw [State.touchRange] at h
    split at h
    · split at h
      · split at h
        · next hx =>
          obtain ⟨htouch, hmem⟩ := State.touch_storage hx
          obtain ⟨hrest, hmem'⟩ := State.touchRange_storage pages _ _ h
          exact ⟨htouch.trans hrest, hmem'.trans hmem⟩
        · cases h
      · exact State.touchRange_storage pages _ _ h
    · exact State.touchRange_storage pages _ _ h

/-- An engine's read touches its pages alone. -/
theorem State.engineRead_storage {n die va len : Nat} {bs : List Byte} (h : s.engineRead n die va len = some (t, bs)) :
    onlyStorage s t ∧ t.mem = s.mem := by
  unfold State.engineRead at h
  split at h
  · obtain ⟨x, hx, he⟩ := Option.map_eq_some_iff.mp h
    cases he
    exact State.touchRange_storage _ _ _ hx
  · cases h

theorem State.setVbytesGo_storage (n : Nat) : ∀ (bs : List Byte) (va : Nat) (s : State),
    onlyStorage s (s.setVbytesGo n va bs)
  | [], _, _ => rfl
  | b :: bs, va, s => by
    rw [State.setVbytesGo]
    refine onlyStorage.trans ?_ (State.setVbytesGo_storage n bs (va + 1) _)
    split
    · unfold State.clearPoison; split <;> rfl
    · rfl

/-- A write of a glove's memory changes the memory and its tiers alone. -/
theorem State.setVbytes_storage {n va : Nat} {bs : List Byte} (h : s.setVbytes n va bs = some t) : onlyStorage s t := by
  unfold State.setVbytes at h
  split at h
  · split at h
    · next hx => cases h; exact (State.touchRange_storage _ _ _ hx).1.trans (State.setVbytesGo_storage n bs va _)
    · cases h
  · cases h

end Sys2Proof.Machine
end

section
/-! O38: ROUTE.GO, SIEVE.FL, ROUTE.STAT and the arming of a directory (R164 to R167, R171, R187, R188). -/

namespace Sys2Proof.Machine

open Reg Claims

variable {s t u : State} {k : CtxId}

/-! ### The layer's queues, whatever the tiles hold -/

/-- A directory's entries are what a glove's memory holds. Here and for the queues the bare constant is unfolded: of its
applied form the kernel would evaluate the page count of a read of fixed length. -/
theorem State.dirEntry_congr {n : Nat} (h : t.vwords n = s.vwords n) : t.dirEntry n = s.dirEntry n := by
  suffices ∀ f, f = @State.dirEntry → f t n = f s n from this _ rfl
  intro f hf
  delta State.dirEntry at hf
  subst hf
  beta_reduce
  rw [h]

theorem State.dirQueues_congr {n : Nat} (h : t.vwords n = s.vwords n) : t.dirQueues n = s.dirQueues n := by
  suffices ∀ f, f = @State.dirQueues → f t n = f s n from this _ rfl
  intro f hf
  delta State.dirQueues State.dirQueues._f at hf
  subst hf
  beta_reduce
  rw [State.dirEntry_congr h]

/-- The queues of a layer are what the glove's memory and the directory's register hold. -/
theorem State.layerQueues_congr {n : Nat} (h : t.vwords n = s.vwords n) (hreg : t.reg (BRM_DIR_CUR n) = s.reg (BRM_DIR_CUR n)) :
    t.layerQueues n = s.layerQueues n := by
  suffices ∀ f, f = @State.layerQueues → f t n = f s n from this _ rfl
  intro f hf
  delta State.layerQueues at hf
  subst hf
  beta_reduce
  rw [h, State.dirQueues_congr h, hreg]

theorem State.layerQueues_withTiles (v : Tab Tile) (n : Nat) : (s.withTiles v).layerQueues n = s.layerQueues n :=
  State.layerQueues_congr (funext₂ fun va len => State.vwords_withTiles v n va len) rfl

/-! ### The engines -/

/-- Nothing but the registers and the routing engines has changed. -/
def onlyEngines (s t : State) : Prop := t = { s with ctl := t.ctl, brm := t.brm }

theorem onlyEngines.trans (h : onlyEngines s t) (g : onlyEngines t u) : onlyEngines s u := by
  rw [onlyEngines] at h g ⊢
  rw [g, h]

theorem onlyEngines.mem (h : onlyEngines s t) : t.mem = s.mem := by rw [h]
theorem onlyEngines.kn (h : onlyEngines s t) : t.kn = s.kn := by rw [h]
theorem onlyEngines.tiles (h : onlyEngines s t) : t.tiles = s.tiles := by rw [h]

theorem onlyEngines_fset (o : Nat) (f : Fld) (n : Nat) : onlyEngines s (s.fset o f n) := rfl

theorem onlyEngines_keepPast (e : Nat) : onlyEngines s (s.keepPast e) := by
  unfold State.keepPast; split <;> rfl

theorem onlyEngines_brm (b : Brimir) : onlyEngines s { s with brm := b } := rfl

theorem onlyEngines_putStep (e : Nat) (r : Step) : onlyEngines s (s.putStep e r) := by
  unfold State.putStep
  split
  · exact (onlyEngines_brm _).trans ((onlyEngines_fset ..).trans ((onlyEngines_fset ..).trans (onlyEngines_fset ..)))
  · rfl

/-- The step of an ACTIVE glove stands on its engine, and the other engine's is as before. -/
theorem State.route'_putStep {r : Step} (ha : s.gstate r.glove = gACTIVE) (e i : Nat) :
    (s.putStep e r).route' i = if i = e then some r else s.route' i := by
  rw [State.putStep, if_pos ha]
  exact Tab.look_store (fun _ => none) s.brm.eng e (some r) i

/-- A step changes its engine's registers and the splice engine's alone. -/
theorem State.reg_putStep {e o : Nat} (he : o ≠ BRM_ENG_STAT e) (hs : o ≠ SPL_STAT) (r : Step) :
    (s.putStep e r).reg o = s.reg o := by
  unfold State.putStep
  refine at_ite (State.reg · o) ?_ rfl
  rw [State.reg_fset_ne hs, State.reg_fset_ne hs, State.reg_fset_ne he]
  rfl

theorem State.route'_keepPast (e i : Nat) : (s.keepPast e).route' i = s.route' i := by
  unfold State.keepPast; split <;> rfl

theorem State.reg_keepPast (e o : Nat) : (s.keepPast e).reg o = s.reg o := by
  unfold State.keepPast; split <;> rfl

/-- A register's field is not a step. -/
theorem State.route'_fset (o : Nat) (f : Fld) (n i : Nat) : (s.fset o f n).route' i = s.route' i := by
  rw [State.route', State.fset_brm]; rfl

/-- A handle names a step of the context's own glove (R166). -/
theorem State.glove_of_stepOf {n e : Nat} {h : W64} {r : Step} (hs : s.stepOf n h = some (e, r)) : r.glove = n := by
  unfold State.stepOf at hs
  dsimp only at hs
  split at hs
  · split at hs
    · next hc =>
      obtain ⟨-, -, -, -, -, hglove⟩ := hc
      cases hs
      exact hglove
    · cases hs
  · cases hs

/-- A glove that is not going down is ACTIVE (R63). -/
theorem State.active_of_not_dying (h : s.dying k = false) : s.gstate (s.ctx k).glove = gACTIVE := by
  simpa [State.dying] using h

/-- The engine that ROUTE.GO takes is one of the two (R165). -/
theorem State.pickEngine_lt {want e : Nat} (hw : want < 3) (h : s.pickEngine want = some e) : e < 2 := by
  unfold State.pickEngine at h
  split at h
  · have := List.mem_of_find?_eq_some h
    simp only [List.mem_cons, List.not_mem_nil, or_false] at this
    omega
  · split at h
    · cases h; omega
    · cases h

/-! ### The instructions' ends -/

theorem State.outsideKept.mem (h : s.outsideKept t) : t.mem = s.mem :=
  show t.outside.mem = s.outside.mem from congrArg State.mem h.1
theorem State.outsideKept.brm (h : s.outsideKept t) : t.brm = s.brm :=
  show t.outside.brm = s.outside.brm from congrArg State.brm h.1

/-- What stands between a result and the end of the issue and touches no tile leaves the instruction completed. -/
theorem State.completed_result_then {w : FmtB} {r : Nat} {v : W64} (h : (s.ctx k).sameRegs (u.ctx k))
    (ht : t.tiles = (u.result k w r v).tiles) : s.completed (t.issued k) k w r v := by
  have hctx : t.ctx k = (u.result k w r v).ctx k := by rw [State.ctx, State.tile, ht]; rfl
  obtain ⟨hw, hon⟩ := State.completed_result (w := w) h r v
  obtain ⟨a, ha⟩ := State.ctx_issued (s := t) k
  obtain ⟨b, hb⟩ := State.ctx_issued (s := u.result k w r v) k
  rw [hb] at hw hon
  rw [State.completed, ha, hctx]
  exact ⟨hw, hon⟩

/-- The same of what the instruction leaves of the other contexts and of the tiles' storage. -/
theorem State.othersKept_of_tiles (ht : t.tiles = u.tiles) (h : s.othersKept u k) : s.othersKept t k := by
  obtain ⟨hctx, htile⟩ := h
  refine ⟨fun k' hk => ?_, fun n => ?_⟩
  · rw [State.ctx, State.tile, ht]; exact hctx k' hk
  · rw [State.tile, ht]; exact htile n

end Sys2Proof.Machine

namespace Sys2Proof.Claims

open Machine Reg

variable {s t u v : State} {k : CtxId} {w : FmtB}

/-! ### The step that starts (R164, R165) -/

/-- The engine's registers of a step that starts, the displaced step's tag kept. -/
def engineTaken (u : State) (e n seq : Nat) : State :=
  ((u.keepPast e).fset (BRM_ENG_STAT e) BRM_ENG_STAT_SEQ seq).fset (BRM_ENG_STAT e) BRM_ENG_STAT_GLOVE n

theorem onlyEngines_engineTaken (e n seq : Nat) : onlyEngines u (engineTaken u e n seq) :=
  (onlyEngines_keepPast e).trans ((onlyEngines_fset ..).trans (onlyEngines_fset ..))

theorem route'_engineTaken (e n seq i : Nat) : (engineTaken u e n seq).route' i = u.route' i := by
  rw [engineTaken, State.route'_fset, State.route'_fset, State.route'_keepPast]

theorem reg_engineTaken {e o : Nat} (ho : o ≠ BRM_ENG_STAT e) (n seq : Nat) : (engineTaken u e n seq).reg o = u.reg o := by
  rw [engineTaken, State.reg_fset_ne ho, State.reg_fset_ne ho, State.reg_keepPast]

/-- The engines' registers are not a glove's (R39, R191). -/
theorem gstate_engineTaken {e : Nat} (he : e < 2) (n seq m : Nat) : (engineTaken u e n seq).gstate m = u.gstate m := by
  have hne : KNOT_GLOVE_CTL m ≠ BRM_ENG_STAT e := fun h =>
    absurd he (by simp only [KNOT_GLOVE_CTL, BRM_ENG_STAT] at h; omega)
  rw [State.gstate, State.fget, reg_engineTaken hne]
  rfl

/-- The step that ROUTE.GO starts, on its engine. -/
def stepStarted (u : State) (n e : Nat) (d : List W64) (ms : List (BitVec 24)) (qs : List QueueEnt) : State :=
  (engineTaken u e n ((u.fget (BRM_ENG_STAT e) BRM_ENG_STAT_SEQ + 1) % 2 ^ 32)).putStep e (stepMade u n e d ms qs)

theorem self_stepStarted {e : Nat} (he : e < 2) (n : Nat) (d : List W64) (ms : List (BitVec 24)) (qs : List QueueEnt) :
    (stepStarted u n e d ms qs).self = u.self := by
  have hne : FAB_CFG ≠ BRM_ENG_STAT e := fun h => absurd he (by simp only [FAB_CFG, BRM_ENG_STAT] at h; omega)
  rw [State.self, State.fget, stepStarted, State.reg_putStep hne (by decide), reg_engineTaken hne]
  rfl

/-- With a member table that passes its checks, and tokens of its own, the step stands on its engine (R164). -/
theorem startStep_eq {n e : Nat} {d : List W64} {table : List Byte} {ms : List (BitVec 24)} (qs : List QueueEnt)
    (hm : stepMembers u d table ms) (hn : dNtok d ≠ 0) (he : e < 2) :
    u.startStep n e d table qs = stepStarted u n e d ms qs := by
  obtain ⟨hms, hsmall, hself, hdistinct⟩ := hm
  have hraw : ((List.range (dNmem d)).map (fun i => leNat ((table.drop (4 * i)).take 4))).map (BitVec.ofNat 24) = ms := by
    rw [hms, List.map_map]; rfl
  have hwide : ((List.range (dNmem d)).map (fun i => leNat ((table.drop (4 * i)).take 4))).any
      (fun m => decide (2 ^ 24 ≤ m)) = false := by
    rw [List.any_eq_false]
    intro m hmem
    obtain ⟨i, hi, rfl⟩ := List.mem_map.mp hmem
    simpa using hsmall i (List.mem_range.mp hi)
  have hlast : ¬ (false || ms.getD (dSelf d) 0 != (stepStarted u n e d ms qs).self || ms.length != ms.length) = true := by
    rw [self_stepStarted he, hself, bne_self_eq_false, bne_self_eq_false]; decide
  unfold State.startStep
  dsimp only
  rw [hraw, hwide, hdistinct, decide_eq_false hn, if_neg Bool.false_ne_true]
  exact (if_neg hlast).trans (if_neg fun h => Bool.false_ne_true h.1)

/-! ### ROUTE.GO (R164 to R167) -/

theorem fget_congr (h : t.ctl = s.ctl) : t.fget = s.fget := by
  funext o f; rw [State.fget, reg_congr h]; rfl

theorem route'_congr (h : t.brm = s.brm) : t.route' = s.route' := by
  funext e; rw [State.route', h]; rfl

theorem pickEngine_congr (h : t.brm = s.brm) (want : Nat) : t.pickEngine want = s.pickEngine want := by
  have hidle : t.engineIdle = s.engineIdle := by funext e; rw [State.engineIdle, State.engineIdle, route'_congr h]
  rw [State.pickEngine, State.pickEngine, hidle]

theorem findStep_congr (h : t.brm = s.brm) (n tag : Nat) : t.findStep n tag = s.findStep n tag := by
  rw [State.findStep, State.findStep, route'_congr h]

/-- The status of ROUTE.GO is read from the registers, the engines and the context's glove (R165). -/
theorem goStatus_congr (hctl : t.ctl = s.ctl) (hbrm : t.brm = s.brm) (hg : (t.ctx k).glove = (s.ctx k).glove)
    (a want : Nat) (d : List W64) : t.goStatus k a want d = s.goStatus k a want d := by
  have hown : t.ownsKnot = s.ownsKnot := by
    funext n i
    rw [State.ownsKnot, State.kbase, State.kcount, fget_congr hctl]; rfl
  have hrange : ∀ n, t.stepRangeOk n a d = s.stepRangeOk n a d := fun n => by
    rw [State.stepRangeOk, State.stepRangeOk, hown]
  have hdying : t.dying k = s.dying k := by
    rw [State.dying, State.dying, State.gstate, State.gstate, fget_congr hctl, hg]
  simp only [State.goStatus, hg, hrange, fget_congr hctl, findStep_congr hbrm, pickEngine_congr hbrm, hdying]

/-- ROUTE.GO starts no step of a glove that is going down (R63). -/
theorem not_dying_of_goStatus {a want : Nat} {d : List W64} (h : s.goStatus k a want d = ST_OK) : s.dying k = false := by
  refine Bool.eq_false_iff.mpr fun hd => ?_
  unfold State.goStatus at h
  dsimp only at h
  repeat (split at h; · exact absurd h (by decide))
  exact absurd h (by decide)

theorem legal_go (hw : goWord w) : (w.legal .g .g .no .no (ox 1 0) && w.ox 1 0 != 3) = true := by
  obtain ⟨hb, hc, ho⟩ := hw
  have hopx : w.opx = 0 ∨ w.opx = 1 ∨ w.opx = 2 := by
    have h : w.opx.toNat = 0 ∨ w.opx.toNat = 1 ∨ w.opx.toNat = 2 := by omega
    exact h.imp BitVec.eq_of_toNat_eq fun h => h.imp BitVec.eq_of_toNat_eq BitVec.eq_of_toNat_eq
  rcases hopx with h | h | h <;> simp [FmtB.legal, FmtB.ox, Use.ok, ox, hb, hc, h]

theorem ox_go (hw : goWord w) : w.ox 1 0 = w.opx.toNat := by
  obtain ⟨-, -, ho⟩ := hw
  rw [FmtB.ox, Nat.pow_zero, Nat.div_one]
  exact Nat.mod_eq_of_lt (ho.trans (by decide))

/-- ROUTE.GO, its descriptor read: on the state of that read, the instruction counted. -/
theorem exec_routeGo {bs : List Byte} (hr : ReadyB s k w) (hw : goWord w) (hl : unlocked s k [.mem] [])
    (hp : s.vpoison (s.ctx k).glove ((s.ctx k).gr w.ra.toNat).toNat 128 = false)
    (hread : s.engineRead (s.ctx k).glove (k.tile / 64) ((s.ctx k).gr w.ra.toNat).toNat 128 = some (u, bs)) :
    exec (.routeGo k w) s = done s
      (((u.withTiles (s.count k).tiles).routeGo k w ((s.ctx k).gr w.ra.toNat).toNat (bytesWords 16 bs)).issued k) := by
  refine congrArg (done s) (issueB_eq hr (legal_go hw) ?_)
  have hl' : (s.count k).locked k [.mem] [] = false := (State.locked_count k _ _).trans hl
  have hp' : (s.count k).vpoison (s.ctx k).glove ((s.ctx k).gr w.ra.toNat).toNat 128 = false :=
    (State.vpoison_withTiles _ _ _ _).trans hp
  have hread' := State.engineRead_withTiles (s.count k).tiles hread
  rw [← State.count_eq_withTiles] at hread'
  simp only [State.count_ctx_glove, State.count_ctx_gr, hl', hp', hread', Bool.false_eq_true, if_false]

/-- A state that holds the tiles of the counted instruction has its context as counting left it, and the others as before. -/
theorem ctx_countTiles (h : t.tiles = (s.count k).tiles) : t.ctx k = (s.count k).ctx k := by
  rw [State.ctx, State.tile, h]; rfl

theorem sameRegs_countTiles (h : t.tiles = (s.count k).tiles) : (s.ctx k).sameRegs (t.ctx k) := by
  rw [ctx_countTiles h]; exact State.sameRegs_count

theorem glove_countTiles (h : t.tiles = (s.count k).tiles) : (t.ctx k).glove = (s.ctx k).glove := by
  rw [ctx_countTiles h, State.count_ctx_glove]

theorem othersKept_countTiles (h : t.tiles = (s.count k).tiles) : s.othersKept t k :=
  State.othersKept_of_tiles h State.othersKept_count

/-- An instruction that ends with a status, or ST_OK, has answered and changed nothing outside the tiles. -/
theorem answered_finish (h : t.tiles = (s.count k).tiles) {st : Nat} (ht : w.tf = false ∨ st = ST_OK) :
    answered s ((t.finish k w st).issued k) k w st ∧ t.outsideKept ((t.finish k w st).issued k) := by
  have hregs := sameRegs_countTiles h
  have hothers := othersKept_countTiles h
  rcases ht with ht | rfl
  · obtain ⟨hw, hon⟩ := State.wrote_finish hregs ht st
    obtain ⟨hout, hoth, -⟩ := endedWith_onlyRegs (k := k) (u := t) ht st
    exact ⟨⟨hw, hon, hothers.trans hoth⟩, hout⟩
  · obtain ⟨hw, hon⟩ := State.completed_finish (w := w) hregs
    obtain ⟨hout, hoth, -⟩ := ended_onlyRegs (k := k) (u := t) w
    exact ⟨⟨hw, hon, hothers.trans hoth⟩, hout⟩

theorem routeGo_refused {bs : List Byte} {st : Nat} (hr : ReadyB s k w) (hw : goWord w) (htf : w.tf = false)
    (hl : unlocked s k [.mem] []) (hp : s.vpoison (s.ctx k).glove ((s.ctx k).gr w.ra.toNat).toNat 128 = false)
    (hread : s.engineRead (s.ctx k).glove (k.tile / 64) ((s.ctx k).gr w.ra.toNat).toNat 128 = some (u, bs))
    (hst : st = s.goStatus k ((s.ctx k).gr w.ra.toNat).toNat w.opx.toNat (bytesWords 16 bs)) (hne : st ≠ ST_OK) :
    Goes (.routeGo k w) s (fun t => answered s t k w st ∧ t.brm = s.brm ∧ memKept s t ∧ t.kn = s.kn) := by
  obtain ⟨hstore, hmem⟩ := State.engineRead_storage hread
  have htiles : (u.withTiles (s.count k).tiles).tiles = (s.count k).tiles := rfl
  have hstatus := goStatus_congr (t := u.withTiles (s.count k).tiles) hstore.ctl hstore.brm (glove_countTiles htiles)
    ((s.ctx k).gr w.ra.toNat).toNat w.opx.toNat (bytesWords 16 bs)
  refine goes_of_done (exec_routeGo hr hw hl hp hread) ?_
  rw [State.routeGo, ox_go hw, hstatus, ← hst, if_pos hne]
  obtain ⟨hans, hout⟩ := answered_finish (w := w) htiles (.inl htf)
  exact ⟨hans, hout.brm.trans hstore.brm, fun a => (hout.2 a).trans (congrArg (Tab.look (fun _ => 0) · a) hmem),
    hout.kn.trans hstore.kn⟩

theorem stepMembers_congr (h : t.ctl = s.ctl) {d : List W64} {table : List Byte} {ms : List (BitVec 24)}
    (hm : stepMembers s d table ms) : stepMembers t d table ms := by
  obtain ⟨hms, hsmall, hself, hdistinct⟩ := hm
  exact ⟨hms, hsmall, by rw [State.self, fget_congr h]; exact hself, hdistinct⟩

theorem stepMade_congr (h : t.ctl = s.ctl) (hl : t.lanyard = s.lanyard) (n e : Nat) (d : List W64) (ms : List (BitVec 24))
    (qs : List QueueEnt) : stepMade t n e d ms qs = stepMade s n e d ms qs := by
  rw [stepMade, stepMade, fget_congr h, hl]

/-- What a step that has started leaves: the step, the other engine's, and all beside the engines. -/
theorem stepStarted_leaves {n e : Nat} (he : e < 2) (ha : u.gstate n = gACTIVE) (d : List W64) (ms : List (BitVec 24))
    (qs : List QueueEnt) :
    (∀ i, (stepStarted u n e d ms qs).route' i = if i = e then some (stepMade u n e d ms qs) else u.route' i)
      ∧ onlyEngines u (stepStarted u n e d ms qs) := by
  have hact (seq : Nat) : (engineTaken u e n seq).gstate (stepMade u n e d ms qs).glove = gACTIVE :=
    (gstate_engineTaken he n seq n).trans ha
  refine ⟨fun i => ?_, (onlyEngines_engineTaken ..).trans (onlyEngines_putStep ..)⟩
  rw [stepStarted, State.route'_putStep (hact _), route'_engineTaken]

/-- ROUTE.GO that passes its checks: the member table read, the result written, the step started. -/
theorem routeGo_eq {e n : Nat} {d : List W64} {table : List Byte} {ms : List (BitVec 24)} {qs : List QueueEnt} {a : Nat}
    {T : Tab Tile} (hw : goWord w) (hg : ((u.withTiles T).ctx k).glove = n)
    (hst : (u.withTiles T).goStatus k a w.opx.toNat d = ST_OK) (hpick : (u.withTiles T).pickEngine w.opx.toNat = some e)
    (hread : u.engineRead n (k.tile / 64) (dMembers d) (4 * dNmem d) = some (v, table)) (hms : ms = tableMembers (dNmem d) table)
    (hq : v.layerQueues n (dLayer d) (dNexp d) ms = some qs) : (u.withTiles T).routeGo k w a d =
      ((v.withTiles T).result k w w.rd.toNat ((v.withTiles T).goHandle e n)).startStep n e d table qs := by
  rw [State.routeGo, ox_go hw, hst, hpick, hg, State.engineRead_withTiles T hread]
  refine (if_neg fun h => h rfl).trans ?_
  dsimp only
  rw [State.routeOn, State.layerQueues_withTiles, ← hms, hq]

/-- What ROUTE.GO leaves from the state in which it has read: its result, the step, and all beside the context and the engines. -/
theorem result_stepStarted {y : State} {n e : Nat} (he : e < 2) (ha : y.gstate n = gACTIVE) (hregs : (s.ctx k).sameRegs (y.ctx k))
    (r : Nat) (x : W64) (d : List W64) (ms : List (BitVec 24)) (qs : List QueueEnt) {t : State}
    (ht : t = (stepStarted (y.result k w r x) n e d ms qs).issued k) : s.completed t k w r x
      ∧ (∀ i, t.route' i = if i = e then some (stepMade y n e d ms qs) else y.route' i) ∧ t.mem = y.mem ∧ t.kn = y.kn
      ∧ y.othersKept t k := by
  obtain ⟨hres, hresOthers, -⟩ := State.onlyRegs_result (s := y) (k := k) w r x
  obtain ⟨hend, hendOthers, -⟩ := State.onlyRegs_issued (s := stepStarted (y.result k w r x) n e d ms qs) (k := k)
  have hact : (y.result k w r x).gstate n = gACTIVE := by rw [State.gstate, fget_congr hres.ctl]; exact ha
  obtain ⟨hroute, heng⟩ := stepStarted_leaves he hact d ms qs
  subst ht
  refine ⟨State.completed_result_then hregs heng.tiles, fun i => ?_, hend.mem.trans (heng.mem.trans hres.mem),
    hend.kn.trans (heng.kn.trans hres.kn), (State.othersKept_of_tiles heng.tiles hresOthers).trans hendOthers⟩
  rw [route'_congr hend.brm, hroute, route'_congr hres.brm, stepMade_congr hres.ctl hres.lanyard]

theorem routeGo_starts {d : List W64} {table : List Byte} {ms : List (BitVec 24)} {qs : List QueueEnt} {e n : Nat}
    (hr : ReadyB s k w) (hw : goWord w) (hn : n = (s.ctx k).glove) (hreads : goReads s k w v d table)
    (hst : s.goStatus k ((s.ctx k).gr w.ra.toNat).toNat w.opx.toNat d = ST_OK) (hpick : s.pickEngine w.opx.toNat = some e)
    (hm : stepMembers s d table ms) (hq : v.layerQueues n (dLayer d) (dNexp d) ms = some qs) (htok : dNtok d ≠ 0) :
    Goes (.routeGo k w) s (fun t => s.completed t k w w.rd.toNat (s.goHandle e n)
      ∧ t.route' e = some (stepMade s n e d ms qs) ∧ (∀ i, i ≠ e → t.route' i = s.route' i) ∧ memKept s t ∧ t.kn = s.kn
      ∧ s.othersKept t k) := by
  subst hn
  obtain ⟨hl, hp, u, bs, hread, hd, htable⟩ := hreads
  obtain ⟨hu, humem⟩ := State.engineRead_storage hread
  obtain ⟨hv, hvmem⟩ := State.engineRead_storage htable
  have he : e < 2 := State.pickEngine_lt hw.2.2 hpick
  have hg : ((u.withTiles (s.count k).tiles).ctx k).glove = (s.ctx k).glove := glove_countTiles rfl
  obtain ⟨y, hy⟩ : ∃ y, y = v.withTiles (s.count k).tiles := ⟨_, rfl⟩
  have hctl : y.ctl = s.ctl := by rw [hy]; exact (hu.trans hv).ctl
  have hbrm : y.brm = s.brm := by rw [hy]; exact (hu.trans hv).brm
  have hlan : y.lanyard = s.lanyard := by rw [hy]; exact (hu.trans hv).lanyard
  have hkn : y.kn = s.kn := by rw [hy]; exact (hu.trans hv).kn
  have hmem : y.mem = s.mem := by rw [hy]; exact hvmem.trans humem
  have htiles : y.tiles = (s.count k).tiles := by rw [hy]; rfl
  have hregs := sameRegs_countTiles htiles
  have hothers := othersKept_countTiles htiles
  have hact : y.gstate (s.ctx k).glove = gACTIVE := by
    rw [State.gstate, fget_congr hctl]; exact State.active_of_not_dying (not_dying_of_goStatus hst)
  have hhandle : y.goHandle e (s.ctx k).glove = s.goHandle e (s.ctx k).glove := by
    rw [State.goHandle, State.goHandle, fget_congr hctl]
  have hrun := routeGo_eq (k := k) hw hg ((goStatus_congr (t := u.withTiles (s.count k).tiles) hu.ctl hu.brm hg _ _ _).trans hst)
    ((pickEngine_congr (t := u.withTiles (s.count k).tiles) hu.brm _).trans hpick) htable hm.1 hq
  rw [← hy, hhandle, startStep_eq qs (stepMembers_congr ((State.onlyRegs_result ..).1.ctl.trans hctl) hm) htok he] at hrun
  obtain ⟨t, ht⟩ : ∃ t, t = State.issued
    (stepStarted (y.result k w w.rd.toNat (s.goHandle e (s.ctx k).glove)) (s.ctx k).glove e d ms qs) k := ⟨_, rfl⟩
  have hexec : exec (.routeGo k w) s = done s t := by rw [exec_routeGo hr hw hl hp hread, ← hd, hrun, ht]
  obtain ⟨hdone, hroute, hmem', hkn', hothers'⟩ := result_stepStarted he hact hregs _ _ _ _ _ ht
  refine goes_of hexec (fun _ h => h)
    ⟨hdone, ?_, fun i hi => ?_, fun a => ?_, hkn'.trans hkn, hothers.trans hothers'⟩
  · rw [hroute, if_pos rfl, stepMade_congr hctl hlan]
  · rw [hroute, if_neg hi, route'_congr hbrm]
  · rw [State.byte, hmem', hmem]; rfl

/-! ### SIEVE.FL (R171) -/

/-- The records of the context have left its tile's sieve. -/
def recordsTaken (s : State) (k : CtxId) : State :=
  s.setTile k.tile { s.tile k.tile with sieve := (s.tile k.tile).sieve.filter (fun r => r.ctx != k.ctx.val) }

theorem ctx_recordsTaken (s : State) (k : CtxId) (k' : CtxId) : (recordsTaken s k).ctx k' = s.ctx k' := by
  rw [recordsTaken, State.ctx_setTile]
  split
  · next h => rw [State.ctx, h]; rfl
  · rfl

@[simp] theorem stepOf_count (n : Nat) (h : W64) : (s.count k).stepOf n h = s.stepOf n h := rfl

@[simp] theorem dying_count : (s.count k).dying k = s.dying k := by
  rw [State.dying, State.dying, State.count_ctx_glove, State.gstate_count]

/-- The step with a context's records in its intake. -/
def flushedStep (s : State) (k : CtxId) (r : Step) : Step :=
  { r with flushed := r.flushed ++ (s.tile k.tile).sieve.filter (fun x => x.ctx == k.ctx.val) }

/-- The context's records have gone to step r on engine e. -/
def flushedTo (s : State) (k : CtxId) (e : Nat) (r : Step) : State := (recordsTaken s k).putStep e (flushedStep s k r)

theorem flushedTo_leaves {e : Nat} {r : Step} (ha : s.gstate r.glove = gACTIVE) : (flushedTo s k e r).ctx k = s.ctx k
    ∧ (flushedTo s k e r).route' e = some (flushedStep s k r)
    ∧ ((flushedTo s k e r).tile k.tile).sieve = (s.tile k.tile).sieve.filter (fun x => x.ctx != k.ctx.val)
    ∧ (flushedTo s k e r).mem = s.mem ∧ (flushedTo s k e r).kn = s.kn := by
  have hy : onlyEngines (recordsTaken s k) (flushedTo s k e r) := onlyEngines_putStep ..
  have htile : (flushedTo s k e r).tile k.tile = (recordsTaken s k).tile k.tile := by rw [State.tile, hy.tiles]; rfl
  have hact : (recordsTaken s k).gstate (flushedStep s k r).glove = gACTIVE := ha
  refine ⟨?_, ?_, ?_, hy.mem, hy.kn⟩
  · rw [State.ctx, htile]; exact ctx_recordsTaken s k k
  · rw [flushedTo, State.route'_putStep hact, if_pos rfl]
  · rw [htile, recordsTaken, State.tile_setTile_same]

theorem flushedStep_count (r : Step) : flushedStep (s.count k) k r = flushedStep s k r := by
  rw [flushedStep, State.count_sieve]; rfl

theorem sieveFl_goes {e : Nat} {r : Step} (hr : ReadyB s k w) (hw : raWord w) (ho : w.opx = 0) (hq : s.quiet k = true)
    (hs : s.stepOf (s.ctx k).glove ((s.ctx k).gr w.ra.toNat) = some (e, r)) (hend : r.ended = false) (hph : r.phase = 1)
    (hd : s.dying k = false) :
    Goes (.sieveFl k w) s (fun u => s.completed u k w 0 0
      ∧ u.route' e = some { r with flushed := r.flushed ++ (s.tile k.tile).sieve.filter (fun r => r.ctx == k.ctx.val) }
      ∧ (u.tile k.tile).sieve = (s.tile k.tile).sieve.filter (fun r => r.ctx != k.ctx.val) ∧ memKept s u ∧ u.kn = s.kn) := by
  obtain ⟨hrd, hrb, hrc⟩ := hw
  have hexec : exec (.sieveFl k w) s = done s (((flushedTo (s.count k) k e r).finish k w ST_OK).issued k) := by
    refine congrArg (done s) (issueB_eq hr (legal_ra hrd hrb hrc ho) ?_)
    simp only [quiet_count, hq, State.count_ctx_glove, State.count_ctx_gr, stepOf_count, hs, hend, hph, dying_count, hd,
      Bool.true_eq_false, Bool.false_eq_true, if_false, ne_eq, not_true_eq_false, or_self, flushedTo, flushedStep, recordsTaken]
  have hact : (s.count k).gstate r.glove = gACTIVE := by
    rw [State.gstate_count, State.glove_of_stepOf hs]; exact State.active_of_not_dying hd
  obtain ⟨hctx, hroute, hsieve, hmem, hkn⟩ := flushedTo_leaves (k := k) (e := e) hact
  rw [flushedStep_count] at hroute
  rw [State.count_sieve] at hsieve
  obtain ⟨hout, ⟨-, htile⟩, -⟩ := ended_onlyRegs (k := k) (u := flushedTo (s.count k) k e r) w
  have hrest : ((((flushedTo (s.count k) k e r).finish k w ST_OK).issued k).tile k.tile).rest.sieve = _ :=
    congrArg Tile.sieve (htile k.tile)
  refine goes_of hexec (fun _ h => h) ⟨State.completed_finish (by rw [hctx]; exact State.sameRegs_count), ?_,
    hrest.trans hsieve, fun a => (hout.2 a).trans ?_, hout.kn.trans hkn⟩
  · rw [route'_congr hout.brm, hroute]; rfl
  · rw [State.byte, hmem]; rfl

theorem sieveFl_refused (hr : ReadyB s k w) (hw : raWord w) (ho : w.opx = 0) (ht : w.tf = false) (hq : s.quiet k = true)
    (hno : ∀ e r, s.stepOf (s.ctx k).glove ((s.ctx k).gr w.ra.toNat) = some (e, r) → r.ended = true ∨ r.phase ≠ 1) :
    Goes (.sieveFl k w) s (fun t => refused s t k w ST_RANGE) := by
  obtain ⟨hrd, hrb, hrc⟩ := hw
  refine goes_of_done (congrArg (done s) (issueB_eq hr (legal_ra hrd hrb hrc ho) ?_)) (refused_finish ht ST_RANGE)
  simp only [quiet_count, hq, State.count_ctx_glove, State.count_ctx_gr, stepOf_count, Bool.true_eq_false, if_false]
  cases hs : s.stepOf (s.ctx k).glove ((s.ctx k).gr w.ra.toNat) with
  | none => rfl
  | some p => exact if_pos (hno p.1 p.2 hs)

/-! ### ROUTE.STAT (R188) -/

theorem routeStat_writes {e a : Nat} {r : Step} (hr : ReadyB s k w) (hrd : w.rd = 0) (hrc : w.rc = 0) (ho : w.opx = 0)
    (hl : unlocked s k [.mem] [.mem]) (hs : s.stepOf (s.ctx k).glove ((s.ctx k).gr w.ra.toNat) = some (e, r))
    (ha : a = ((s.ctx k).gr w.rb.toNat).toNat) (halign : a % 64 = 0) (hd : s.dying k = false)
    (hset : s.setVbytes (s.ctx k).glove a ((s.statWords r).flatMap (leBytes 8) ++ List.replicate 128 0) = some v) :
    Goes (.routeStat k w) s (fun u => answered s u k w ST_OK ∧ u.mem = v.mem ∧ u.brm = s.brm ∧ u.kn = s.kn) := by
  have hl' : (s.count k).locked k [.mem] [.mem] = false := (State.locked_count k _ _).trans hl
  have hset' := State.setVbytes_withTiles (s.count k).tiles hset
  rw [← State.count_eq_withTiles] at hset'
  have hwords : (s.count k).statWords r = s.statWords r := rfl
  have hstore := State.setVbytes_storage hset
  obtain ⟨hans, hout⟩ := answered_finish (s := s) (k := k) (w := w) (t := v.withTiles (s.count k).tiles) rfl (.inr rfl)
  refine goes_of_done (congrArg (done s) (issueB_eq hr (legal_ra_rb hrd hrc ho) ?_))
    ⟨hans, hout.mem, hout.brm.trans hstore.brm, hout.kn.trans hstore.kn⟩
  simp only [hl', State.count_ctx_glove, State.count_ctx_gr, stepOf_count, hs, ← ha, halign, dying_count, hd, hwords, hset',
    Bool.false_eq_true, if_false, ne_eq, not_true_eq_false]

theorem routeStat_refused (hr : ReadyB s k w) (hrd : w.rd = 0) (hrc : w.rc = 0) (ho : w.opx = 0) (ht : w.tf = false)
    (hl : unlocked s k [.mem] [.mem]) (hs : s.stepOf (s.ctx k).glove ((s.ctx k).gr w.ra.toNat) = none) :
    Goes (.routeStat k w) s (fun t => refused s t k w ST_RANGE) := by
  have hl' : (s.count k).locked k [.mem] [.mem] = false := (State.locked_count k _ _).trans hl
  refine goes_of_done (congrArg (done s) (issueB_eq hr (legal_ra_rb hrd hrc ho) ?_)) (refused_finish ht ST_RANGE)
  simp only [hl', State.count_ctx_glove, State.count_ctx_gr, stepOf_count, hs, Bool.false_eq_true, if_false]

/-! ### The directories (R187, R191) -/

section Directory

variable {n : Fin 64} {x : W64}

/-- The pending directory of a write: its epoch and whether it is armed. -/
def dirPending (s : State) (n : Nat) (x : W64) : State :=
  (s.fset (BRM_DIR_NEXTEP n) BRM_DIR_NEXTEP_EPOCH (bits x 15 0)).fset (BRM_DIR_NEXTEP n) BRM_DIR_NEXTEP_ARMED (bits x 17 17)

theorem dirPending_leaves (s : State) (n : Nat) (x : W64) :
    (dirPending s n x).fget (BRM_DIR_NEXTEP n) BRM_DIR_NEXTEP_ARMED = bits x 17 17
      ∧ (dirPending s n x).fget (BRM_DIR_NEXTEP n) BRM_DIR_NEXTEP_EPOCH = bits x 15 0
      ∧ regsBut s (dirPending s n x) [BRM_DIR_NEXTEP n] ∧ netKept s (dirPending s n x) := by
  refine ⟨?_, ?_, fun o ho => ?_, ((netKept.refl s).fset ..).fset ..⟩
  · exact fget_fset_bits _ BRM_DIR_NEXTEP_ARMED x (by decide) (by decide)
  · rw [dirPending, State.fget_fset_apart _ _ _ _ (by decide) (by decide) (by decide) (by decide)]
    exact fget_fset_bits _ BRM_DIR_NEXTEP_EPOCH x (by decide) (by decide)
  · have hne : o ≠ BRM_DIR_NEXTEP n := by simpa using ho
    rw [dirPending, State.reg_fset_ne hne, State.reg_fset_ne hne]

/-- A pending directory that stands armed is disarmed or left as it is. -/
theorem dirNextep_disarms (harmed : s.fget (BRM_DIR_NEXTEP n.val) BRM_DIR_NEXTEP_ARMED = 1) :
    Goes (.brmDirNextepWrite n x) s (fun t => t.fget (BRM_DIR_NEXTEP n) BRM_DIR_NEXTEP_ARMED = bits x 17 17
      ∧ t.fget (BRM_DIR_NEXTEP n) BRM_DIR_NEXTEP_EPOCH = s.fget (BRM_DIR_NEXTEP n) BRM_DIR_NEXTEP_EPOCH
      ∧ regsBut s t [BRM_DIR_NEXTEP n] ∧ netKept s t) := by
  have hexec : exec (.brmDirNextepWrite n x) s =
      done s (if bits x 17 17 = 0 then s.fset (BRM_DIR_NEXTEP n) BRM_DIR_NEXTEP_ARMED 0 else s) := if_pos harmed
  rcases Nat.le_one_iff_eq_zero_or_eq_one.mp (Nat.le_of_lt_succ (bits_lt x 17 17)) with h | h
  · rw [h, if_pos rfl] at hexec
    refine goes_of hexec (fun _ h => h) ⟨?_, ?_, fun o ho => ?_, (netKept.refl s).fset ..⟩
    · rw [h, State.fget_fset _ _ _ (by decide) (by decide), Nat.zero_mod]
    · exact State.fget_fset_apart _ _ _ _ (by decide) (by decide) (by decide) (by decide)
    · exact State.reg_fset_ne (by simpa using ho) _ _
  · rw [h, if_neg (by decide)] at hexec
    exact goes_of hexec (fun _ h => h) ⟨harmed.trans h.symm, rfl, fun _ _ => rfl, .refl s⟩

theorem exec_dirNextep (hidle : s.fget (BRM_DIR_NEXTEP n.val) BRM_DIR_NEXTEP_ARMED = 0) :
    exec (.brmDirNextepWrite n x) s = done s
      (if bits x 17 17 = 1 ∧ s.fget (BRM_DIR_CUREP n) BRM_DIR_CUREP_VALID = 0 then (dirPending s n x).installDir n
        else dirPending s n x) := if_neg (by rw [hidle]; decide)

theorem dirNextep_arms (hidle : s.fget (BRM_DIR_NEXTEP n.val) BRM_DIR_NEXTEP_ARMED = 0)
    (h : bits x 17 17 = 0 ∨ s.fget (BRM_DIR_CUREP n.val) BRM_DIR_CUREP_VALID = 1) :
    Goes (.brmDirNextepWrite n x) s (fun t => t.fget (BRM_DIR_NEXTEP n) BRM_DIR_NEXTEP_ARMED = bits x 17 17
      ∧ t.fget (BRM_DIR_NEXTEP n) BRM_DIR_NEXTEP_EPOCH = bits x 15 0 ∧ regsBut s t [BRM_DIR_NEXTEP n] ∧ netKept s t) := by
  have hno : ¬ (bits x 17 17 = 1 ∧ s.fget (BRM_DIR_CUREP n) BRM_DIR_CUREP_VALID = 0) := by omega
  have hexec := exec_dirNextep (x := x) hidle
  rw [if_neg hno] at hexec
  exact goes_of hexec (fun _ h => h) (dirPending_leaves s n x)

/-- A directory that is armed while none is valid stands at once as the current one. -/
def dirInstalled (s : State) (n ep : Nat) : State :=
  (((s.fset (BRM_DIR_NEXTEP n) BRM_DIR_NEXTEP_ARMED 0).setReg (BRM_DIR_CUR n) (s.reg (BRM_DIR_NEXT n))).fset
    (BRM_DIR_CUREP n) BRM_DIR_CUREP_EPOCH ep).fset (BRM_DIR_CUREP n) BRM_DIR_CUREP_VALID 1

theorem dirRegs_apart (n : Nat) : BRM_DIR_CUREP n ≠ BRM_DIR_NEXTEP n ∧ BRM_DIR_CUR n ≠ BRM_DIR_NEXTEP n
    ∧ BRM_DIR_CUR n ≠ BRM_DIR_CUREP n ∧ BRM_DIR_NEXT n ≠ BRM_DIR_NEXTEP n := by
  simp only [BRM_DIR_CUREP, BRM_DIR_NEXTEP, BRM_DIR_CUR, BRM_DIR_NEXT]; omega

theorem installDir_eq {m : Nat} (ha : s.fget (BRM_DIR_NEXTEP m) BRM_DIR_NEXTEP_ARMED = 1)
    (hv : s.fget (BRM_DIR_CUREP m) BRM_DIR_CUREP_VALID = 0) :
    s.installDir m = dirInstalled s m (s.fget (BRM_DIR_NEXTEP m) BRM_DIR_NEXTEP_EPOCH) := by
  obtain ⟨hcurep, -, -, hnext⟩ := dirRegs_apart m
  rw [State.installDir, if_pos ha]
  dsimp only
  rw [if_pos (.inl (by rw [State.fget_fset_ne hcurep]; exact hv)), State.reg_fset_ne hnext]
  rfl

theorem dirInstalled_leaves (s : State) (m ep : Nat) :
    (dirInstalled s m ep).fget (BRM_DIR_NEXTEP m) BRM_DIR_NEXTEP_ARMED = 0
      ∧ (dirInstalled s m ep).fget (BRM_DIR_CUREP m) BRM_DIR_CUREP_VALID = 1
      ∧ (dirInstalled s m ep).fget (BRM_DIR_CUREP m) BRM_DIR_CUREP_EPOCH = ep % 65536
      ∧ (dirInstalled s m ep).reg (BRM_DIR_CUR m) = s.reg (BRM_DIR_NEXT m)
      ∧ regsBut s (dirInstalled s m ep) [BRM_DIR_NEXTEP m, BRM_DIR_CUREP m, BRM_DIR_CUR m]
      ∧ netKept s (dirInstalled s m ep) := by
  obtain ⟨hcurep, hcur, hcur', -⟩ := dirRegs_apart m
  refine ⟨?_, ?_, ?_, ?_, fun o ho => ?_, ((((netKept.refl s).fset ..).setReg ..).fset ..).fset ..⟩
  · rw [dirInstalled, State.fget_fset_ne hcurep.symm, State.fget_fset_ne hcurep.symm, State.fget_setReg_ne hcur.symm,
      State.fget_fset _ _ _ (by decide) (by decide), Nat.zero_mod]
  · rw [dirInstalled, State.fget_fset _ _ _ (by decide) (by decide)]
    rfl
  · rw [dirInstalled, State.fget_fset_apart _ _ _ _ (by decide) (by decide) (by decide) (by decide),
      State.fget_fset _ _ _ (by decide) (by decide)]
    rfl
  · rw [dirInstalled, State.reg_fset_ne hcur', State.reg_fset_ne hcur', State.reg_setReg_same]
  · simp only [List.mem_cons, List.not_mem_nil, or_false, not_or] at ho
    obtain ⟨h1, h2, h3⟩ := ho
    rw [dirInstalled, State.reg_fset_ne h2, State.reg_fset_ne h2, State.reg_setReg_ne h3, State.reg_fset_ne h1]

theorem dirNextep_installs (hidle : s.fget (BRM_DIR_NEXTEP n.val) BRM_DIR_NEXTEP_ARMED = 0) (harm : bits x 17 17 = 1)
    (hv : s.fget (BRM_DIR_CUREP n.val) BRM_DIR_CUREP_VALID = 0) :
    Goes (.brmDirNextepWrite n x) s (fun t => t.fget (BRM_DIR_NEXTEP n) BRM_DIR_NEXTEP_ARMED = 0
      ∧ t.fget (BRM_DIR_CUREP n) BRM_DIR_CUREP_VALID = 1 ∧ t.fget (BRM_DIR_CUREP n) BRM_DIR_CUREP_EPOCH = bits x 15 0
      ∧ t.reg (BRM_DIR_CUR n) = s.reg (BRM_DIR_NEXT n)
      ∧ regsBut s t [BRM_DIR_NEXTEP n, BRM_DIR_CUREP n, BRM_DIR_CUR n] ∧ netKept s t) := by
  obtain ⟨hcurep, -, -, hnext⟩ := dirRegs_apart n
  obtain ⟨hpend, hpendEp, hpendRegs, hpendNet⟩ := dirPending_leaves s n x
  have hbut : ∀ o, o ≠ BRM_DIR_NEXTEP n → (dirPending s n x).reg o = s.reg o := fun o ho =>
    hpendRegs o (by simpa using ho)
  have hexec := exec_dirNextep (x := x) hidle
  rw [if_pos ⟨harm, hv⟩, installDir_eq (hpend.trans harm) (by rw [State.fget, hbut _ hcurep]; exact hv), hpendEp] at hexec
  obtain ⟨t, ht⟩ : ∃ t, t = dirInstalled (dirPending s n x) n (bits x 15 0) := ⟨_, rfl⟩
  obtain ⟨harmed, hvalid, hep, hcur, hregs, hnet⟩ := dirInstalled_leaves (dirPending s n x) n (bits x 15 0)
  rw [← ht] at hexec harmed hvalid hep hcur hregs hnet
  refine goes_of hexec (fun _ h => h) ⟨harmed, hvalid, hep.trans (Nat.mod_eq_of_lt (bits_lt x 15 0)),
    hcur.trans (hbut _ hnext), fun o ho => ?_, hpendNet.trans hnet⟩
  rw [hregs o ho, hbut o fun h => ho (by rw [h]; exact List.mem_cons_self)]

end Directory

end Sys2Proof.Claims

open Sys2Proof.Claims

/-- Settles O38, a lemma for each way ROUTE.GO, SIEVE.FL, ROUTE.STAT and a write of BRM_DIR_NEXTEP end. -/
theorem routingSteps : Obligations.RoutingSteps := by
  unfold Obligations.RoutingSteps
  exact ⟨fun k w s v d table ms qs e n hr hw hn hreads hst hpick hm hq htok =>
      routeGo_starts hr hw hn hreads hst hpick hm hq htok,
    fun k w s u bs st hr hw htf hl hp hread hst hne => routeGo_refused hr hw htf hl hp hread hst hne,
    fun k w s e t hr hw ho hq hs hend hph hd => sieveFl_goes hr hw ho hq hs hend hph hd,
    fun k w s hr hw ho ht hq hno => sieveFl_refused hr hw ho ht hq hno,
    fun k w s e t v a hr hrd hrc ho hl hs ha halign hd hset => routeStat_writes hr hrd hrc ho hl hs ha halign hd hset,
    fun k w s hr hrd hrc ho ht hl hs => routeStat_refused hr hrd hrc ho ht hl hs,
    fun n v s harmed => dirNextep_disarms harmed,
    fun n v s hidle h => dirNextep_arms hidle h,
    fun n v s hidle harm hv => dirNextep_installs hidle harm hv⟩
end

section
/-! States that meet the hypotheses of O38's clauses. -/

namespace Sys2Proof.Tests

open Sys2Proof Sys2Proof.Machine Sys2Proof.Machine.Reg Sys2Proof.Claims

/-- The words of a routing step with one token, one expert and one member, scored by SIGMOID, tag 5, knots 1 and 2 (R164). -/
def routeDesc : List W64 := [0x400000000, 0, 1, 5, 0x100, 0, 0, 0, 0x200010000, 1000, 0, 0, 0, 0, 0, 0]

/-- The page tables of glove 0, which map its first 2 MiB (R211); in them that descriptor at 0, a member table of zeros at 0x100,
a directory at 0x200, and at 0x240 its one entry, a queue of this device at 0x400 (R186). -/
def routeMemory : Tab Byte :=
  [(0x1000, 1), (0x1001, 0x20), (0x2000, 1), (0x2001, 0x30), (0x3000, 1), (0x3001, 0x40), (0x4000, 0x0E), (0x4002, 0x20),
   (0x200004, 4), (0x200010, 1), (0x200018, 5), (0x200021, 1), (0x200042, 1), (0x200044, 2), (0x200048, 0xE8), (0x200049, 3),
   (0x200200, 0x40), (0x200201, 2), (0x200243, 0x20), (0x200249, 4)]

/-- A step of glove 0 in its intake. -/
def routeStep : Step :=
  { glove := 0, seq := 7, desc := [0, 0, 0, 9], members := [0], dirEpoch := 0, queues := [], startAt := 0, phase := 1 }

/-- Glove 0 is ACTIVE with those tables, its page resident, knots 0 to 2 and a valid directory; engine 1 runs that step, whose
handle g2 holds. -/
def routeState : State :=
  let s := live { g := [(2, 0x70080), (3, 0x800)] }
  let s := (s.fset (KNOT_GLOVE_PT 0) KNOT_GLOVE_PT_ROOT 1).fset (KNOT_GLOVE_CFG1 0) KNOT_GLOVE_CFG1_KNOT_COUNT 3
  let s := (s.fset (BRM_DIR_CUREP 0) BRM_DIR_CUREP_VALID 1).setReg (BRM_DIR_CUR 0) 0x200
  { s.setPage 32 { place := .resident 0 } with mem := routeMemory, brm := { eng := [(1, some routeStep)] } }

/-- The first 2 MiB of the glove lie from 2 MiB on. -/
theorem routeState_translate {va : Nat} (h : va < 2 ^ 21) : routeState.translate 0 va .R = some (0x200000 + va) := by
  have h48 : va / 2 ^ 48 % 512 = 0 := by omega
  have h39 : va / 2 ^ 39 % 512 = 0 := by omega
  have h30 : va / 2 ^ 30 % 512 = 0 := by omega
  have h21 : va / 2 ^ 21 % 512 = 0 := by omega
  have hroot : routeState.fget (KNOT_GLOVE_PT 0) KNOT_GLOVE_PT_ROOT * 4096 = 0x1000 := by decide +kernel
  have e2 : tableOf (routeState.pte 0x1000 0) 4096 = some 0x2000 := by decide +kernel
  have e1 : tableOf (routeState.pte 0x2000 0) 4096 = some 0x3000 := by decide +kernel
  have e0 : tableOf (routeState.pte 0x3000 0) 4096 = some 0x4000 := by decide +kernel
  have et : bits (routeState.pte 0x4000 0) 1 0 = 2 := by decide +kernel
  have ea : pageAddr (routeState.pte 0x4000 0) (2 ^ 21) .R = some 0x200000 := by decide +kernel
  rw [State.translate, hroot, if_pos ⟨h.trans (by decide), by decide⟩]
  simp only [State.walk, h48, h39, h30, h21, e2, e1, e0, et, ea, Option.bind_eq_bind, Option.bind_some, if_true,
    Nat.mod_eq_of_lt h]

theorem routeState_vbytesGo : ∀ len va : Nat, va + len ≤ 2 ^ 21 →
    routeState.vbytesGo 0 va len = routeState.bytes (0x200000 + va) len
  | 0, _, _ => rfl
  | len + 1, va, h => by
    rw [State.vbytesGo, State.bytes, routeState_translate (by omega), routeState_vbytesGo len (va + 1) (by omega)]
    rfl

theorem routeState_engineRead : routeState.engineRead 0 0 0 128 = some (routeState, wordsBytes routeDesc) := by
  have hmapped : routeState.mapped 0 0 128 .R = true := by decide +kernel
  have htouch : routeState.touchRange 0 0 true 0 (pagesMet 0 128) = some routeState := by decide +kernel
  have hbytes : routeState.bytes 0x200000 128 = wordsBytes routeDesc := by decide +kernel
  rw [State.engineRead, State.vbytes, hmapped, if_pos rfl, routeState_vbytesGo 128 0 (by decide), hbytes]
  dsimp only
  rw [htouch]
  rfl

/-- ROUTE.GO on either engine: its descriptor and member table are read, its checks pass, engine 0 is idle, and the layer has
one queue. -/
theorem witness_RoutingSteps_go :
    let w : FmtB := { rd := 4, ra := 1, sd := 5 }
    ReadyB routeState k0 w ∧ goWord w ∧ goReads routeState k0 w routeState routeDesc [0, 0, 0, 0]
      ∧ routeState.goStatus k0 ((routeState.ctx k0).gr w.ra.toNat).toNat w.opx.toNat routeDesc = ST_OK
      ∧ routeState.pickEngine w.opx.toNat = some 0 ∧ stepMembers routeState routeDesc [0, 0, 0, 0] [0]
      ∧ routeState.layerQueues 0 (dLayer routeDesc) (dNexp routeDesc) [0] = some [⟨0, 0, 0, 0x400⟩] ∧ dNtok routeDesc ≠ 0 := by
  refine ⟨by unfold ReadyB Ready; decide +kernel, by unfold goWord; decide +kernel,
    ⟨by unfold unlocked; decide +kernel, by decide +kernel, routeState, wordsBytes routeDesc, ?_, by decide +kernel,
      by decide +kernel⟩, by decide +kernel, by decide +kernel, by unfold stepMembers; decide +kernel, by decide +kernel,
    by decide +kernel⟩
  have hglove : (routeState.ctx k0).glove = 0 := by decide +kernel
  have hra : ((routeState.ctx k0).gr 1).toNat = 0 := by decide +kernel
  rw [hglove]
  exact hra ▸ routeState_engineRead

/-- ROUTE.GO on engine 1, which is not idle. -/
theorem witness_RoutingSteps_refused :
    ReadyB routeState k0 { ra := 1, opx := 2 } ∧ goWord { ra := 1, opx := 2 } ∧ unlocked routeState k0 [.mem] [.mem]
      ∧ routeState.goStatus k0 0 2 (bytesWords 16 (wordsBytes routeDesc)) = ST_BUSY := by
  unfold ReadyB Ready goWord unlocked; decide +kernel

/-- SIEVE.FL and ROUTE.STAT name the step by the handle in g2; g1 names none. -/
theorem witness_RoutingSteps_step :
    ReadyB routeState k0 { ra := 2, rb := 3 } ∧ raWord { ra := 2 } ∧ routeState.quiet k0 = true
      ∧ routeState.stepOf 0 ((routeState.ctx k0).gr 2) = some (1, routeStep) ∧ routeStep.ended = false ∧ routeState.dying k0 = false
      ∧ ((routeState.ctx k0).gr 3).toNat = 0x800
      ∧ (routeState.setVbytes 0 0x800 ((routeState.statWords routeStep).flatMap (leBytes 8) ++ List.replicate 128 0)).isSome = true
      ∧ routeState.stepOf 0 ((routeState.ctx k0).gr 1) = none := by
  unfold ReadyB Ready raWord; decide +kernel

/-- A directory is pending and armed; one is valid; none is. -/
theorem witness_RoutingSteps_directory :
    (routeState.fset (BRM_DIR_NEXTEP 0) BRM_DIR_NEXTEP_ARMED 1).fget (BRM_DIR_NEXTEP 0) BRM_DIR_NEXTEP_ARMED = 1
      ∧ routeState.fget (BRM_DIR_NEXTEP 0) BRM_DIR_NEXTEP_ARMED = 0 ∧ routeState.fget (BRM_DIR_CUREP 0) BRM_DIR_CUREP_VALID = 1
      ∧ State.reset.fget (BRM_DIR_NEXTEP 63) BRM_DIR_NEXTEP_ARMED = 0 ∧ bits 0x20001 17 17 = 1
      ∧ State.reset.fget (BRM_DIR_CUREP 63) BRM_DIR_CUREP_VALID = 0 := by decide +kernel

end Sys2Proof.Tests
end

section
/-! O40 fails: SPLICE_SEND_FRAGMENT counts the members it has passed over before it reads the row, the clause for it says what is
read before that count, and the two reads can differ. A count of SPL_CNT3 that saturates raises an event, which may count a
lost record in SVC_EVLOG_LOST. No clause bounds the slot of a step's glove, and the page-table register of slot 179,200, past
the 64 that the manual gives, has that very offset: the event moves the step's own page tables, and the read faults. -/

namespace Sys2Proof.Claims

open Machine Reg

/-- The engines' steps do not depend on the queue of waiting commands. -/
theorem route'_pending (s : State) (q : List Instr) (e : Nat) : State.route' { s with pending := q } e = s.route' e := rfl

/-- A fragment that the engine cannot read once the members passed over are counted faults the step's glove (R62, R200). -/
theorem exec_spliceSendFragment_fault {e : Fin 2} {s : State} {t : Step} {m passed : Nat} {r : SendRow} (h : runs s e t)
    (hrouted : t.routed = true) (hturn : s.turn t (sendDue t) t.rot (dNmem t.desc) 0 = (some m, passed))
    (hfind : t.sends.find? (fun r => r.member == m) = some r)
    (hclean : s.vpoison t.glove (sendFrom t r) (fragLen (dRow t.desc) r.sent) = false)
    (hread : (s.bump SPL_CNT3 SPL_CNT3_PASSED passed).engineRead t.glove 0 (sendFrom t r) (fragLen (dRow t.desc) r.sent) = none) :
    exec (.spliceSendFragment e) s = done s
      ((s.bump SPL_CNT3 SPL_CNT3_PASSED passed).memFault t.glove (sendFrom t r) (fragLen (dRow t.desc) r.sent)) := by
  obtain ⟨hroute, hend, -⟩ := h
  have hsends : t.sends.isEmpty = false := by
    rw [List.isEmpty_eq_false_iff]
    intro hnil
    rw [hnil] at hfind
    cases hfind
  unfold sendDue at hturn
  unfold sendFrom at hclean hread ⊢
  show execSpliceSendFragment e s = _
  simp only [execSpliceSendFragment, hroute, hend, hrouted, hsends, and_self, if_true, hturn, hfind, hclean, Bool.false_eq_true,
    if_false, hread]

/-- The slot whose page-table register would lie where the log counts its lost records. -/
def straySlot : Nat := 179200

theorem pt_straySlot : KNOT_GLOVE_PT straySlot = SVC_EVLOG_LOST := rfl

/-- A row of one byte, for a member. -/
def strayRow (m : Nat) : SendRow := { token := 0, row := 0, q := 0, rank := 0, member := m, qbase := 0x400 }

/-- A step of that slot with a row for each of its two members, whose turn begins at member 1. -/
def strayStep : Step :=
  { glove := straySlot, seq := 0, desc := [0, 0, 1, 0x100000000, 0, 0, 0, 0, 0, 0, 0, 1], members := [0, 1], dirEpoch := 0,
    queues := [], startAt := 0, phase := 6, routed := true, sends := [strayRow 0, strayRow 1], rot := 1 }

/-- Engine 0 runs that step. Member 0 is this device; port 1, towards member 1, is UP and has no credit. SPL_CNT3.PASSED stands
at its largest value, the log is full with 8,191 records lost, and page tables from page 1 on map the glove's first 2 MiB. -/
def strayState : State :=
  let s := State.reset.fset (KNOT_GLOVE_CTL straySlot) KNOT_GLOVE_CTL_STATE gACTIVE
  let s := (s.fset SVC_EVLOG_LOST SVC_EVLOG_LOST_LOST 0x1FFF).fset SVC_EVLOG SVC_EVLOG_HEAD 8192
  let s := (s.fset SPL_CNT3 SPL_CNT3_PASSED (2 ^ 48 - 1)).fset (PORT_STAT 1) PORT_STAT_STATE 2
  { s.setPage 32 { place := .resident 0 } with
    mem := [(0x1000, 1), (0x1001, 0x20), (0x2000, 1), (0x2001, 0x30), (0x3000, 1), (0x3001, 0x40), (0x4000, 0x0E), (0x4002, 0x20)]
    svc := { s.svc with evlog := [(0, { at' := 1 })] }
    brm := { eng := [(0, some strayStep)] } }

/-- The state once the one member passed over is counted. -/
def strayPassed : State := strayState.bump SPL_CNT3 SPL_CNT3_PASSED 1

theorem runs_strayState : runs strayState 0 strayStep := ⟨rfl, rfl, by decide +kernel⟩

/-- Member 1, first in turn, has no credit and is passed over; member 0 is due a fragment. -/
theorem turn_strayState : strayState.turn strayStep (sendDue strayStep) strayStep.rot (dNmem strayStep.desc) 0 = (some 0, 1) := by
  decide +kernel

/-- The fragment is the byte at 0. -/
theorem fragment_strayStep : sendFrom strayStep (strayRow 0) = 0 ∧ fragLen (dRow strayStep.desc) (strayRow 0).sent = 1 := by
  decide

theorem clean_strayState : strayState.vpoison strayStep.glove (sendFrom strayStep (strayRow 0))
    (fragLen (dRow strayStep.desc) (strayRow 0).sent) = false := by decide +kernel

/-- Before the count the byte is read. -/
theorem read_strayState : strayState.engineRead strayStep.glove 0 (sendFrom strayStep (strayRow 0))
    (fragLen (dRow strayStep.desc) (strayRow 0).sent) = some (strayState, [0]) := by decide +kernel

/-- The event of the count loses a record, and that moves the root of the glove's page tables from page 1 to page 2. -/
theorem root_strayPassed : strayState.fget (KNOT_GLOVE_PT straySlot) KNOT_GLOVE_PT_ROOT = 1
    ∧ strayPassed.fget (KNOT_GLOVE_PT straySlot) KNOT_GLOVE_PT_ROOT = 2 := by
  rw [pt_straySlot]; decide +kernel

/-- From page 2 the walk finds no page (R211). -/
theorem translate_strayPassed : strayPassed.translate straySlot 0 .R = none := by
  obtain ⟨-, hroot⟩ := root_strayPassed
  rw [State.translate, hroot]
  decide +kernel

theorem read_strayPassed : strayPassed.engineRead strayStep.glove 0 (sendFrom strayStep (strayRow 0))
    (fragLen (dRow strayStep.desc) (strayRow 0).sent) = none := by
  obtain ⟨hfrom, hlen⟩ := fragment_strayStep
  have hmapped : strayPassed.mapped straySlot 0 1 .R = false := by
    show strayPassed.localRange straySlot .R 0 1 = false
    rw [State.localRange, translate_strayPassed]
    rfl
  rw [hfrom, hlen, State.engineRead, State.vbytes, show strayStep.glove = straySlot from rfl, hmapped]
  rfl

theorem exec_strayState : exec (.spliceSendFragment 0) strayState = done strayState (strayPassed.memFault straySlot 0 1) := by
  obtain ⟨hfrom, hlen⟩ := fragment_strayStep
  have h := exec_spliceSendFragment_fault (e := 0) runs_strayState rfl turn_strayState rfl clean_strayState read_strayPassed
  rw [hfrom, hlen] at h
  exact h

/-- The fault takes the glove down, and its step is discarded (R42). -/
theorem route'_memFault_strayPassed : (strayPassed.memFault straySlot 0 1).route' 0 = none := by decide +kernel

end Sys2Proof.Claims

open Sys2Proof.Claims

/-- Refutes O40, in its first clause: in `strayState` the member passed over is counted, the read that the clause has succeed
then fails, and engine 0 holds no step any more. -/
theorem not_spliceEngine : ¬ Obligations.SpliceEngine := by
  unfold Obligations.SpliceEngine
  rintro ⟨hsends, -⟩
  obtain ⟨u, hgoes, -, ⟨t, hstep, -⟩, -⟩ := hsends 0 strayState strayStep 0 1 (strayRow 0) strayState [0] runs_strayState rfl
    turn_strayState rfl rfl clean_strayState read_strayState
  rw [exec_strayState] at hgoes
  obtain rfl := Host.Outcome.next.inj hgoes
  rw [route'_pending] at hstep
  exact Option.some_ne_none t (hstep.symm.trans route'_memFault_strayPassed)
end

section
/-! Chapter 11, the ports: what the router's own operations leave alone. Whatever is sent, lost or sent anew, nothing but the
counters of the outputs and the logs is written among the registers (R249, R259, R264), and a change of routes touches the
router alone (R261). -/

namespace Sys2Proof.Claims

open Machine Reg

variable {s t u : State} {o p : Nat}

/-! ### Frames -/

theorem netKept.bumpBy (h : netKept s t) (o : Nat) (f : Fld) (v : Bool) (n : Nat) : netKept s (t.bumpBy o f v n) :=
  h.trans ⟨State.bumpBy_mem .., State.bumpBy_kn .., State.bumpBy_tiles .., State.bumpBy_slice .., State.bumpBy_mm ..,
    State.bumpBy_brm .., State.bumpBy_pwr ..⟩

theorem netKept.bump (h : netKept s t) (o : Nat) (f : Fld) (n : Nat) : netKept s (t.bump o f n) := h.bumpBy o f true n

theorem netKept.event (h : netKept s t) (c n g w2 w3 : Nat) : netKept s (t.event c n g w2 w3) :=
  h.trans ((FabricOnly.refl t).event c n g w2 w3).net

theorem netKept.journal (h : netKept s t) (ty src slot : Nat) (b : List Byte) : netKept s (t.journal ty src slot b) := h

theorem netKept.ite {c : Prop} [Decidable c] (ht : netKept s t) (hu : netKept s u) : netKept s (if c then t else u) := by
  split
  · exact ht
  · exact hu

/-- What the router, the ports, the logs and the registers hold does not matter to `netKept`. -/
theorem netKept.upd {r : Router} {v : Tab Port} {x : Hub} {c : Tab W64} {g : Service} {y : Security} {q : List Instr}
    (h : netKept s t) :
    netKept s { t with rt := r, ports := v, hub := x, ctl := c, svc := g, sec := y, pending := q } := h

theorem netKept.setPort (h : netKept s t) (p : Nat) (v : Port) : netKept s (t.setPort p v) := h

theorem port_congr (h : t.ports = s.ports) (p : Nat) : t.port p = s.port p := by rw [State.port, h]; rfl

@[simp] theorem port_bumpBy (o : Nat) (f : Fld) (v : Bool) (n p : Nat) : (s.bumpBy o f v n).port p = s.port p :=
  port_congr (State.bumpBy_ports ..) p
@[simp] theorem port_bump (o : Nat) (f : Fld) (n p : Nat) : (s.bump o f n).port p = s.port p := port_bumpBy ..
theorem port_journal (ty src slot : Nat) (b : List Byte) (p : Nat) : (s.journal ty src slot b).port p = s.port p := rfl
@[simp] theorem port_event (c n g w2 w3 p : Nat) : (s.event c n g w2 w3).port p = s.port p :=
  port_congr (State.event_ports ..) p

theorem pstate_congr (h : t.reg (PORT_STAT p) = s.reg (PORT_STAT p)) : t.pstate p = s.pstate p := by
  rw [State.pstate, State.fget, h]; rfl

/-- A port's state reads as written. -/
theorem pstate_fset_state (p n : Nat) : (s.fset (PORT_STAT p) PORT_STAT_STATE n).pstate p = n % 8 :=
  State.fget_fset _ _ _ (by decide) (by decide)

/-- A field of PORT_STAT above STATE leaves the state as it is. -/
theorem pstate_fset_above (p n : Nat) {f : Fld} (hf : f.lo ≤ f.hi) (hh : f.hi < 64) (hlo : 2 < f.lo) :
    (s.fset (PORT_STAT p) f n).pstate p = s.pstate p :=
  State.fget_fset_apart _ _ _ _ hf hh (by decide) (.inr hlo)

/-- Nothing but one register and the service complex has changed. -/
structure RegOnly (c : Nat) (s u : State) : Prop where
  regs : ∀ o, o ≠ c → u.reg o = s.reg o
  ports : u.ports = s.ports
  sec : u.sec = s.sec
  net : netKept s u

theorem RegOnly.refl (c : Nat) (s : State) : RegOnly c s s := ⟨fun _ _ => rfl, rfl, rfl, .refl s⟩

theorem RegOnly.fset {c : Nat} (h : RegOnly c s u) (f : Fld) (n : Nat) : RegOnly c s (u.fset c f n) :=
  ⟨fun o ho => (State.reg_fset_ne ho f n).trans (h.regs o ho), h.ports, h.sec, h.net⟩

theorem RegOnly.ite {c : Nat} {b : Prop} [Decidable b] (ht : RegOnly c s t) (hu : RegOnly c s u) :
    RegOnly c s (if b then t else u) := by
  split
  · exact ht
  · exact hu

theorem RegOnly.regsBut {c : Nat} (h : RegOnly c s u) : regsBut s u [c] := fun o ho =>
  h.regs o (List.ne_of_not_mem_cons ho)

/-- A command answers its effect on the state; the queue of waiting commands is put back, of which nothing is said. -/
theorem goes_of_any {c : Instr} {P : State → Prop} (he : exec c s = done s u)
    (hq : ∀ (t : State) q, P t → P { t with pending := q }) (h : P u) : Goes c s P := goes_of_done he (hq u _ h)

/-! ### The registers of a port, apart from each other and from the logs -/

/-- A register that the sending of packets does not write: it counts no output's marks, and is none of the logs'. -/
structure Unsent (o : Nat) : Prop where
  cnt4 : ∀ p < 32, o ≠ PORT_CNT4 p
  log : o ≠ SVC_EVLOG
  lost : o ≠ SVC_EVLOG_LOST
  jnl : o ≠ SEC_JNL_HEAD

theorem unsent_stat (p : Nat) : Unsent (PORT_STAT p) := by
  constructor <;> simp only [PORT_STAT, PORT_CNT4, SVC_EVLOG, SVC_EVLOG_LOST, SEC_JNL_HEAD] <;> omega

theorem unsent_circ (p : Nat) {c : Nat} (hc : c < 64) : Unsent (PORT_CIRC p c) := by
  constructor <;> simp only [PORT_CIRC, PORT_CNT4, SVC_EVLOG, SVC_EVLOG_LOST, SEC_JNL_HEAD] <;> omega

theorem Unsent.event (ho : Unsent o) (c n g w2 w3 : Nat) : (s.event c n g w2 w3).reg o = s.reg o :=
  State.reg_event ho.log ho.lost ho.jnl ..

theorem Unsent.bump {q : Nat} (ho : Unsent o) (hq : o ≠ q) (f : Fld) (n : Nat) : (s.bump q f n).reg o = s.reg o :=
  State.reg_bump hq ho.log ho.lost ho.jnl ..

/-! ### Routes name ports (R259) -/

theorem lt_of_up (h : s.up p = true) : p < 32 := by
  simp only [State.up, Bool.and_eq_true, decide_eq_true_eq] at h
  exact h.1

theorem droute_lt {n : Nat} (h : s.droute n = some o) : o < 32 := by
  unfold State.droute at h
  dsimp only at h
  split at h
  next hup => cases h; exact lt_of_up hup
  next =>
    split at h
    next hup => cases h; exact lt_of_up hup
    next => cases h

/-- Every output that the search among the adaptive ports names is one of them. -/
theorem aroute_lt {vc : Nat} (h : s.aroute vc = some o) : o < 32 := by
  revert o
  refine List.foldlRecOn (motive := fun b : Option Nat => ∀ {o}, b = some o → o < 32) _ _
    (fun h => (Option.some_ne_none _ h.symm).elim) fun b hb p _ o h => ?_
  split at h
  next hp =>
    have hp32 : p < 32 := lt_of_up (by simp only [State.adaptPort, Bool.and_eq_true] at hp; exact hp.2)
    cases b with
    | none => cases h; exact hp32
    | some q =>
      dsimp only at h
      split at h
      · cases h; exact hp32
      · exact hb h
  next => exact hb h

theorem route_lt {d : BitVec 24} {vc : Nat} {a e : Bool} (h : s.route d vc a e = some o) : o < 32 := by
  unfold State.route at h
  dsimp only at h
  split at h
  · split at h
    · exact aroute_lt h
    · exact droute_lt h
  · split at h
    · split at h
      · exact aroute_lt h
      · exact droute_lt h
    · split at h
      next hp => cases h; exact lt_of_up hp
      next => cases h

theorem srcCirc_lt {q : Packet} (h : s.srcCirc q = some o) : o < 32 := List.mem_range.mp (List.mem_of_find?_eq_some h)

/-! ### Sending -/

theorem reg_setOutq (s : State) (p v : Nat) (l : List Packet) (o : Nat) : (s.setOutq p v l).reg o = s.reg o := rfl

/-- A fold of updates that each leave a register as it is. -/
theorem reg_foldl {β : Type} {f : State → β → State} (hf : ∀ u x, (f u x).reg o = u.reg o) (l : List β) (s : State) :
    (l.foldl f s).reg o = s.reg o := foldl_keeps (State.reg · o) hf l s

section
variable (ho : Unsent o)
include ho

theorem Unsent.toOutq (q : Packet) (hp : p < 32) : (s.toOutq q p).reg o = s.reg o := by
  unfold State.toOutq
  dsimp only
  split
  · exact ho.bump (ho.cnt4 p hp) ..
  · rfl

omit ho in
theorem reg_keepSent (q : Packet) (o : Nat) : (s.keepSent q).reg o = s.reg o := at_ite (State.reg · o) rfl rfl

omit ho in
theorem reg_localNak (q : Packet) (o : Nat) : (s.localNak q).reg o = s.reg o := at_ite (State.reg · o) rfl rfl

omit ho in
theorem reg_notePort (n p o : Nat) : (s.notePort n p).reg o = s.reg o :=
  at_ite (State.reg · o) rfl (at_ite (State.reg · o) rfl rfl)

theorem Unsent.emit (q : Packet) : (s.emit q).reg o = s.reg o := by
  unfold State.emit
  dsimp only
  refine at_ite (State.reg · o) (reg_keepSent ..) ?_
  split
  · exact (reg_localNak ..).trans (reg_keepSent ..)
  next p hroute =>
    have hp : p < 32 := by
      split at hroute
      · exact srcCirc_lt hroute
      · exact route_lt hroute
    exact (ho.toOutq _ hp).trans ((reg_keepSent ..).trans (at_ite (State.reg · o) rfl rfl))

theorem Unsent.send (q : Packet) : (s.send q).reg o = s.reg o := by
  unfold State.send
  dsimp only
  refine at_ite (State.reg · o) ?_ (ho.emit _)
  cases s.droute (slotOf q.dest) with
  | none => exact at_ite (State.reg · o) rfl (ho.emit _)
  | some p => exact at_ite (State.reg · o) (reg_notePort ..) ((ho.emit _).trans (reg_notePort ..))

theorem Unsent.lostPacket (q : Packet) : (s.lostPacket q).reg o = s.reg o :=
  at_ite (State.reg · o) rfl (at_ite (State.reg · o) (reg_localNak ..) (ho.send _))

theorem Unsent.resend (p : Nat) : (s.resend p).reg o = s.reg o := by
  unfold State.resend
  dsimp only
  refine (reg_foldl (fun u q => ?_) _ _).trans (reg_foldl (fun u v => reg_setOutq u p v [] o) _ _)
  refine at_ite (State.reg · o) (ho.send _) ?_
  split
  next hroute => exact ho.toOutq _ (route_lt hroute)
  next => exact ho.lostPacket _

end

theorem FabricOnly.lostPacket (h : FabricOnly s t) (q : Packet) : FabricOnly s (t.lostPacket q) :=
  .ite h (.ite (h.localNak q) (h.send _))

theorem FabricOnly.foldl {β : Type} {f : State → β → State} (hf : ∀ {u} x, FabricOnly s u → FabricOnly s (f u x)) :
    ∀ (l : List β) {t : State}, FabricOnly s t → FabricOnly s (l.foldl f t)
  | [], _, h => h
  | x :: l, _, h => FabricOnly.foldl hf l (hf x h)

theorem FabricOnly.resend (h : FabricOnly s t) (p : Nat) : FabricOnly s (t.resend p) := by
  unfold State.resend
  refine .foldl (fun q hu => .ite (hu.send _) ?_) _ (.foldl (fun _ hu => hu.upd) _ h)
  split
  · exact hu.toOutq ..
  · exact hu.lostPacket q

/-! ### A change of routes (R261) -/

/-- Nothing but the router has changed. -/
def onlyRt (s t : State) : Prop := t = { s with rt := t.rt }

theorem onlyRt.trans (h : onlyRt s t) (g : onlyRt t u) : onlyRt s u := by
  rw [onlyRt] at h g ⊢
  rw [g, h]

theorem onlyRt_notePort (n p : Nat) : onlyRt s (s.notePort n p) := by
  unfold State.notePort
  dsimp only
  split
  · rfl
  · split <;> rfl

theorem onlyRt.foldl {β : Type} {f : State → β → State} (hf : ∀ u x, onlyRt u (f u x)) :
    ∀ (l : List β) {t : State}, onlyRt s t → onlyRt s (l.foldl f t)
  | [], _, h => h
  | x :: l, _, h => onlyRt.foldl hf l (h.trans (hf _ x))

theorem onlyRt_reroute (s : State) : onlyRt s s.reroute := by
  refine .foldl (fun u n => ?_) _ rfl
  split
  · rfl
  · split
    · exact onlyRt_notePort ..
    · rfl

theorem onlyRt.reg (h : onlyRt s t) (o : Nat) : t.reg o = s.reg o := by rw [h]; rfl
theorem onlyRt.port (h : onlyRt s t) (p : Nat) : t.port p = s.port p := by rw [h]; rfl
theorem onlyRt.net (h : onlyRt s t) : netKept s t := by rw [h]; exact netKept.refl s

end Sys2Proof.Claims
end

section
/-! O23: the states of a port: what a failed lane, retraining, silence and the four commands make of it (R243, R275, R276,
R280). -/

namespace Sys2Proof.Claims

open Machine Reg

variable {s t u : State} {o p : Nat}

/-! ### DOWN and RETRAIN (R243, R249) -/

/-- A port that goes DOWN, before its packets are lost and sent anew. -/
def downMarked (s : State) (p code : Nat) : State :=
  let s := s.fset (PORT_STAT p) PORT_STAT_STATE 0
  let s := s.event 0x0803 p 0x3F code (s.fget (PORT_STAT p) PORT_STAT_PARTNER)
  (s.setPort p (s.port p).reset1).reroute

theorem portDown_eq (s : State) (p code : Nat) : s.portDown p code =
    (((s.port p).inFlight.map (fun e => e.2)).foldl State.lostPacket (downMarked s p code)).resend p := rfl

theorem pstate_portDown (p code : Nat) : (s.portDown p code).pstate p = 0 := by
  have ho := unsent_stat p
  have hmarked : (downMarked s p code).reg (PORT_STAT p) = (s.fset (PORT_STAT p) PORT_STAT_STATE 0).reg (PORT_STAT p) :=
    ((onlyRt_reroute _).reg _).trans (ho.event ..)
  have hdown : (s.portDown p code).reg (PORT_STAT p) = (s.fset (PORT_STAT p) PORT_STAT_STATE 0).reg (PORT_STAT p) := by
    rw [portDown_eq]
    exact ((ho.resend p).trans (reg_foldl (fun _ q => ho.lostPacket q) _ _)).trans hmarked
  exact (pstate_congr hdown).trans (pstate_fset_state p 0)

theorem netKept.portDown (h : netKept s t) (p code : Nat) : netKept s (t.portDown p code) := by
  have hmarked : netKept t (downMarked t p code) :=
    ((((netKept.refl t).fset ..).event ..).setPort ..).trans (onlyRt_reroute _).net
  have hlost := FabricOnly.foldl (fun q hu => hu.lostPacket q) ((t.port p).inFlight.map (fun e => e.2))
    (FabricOnly.refl (downMarked t p code))
  rw [portDown_eq]
  exact (h.trans hmarked).trans (hlost.resend p).net

/-- A retraining port, before the routes change with it. -/
theorem retrain_eq (s : State) (p : Nat) : s.retrain p =
    (((s.bump (PORT_CNT2 p) PORT_CNT2_RETRAINS 1).fset (PORT_STAT p) PORT_STAT_STATE 3).setPort p
      { s.port p with retrainAt := s.lanyard.toNat, badRun := 0 }).reroute := by
  simp only [State.retrain, State.port_fset, port_bump, State.fset_lanyard, State.bump_lanyard]

theorem pstate_retrain (p : Nat) : (s.retrain p).pstate p = 3 := by
  rw [retrain_eq]
  exact (pstate_congr ((onlyRt_reroute _).reg _)).trans (pstate_fset_state p 3)

theorem port_retrain (p : Nat) :
    (s.retrain p).port p = { s.port p with retrainAt := s.lanyard.toNat, badRun := 0 } := by
  rw [retrain_eq, (onlyRt_reroute _).port, State.port_setPort_same]

theorem goodLanes_retrain (p : Nat) : ((s.retrain p).port p).goodLanes = (s.port p).goodLanes := by
  rw [port_retrain]
  rfl

theorem netKept.retrain (h : netKept s t) (p : Nat) : netKept s (t.retrain p) := by
  rw [retrain_eq]
  exact (((h.bump ..).fset ..).setPort ..).trans (onlyRt_reroute _).net

/-! ### Lanes, retraining and silence (R243, R275) -/

/-- A port with one more lane failed. -/
def laneFailed (s : State) (p lane : Nat) : State :=
  s.setPort p { s.port p with failedLanes := (s.port p).failedLanes ||| BitVec.ofNat 4 (2 ^ lane) }

theorem goodLanes_laneFailed (p lane : Nat) : ((laneFailed s p lane).port p).goodLanes = lanesAfter (s.port p) lane := by
  rw [laneFailed, State.port_setPort_same]
  rfl

section
variable {q : Fin 32} {lane : Fin 4} (hup : s.pstate q.val = 2) (hlane : (s.lanes q.val).getLsbD lane.val = true)
include hup hlane

/-- With too few lanes left the port goes DOWN. -/
theorem exec_portLaneFail_down (h : laneCount (lanesAfter (s.port q.val) lane.val) < s.minWidth q.val) :
    exec (.portLaneFail q lane) s = done s ((laneFailed s q lane).portDown q 0) := by
  rw [← goodLanes_laneFailed] at h
  exact (if_pos ⟨hup, hlane⟩).trans (if_pos h)

/-- With enough lanes left it retrains at the width that they give. -/
theorem exec_portLaneFail_retrain (h : s.minWidth q.val ≤ laneCount (lanesAfter (s.port q.val) lane.val)) :
    exec (.portLaneFail q lane) s = done s ((laneFailed s q lane).retrain q) := by
  rw [← goodLanes_laneFailed] at h
  exact (if_pos ⟨hup, hlane⟩).trans (if_neg (Nat.not_lt.mpr h))

end

/-- A port UP at the width that its good lanes give. -/
def upAgain (s : State) (p : Nat) : State := ((s.setLanes p).fset (PORT_STAT p) PORT_STAT_STATE 2).reroute

theorem pstate_upAgain (p : Nat) : (upAgain s p).pstate p = 2 :=
  (pstate_congr ((onlyRt_reroute _).reg _)).trans (pstate_fset_state p 2)

theorem lanes_upAgain (p : Nat) : (upAgain s p).lanes p = (s.port p).goodLanes := by
  rw [State.lanes, State.fget, upAgain, (onlyRt_reroute _).reg, ← State.fget,
    State.fget_fset_apart _ _ _ _ (by decide) (by decide) (by decide) (by decide), State.setLanes,
    State.fget_fset _ _ _ (by decide) (by decide)]
  show BitVec.ofNat 4 ((s.port p).goodLanes.toNat % 2 ^ 4) = _
  rw [Nat.mod_eq_of_lt (s.port p).goodLanes.isLt, BitVec.ofNat_toNat, BitVec.setWidth_eq]

theorem netKept.upAgain (h : netKept s t) (p : Nat) : netKept s (upAgain t p) :=
  ((h.fset ..).fset ..).trans (onlyRt_reroute _).net

/-! ### A write of PORT_CFG, whose round ends with it (R8, R280, R360) -/

theorem portCfg_mod (p : Nat) : PORT_CFG p % 0x100000 = 0 := by simp only [PORT_CFG]; omega
theorem portCfg_window (p : Nat) : PORT_CFG p / 0x100000 = 0x100 + p := by simp only [PORT_CFG]; omega

theorem isPortCfg_portCfg (hp : p < 32) : isPortCfg (PORT_CFG p) = true := by
  have hin : PORT_CFG 0 ≤ PORT_CFG p ∧ PORT_CFG p < PORT_CFG 32 := by simp only [PORT_CFG]; omega
  simp [isPortCfg, hin, portCfg_mod]

theorem isTileCtl_portCfg (p : Nat) : isTileCtl (PORT_CFG p) = false := by simp [isTileCtl, portCfg_mod]

/-- PORT_CFG is none of the other registers that the arbiter treats apart. -/
theorem portCfg_ne (hp : p < 32) :
    PORT_CFG p ≠ PWR_STATE ∧ PORT_CFG p ≠ PWR_LIMIT ∧ PORT_CFG p ≠ TIME_CFG ∧ PORT_CFG p ≠ HBM_QOS := by
  simp only [PORT_CFG, PWR_STATE, PWR_LIMIT, TIME_CFG, HBM_QOS]; omega

theorem regAt_portCfg (hp : p < 32) : regAt (PORT_CFG p) = regsPORT.head? := by
  rw [regAt, portCfg_window, portCfg_mod, windowRegs, if_neg (by omega), if_pos (by omega)]
  rfl

/-- The fields of PORT_CFG beside CMD that a written word sets, with their values. -/
def cfgFields (v : W64) : List (Fld × Nat) :=
  [(PORT_CFG_MIN_WIDTH, bits v 18 16), (PORT_CFG_TIME_OK, bits v 9 9), (PORT_CFG_MGMT_OK, bits v 8 8),
    (PORT_CFG_CIRC_MAX, min 64 (bits v 6 0))]

/-- A written command takes part in the arbitration beside the register's fields. -/
theorem arbFields_portCfg (hp : p < 32) (src : Nat) {v : W64} (h0 : bits v 15 12 ≠ 0) (h5 : bits v 15 12 < 5) :
    arbFields (PORT_CFG p) src v = cfgFields v ++ [(PORT_CFG_CMD, bits v 15 12)] := by
  obtain ⟨hpwr, hlimit, htime, -⟩ := portCfg_ne hp
  have hcfg := isPortCfg_portCfg hp
  have hclamp : ∀ f x, arbClamp (PORT_CFG p) f x = if f = PORT_CFG_CIRC_MAX then min 64 x else x := fun f x => by
    simp [arbClamp, hlimit, hcfg]
  have h5' : ¬ 5 ≤ bits v 15 12 := by omega
  simp [arbFields, regAt_portCfg hp, regsPORT, hclamp, hpwr, hlimit, htime, hcfg, cfgFields, h0, h5']

/-- The requests that a command to a port makes. -/
def cfgSlots (p src : Nat) (v : W64) : List ArbSlot :=
  (cfgFields v ++ [(PORT_CFG_CMD, bits v 15 12)]).map (fun x => ⟨PORT_CFG p, x.1.lo, rankOf src, src, x.2⟩)

/-- The request for CMD. -/
def cmdSlot (p src : Nat) (v : W64) : ArbSlot := ⟨PORT_CFG p, 12, rankOf src, src, bits v 15 12⟩

/-- The fields of PORT_CFG beside CMD, in the order of their requests. -/
def cfgKeys (p : Nat) : List (Nat × Fld) :=
  [(PORT_CFG p, PORT_CFG_MIN_WIDTH), (PORT_CFG p, PORT_CFG_TIME_OK), (PORT_CFG p, PORT_CFG_MGMT_OK),
    (PORT_CFG p, PORT_CFG_CIRC_MAX)]

/-- No two of the requests are for one field: none gives way to another. -/
theorem joinRound_cfg (src : Nat) (v : W64) :
    (cfgFields v ++ [(PORT_CFG_CMD, bits v 15 12)]).foldl (fun l x =>
      joinRound l ⟨PORT_CFG p, x.1.lo, rankOf src, src, x.2⟩) [] = cfgSlots p src v := by
  simp [cfgFields, cfgSlots, joinRound, ArbSlot.same]

theorem arbTouched_cfg (hp : p < 32) (src : Nat) {v : W64} (h0 : bits v 15 12 ≠ 0) (h5 : bits v 15 12 < 5) :
    arbTouched (cfgSlots p src v) [⟨PORT_CFG p, src, v⟩] = cfgKeys p ++ [(PORT_CFG p, PORT_CFG_CMD)] := by
  rw [arbTouched, List.flatMap_singleton, arbFields_portCfg hp src h0 h5]
  simp [cfgFields, cfgSlots, cfgKeys, List.eraseDups_cons]

section
variable {l : List ArbSlot} (hl : ∀ x ∈ l, x.off ≠ PORT_CFG p)
include hl

/-- They fill their slots where none was filled. -/
theorem fillSlot_cfg (src : Nat) (v : W64) : (cfgSlots p src v).foldl fillSlot l = l ++ cfgSlots p src v := by
  have hall : ∀ lo x, l.filter (fun y => !(y.same ⟨PORT_CFG p, lo, rankOf src, src, x⟩)) = l := fun lo x =>
    List.filter_eq_self.mpr fun y hy => by simp [ArbSlot.same, hl y hy]
  simp [cfgSlots, cfgFields, fillSlot, hall, List.filter_append]
  simp [ArbSlot.same]

/-- Nobody else asks for CMD. -/
theorem arbWinner_cmd (src : Nat) (v : W64) :
    arbWinner (l ++ cfgSlots p src v) (PORT_CFG p) PORT_CFG_CMD.lo = some (cmdSlot p src v) := by
  have hnone : l.filter (fun x => x.off == PORT_CFG p && x.lo == 12) = [] :=
    List.filter_eq_nil_iff.mpr fun x hx => by simp [hl x hx]
  have hone : (cfgSlots p src v).filter (fun x => x.off == PORT_CFG p && x.lo == 12) = [cmdSlot p src v] := by
    simp [cfgSlots, cfgFields, cmdSlot]
  rw [arbWinner, List.filter_append, hnone, hone]
  rfl

end

/-- The state in which a command's write is alone in its round. -/
def cfgWritten (s : State) (p src : Nat) (v : W64) : State :=
  { s with svc := { s.svc with round := [⟨PORT_CFG p, src, v⟩] } }

/-- The state in which a command's requests alone have filled their slots. -/
def cfgAsked (s : State) (p src : Nat) (v : W64) : State :=
  { s with svc := { s.svc with slots := s.svc.slots ++ cfgSlots p src v, round := [] } }

theorem RegOnly.pstate (h : RegOnly (PORT_CFG p) s u) : u.pstate p = s.pstate p :=
  pstate_congr (h.regs _ (by simp only [PORT_STAT, PORT_CFG]; omega))

/-- A field of PORT_CFG beside CMD takes its value as it stands. -/
theorem applyField_cfg (hp : p < 32) {f : Fld} (hf : f ≠ PORT_CFG_CMD) (x src : Nat) :
    s.applyField (PORT_CFG p) f x src = s.fset (PORT_CFG p) f x := by
  obtain ⟨hpwr, hlimit, -⟩ := portCfg_ne hp
  simp only [State.applyField, isTileCtl_portCfg, hpwr, hlimit, hf, and_false, if_false, Bool.false_eq_true]

/-- CMD is carried out. -/
theorem applyField_cmd (hp : p < 32) (x src : Nat) :
    s.applyField (PORT_CFG p) PORT_CFG_CMD x src = s.portCmd p x := by
  obtain ⟨hpwr, -⟩ := portCfg_ne hp
  have hport : PORT_CFG p / 0x100000 - 0x100 = p := by rw [portCfg_window]; omega
  simp only [State.applyField, isTileCtl_portCfg, hpwr, isPortCfg_portCfg hp, hport, and_self, if_false, if_true,
    Bool.false_eq_true]

theorem arbWrite_portCfg (hp : p < 32) (src : Nat) {v : W64} (h5 : bits v 15 12 < 5) : s.arbWrite (PORT_CFG p) src v =
    { s with svc := { s.svc with round := s.svc.round ++ [⟨PORT_CFG p, src, v⟩] } } := by
  obtain ⟨hpwr, -⟩ := portCfg_ne hp
  simp only [State.arbWrite, State.arbReserved, hpwr, Nat.not_le.mpr h5, if_false, ite_self]

/-- What a round does for a field that it touches. -/
def roundField (old new rs : List ArbSlot) (s : State) (k : Nat × Fld) : State :=
  match arbWinner new k.1 k.2.lo with
  | some x => if rs.contains x || arbValue old k.1 k.2 != x.val then s.applyField k.1 k.2 x.val x.src else s
  | none => s

theorem RegOnly.roundField (hp : p < 32) {old new rs : List ArbSlot} {k : Nat × Fld} (hk : k ∈ cfgKeys p)
    (h : RegOnly (PORT_CFG p) s u) : RegOnly (PORT_CFG p) s (roundField old new rs u k) := by
  have hfield : k.1 = PORT_CFG p ∧ k.2 ≠ PORT_CFG_CMD := by
    simp only [cfgKeys, List.mem_cons, List.not_mem_nil, or_false] at hk
    obtain rfl | rfl | rfl | rfl := hk <;> simp
  unfold Claims.roundField
  split
  · split
    · rw [hfield.1, applyField_cfg hp hfield.2]
      exact h.fset ..
    · exact h
  · exact h

/-- The fields beside CMD take their values one after another. -/
theorem RegOnly.cfgKeys (hp : p < 32) (old new rs : List ArbSlot) (h : RegOnly (PORT_CFG p) s u) :
    RegOnly (PORT_CFG p) s ((Claims.cfgKeys p).foldl (Claims.roundField old new rs) u) :=
  List.foldlRecOn _ _ h fun _ hu _ hk => hu.roundField hp hk

/-- The word that a command writes. -/
def cmdWord (s : State) (p cmd : Nat) : W64 := withBits (s.reg (PORT_CFG p)) 15 12 cmd

theorem roundField_cmd (hp : p < 32) {l : List ArbSlot} (hl : ∀ x ∈ l, x.off ≠ PORT_CFG p) (old : List ArbSlot)
    (src : Nat) (v : W64) : roundField old (l ++ cfgSlots p src v) (cfgSlots p src v) s (PORT_CFG p, PORT_CFG_CMD) =
      s.portCmd p (bits v 15 12) := by
  have hmine : (cfgSlots p src v).contains (cmdSlot p src v) = true := by simp [cfgSlots, cfgFields, cmdSlot]
  simp only [roundField, arbWinner_cmd hl, hmine, Bool.true_or, if_true, applyField_cmd hp]
  rfl

/-- A round of one write. -/
theorem roundEnd_single {w : ArbWrite} (hround : s.svc.round = [w]) {rs new : List ArbSlot}
    (hrs : (arbFields w.off w.src w.val).foldl (fun l x => joinRound l ⟨w.off, x.1.lo, rankOf w.src, w.src, x.2⟩) [] = rs)
    (hnew : rs.foldl fillSlot s.svc.slots = new) : s.roundEnd =
      ((arbTouched rs [w]).foldl (roundField s.svc.slots new rs)
        { s with svc := { s.svc with slots := new, round := [] } }).arbOutcome w := by
  subst hrs hnew
  rw [State.roundEnd, hround]
  rfl

/-- A command to a port, whose round ends with it, is carried out once, and then its write completes. -/
theorem portWrite_eq (hp : p < 32) (hcalm : arbCalm s (PORT_CFG p)) (src : Nat) {cmd : Nat} (h0 : cmd ≠ 0) (h5 : cmd < 5) :
    ∃ u, RegOnly (PORT_CFG p) s u ∧
      s.portWrite p src cmd = (u.portCmd p cmd).arbOutcome ⟨PORT_CFG p, src, cmdWord s p cmd⟩ := by
  obtain ⟨hround, hslots⟩ := hcalm
  have hcmd : bits (cmdWord s p cmd) 15 12 = cmd := by
    rw [cmdWord, bits_withBits _ _ (by decide) (by decide), Nat.mod_eq_of_lt (by omega)]
  have h0' : bits (cmdWord s p cmd) 15 12 ≠ 0 := by rwa [hcmd]
  have h5' : bits (cmdWord s p cmd) 15 12 < 5 := by rwa [hcmd]
  have hasked : RegOnly (PORT_CFG p) s (cfgAsked s p src (cmdWord s p cmd)) := ⟨fun _ _ => rfl, rfl, rfl, .refl s⟩
  have hrs := (congrArg (List.foldl _ []) (arbFields_portCfg hp src h0' h5')).trans
    (joinRound_cfg (p := p) src (cmdWord s p cmd))
  refine ⟨_, hasked.cfgKeys hp s.svc.slots (s.svc.slots ++ cfgSlots p src (cmdWord s p cmd))
    (cfgSlots p src (cmdWord s p cmd)), ?_⟩
  have hwritten : s.portWrite p src cmd = (cfgWritten s p src (cmdWord s p cmd)).roundEnd := by
    rw [State.portWrite, ← cmdWord, State.arbSolo, arbWrite_portCfg hp src h5', hround]
    rfl
  rw [hwritten, roundEnd_single (s := cfgWritten s p src (cmdWord s p cmd)) rfl hrs (fillSlot_cfg hslots src _),
    arbTouched_cfg hp src h0' h5', List.foldl_append, List.foldl_cons, List.foldl_nil, roundField_cmd hp hslots, hcmd]
  rfl

/-- The end of a write changes SVC_ARB_LAST and the logs. -/
theorem Unsent.arbOutcome (ho : Unsent o) {w : ArbWrite} (hlast : o ≠ SVC_ARB_LAST w.src) :
    (s.arbOutcome w).reg o = s.reg o := by
  unfold State.arbOutcome
  dsimp only
  split
  · rw [ho.event, State.reg_setReg_ne hlast]
  · exact State.reg_setReg_ne hlast _

theorem pstate_arbOutcome {w : ArbWrite} (hw : w.src < 22) : (s.arbOutcome w).pstate p = s.pstate p :=
  pstate_congr ((unsent_stat p).arbOutcome (by simp only [PORT_STAT, SVC_ARB_LAST]; omega))

theorem port_arbOutcome (w : ArbWrite) (p : Nat) : (s.arbOutcome w).port p = s.port p := by
  unfold State.arbOutcome
  dsimp only
  split
  · rw [port_event, State.port_setReg]
  · exact State.port_setReg ..

theorem netKept.arbOutcome (h : netKept s t) (w : ArbWrite) : netKept s (t.arbOutcome w) := by
  unfold State.arbOutcome
  exact .ite ((h.setReg ..).event ..) (h.setReg ..)

/-! ### The four commands (R243, R276, R280) -/

/-- The credit that a training port will advertise is taken from PORT_CREDIT (R247). -/
def ownCredit (s : State) (p : Nat) : Nat := min 192 (max 65 (s.fget (PORT_CREDIT p) PORT_CREDIT_RSVD))

/-- The registers of a port that begins to train: its state, the credit shared, its lanes. -/
def trainRegs (s : State) (stat cred credit : Nat) (lanes : BitVec 4) : State :=
  ((s.fset stat PORT_STAT_STATE 1).fset cred PORT_CREDIT_SHARED (1536 - 8 * credit)).fset stat PORT_STAT_LANES lanes.toNat

theorem state_trainRegs {stat cred : Nat} (h : stat ≠ cred) (credit : Nat) (lanes : BitVec 4) :
    (trainRegs s stat cred credit lanes).fget stat PORT_STAT_STATE = 1 := by
  rw [trainRegs, State.fget_fset_apart _ _ _ _ (by decide) (by decide) (by decide) (by decide), State.fget_fset_ne h,
    State.fget_fset _ _ _ (by decide) (by decide)]
  rfl

theorem port_trainRegs (stat cred credit : Nat) (lanes : BitVec 4) (p : Nat) :
    (trainRegs s stat cred credit lanes).port p = s.port p :=
  ((State.port_fset ..).trans (State.port_fset ..)).trans (State.port_fset ..)

/-- Beside its registers, only the port's own link layer is set back. -/
theorem train_eq (s : State) (p : Nat) : ∃ lanes v,
    s.train p = (trainRegs s (PORT_STAT p) (PORT_CREDIT p) (ownCredit s p) lanes).setPort p v
    ∧ v.enabled = ((trainRegs s (PORT_STAT p) (PORT_CREDIT p) (ownCredit s p) lanes).port p).enabled := ⟨_, _, rfl, rfl⟩

theorem pstate_train (p : Nat) : (s.train p).pstate p = 1 := by
  have hcred : PORT_STAT p ≠ PORT_CREDIT p := by simp only [PORT_STAT, PORT_CREDIT]; omega
  obtain ⟨lanes, v, heq, -⟩ := train_eq s p
  rw [heq, State.pstate, State.fget_setPort, state_trainRegs hcred]

theorem port_train_enabled (p : Nat) : ((s.train p).port p).enabled = (s.port p).enabled := by
  obtain ⟨lanes, v, heq, hv⟩ := train_eq s p
  rw [heq, State.port_setPort_same, hv, port_trainRegs]

theorem netKept.train (h : netKept s t) (p : Nat) : netKept s (t.train p) := by
  obtain ⟨lanes, v, heq, -⟩ := train_eq t p
  rw [heq, trainRegs]
  exact (((h.fset ..).fset ..).fset ..).setPort ..

/-- A port whose last command was carried out. -/
theorem pstate_status (p n : Nat) : (s.fset (PORT_STAT p) PORT_STAT_STATUS n).pstate p = s.pstate p :=
  pstate_fset_above p n (by decide) (by decide) (by decide)

/-- A DOWN port is enabled: it trains. -/
def enabling (s : State) (p : Nat) : State :=
  (s.setPort p { s.port p with enabled := true }).fset (PORT_STAT p) PORT_STAT_STATUS ST_OK

theorem netKept.enabling (h : netKept s t) (p : Nat) : netKept s (enabling t p) := (h.setPort ..).fset ..

theorem enablePort_down (h : s.pstate p = 0) : s.enablePort p = ((enabling s p).setPort p
    { (enabling s p).port p with failedLanes := 0, initFails := 0 }).train p := by
  have hdown : (enabling s p).pstate p = 0 := (pstate_status ..).trans h
  exact if_pos hdown

theorem enablePort_leaves (h : s.pstate p = 0) :
    (s.enablePort p).pstate p = 1 ∧ ((s.enablePort p).port p).enabled = true ∧ netKept s (s.enablePort p) := by
  rw [enablePort_down h]
  refine ⟨pstate_train p, ?_, (((netKept.refl s).enabling p).setPort ..).train p⟩
  rw [port_train_enabled, State.port_setPort_same]
  show ((enabling s p).port p).enabled = true
  rw [enabling, State.port_fset, State.port_setPort_same]

/-- A port that is not DOWN goes DOWN. -/
def downed (s : State) (p : Nat) : State := if s.pstate p = 0 then s else s.portDown p 0

theorem pstate_downed (p : Nat) : (downed s p).pstate p = 0 := by
  unfold downed
  split
  next h => exact h
  next => exact pstate_portDown p 0

theorem netKept.downed (h : netKept s t) (p : Nat) : netKept s (downed t p) := .ite h (h.portDown p 0)

theorem disablePort_eq (s : State) (p : Nat) : ∃ v, v.enabled = false ∧
    s.disablePort p = (downed (s.fset (PORT_STAT p) PORT_STAT_STATUS ST_OK) p).setPort p v := ⟨_, rfl, rfl⟩

theorem disablePort_leaves (s : State) (p : Nat) :
    (s.disablePort p).pstate p = 0 ∧ ((s.disablePort p).port p).enabled = false ∧ netKept s (s.disablePort p) := by
  obtain ⟨v, hv, heq⟩ := disablePort_eq s p
  rw [heq, State.port_setPort_same]
  exact ⟨(pstate_congr (State.reg_setPort ..)).trans (pstate_downed p), hv,
    (((netKept.refl s).fset ..).downed p).setPort ..⟩

theorem fencePort_leaves (s : State) (p : Nat) : (s.fencePort p).pstate p = 5 ∧ netKept s (s.fencePort p) :=
  ⟨pstate_fset_state p 5, (((netKept.refl s).fset ..).downed p).fset ..⟩

theorem releasePort_leaves (h : s.pstate p = 4 ∨ s.pstate p = 5) :
    (s.releasePort p).pstate p = 1 ∧ netKept s (s.releasePort p) := by
  have hheld : (s.fset (PORT_STAT p) PORT_STAT_STATUS ST_OK).pstate p = 4
      ∨ (s.fset (PORT_STAT p) PORT_STAT_STATUS ST_OK).pstate p = 5 := by rwa [pstate_status]
  rw [State.releasePort, if_pos hheld]
  exact ⟨pstate_train p, (((netKept.refl s).fset ..).setPort ..).train p⟩

/-- A command of PORT_CFG.CMD by its number (R280). -/
theorem portCmd_enable (s : State) (p : Nat) : s.portCmd p 1 = s.enablePort p := by rw [State.portCmd, if_pos rfl]
theorem portCmd_disable (s : State) (p : Nat) : s.portCmd p 2 = s.disablePort p := by simp [State.portCmd]
theorem portCmd_fence (s : State) (p : Nat) : s.portCmd p 3 = s.fencePort p := by simp [State.portCmd]
theorem portCmd_release (s : State) (p : Nat) : s.portCmd p 4 = s.releasePort p := by simp [State.portCmd]

/-- What a command leaves once its own operation on the port has left it. -/
theorem portWrite_leaves (hp : p < 32) (hcalm : arbCalm s (PORT_CFG p)) {src : Nat} (hsrc : src < 22) {cmd n : Nat}
    (h0 : cmd ≠ 0) (h5 : cmd < 5) {E : Port → Prop} {f : State → State} (hf : ∀ u, u.portCmd p cmd = f u)
    (hcmd : ∀ u, u.pstate p = s.pstate p → (f u).pstate p = n ∧ E ((f u).port p) ∧ netKept u (f u)) :
    (s.portWrite p src cmd).pstate p = n ∧ E ((s.portWrite p src cmd).port p) ∧ netKept s (s.portWrite p src cmd) := by
  obtain ⟨u, hu, heq⟩ := portWrite_eq hp hcalm src h0 h5
  obtain ⟨hstate, hport, hnet⟩ := hcmd u hu.pstate
  rw [heq, hf, pstate_arbOutcome hsrc, port_arbOutcome]
  exact ⟨hstate, hport, (hu.net.trans hnet).arbOutcome _⟩

/-! ### The events and the commands -/

theorem portLaneFail_down {p : Fin 32} {lane : Fin 4} (hup : s.pstate p.val = 2)
    (hlane : (s.lanes p.val).getLsbD lane.val = true)
    (h : laneCount (lanesAfter (s.port p.val) lane.val) < s.minWidth p.val) :
    Goes (.portLaneFail p lane) s (fun t => t.pstate p = 0 ∧ netKept s t) :=
  goes_of_any (exec_portLaneFail_down hup hlane h) (fun _ _ h => h)
    ⟨pstate_portDown _ _, ((netKept.refl s).setPort ..).portDown _ _⟩

theorem portLaneFail_retrains {p : Fin 32} {lane : Fin 4} (hup : s.pstate p.val = 2)
    (hlane : (s.lanes p.val).getLsbD lane.val = true)
    (h : s.minWidth p.val ≤ laneCount (lanesAfter (s.port p.val) lane.val)) :
    Goes (.portLaneFail p lane) s (fun t =>
      t.pstate p = 3 ∧ (t.port p).goodLanes = lanesAfter (s.port p) lane ∧ netKept s t) :=
  goes_of_any (exec_portLaneFail_retrain hup hlane h) (fun _ _ h => h)
    ⟨pstate_retrain _, (goodLanes_retrain p).trans (goodLanes_laneFailed p lane), ((netKept.refl s).setPort ..).retrain _⟩

theorem portRetrainDone_up {p : Fin 32} (h : s.pstate p.val = 3) :
    Goes (.portRetrainDone p) s (fun t => t.pstate p = 2 ∧ t.lanes p = (s.port p).goodLanes ∧ netKept s t) :=
  goes_of_any (u := upAgain s p) (if_pos h) (fun _ _ h => h)
    ⟨pstate_upAgain _, lanes_upAgain _, (netKept.refl s).upAgain _⟩

theorem portRetrainTimeout_down {p : Fin 32} (h : s.pstate p.val = 3)
    (hlate : (s.port p.val).retrainAt + 1000000 ≤ s.lanyard.toNat) :
    Goes (.portRetrainTimeout p) s (fun t => t.pstate p = 0 ∧ netKept s t) :=
  goes_of_any (u := s.portDown p 0) (if_pos ⟨h, hlate⟩) (fun _ _ h => h)
    ⟨pstate_portDown _ _, (netKept.refl s).portDown _ _⟩

theorem portRxSilence_retrains {p : Fin 32} (h : s.pstate p.val = 2)
    (hquiet : (s.port p.val).lastRx + 10000 ≤ s.lanyard.toNat) :
    Goes (.portRxSilence p) s (fun t => t.pstate p = 3 ∧ netKept s t) :=
  goes_of_any (u := s.retrain p) (if_pos ⟨h, hquiet⟩) (fun _ _ h => h) ⟨pstate_retrain _, (netKept.refl s).retrain _⟩

theorem portEnable_trains {p : Fin 32} {src : Fin 22} (hcalm : arbCalm s (PORT_CFG p.val)) (h : s.pstate p.val = 0) :
    Goes (.portEnable p src) s (fun t => t.pstate p = 1 ∧ (t.port p).enabled = true ∧ netKept s t) :=
  goes_of_any (u := s.portWrite p src 1) rfl (fun _ _ h => h) (portWrite_leaves p.isLt hcalm src.isLt (by decide)
    (by decide) (E := fun v => v.enabled = true) (portCmd_enable · p) fun u hu => enablePort_leaves (hu.trans h))

theorem portDisable_down {p : Fin 32} {src : Fin 22} (hcalm : arbCalm s (PORT_CFG p.val)) :
    Goes (.portDisable p src) s (fun t => t.pstate p = 0 ∧ (t.port p).enabled = false ∧ netKept s t) :=
  goes_of_any (u := s.portWrite p src 2) rfl (fun _ _ h => h) (portWrite_leaves p.isLt hcalm src.isLt (by decide)
    (by decide) (E := fun v => v.enabled = false) (portCmd_disable · p) fun u _ => disablePort_leaves u p)

theorem portFence_fenced {p : Fin 32} {src : Fin 22} (hcalm : arbCalm s (PORT_CFG p.val)) :
    Goes (.portFence p src) s (fun t => t.pstate p = 5 ∧ netKept s t) := by
  obtain ⟨hstate, -, hnet⟩ := portWrite_leaves p.isLt hcalm src.isLt (cmd := 3) (n := 5) (by decide) (by decide)
    (E := fun _ => True) (portCmd_fence · p) fun u _ => ⟨(fencePort_leaves u p).1, trivial, (fencePort_leaves u p).2⟩
  exact goes_of_any (u := s.portWrite p src 3) rfl (fun _ _ h => h) ⟨hstate, hnet⟩

theorem portRelease_trains {p : Fin 32} {src : Fin 22} (hcalm : arbCalm s (PORT_CFG p.val))
    (h : s.pstate p.val = 4 ∨ s.pstate p.val = 5) :
    Goes (.portRelease p src) s (fun t => t.pstate p = 1 ∧ netKept s t) := by
  obtain ⟨hstate, -, hnet⟩ := portWrite_leaves p.isLt hcalm src.isLt (cmd := 4) (n := 1) (by decide) (by decide)
    (E := fun _ => True) (portCmd_release · p) fun u hu =>
      ⟨(releasePort_leaves (hu ▸ h)).1, trivial, (releasePort_leaves (hu ▸ h)).2⟩
  exact goes_of_any (u := s.portWrite p src 4) rfl (fun _ _ h => h) ⟨hstate, hnet⟩

end Sys2Proof.Claims

open Sys2Proof.Claims

/-- Settles O23, a lemma for what each event and each command makes of a port. -/
theorem portStates : Obligations.PortStates := by
  unfold Obligations.PortStates
  exact ⟨fun _ _ _ hup hlane => ⟨portLaneFail_down hup hlane, portLaneFail_retrains hup hlane⟩,
    fun _ _ => portRetrainDone_up, fun _ _ => portRetrainTimeout_down, fun _ _ => portRxSilence_retrains,
    fun _ _ _ => portEnable_trains, fun _ _ _ => portDisable_down, fun _ _ _ => portFence_fenced,
    fun _ _ _ => portRelease_trains⟩

end

section
/-! O24: the fault injector of a port: ARM, STOP, and the packet that it delayed (R278, R279). First what the link layer does
with a packet that it sends (R244, R248, R257), which the outputs share. -/

namespace Sys2Proof.Claims

open Machine Reg

variable {s t u : State} {o p : Nat}

/-! ### Packets on the link -/

/-- Putting frames on a link touches the link's port, its counters, the logs and the limiters. -/
structure LinkOnly (p : Nat) (s t : State) : Prop where
  inj : (t.port p).inj = (s.port p).inj
  outq : t.rt.outq = s.rt.outq
  hub : t.hub = s.hub
  net : netKept s t

theorem LinkOnly.refl (p : Nat) (s : State) : LinkOnly p s s := ⟨rfl, rfl, rfl, .refl s⟩

theorem LinkOnly.trans (h : LinkOnly p s t) (g : LinkOnly p t u) : LinkOnly p s u :=
  ⟨g.inj.trans h.inj, g.outq.trans h.outq, g.hub.trans h.hub, h.net.trans g.net⟩

/-- The port may change as it stands, but for its injector. -/
theorem LinkOnly.setPort (h : LinkOnly p s t) {v : Port} (hv : v.inj = (t.port p).inj) : LinkOnly p s (t.setPort p v) :=
  ⟨by rw [State.port_setPort_same, hv, h.inj], h.outq, h.hub, h.net.setPort ..⟩

theorem LinkOnly.bump (h : LinkOnly p s t) (o : Nat) (f : Fld) (n : Nat) : LinkOnly p s (t.bump o f n) :=
  ⟨by rw [port_bump, h.inj], by rw [State.bump_rt, h.outq], by rw [State.bump_hub, h.hub], h.net.bump ..⟩

theorem LinkOnly.meter (h : LinkOnly p s t) (d : BitVec 24) (vc n q : Nat) : LinkOnly p s (t.meter d vc n q) := by
  unfold State.meter
  split
  · exact h
  · split
    · exact h
    · exact ⟨h.inj, h.outq, h.hub, h.net.upd⟩

theorem port_meter (d : BitVec 24) (vc n q p : Nat) : (s.meter d vc n q).port p = s.port p := by
  unfold State.meter
  split
  · rfl
  · split <;> rfl

/-- Either no frame goes, or one goes, which leaves the port's injector and its packets in flight as they are. -/
theorem frames_cases (s : State) (p k : Nat) : s.frames p (k + 1) = s ∨ ∃ n v,
    s.frames p (k + 1) = ((s.bump (PORT_CNT0 p) PORT_CNT0_TX_FLITS n).setPort p v).frames p k
    ∧ v.inj = ((s.bump (PORT_CNT0 p) PORT_CNT0_TX_FLITS n).port p).inj
    ∧ v.inFlight = ((s.bump (PORT_CNT0 p) PORT_CNT0_TX_FLITS n).port p).inFlight := by
  rw [State.frames]
  dsimp only
  split
  · exact .inl rfl
  · exact .inr ⟨_, _, rfl, rfl, rfl⟩

/-- The frames sent carry flits of packets already in flight. -/
theorem frames_leaves : ∀ (k : Nat) (s : State) (p : Nat),
    LinkOnly p s (s.frames p k) ∧ ((s.frames p k).port p).inFlight = (s.port p).inFlight
  | 0, s, p => ⟨.refl p s, rfl⟩
  | k + 1, s, p => by
    obtain hnone | ⟨n, v, heq, hinj, hfl⟩ := frames_cases s p k
    · rw [hnone]
      exact ⟨.refl p s, rfl⟩
    · obtain ⟨honly, hkept⟩ := frames_leaves k ((s.bump (PORT_CNT0 p) PORT_CNT0_TX_FLITS n).setPort p v) p
      rw [heq]
      refine ⟨(((LinkOnly.refl p s).bump ..).setPort hinj).trans honly, ?_⟩
      rw [hkept, State.port_setPort_same, hfl, port_bump]

theorem onLink_eq (s : State) (p : Nat) (q : Packet) (flip : Option Nat) : ∃ k n v, s.onLink p q flip =
      (if q.src = (s.setPort p v).self then (s.setPort p v).meter q.dest q.vc q.nflits p else s.setPort p v).frames p k
    ∧ v.inj = (s.port p).inj ∧ v.inFlight = (s.port p).inFlight ++ [(n, q)] :=
  ⟨_, _, _, rfl, rfl, rfl⟩

/-- A packet put on the link is in flight until its last frame is acknowledged. -/
theorem onLink_leaves (s : State) (p : Nat) (q : Packet) (flip : Option Nat) : LinkOnly p s (s.onLink p q flip)
    ∧ ∃ n, ((s.onLink p q flip).port p).inFlight = (s.port p).inFlight ++ [(n, q)] := by
  obtain ⟨k, n, v, heq, hinj, hfl⟩ := onLink_eq s p q flip
  have hport : LinkOnly p s (s.setPort p v) := (LinkOnly.refl p s).setPort hinj
  rw [heq]
  split
  · obtain ⟨honly, hkept⟩ := frames_leaves k ((s.setPort p v).meter q.dest q.vc q.nflits p) p
    exact ⟨(hport.meter ..).trans honly, n, by rw [hkept, port_meter, State.port_setPort_same, hfl]⟩
  · obtain ⟨honly, hkept⟩ := frames_leaves k (s.setPort p v) p
    exact ⟨hport.trans honly, n, by rw [hkept, State.port_setPort_same, hfl]⟩

/-! ### ARM and STOP (R279) -/

/-- The bit that ARM sets is below every field of the injector. -/
theorem bits_or_one (v : W64) (hi : Nat) {lo : Nat} (hlo : 1 ≤ lo) : bits (v ||| 1) hi lo = bits v hi lo := by
  have hone : 1 >>> lo = 0 := by rw [Nat.shiftRight_eq_div_pow, Nat.div_eq_of_lt (Nat.one_lt_two_pow (by omega))]
  have hnat : (v ||| 1).toNat = v.toNat ||| 1 := BitVec.toNat_or ..
  rw [bits, bits, hnat, ← Nat.shiftRight_eq_div_pow, Nat.shiftRight_or_distrib, hone, Nat.or_zero, Nat.shiftRight_eq_div_pow]

theorem bits_or_one_zero (v : W64) : bits (v ||| 1) 0 0 = 1 := bits_zero_of_set (by simp)

section
variable {c : Nat}

/-- The fields that hold no reserved value, taken from a written word; c is the injector's register. -/
def fiFields (s : State) (c : Nat) (v : W64) : State :=
  ((((s.fset c PORT_FI_CTL_BIT (bits v 56 48)).fset c PORT_FI_CTL_DELAY (bits v 47 32)).fset c PORT_FI_CTL_VCMASK
    (bits v 31 24)).fset c PORT_FI_CTL_TYPE (bits v 23 18)).fset c PORT_FI_CTL_ACTION (bits v 15 14)

/-- All fields taken. -/
def fiTaken (s : State) (c : Nat) (v : W64) : State :=
  ((fiFields s c v).fset c PORT_FI_CTL_LEVEL (bits v 17 16)).fset c PORT_FI_CTL_TRIGGER (bits v 13 12)

/-- LEVEL and TRIGGER where they are not reserved, and the refusal of the one that is. -/
def fiReserved (s : State) (c : Nat) (v : W64) : State :=
  let s := fiFields s c v
  let s := if 2 ≤ bits v 17 16 then s else s.fset c PORT_FI_CTL_LEVEL (bits v 17 16)
  let s := if bits v 13 12 = 3 then s else s.fset c PORT_FI_CTL_TRIGGER (bits v 13 12)
  s.fset c PORT_FI_CTL_STATUS ST_RANGE

/-- The injector armed, or the refusal. -/
def fiGranted (s : State) (c : Nat) (v : W64) : State :=
  ((fiTaken s c v).fset c PORT_FI_CTL_ARMED 1).fset c PORT_FI_CTL_STATUS ST_OK
def fiDenied (s : State) (c : Nat) (v : W64) : State :=
  ((fiTaken s c v).fset c PORT_FI_CTL_ARMED 0).fset c PORT_FI_CTL_STATUS ST_DENIED

theorem regOnly_fiFields (s : State) (c : Nat) (v : W64) : RegOnly c s (fiFields s c v) :=
  (((((RegOnly.refl c s).fset ..).fset ..).fset ..).fset ..).fset ..

theorem regOnly_fiTaken (s : State) (c : Nat) (v : W64) : RegOnly c s (fiTaken s c v) :=
  ((regOnly_fiFields s c v).fset ..).fset ..

theorem regOnly_fiGranted (s : State) (c : Nat) (v : W64) : RegOnly c s (fiGranted s c v) :=
  ((regOnly_fiTaken s c v).fset ..).fset ..

theorem regOnly_fiDenied (s : State) (c : Nat) (v : W64) : RegOnly c s (fiDenied s c v) :=
  ((regOnly_fiTaken s c v).fset ..).fset ..

theorem regOnly_fiReserved (s : State) (c : Nat) (v : W64) : RegOnly c s (fiReserved s c v) := by
  have hlevel := RegOnly.ite (b := 2 ≤ bits v 17 16) (regOnly_fiFields s c v)
    ((regOnly_fiFields s c v).fset PORT_FI_CTL_LEVEL (bits v 17 16))
  exact (RegOnly.ite hlevel (hlevel.fset ..)).fset ..

theorem fget_fiGranted (s : State) (c : Nat) (v : W64) : (fiGranted s c v).fget c PORT_FI_CTL_ARMED = 1
    ∧ (fiGranted s c v).fget c PORT_FI_CTL_STATUS = ST_OK
    ∧ (fiGranted s c v).fget c PORT_FI_CTL_ACTION = bits v 15 14
    ∧ (fiGranted s c v).fget c PORT_FI_CTL_TRIGGER = bits v 13 12 := by
  simp (disch := decide) only [fiGranted, fiTaken, fiFields, State.fget_fset_apart, State.fget_fset]
  exact ⟨rfl, rfl, Nat.mod_eq_of_lt (bits_lt ..), Nat.mod_eq_of_lt (bits_lt ..)⟩

theorem fget_fiDenied (s : State) (c : Nat) (v : W64) : (fiDenied s c v).fget c PORT_FI_CTL_ARMED = 0
    ∧ (fiDenied s c v).fget c PORT_FI_CTL_STATUS = ST_DENIED := by
  simp (disch := decide) only [fiDenied, State.fget_fset_apart, State.fget_fset]
  exact ⟨rfl, rfl⟩

theorem fget_fiReserved (s : State) (c : Nat) (v : W64) : (fiReserved s c v).fget c PORT_FI_CTL_STATUS = ST_RANGE
    ∧ (fiReserved s c v).fget c PORT_FI_CTL_ARMED = s.fget c PORT_FI_CTL_ARMED := by
  refine ⟨State.fget_fset _ _ _ (by decide) (by decide), ?_⟩
  unfold fiReserved
  dsimp only
  split <;> split <;> simp (disch := decide) only [fiFields, State.fget_fset_apart]

end

theorem fiAllowed_congr (h : t.reg SEC_STAT = s.reg SEC_STAT) (hsec : t.sec = s.sec) : t.fiAllowed = s.fiAllowed := by
  simp only [State.fiAllowed, State.fget, h, hsec]

/-- The injector's register is not the lifecycle's. -/
theorem secStat_ne_fi (p : Nat) : SEC_STAT ≠ PORT_FI_CTL p := by simp only [SEC_STAT, PORT_FI_CTL]; omega

/-- An injector that begins to count. -/
def fiReset (v : Port) : Port := { v with inj := { v.inj with met := 0, fired := 0 } }

/-- The payload of the record of an ARM (R279). -/
def fiRecord (p : Nat) (v : W64) : List Byte := leBytes 1 p ++ leBytes 1 (bits v 15 14) ++ leBytes 1 (bits v 13 12)

theorem injectorWord_or_one (v : W64) : injectorWord (v ||| 1) ↔ injectorWord v := by
  rw [injectorWord, injectorWord, bits_or_one _ _ (by decide), bits_or_one _ _ (by decide)]

theorem not_injectorWord_iff (v : W64) : ¬ injectorWord v ↔ 2 ≤ bits v 17 16 ∨ bits v 13 12 = 3 := by
  rw [injectorWord]; omega

section
variable {v : W64}

theorem fiArm_reserved (h : ¬ injectorWord v) : s.fiArm p v = fiReserved s (PORT_FI_CTL p) v :=
  if_pos ((not_injectorWord_iff v).mp h)

section
variable (h : injectorWord v) (hone : bits v 0 0 = 1)
include h hone

theorem fiArm_allowed (ha : s.fiAllowed = true) : s.fiArm p v =
    ((fiGranted s (PORT_FI_CTL p) v).setPort p (fiReset ((fiGranted s (PORT_FI_CTL p) v).port p))).journal 0x0011 0xFF 0x3F
      (fiRecord p v) := by
  have htaken := regOnly_fiTaken s (PORT_FI_CTL p) v
  have ha' : (fiTaken s (PORT_FI_CTL p) v).fiAllowed = true :=
    (fiAllowed_congr (htaken.regs _ (secStat_ne_fi p)) htaken.sec).trans ha
  refine (if_neg (mt (not_injectorWord_iff v).mpr (not_not_intro h))).trans ((if_neg ?_).trans (if_pos ha'))
  rw [hone]
  decide

theorem fiArm_refused (ha : s.fiAllowed = false) : s.fiArm p v = fiDenied s (PORT_FI_CTL p) v := by
  have htaken := regOnly_fiTaken s (PORT_FI_CTL p) v
  have ha' : ¬ (fiTaken s (PORT_FI_CTL p) v).fiAllowed = true := by
    rw [fiAllowed_congr (htaken.regs _ (secStat_ne_fi p)) htaken.sec, ha]
    decide
  refine (if_neg (mt (not_injectorWord_iff v).mpr (not_not_intro h))).trans ((if_neg ?_).trans (if_neg ha'))
  rw [hone]
  decide

end
end

/-- An entry appended to the journal as it stood. -/
theorem journalled_append (h : u.sec.journal = s.sec.journal) (ty src slot : Nat) (b : List Byte) :
    journalled s (u.journal ty src slot b) ty slot b := by
  have happend : ∃ e : JEntry, (u.journal ty src slot b).sec.journal = u.sec.journal ++ [e]
      ∧ e.ty = ty ∧ e.slot = slot ∧ e.payload = b := ⟨_, rfl, rfl, rfl, rfl⟩
  obtain ⟨e, he, hentry⟩ := happend
  refine ⟨e, ?_, hentry⟩
  rw [he, h, List.drop_left]
  exact List.mem_singleton_self e

/-- ARM where injection is permitted: the injector is armed with the fields written, and the journal says so. -/
theorem portFiArm_arms {q : Fin 32} {v : W64} (h : injectorWord v) (ha : s.fiAllowed = true) :
    Goes (.portFiArm q v) s (fun t => t.fget (PORT_FI_CTL q) PORT_FI_CTL_ARMED = 1
      ∧ t.fget (PORT_FI_CTL q) PORT_FI_CTL_STATUS = ST_OK ∧ t.fget (PORT_FI_CTL q) PORT_FI_CTL_ACTION = bits v 15 14
      ∧ t.fget (PORT_FI_CTL q) PORT_FI_CTL_TRIGGER = bits v 13 12 ∧ (t.port q).inj.fired = 0
      ∧ journalled s t 0x0011 0x3F (leBytes 1 q ++ leBytes 1 (bits v 15 14) ++ leBytes 1 (bits v 13 12)) ∧ netKept s t) := by
  have hexec := congrArg (done s)
    (fiArm_allowed (p := q.val) ((injectorWord_or_one v).mpr h) (bits_or_one_zero v) ha)
  have honly := regOnly_fiGranted s (PORT_FI_CTL q) (v ||| 1)
  obtain ⟨harmed, hstatus, haction, htrigger⟩ := fget_fiGranted s (PORT_FI_CTL q) (v ||| 1)
  rw [bits_or_one v _ (by decide)] at haction htrigger
  have hctl : PORT_FI_CTL q ≠ SEC_JNL_HEAD := by simp only [PORT_FI_CTL, SEC_JNL_HEAD]; omega
  have hread : ∀ (u : State) (w : Port) (b : List Byte) (f : Fld),
      ((u.setPort q w).journal 0x0011 0xFF 0x3F b).fget (PORT_FI_CTL q) f = u.fget (PORT_FI_CTL q) f := fun u w b f => by
    rw [State.fget, State.reg_journal hctl, ← State.fget, State.fget_setPort]
  have hrecord : fiRecord q (v ||| 1) = leBytes 1 q ++ leBytes 1 (bits v 15 14) ++ leBytes 1 (bits v 13 12) := by
    rw [fiRecord, bits_or_one v _ (by decide), bits_or_one v _ (by decide)]
  refine goes_of_any hexec (fun _ _ h => h) ⟨(hread ..).trans harmed, (hread ..).trans hstatus, (hread ..).trans haction,
    (hread ..).trans htrigger, ?_, ?_, (honly.net.setPort ..).journal ..⟩
  · rw [port_journal, State.port_setPort_same]
    rfl
  · rw [← hrecord]
    exact journalled_append (congrArg Security.journal ((State.setPort_sec ..).trans honly.sec)) ..

/-- ARM elsewhere: the injector is disarmed, and the command DENIED. -/
theorem portFiArm_denied {q : Fin 32} {v : W64} (h : injectorWord v) (ha : s.fiAllowed = false) :
    Goes (.portFiArm q v) s (fun t => t.fget (PORT_FI_CTL q) PORT_FI_CTL_ARMED = 0
      ∧ t.fget (PORT_FI_CTL q) PORT_FI_CTL_STATUS = ST_DENIED ∧ regsBut s t [PORT_FI_CTL q] ∧ netKept s t) := by
  have honly := regOnly_fiDenied s (PORT_FI_CTL q) (v ||| 1)
  obtain ⟨harmed, hstatus⟩ := fget_fiDenied s (PORT_FI_CTL q) (v ||| 1)
  exact goes_of_any (congrArg (done s) (fiArm_refused (p := q.val) ((injectorWord_or_one v).mpr h) (bits_or_one_zero v) ha))
    (fun _ _ h => h) ⟨harmed, hstatus, honly.regsBut, honly.net⟩

/-- A reserved LEVEL or TRIGGER: the injector stays armed or disarmed as it was. -/
theorem portFiArm_range {q : Fin 32} {v : W64} (h : ¬ injectorWord v) :
    Goes (.portFiArm q v) s (fun t => t.fget (PORT_FI_CTL q) PORT_FI_CTL_STATUS = ST_RANGE
      ∧ t.fget (PORT_FI_CTL q) PORT_FI_CTL_ARMED = s.fget (PORT_FI_CTL q) PORT_FI_CTL_ARMED
      ∧ regsBut s t [PORT_FI_CTL q] ∧ netKept s t) := by
  have honly := regOnly_fiReserved s (PORT_FI_CTL q) (v ||| 1)
  obtain ⟨hstatus, harmed⟩ := fget_fiReserved s (PORT_FI_CTL q) (v ||| 1)
  exact goes_of_any (congrArg (done s) (fiArm_reserved (p := q.val) (mt (injectorWord_or_one v).mp h)))
    (fun _ _ h => h) ⟨hstatus, harmed, honly.regsBut, honly.net⟩

theorem portFiStop_disarms {q : Fin 32} :
    Goes (.portFiStop q) s (fun t => t.fget (PORT_FI_CTL q) PORT_FI_CTL_ARMED = 0 ∧ regsBut s t [PORT_FI_CTL q] ∧ netKept s t) :=
  have honly := (RegOnly.refl (PORT_FI_CTL q) s).fset PORT_FI_CTL_ARMED 0
  goes_of_any (u := s.fset (PORT_FI_CTL q) PORT_FI_CTL_ARMED 0) rfl (fun _ _ h => h)
    ⟨State.fget_fset _ _ _ (by decide) (by decide), honly.regsBut, honly.net⟩

/-! ### The delayed packet (R278) -/

/-- A port whose first delayed packet is taken out. -/
def undelayed (v : Port) (r : List (Nat × Packet)) : Port := { v with inj := { v.inj with delayed := r } }

theorem exec_fiDelayExpire {q : Fin 32} {due : Nat} {a : Packet} {r : List (Nat × Packet)}
    (hd : (s.port q.val).inj.delayed = (due, a) :: r) (hdue : due ≤ s.lanyard.toNat)
    (hcredit : (s.port q.val).hasCredit a = true) :
    exec (.fiDelayExpire q) s = done s ((s.setPort q (undelayed (s.port q) r)).onLink q a none) := by
  show execFiDelayExpire q s = _
  unfold execFiDelayExpire
  dsimp only
  rw [hd]
  exact if_pos ⟨hdue, hcredit⟩

theorem fiDelayExpire_sends {q : Fin 32} {due : Nat} {a : Packet} {r : List (Nat × Packet)}
    (hd : (s.port q.val).inj.delayed = (due, a) :: r) (hdue : due ≤ s.lanyard.toNat)
    (hcredit : (s.port q.val).hasCredit a = true) :
    Goes (.fiDelayExpire q) s (fun t => (t.port q).inj.delayed = r
      ∧ (∃ n, (t.port q).inFlight = (s.port q).inFlight ++ [(n, a)]) ∧ netKept s t) := by
  obtain ⟨honly, n, hfl⟩ := onLink_leaves (s.setPort q (undelayed (s.port q) r)) q a none
  have hinj := honly.inj
  rw [State.port_setPort_same] at hinj hfl
  exact goes_of_any (exec_fiDelayExpire hd hdue hcredit) (fun _ _ h => h)
    ⟨congrArg Injector.delayed hinj, ⟨n, hfl⟩, ((netKept.refl s).setPort ..).trans honly.net⟩

end Sys2Proof.Claims

open Sys2Proof.Claims

/-- Settles O24, a lemma for each answer of ARM, for STOP and for the delayed packet. -/
theorem faultInjector : Obligations.FaultInjector := by
  unfold Obligations.FaultInjector
  exact ⟨fun _ _ _ => portFiArm_arms, fun _ _ _ => portFiArm_denied, fun _ _ _ => portFiArm_range,
    fun _ _ => portFiStop_disarms, fun _ _ _ _ _ => fiDelayExpire_sends⟩

end

section
/-! O25: the link layer: what an arriving frame does, and what an output sends (R244 to R248, R258). -/

namespace Sys2Proof.Claims

open Machine Reg

variable {s t u : State} {p : Nat} {f : LinkFrame}

/-! ### A frame arrives (R244 to R246) -/

/-- A port that has heard from its partner now. -/
def heard (s : State) (p : Nat) : State := s.setPort p { s.port p with lastRx := s.lanyard.toNat }

theorem pstate_heard (p : Nat) : (heard s p).pstate p = s.pstate p := pstate_congr (State.reg_setPort ..)

/-- A DOWN or FENCED port takes no frame. -/
theorem linkFrame_deaf (h : s.pstate p = 0 ∨ s.pstate p = 5) (f : LinkFrame) : s.linkFrame p f = s := if_pos h

theorem linkFrameReceive_deaf {q : Fin 32} (h : s.pstate q.val = 0 ∨ s.pstate q.val = 5) :
    Goes (.linkFrameReceive q f) s
      (fun t => t.rt = s.rt ∧ t.ports = s.ports ∧ (∀ o, t.reg o = s.reg o) ∧ netKept s t) :=
  goes_of_any (congrArg (done s) (linkFrame_deaf h f)) (fun _ _ h => h) ⟨rfl, rfl, fun _ => rfl, .refl s⟩

theorem listens (h : s.pstate p = 1 ∨ s.pstate p = 2) : ¬ (s.pstate p = 0 ∨ s.pstate p = 5) := by omega

/-- A frame whose control word is broken (R245). -/
theorem linkFrame_broken (h : s.pstate p = 1 ∨ s.pstate p = 2) (hctl : frameCtlOk f = false) :
    s.linkFrame p f = ((heard s p).bump (PORT_CNT3 p) PORT_CNT3_CRC_ERR 1).badFrame p := by
  unfold State.linkFrame heard
  dsimp only
  generalize s.setPort p _ = u
  rw [if_neg (listens h), hctl]
  exact if_pos rfl

/-- A good INIT frame (R247). -/
theorem linkFrame_init (h : s.pstate p = 1 ∨ s.pstate p = 2) (hctl : frameCtlOk f = true) (hflits : frameFlitsOk f = true)
    (hinit : cf f.ctl 50 50 = 1) :
    s.linkFrame p f = (heard s p).takeInit p ((frameFlits f).headD 0) (cf f.ctl 15 0) := by
  unfold State.linkFrame heard
  dsimp only
  generalize s.setPort p _ = u
  rw [if_neg (listens h), hctl, hflits, if_pos hinit, if_pos rfl]
  exact if_neg (by decide)

/-- A good frame after INIT that is the next in order, and asks for nothing. -/
theorem linkFrame_next (h : s.pstate p = 1 ∨ s.pstate p = 2) (hctl : frameCtlOk f = true) (hflits : frameFlitsOk f = true)
    (hflags : cf f.ctl 50 48 = 0)
    (hnext : cf f.ctl 15 0 = ((((heard s p).takeAck p (cf f.ctl 31 16)).port p).rxAck.toNat + 1) % 65536) :
    s.linkFrame p f = ((heard s p).takeAck p (cf f.ctl 31 16)).goodFrame p f := by
  have hclear : cf f.ctl 50 50 ≠ 1 ∧ cf f.ctl 48 48 ≠ 1 ∧ cf f.ctl 49 49 ≠ 1 := by
    simp only [cf, hf] at hflags ⊢
    omega
  obtain ⟨hinit, hnak, hretrain⟩ := hclear
  unfold State.linkFrame
  revert hnext
  unfold heard
  dsimp only
  generalize s.setPort p _ = u
  generalize u.takeAck p (cf f.ctl 31 16) = w
  intro hnext
  rw [if_neg (listens h), hctl, if_neg hinit, if_neg hnak, if_neg (mt And.left hretrain), hflits, if_pos hnext]
  exact (if_neg (by decide)).trans (if_neg (by decide))

/-! ### INIT (R247) -/

/-- A port that knows its partner. -/
def partnerNamed (s : State) (p n : Nat) : State :=
  (s.fset (PORT_STAT p) PORT_STAT_PARTNER (hf n 23 0)).fset (PORT_STAT p) PORT_STAT_PDEV (hf n 24 24)

theorem pstate_partnerNamed (p n : Nat) : (partnerNamed s p n).pstate p = s.pstate p :=
  (pstate_fset_above p _ (by decide) (by decide) (by decide)).trans
    (pstate_fset_above p _ (by decide) (by decide) (by decide))

theorem port_partnerNamed (p n : Nat) : (partnerNamed s p n).port p = s.port p :=
  (State.port_fset ..).trans (State.port_fset ..)

theorem maybeUp_ready (h : s.pstate p = 1) (hsent : (s.port p).initSent = true) (hrecv : (s.port p).initRecv = true) :
    s.maybeUp p = upAgain s p := if_pos ⟨.inl h, hsent, hrecv⟩

/-- A port in training that takes a good record. -/
def initTaken (v : Port) (n fseq : Nat) : Port :=
  { v with initRecv := true, initFails := 0, advRsvd := hf n 47 32, advShared := hf n 63 48, heldShared := hf n 63 48,
           held := (List.range 8).map (fun c => (c, hf n 47 32)), rxAck := BitVec.ofNat 16 fseq }

/-- In TRAINING, a good record brings a port that has sent its own UP, with the credit that the record names. -/
theorem takeInit_good (h : s.pstate p = 1) {r : BitVec 512} (hok : initOk r.toNat) (hsent : (s.port p).initSent = true)
    (fseq : Nat) : s.takeInit p r fseq =
      upAgain ((partnerNamed s p r.toNat).setPort p (initTaken (s.port p) r.toNat fseq)) p := by
  obtain ⟨hflags, hrsvd, hzero, hswitch⟩ := hok
  have hgood : ¬ (decide (hf r.toNat 31 25 ≠ 0 ∨ hf r.toNat 47 32 < 65 ∨ hf r.toNat 511 80 ≠ 0
      ∨ (hf r.toNat 24 24 = 0 ∧ 64 ≤ hf r.toNat 23 0)) = true) := by
    rw [decide_eq_true_eq]; omega
  have hstate : (partnerNamed s p r.toNat).pstate p = 1 := (pstate_partnerNamed ..).trans h
  have hport := port_partnerNamed (s := s) p r.toNat
  have hup : ((partnerNamed s p r.toNat).setPort p (initTaken (s.port p) r.toNat fseq)).maybeUp p = _ :=
    maybeUp_ready ((pstate_congr (State.reg_setPort ..)).trans hstate) (by rw [State.port_setPort_same]; exact hsent)
      (by rw [State.port_setPort_same]; rfl)
  rw [← hup]
  unfold State.takeInit
  dsimp only
  rw [if_neg hgood, if_neg fun h3 => absurd (h.symm.trans h3.1) (by decide)]
  revert hstate hport
  unfold partnerNamed
  generalize (s.fset (PORT_STAT p) PORT_STAT_PARTNER (hf r.toNat 23 0)).fset (PORT_STAT p) PORT_STAT_PDEV
    (hf r.toNat 24 24) = u
  intro hstate hport
  rw [if_pos hstate, hport]
  rfl

/-- Coming UP leaves the fields of PORT_STAT above LANES as they are. -/
theorem fget_upAgain (p : Nat) {f : Fld} (hf : f.lo ≤ f.hi) (hlo : 35 < f.lo) :
    (upAgain s p).fget (PORT_STAT p) f = s.fget (PORT_STAT p) f := by
  have hstate : PORT_STAT_STATE.hi < f.lo := by show 2 < f.lo; omega
  rw [State.fget, upAgain, (onlyRt_reroute _).reg, ← State.fget,
    State.fget_fset_apart _ _ _ _ (by decide) (by decide) hf (.inl hstate), State.setLanes,
    State.fget_fset_apart _ _ _ _ (by decide) (by decide) hf (.inl hlo)]

theorem port_upAgain (p : Nat) : (upAgain s p).port p = s.port p :=
  ((onlyRt_reroute _).port p).trans ((State.port_fset ..).trans (State.port_fset ..))

theorem partner_partnerNamed (p n : Nat) :
    (partnerNamed s p n).fget (PORT_STAT p) PORT_STAT_PARTNER = hf n 23 0 := by
  rw [partnerNamed, State.fget_fset_apart _ _ _ _ (by decide) (by decide) (by decide) (by decide),
    State.fget_fset _ _ _ (by decide) (by decide)]
  exact Nat.mod_eq_of_lt (Nat.mod_lt _ (by decide))

theorem pdev_partnerNamed (p n : Nat) : (partnerNamed s p n).fget (PORT_STAT p) PORT_STAT_PDEV = hf n 24 24 := by
  rw [partnerNamed, State.fget_fset _ _ _ (by decide) (by decide)]
  exact Nat.mod_eq_of_lt (Nat.mod_lt _ (by decide))

theorem port_heard (p : Nat) : (heard s p).port p = { s.port p with lastRx := s.lanyard.toNat } := State.port_setPort_same ..

/-- A good INIT in TRAINING: the port is UP, and knows its partner and the partner's credit. -/
theorem linkFrameReceive_init {q : Fin 32} (h : s.pstate q.val = 1) (hctl : frameCtlOk f = true)
    (hflits : frameFlitsOk f = true) (hinit : cf f.ctl 50 50 = 1) (hok : initOk (initRecord f))
    (hsent : (s.port q.val).initSent = true) :
    Goes (.linkFrameReceive q f) s (fun t => t.pstate q = 2
      ∧ t.fget (PORT_STAT q) PORT_STAT_PARTNER = hf (initRecord f) 23 0
      ∧ t.fget (PORT_STAT q) PORT_STAT_PDEV = hf (initRecord f) 24 24 ∧ (t.port q).advRsvd = hf (initRecord f) 47 32
      ∧ (t.port q).heldShared = hf (initRecord f) 63 48 ∧ netKept s t) := by
  have hframe := linkFrame_init (.inl h) hctl hflits hinit
  rw [takeInit_good ((pstate_heard _).trans h) hok (by rw [port_heard]; exact hsent)] at hframe
  refine goes_of_any (congrArg (done s) hframe) (fun _ _ h => h) ⟨pstate_upAgain _, ?_, ?_, ?_, ?_,
    ((((netKept.refl s).setPort ..).fset ..).fset ..).setPort .. |>.upAgain _⟩
  · rw [fget_upAgain _ (by decide) (by decide), State.fget_setPort]
    exact partner_partnerNamed ..
  · rw [fget_upAgain _ (by decide) (by decide), State.fget_setPort]
    exact pdev_partnerNamed ..
  · rw [port_upAgain, State.port_setPort_same]
    rfl
  · rw [port_upAgain, State.port_setPort_same]
    rfl

/-! ### Frames after INIT (R245, R246, R248) -/

/-- A broken frame, not the 64th in a row, is discarded, and a replay asked for. -/
theorem badFrame_few (h : (s.port p).badRun < 63) : s.badFrame p =
    s.setPort p { s.port p with nakReq := true, badRun := (s.port p).badRun + 1 } := if_neg (by omega)

theorem linkFrameReceive_broken {q : Fin 32} (h : s.pstate q.val = 2) (hctl : frameCtlOk f = false)
    (hrun : (s.port q.val).badRun < 63) :
    Goes (.linkFrameReceive q f) s (fun t => (t.port q).nakReq = true ∧ (t.port q).badRun = (s.port q).badRun + 1
      ∧ (t.port q).rxAck = (s.port q).rxAck ∧ t.pstate q = 2 ∧ t.rt = s.rt ∧ netKept s t) := by
  have hcnt : PORT_STAT q ≠ PORT_CNT3 q := by simp only [PORT_STAT, PORT_CNT3]; omega
  have hport : ((heard s q).bump (PORT_CNT3 q) PORT_CNT3_CRC_ERR 1).port q = { s.port q with lastRx := s.lanyard.toNat } :=
    (port_bump ..).trans (port_heard _)
  have hframe := linkFrame_broken (.inr h) hctl
  rw [badFrame_few (by rw [hport]; exact hrun), hport] at hframe
  refine goes_of_any (congrArg (done s) hframe) (fun _ _ h => h) ⟨?_, ?_, ?_, ?_, ?_,
    (((netKept.refl s).setPort ..).bump ..).setPort ..⟩
  · rw [State.port_setPort_same]
  · rw [State.port_setPort_same]
  · rw [State.port_setPort_same]
  · exact (pstate_congr ((State.reg_setPort ..).trans ((unsent_stat _).bump hcnt ..))).trans ((pstate_heard _).trans h)
  · rw [State.setPort_rt, State.bump_rt]
    rfl

/-- The newest frame's ACK: nothing else of the port changes than what waits for it. -/
theorem takeAck_newest {ack : Nat} (h : ack = (s.port p).txSeq.toNat) : ∃ v, s.takeAck p ack = s.setPort p v
    ∧ v.rxAck = (s.port p).rxAck ∧ v.rxFlits = (s.port p).rxFlits := by
  have hall : ((s.port p).txSeq.toNat + 65536 - ack) % 65536 ≤ (s.port p).replay.length := by
    have hzero : ((s.port p).txSeq.toNat + 65536 - ack) % 65536 = 0 := by omega
    omega
  exact ⟨_, if_pos hall, rfl, rfl⟩

/-- A credit return that names no pool (R245). -/
theorem takeCredit_none (s : State) (p : Nat) : s.takeCredit p 0xF000 = s := by
  unfold State.takeCredit
  exact if_pos (.inr (by decide))

theorem takeCredits_none (h0 : cf f.ctl 71 56 = 0xF000) (h1 : cf f.ctl 87 72 = 0xF000) (h2 : cf f.ctl 103 88 = 0xF000) :
    s.takeCredits p f = s := by
  rw [State.takeCredits, h0, h1, h2, takeCredit_none, takeCredit_none, takeCredit_none]

/-- A frame that marks no slot carries no flit. -/
theorem frameFlits_none (h : cf f.ctl 47 32 = 0) : frameFlits f = [] := by
  refine List.filterMap_eq_nil_iff.mpr fun i _ => ?_
  simp [h]

theorem assemble_nil (s : State) (p : Nat) : s.assemble p 0 [] = s.setPort p { s.port p with rxFlits := [] } := rfl

/-- A port that has taken a frame in order. -/
def orderTaken (v : Port) (f : LinkFrame) : Port :=
  { v with rxAck := BitVec.ofNat 16 (cf f.ctl 15 0), nakReq := false, badRun := 0 }

/-- A frame in order without flits or credit is acknowledged. -/
theorem goodFrame_empty (hflits : cf f.ctl 47 32 = 0) (h0 : cf f.ctl 71 56 = 0xF000) (h1 : cf f.ctl 87 72 = 0xF000)
    (h2 : cf f.ctl 103 88 = 0xF000) (hrx : (s.port p).rxFlits = []) : s.goodFrame p f =
      ((s.setPort p (orderTaken (s.port p) f)).bump (PORT_CNT1 p) PORT_CNT1_RX_FLITS 0).setPort p
        { orderTaken (s.port p) f with rxFlits := [] } := by
  have hport : ((s.setPort p (orderTaken (s.port p) f)).bump (PORT_CNT1 p) PORT_CNT1_RX_FLITS 0).port p
      = orderTaken (s.port p) f := (port_bump ..).trans (State.port_setPort_same ..)
  have hempty : (orderTaken (s.port p) f).rxFlits = [] := hrx
  unfold State.goodFrame
  dsimp only
  rw [takeCredits_none h0 h1 h2, frameFlits_none hflits, List.length_nil]
  revert hport
  unfold orderTaken at hempty ⊢
  generalize State.bump _ (PORT_CNT1 p) PORT_CNT1_RX_FLITS 0 = u
  intro hport
  rw [hport, hempty, List.append_nil, List.length_nil, assemble_nil, hport]

/-- A frame in order that carries nothing: the port acknowledges it. -/
theorem linkFrameReceive_ordered {q : Fin 32} (h : s.pstate q.val = 2) (hplain : plainFrame s q.val f)
    (hflits : cf f.ctl 47 32 = 0) (hnext : cf f.ctl 15 0 = ((s.port q.val).rxAck.toNat + 1) % 65536)
    (hrx : (s.port q.val).rxFlits = []) :
    Goes (.linkFrameReceive q f) s (fun t => (t.port q).rxAck.toNat = cf f.ctl 15 0 ∧ (t.port q).nakReq = false
      ∧ (t.port q).badRun = 0 ∧ t.rt = s.rt ∧ netKept s t) := by
  obtain ⟨hctl, hslots, hflags, hack, hc0, hc1, hc2⟩ := hplain
  obtain ⟨v, hv, hvack, hvrx⟩ := takeAck_newest (s := heard s q) (p := q) (ack := cf f.ctl 31 16)
    (by rw [port_heard]; exact hack)
  rw [port_heard] at hvack hvrx
  have hframe := linkFrame_next (.inr h) hctl hslots hflags
    (by rw [hv, State.port_setPort_same, hvack]; exact hnext)
  have hlt : cf f.ctl 15 0 < 65536 := hnext ▸ Nat.mod_lt _ (by decide)
  rw [hv, goodFrame_empty hflits hc0 hc1 hc2 (by rw [State.port_setPort_same, hvrx]; exact hrx),
    State.port_setPort_same] at hframe
  refine goes_of_any (congrArg (done s) hframe) (fun _ _ h => h) ⟨?_, ?_, ?_, ?_,
    ((((netKept.refl s).setPort ..).setPort ..).setPort ..).bump .. |>.setPort ..⟩
  · rw [State.port_setPort_same]
    exact Nat.mod_eq_of_lt hlt
  · rw [State.port_setPort_same]
    rfl
  · rw [State.port_setPort_same]
    rfl
  · rw [State.setPort_rt, State.bump_rt]
    rfl

/-! ### What an output sends (R258, R278) -/

/-- Where no transfer waits, no cast is done. -/
theorem castsDone_none (h : s.hub.transfers = []) : s.castsDone = s := by
  rw [State.castsDone, h]
  rfl

/-- A port that is not UP sends nothing. -/
theorem portOutputSend_down {q : Fin 32} (h : s.pstate q.val ≠ 2) (hcasts : s.hub.transfers = []) :
    Goes (.portOutputSend q) s
      (fun t => t.rt = s.rt ∧ t.ports = s.ports ∧ (∀ o, t.reg o = s.reg o) ∧ netKept s t) := by
  have hsend : (s.outputSend q).castsDone = s := by
    rw [State.outputSend, if_pos h, castsDone_none hcasts]
  exact goes_of_any (congrArg (done s) hsend) (fun _ _ h => h) ⟨rfl, rfl, fun _ => rfl, .refl s⟩

/-- Only TIME packets are stamped as they leave (R316). -/
theorem stampTime_other {q : Packet} (h : q.ty ≠ tTIME) : s.stampTime p q = (q, s) := if_neg (mt And.left h)

/-- An UP port at a packet boundary: the packet that is next leaves its queue and goes out through the injector. -/
theorem outputSend_next {q : Packet} {how : Nat} (h : s.pstate p = 2) (htx : (s.port p).txFlits = [])
    (hnext : s.nextOut p = some (q, how)) (hty : q.ty ≠ tTIME) : ∃ v,
      s.outputSend p = (((s.setOutq p q.vc (dropFirst q (s.outq p q.vc))).setPort p v).leaveBy p q).releaseReorder p q.vc
        v.inj.reorder
      ∧ v.inj = (s.port p).inj ∧ v.inFlight = (s.port p).inFlight := by
  rw [State.outputSend, if_neg (not_not_intro h), htx, hnext]
  dsimp only
  rw [stampTime_other hty, if_neg (by decide)]
  refine ⟨_, rfl, ?_⟩
  split
  · exact ⟨rfl, rfl⟩
  · split <;> exact ⟨rfl, rfl⟩

/-- A disarmed injector lets packets pass. -/
theorem leaveBy_disarmed (h : s.fget (PORT_FI_CTL p) PORT_FI_CTL_ARMED = 0) (q : Packet) :
    s.leaveBy p q = s.onLink p q none := by
  refine if_neg ?_
  rw [State.fiMatches, h]
  exact Bool.false_ne_true

/-- Where REORDER holds nothing, nothing follows. -/
theorem releaseReorder_none (s : State) (p vc : Nat) : ∃ v, s.releaseReorder p vc [] = s.setPort p v
    ∧ v.inj = (s.port p).inj ∧ v.inFlight = (s.port p).inFlight := by
  have hkept : (s.port p).inj.reorder.filter (fun q => !(([] : List Packet).filter (fun q => q.vc == vc)).contains q)
      = (s.port p).inj.reorder := List.filter_eq_self.mpr fun _ _ => rfl
  exact ⟨_, rfl, congrArg (fun l => { (s.port p).inj with reorder := l }) hkept, rfl⟩

/-- An UP port whose injector is at rest sends the packet that is next. -/
theorem outputSend_leaves {q : Packet} {how : Nat} (h : s.pstate p = 2) (htx : (s.port p).txFlits = []) (hfi : noInjector s p)
    (hnext : s.nextOut p = some (q, how)) (hty : q.ty ≠ tTIME) :
    LinkOnly p (s.setOutq p q.vc (dropFirst q (s.outq p q.vc))) (s.outputSend p)
      ∧ ∃ n, ((s.outputSend p).port p).inFlight = (s.port p).inFlight ++ [(n, q)] := by
  obtain ⟨hdisarmed, hreorder⟩ := hfi
  obtain ⟨v, heq, hinj, hfl⟩ := outputSend_next h htx hnext hty
  rw [heq, hinj, hreorder, leaveBy_disarmed (by rw [State.fget_setPort]; exact hdisarmed)]
  generalize hu : s.setOutq p q.vc (dropFirst q (s.outq p q.vc)) = u
  have hport : u.port p = s.port p := by rw [← hu]; rfl
  have hset : LinkOnly p u (u.setPort p v) := (LinkOnly.refl p u).setPort (by rw [hinj, hport])
  obtain ⟨honly, n, hlink⟩ := onLink_leaves (u.setPort p v) p q none
  have hall := hset.trans honly
  obtain ⟨w, hw, hwinj, hwfl⟩ := releaseReorder_none ((u.setPort p v).onLink p q none) p q.vc
  rw [hw]
  refine ⟨hall.setPort hwinj, n, ?_⟩
  rw [State.port_setPort_same, hwfl, hlink, State.port_setPort_same, hfl]

theorem outq_setOutq (s : State) (p v : Nat) (l : List Packet) (w : Nat) :
    (s.setOutq p v l).outq p w = if w = v then l else s.outq p w := by
  have hkey : p * 8 + w = p * 8 + v ↔ w = v := by omega
  simp only [State.outq, State.setOutq, Tab.look_store, hkey]

theorem netKept_setOutq (s : State) (p v : Nat) (l : List Packet) : netKept s (s.setOutq p v l) := netKept.refl s

theorem LinkOnly.outq_eq (h : LinkOnly p s t) (o v : Nat) : t.outq o v = s.outq o v := by
  rw [State.outq, h.outq, ← State.outq]

theorem portOutputSend_next {q : Packet} {how : Nat} {x : Fin 32} (h : s.pstate x.val = 2) (hcasts : s.hub.transfers = [])
    (htx : (s.port x.val).txFlits = []) (hfi : noInjector s x.val) (hnext : s.nextOut x.val = some (q, how))
    (hty : q.ty ≠ tTIME) :
    Goes (.portOutputSend x) s (fun t => t.outq x q.vc = dropFirst q (s.outq x q.vc)
      ∧ (∃ n, (t.port x).inFlight = (s.port x).inFlight ++ [(n, q)])
      ∧ (∀ v, v ≠ q.vc → v < 8 → t.outq x v = s.outq x v) ∧ netKept s t) := by
  obtain ⟨honly, hfl⟩ := outputSend_leaves h htx hfi hnext hty
  have hsend : (s.outputSend x).castsDone = s.outputSend x :=
    castsDone_none ((congrArg Hub.transfers honly.hub).trans hcasts)
  refine goes_of_any (congrArg (done s) hsend) (fun _ _ h => h) ⟨?_, hfl, fun v hv _ => ?_, ?_⟩
  · rw [honly.outq_eq, outq_setOutq, if_pos rfl]
  · rw [honly.outq_eq, outq_setOutq, if_neg hv]
  · exact (netKept_setOutq ..).trans honly.net

end Sys2Proof.Claims

open Sys2Proof.Claims

/-- Settles O25, a lemma for each kind of frame, and one for each state of an output. -/
theorem linkLayer : Obligations.LinkLayer := by
  unfold Obligations.LinkLayer
  exact ⟨fun _ _ _ => linkFrameReceive_deaf, fun _ _ _ => linkFrameReceive_init, fun _ _ _ => linkFrameReceive_broken,
    fun _ _ _ => linkFrameReceive_ordered, fun _ _ => portOutputSend_down, fun _ _ _ _ => portOutputSend_next⟩

end

section
/-! O29: circuits: how they are set up, refreshed, released and timed out (R267, R268, R270). -/

namespace Sys2Proof.Claims

open Machine Reg

variable {s t u : State} {o c : Nat} {p q : Packet} {x : Rx}

/-! ### Packets queued at outputs -/

/-- The packet that joins an output queue keeps all but its mark and its arrival time. -/
theorem queued_toOutq {E : Packet → Prop} (h : u.rt.outq = s.rt.outq) (hE : ∀ b n, E { q with cm := b, since := n })
    (o : Nat) :
    queued s (u.toOutq q o) o q.vc E := by
  have hold : s.outq o q.vc = u.outq o q.vc := by rw [State.outq, ← h, ← State.outq]
  rw [queued, hold]
  unfold State.toOutq
  exact ⟨_, (outq_setOutq ..).trans (if_pos rfl), rfl, hE _ _⟩

theorem netKept.toOutq (h : netKept s u) (q : Packet) (o : Nat) : netKept s (u.toOutq q o) :=
  h.trans ((FabricOnly.refl u).toOutq q o).net

/-- Only the outputs' VCs 1 to 5 count marks: on VC0 no register changes. -/
theorem reg_toOutq_vc0 (h : q.vc = 0) (o r : Nat) : (s.toOutq q o).reg r = s.reg r := by
  unfold State.toOutq
  dsimp only
  rw [reg_setOutq, h]
  exact congrArg (State.reg · r) (if_neg (by simp))

theorem circs_toOutq (q : Packet) (o : Nat) : (s.toOutq q o).rt.circs = s.rt.circs := by
  unfold State.toOutq
  dsimp only
  exact at_ite (fun v => v.rt.circs) (congrArg Router.circs (State.bump_rt ..)) rfl

theorem ports_toOutq (q : Packet) (o : Nat) : (s.toOutq q o).ports = s.ports := by
  unfold State.toOutq
  dsimp only
  exact at_ite State.ports (State.bump_ports ..) rfl

/-! ### The head of an input queue (R274) -/

theorem headOf_of_heads {r : List Packet} (h : heads s x p r) : s.headOf x = some p := by
  rw [State.headOf, h]
  rfl

theorem outq_popIn (s : State) (x : Rx) : (s.popIn x).rt.outq = s.rt.outq := by
  unfold State.popIn
  split
  · rfl
  · exact at_ite (fun v => v.rt.outq) rfl rfl

theorem reg_popIn (s : State) (x : Rx) (r : Nat) : (s.popIn x).reg r = s.reg r := by
  unfold State.popIn
  split
  · rfl
  · exact at_ite (State.reg · r) rfl rfl

theorem self_congr (h : t.reg FAB_CFG = s.reg FAB_CFG) : t.self = s.self := by rw [State.self, State.fget, h]; rfl

theorem self_popIn (s : State) (x : Rx) : (s.popIn x).self = s.self := self_congr (reg_popIn ..)

theorem netKept_popIn (s : State) (x : Rx) : netKept s (s.popIn x) := ((FabricOnly.refl s).popIn x).net

theorem reg_echoFrom (s : State) (d : BitVec 24) (r : Nat) : (s.echoFrom d).reg r = s.reg r := by
  unfold State.echoFrom
  dsimp only
  split
  · exact at_ite (State.reg · r) rfl rfl
  · refine at_ite (State.reg · r) rfl ?_
    split <;> rfl

theorem reg_seqCheck (s : State) (p : Packet) (r : Nat) : (s.seqCheck p).2.reg r = s.reg r := by
  unfold State.seqCheck
  split
  · rfl
  · dsimp only
    split <;> rfl

theorem unsent_cfg : Unsent FAB_CFG := by
  constructor <;> simp only [FAB_CFG, PORT_CNT4, SVC_EVLOG, SVC_EVLOG_LOST, SEC_JNL_HEAD] <;> omega

theorem self_noteMarks (s : State) (p : Packet) (cm : Bool) : (s.noteMarks p cm).self = s.self := by
  refine self_congr ?_
  unfold State.noteMarks
  have hmarked : (if cm then s.bump FAB_CNT1 FAB_CNT1_MARKED 1 else s).reg FAB_CFG = s.reg FAB_CFG :=
    at_ite (State.reg · FAB_CFG) (unsent_cfg.bump (by decide) ..) rfl
  revert hmarked
  dsimp only
  generalize (if cm then s.bump FAB_CNT1 FAB_CNT1_MARKED 1 else s) = u
  intro hmarked
  exact at_ite (State.reg · FAB_CFG) ((reg_echoFrom ..).trans (at_ite (State.reg · FAB_CFG) hmarked hmarked))
    (at_ite (State.reg · FAB_CFG) hmarked hmarked)

/-- The destination's checks leave the device's own name as it is. -/
theorem self_of_screen {n : Nat} (h : s.screen x p = (u, some (q, n))) : u.self = s.self := by
  unfold State.screen at h
  dsimp only at h
  have hchecked (cm : Bool) : (((s.popIn x).noteMarks p cm).seqCheck p).2.self = s.self :=
    (self_congr (reg_seqCheck ..)).trans ((self_noteMarks ..).trans (self_popIn ..))
  split at h
  · cases h
  · split at h
    · cases h
    · split at h
      · cases h
      · split at h
        · cases h
        · cases h
          exact hchecked _

/-! ### Slots (R267) -/

/-- Every entry that the search among the circuit slots names is one of a port's 64. -/
theorem circSlot_lt {inp circ : Nat} (h : s.circSlot inp circ = some (o, c)) : o < 32 ∧ c < 64 := by
  revert o c
  refine List.foldlRecOn (motive := fun b : Option (Nat × Nat) => ∀ {o c}, b = some (o, c) → o < 32 ∧ c < 64) _ _
    (fun h => (Option.some_ne_none _ h.symm).elim) fun b hb p hp o c h => ?_
  cases b with
  | some y => exact hb h
  | none =>
    obtain ⟨d, hd, heq⟩ := Option.map_eq_some_iff.mp h
    cases heq
    exact ⟨List.mem_range.mp hp, List.mem_range.mp (List.mem_of_find?_eq_some hd)⟩

theorem slotFor_lt {share : Nat} (h : s.slotFor o share = some c) : c < 64 := by
  unfold State.slotFor at h
  split at h
  · exact List.mem_range.mp (List.mem_of_find?_eq_some h)
  · cases h

theorem reg_freeCirc (o c : Nat) : (s.freeCirc o c).reg (PORT_CIRC o c) = 0 :=
  (State.reg_setPort ..).trans (State.reg_setReg_same ..)

theorem netKept_freeCirc (s : State) (o c : Nat) : netKept s (s.freeCirc o c) :=
  ((netKept.refl s).setReg ..).setPort ..
theorem rt_freeCirc (s : State) (o c : Nat) : (s.freeCirc o c).rt = s.rt :=
  (State.setPort_rt ..).trans (State.setReg_rt ..)

/-- The word that a slot holds for a circuit. -/
def circWord (inp circ share epoch glove : Nat) : W64 :=
  BitVec.ofNat 64 (2 ^ 63 + inp % 64 * 2 ^ 57 + circ % 128 * 2 ^ 50 + share % 128 * 2 ^ 43 + epoch * 2 ^ 16 + glove)

theorem bits_circWord {inp circ share epoch glove : Nat} (hi : inp < 64) (hc : circ < 128) (hs : share < 128)
    (he : epoch < 65536) (hg : glove < 65536) :
    bits (circWord inp circ share epoch glove) 63 63 = 1 ∧ bits (circWord inp circ share epoch glove) 62 57 = inp
    ∧ bits (circWord inp circ share epoch glove) 56 50 = circ ∧ bits (circWord inp circ share epoch glove) 49 43 = share
    ∧ bits (circWord inp circ share epoch glove) 15 0 = glove ∧ bits (circWord inp circ share epoch glove) 31 16 = epoch := by
  simp only [bits, circWord, BitVec.toNat_ofNat]
  omega

theorem reg_setCirc (o c inp circ share : Nat) (p : Packet) :
    (s.setCirc o c inp circ share p).reg (PORT_CIRC o c) = circWord inp circ share p.epoch.toNat p.glove.toNat :=
  (State.reg_setPort ..).trans (State.reg_setReg_same ..)

theorem netKept_setCirc (o c inp circ share : Nat) (p : Packet) : netKept s (s.setCirc o c inp circ share p) :=
  ((netKept.refl s).setReg ..).setPort ..

theorem outq_setCirc (o c inp circ share : Nat) (p : Packet) : (s.setCirc o c inp circ share p).rt.outq = s.rt.outq :=
  congrArg Router.outq ((State.setPort_rt ..).trans (State.setReg_rt ..))

/-- A circuit slot is not the device's own name. -/
theorem self_setCirc (hc : c < 64) (o inp circ share : Nat) (p : Packet) : (s.setCirc o c inp circ share p).self = s.self := by
  have hne : FAB_CFG ≠ PORT_CIRC o c := by simp only [FAB_CFG, PORT_CIRC]; omega
  exact self_congr ((State.reg_setPort ..).trans (State.reg_setReg_ne hne _))

/-! ### Setting up (R268) -/

theorem inPort_lt (x : Rx) : inPort x < 64 := by
  unfold inPort
  split <;> omega

/-- A setup, no refresh, whose layout is as it should be. -/
theorem not_malformed_of_setupOk (h : setupOk p) : bits (p.word 0) 39 39 ≠ 1
    ∧ ¬ (p.len ≠ 16 ∨ bits (p.word 0) 63 40 ≠ 0 ∨ p.word 1 ≠ 0
      ∨ (¬ bits (p.word 0) 39 39 = 1 ∧ (bits (p.word 0) 38 32 = 0 ∨ 64 < bits (p.word 0) 38 32))) := by
  obtain ⟨hlen, hhigh, hword1, hshare⟩ := h
  have hparts : bits (p.word 0) 39 39 = 0 ∧ bits (p.word 0) 63 40 = 0 := by
    simp only [bits] at hhigh ⊢
    omega
  obtain ⟨hrefresh, hzero⟩ := hparts
  refine ⟨by omega, ?_⟩
  rintro (hl | hz | hw | ⟨-, hs⟩)
  · exact hl hlen
  · exact hz hzero
  · exact hw hword1
  · omega

/-- At a hop, a setup takes the slot that its route's port offers, and goes on under that slot's number. -/
theorem circSetup_hop (hok : setupOk p) (hdest : p.dest ≠ s.self) (hsrc : p.src ≠ s.self)
    (hroute : s.route p.dest 0 false false = some o) (hslot : s.slotFor o (bits (p.word 0) 38 32) = some c) :
    s.circSetup x p = (s.setCirc o c (inPort x) p.circ (bits (p.word 0) 38 32) p).toOutq { p with circ := c + 1 } o := by
  obtain ⟨hrefresh, hlayout⟩ := not_malformed_of_setupOk hok
  rw [State.circSetup]
  dsimp only
  rw [if_neg hlayout, if_neg hdest, if_neg hrefresh, hroute]
  dsimp only
  rw [hslot]
  dsimp only
  rw [if_neg (by rw [self_setCirc (slotFor_lt hslot)]; exact hsrc)]
  rfl

/-- At its destination, a setup is acknowledged. -/
theorem circSetup_dest (hok : setupOk p) (hdest : p.dest = s.self) :
    s.circSetup x p = s.ack p (BitVec.ofNat 64 (bits (p.word 0) 31 0)) 0 := by
  obtain ⟨hrefresh, hlayout⟩ := not_malformed_of_setupOk hok
  rw [State.circSetup]
  dsimp only
  rw [if_neg hlayout, if_pos hdest, if_neg hrefresh]

/-- A setup for another device comes out of its input queue and is dealt with as at a hop. -/
theorem exec_circSetup_transit (hhead : s.headOf x = some p) (hty : p.ty = tCIRC_SETUP) (hdest : p.dest ≠ s.self) :
    exec (.circSetupReceive x) s = done s ((s.popIn x).circSetup x p) := by
  show execCircSetupReceive x s = _
  rw [execCircSetupReceive, hhead]
  dsimp only
  rw [if_pos hty, if_neg hdest]

theorem exec_circSetup_dest {n : Nat} (h : accepts s x tCIRC_SETUP p u n) :
    exec (.circSetupReceive x) s = done s (u.circSetup x p) := by
  obtain ⟨hhead, hty, hdest, hscreen⟩ := h
  show execCircSetupReceive x s = _
  rw [execCircSetupReceive, hhead]
  dsimp only
  rw [if_pos hty, if_pos hdest, hscreen]

theorem circSetupReceive_hop {r : List Packet} (hhead : heads s x p r) (hty : p.ty = tCIRC_SETUP) (hdest : p.dest ≠ s.self)
    (hsrc : p.src ≠ s.self) (hok : setupOk p) (hcirc : p.circ < 128) (hroute : (s.popIn x).route p.dest 0 false false = some o)
    (hslot : (s.popIn x).slotFor o (bits (p.word 0) 38 32) = some c) :
    Goes (.circSetupReceive x) s (fun t => t.fget (PORT_CIRC o c) PORT_CIRC_VALID = 1
      ∧ t.fget (PORT_CIRC o c) PORT_CIRC_IN_PORT = inPort x ∧ t.fget (PORT_CIRC o c) PORT_CIRC_IN_CIRC = p.circ
      ∧ t.fget (PORT_CIRC o c) PORT_CIRC_SHARE = bits (p.word 0) 38 32 ∧ t.fget (PORT_CIRC o c) PORT_CIRC_GLOVE = p.glove.toNat
      ∧ t.fget (PORT_CIRC o c) PORT_CIRC_EPOCH = p.epoch.toNat ∧ queued s t o p.vc (fun q => sameBut p q ∧ q.circ = c + 1)
      ∧ netKept s t) := by
  have hself := self_popIn s x
  have heq := circSetup_hop (x := x) hok (by rw [hself]; exact hdest) (by rw [hself]; exact hsrc) hroute hslot
  have hreg := ((unsent_circ o (slotFor_lt hslot)).toOutq { p with circ := c + 1 } (route_lt hroute)).trans
    (reg_setCirc (s := s.popIn x) o c (inPort x) p.circ (bits (p.word 0) 38 32) p)
  obtain ⟨hvalid, hport, hincirc, hshare, hglove, hepoch⟩ := bits_circWord (inPort_lt x) hcirc
    (bits_lt (p.word 0) 38 32) p.epoch.isLt p.glove.isLt
  refine goes_of_any ((exec_circSetup_transit (headOf_of_heads hhead) hty hdest).trans (congrArg (done s) heq))
    (fun _ _ h => h) ⟨?_, ?_, ?_, ?_, ?_, ?_, ?_, ?_⟩
  · rw [State.fget, hreg, hvalid]
  · rw [State.fget, hreg, hport]
  · rw [State.fget, hreg, hincirc]
  · rw [State.fget, hreg, hshare]
  · rw [State.fget, hreg, hglove]
  · rw [State.fget, hreg, hepoch]
  · exact queued_toOutq (q := { p with circ := c + 1 }) ((outq_setCirc ..).trans (outq_popIn ..))
      (fun _ _ => ⟨⟨rfl, rfl, rfl, rfl, rfl, rfl, rfl, rfl, rfl, rfl⟩, rfl⟩) o
  · exact ((netKept_popIn s x).trans (netKept_setCirc ..)).toOutq ..

theorem circSetupReceive_dest {n : Nat} (h : accepts s x tCIRC_SETUP p u n) (hok : setupOk p) :
    Goes (.circSetupReceive x) s (fun t => t.rt = (u.ack p (BitVec.ofNat 64 (bits (p.word 0) 31 0)) 0).rt ∧ netKept u t) := by
  obtain ⟨-, -, hdest, hscreen⟩ := id h
  have heq := circSetup_dest (x := x) hok (hdest.trans (self_of_screen hscreen).symm)
  exact goes_of_any ((exec_circSetup_dest h).trans (congrArg (done s) heq)) (fun _ _ h => h)
    ⟨rfl, ((FabricOnly.refl u).send _).net⟩

/-! ### Tearing down (R268) -/

theorem circTear_hop (hdest : p.dest ≠ s.self) (hslot : s.circSlot (inPort x) p.circ = some (o, c))
    (hof : s.circOf o c p = true) : s.circTear x p = (s.freeCirc o c).toOutq { p with circ := c + 1 } o := by
  rw [inPort] at hslot
  rw [State.circTear, if_neg hdest, hslot]
  exact if_pos hof

theorem exec_circTear_transit (hhead : s.headOf x = some p) (hty : p.ty = tCIRC_TEAR) (hdest : p.dest ≠ s.self) :
    exec (.circTearReceive x) s = done s ((s.popIn x).circTear x p) := by
  show execCircTearReceive x s = _
  rw [execCircTearReceive, hhead]
  dsimp only
  rw [if_pos hty, if_neg hdest]

theorem circTearReceive_hop {r : List Packet} (hhead : heads s x p r) (hty : p.ty = tCIRC_TEAR) (hdest : p.dest ≠ s.self)
    (hslot : (s.popIn x).circSlot (inPort x) p.circ = some (o, c)) (hof : (s.popIn x).circOf o c p = true) :
    Goes (.circTearReceive x) s (fun t => t.reg (PORT_CIRC o c) = 0
      ∧ queued s t o p.vc (fun q => sameBut p q ∧ q.circ = c + 1) ∧ netKept s t) := by
  obtain ⟨ho, hc⟩ := circSlot_lt hslot
  have heq := circTear_hop (x := x) (by rw [self_popIn]; exact hdest) hslot hof
  refine goes_of_any ((exec_circTear_transit (headOf_of_heads hhead) hty hdest).trans (congrArg (done s) heq))
    (fun _ _ h => h) ⟨((unsent_circ o hc).toOutq _ ho).trans (reg_freeCirc ..), ?_,
      ((netKept_popIn s x).trans (netKept_freeCirc ..)).toOutq ..⟩
  exact queued_toOutq (q := { p with circ := c + 1 }) ((congrArg Router.outq (rt_freeCirc ..)).trans (outq_popIn ..))
    (fun _ _ => ⟨⟨rfl, rfl, rfl, rfl, rfl, rfl, rfl, rfl, rfl, rfl⟩, rfl⟩) o

/-! ### The source's own circuits (R268, R270) -/

/-- The CIRC_TEAR that the source sends along a circuit of its own. -/
def tearPacket (s : State) (d : OwnCirc) : Packet :=
  s.tagged d.glove { ty := tCIRC_TEAR, vc := 0, dest := d.dest, src := s.self, circ := d.slot + 1 }

/-- The device forgets circuits of its own. -/
def keepCircs (s : State) (f : OwnCirc → Bool) : State := { s with rt := { s.rt with circs := s.rt.circs.filter f } }

theorem netKept.keepCircs (h : netKept s u) (f : OwnCirc → Bool) : netKept s (keepCircs u f) := h
theorem reg_keepCircs (f : OwnCirc → Bool) (r : Nat) : (keepCircs s f).reg r = s.reg r := rfl
theorem circs_keepCircs (f : OwnCirc → Bool) : (keepCircs s f).rt.circs = s.rt.circs.filter f := rfl

theorem tearOwn_eq (s : State) (d : OwnCirc) : s.tearOwn d =
    (keepCircs (s.freeCirc d.port d.slot) (fun e => e.cid != d.cid)).toOutq (tearPacket s d) d.port := rfl

theorem circSetupTimeout_tears {cid : W32} {d : OwnCirc} (hfind : s.rt.circs.find? (fun c => c.cid == cid) = some d)
    (hunused : d.usable = false) (hdue : d.sentAt + 100000 ≤ s.lanyard.toNat) :
    Goes (.circSetupTimeout cid) s
      (fun t => t.reg (PORT_CIRC d.port d.slot) = 0 ∧ (∀ e ∈ t.rt.circs, e.cid ≠ cid) ∧ netKept s t) := by
  have hcid : d.cid = cid := by simpa using List.find?_some hfind
  have hexec : exec (.circSetupTimeout cid) s = done s (s.tearOwn d) := by
    show execCircSetupTimeout cid s = _
    rw [execCircSetupTimeout, hfind]
    exact if_pos ⟨hunused, hdue⟩
  rw [tearOwn_eq] at hexec
  refine goes_of_any hexec (fun _ _ h => h) ⟨?_, fun e he => ?_, ((netKept_freeCirc ..).keepCircs _).toOutq ..⟩
  · rw [reg_toOutq_vc0 rfl, reg_keepCircs, reg_freeCirc]
  · rw [circs_toOutq, circs_keepCircs] at he
    have hne := (List.mem_filter.mp he).2
    rw [hcid] at hne
    simpa using hne

/-- The refresh of a circuit of this device. -/
def refreshPacket (s : State) (d : OwnCirc) : Packet :=
  s.tagged d.glove { ty := tCIRC_SETUP, vc := 0, dest := d.dest, src := s.self, circ := d.slot + 1, len := 16,
                     data := leBytes 8 (d.cid.toNat + d.share * 2 ^ 32 + 2 ^ 39) ++ leBytes 8 0 }

/-- A number written in n bytes reads back, as far as it fits. -/
theorem leNat_leBytes (n v : Nat) : leNat (leBytes n v) = v % 256 ^ n := by
  induction n generalizing v with
  | zero => rw [Nat.pow_zero, Nat.mod_one]; rfl
  | succ n ih =>
    have hstep : leNat (leBytes (n + 1) v) = v % 256 + 256 * leNat (leBytes n (v / 256)) := rfl
    rw [hstep, ih, Nat.pow_succ', Nat.mod_mul]

/-- Bit 39 of a refresh's first word says that it is one (R270). -/
theorem refreshPacket_marked {d : OwnCirc} (hshare : d.share < 128) : ((refreshPacket s d).word 0).getLsbD 39 = true := by
  have hword : (refreshPacket s d).word 0 = BitVec.ofNat 64 (leNat (leBytes 8 (d.cid.toNat + d.share * 2 ^ 32 + 2 ^ 39))) := rfl
  have hcid : d.cid.toNat < 2 ^ 32 := d.cid.isLt
  rw [hword, leNat_leBytes, BitVec.getLsbD_ofNat, Nat.testBit_eq_decide_div_mod_eq]
  simp only [Bool.and_eq_true, decide_eq_true_eq]
  omega

theorem lastUse_useCirc (s : State) (o c : Nat) :
    (Tab.look (fun _ => ({} : CircUse)) ((s.useCirc o c).port o).circ c).lastUse = s.lanyard.toNat := by
  rw [State.useCirc, State.port_setPort_same, Tab.look_store_same]

theorem outq_useCirc (o c : Nat) : (s.useCirc o c).rt.outq = s.rt.outq := congrArg Router.outq (State.setPort_rt ..)
theorem netKept_useCirc (o c : Nat) : netKept s (s.useCirc o c) := (netKept.refl s).setPort ..

theorem circRefresh_refreshes {cid : W32} {d : OwnCirc} (hfind : s.rt.circs.find? (fun c => c.cid == cid) = some d)
    (hshare : d.share < 128) (husable : d.usable = true)
    (hidle : (Tab.look (fun _ => ({} : CircUse)) (s.port d.port).circ d.slot).lastUse + 25000 ≤ s.lanyard.toNat) :
    Goes (.circRefresh cid) s
      (fun t => (Tab.look (fun _ => ({} : CircUse)) (t.port d.port).circ d.slot).lastUse = s.lanyard.toNat
      ∧ queued s t d.port 0
        (fun q => q.ty = tCIRC_SETUP ∧ q.dest = d.dest ∧ q.circ = d.slot + 1 ∧ (q.word 0).getLsbD 39 = true)
      ∧ netKept s t) := by
  have hexec : exec (.circRefresh cid) s = done s ((s.useCirc d.port d.slot).toOutq (refreshPacket s d) d.port) := by
    show execCircRefresh cid s = _
    rw [execCircRefresh, hfind]
    exact if_pos ⟨husable, hidle⟩
  refine goes_of_any hexec (fun _ _ h => h) ⟨?_, ?_, (netKept_useCirc ..).toOutq ..⟩
  · rw [port_congr (ports_toOutq ..), lastUse_useCirc]
  · exact queued_toOutq (q := refreshPacket s d) (outq_useCirc ..)
      (fun _ _ => ⟨rfl, rfl, rfl, refreshPacket_marked (s := s) hshare⟩) _

/-! ### The lease of a slot (R270) -/

theorem exec_circLeaseExpire {p : Fin 32} {c : Fin 64} (hvalid : (s.reg (PORT_CIRC p.val c.val)).getLsbD 63 = true)
    (hidle : (Tab.look (fun _ => ({} : CircUse)) (s.port p.val).circ c.val).lastUse + 100000 ≤ s.lanyard.toNat) :
    exec (.circLeaseExpire p c) s = done s (keepCircs ((s.freeCirc p c).bump (PORT_CNT4 p) PORT_CNT4_FORCED 1)
      (fun o => !(o.port == p.val && o.slot == c.val))) := if_pos ⟨hvalid, hidle⟩

theorem circLeaseExpire_frees {p : Fin 32} {c : Fin 64} (hvalid : (s.reg (PORT_CIRC p.val c.val)).getLsbD 63 = true)
    (hidle : (Tab.look (fun _ => ({} : CircUse)) (s.port p.val).circ c.val).lastUse + 100000 ≤ s.lanyard.toNat) :
    Goes (.circLeaseExpire p c) s (fun t => t.reg (PORT_CIRC p c) = 0
      ∧ (∀ o ∈ t.rt.circs, ¬ (o.port = p.val ∧ o.slot = c.val)) ∧ netKept s t) := by
  have hslot := unsent_circ p.val c.isLt
  refine goes_of_any (exec_circLeaseExpire hvalid hidle) (fun _ _ h => h) ⟨?_, fun o ho => ?_,
    ((netKept_freeCirc ..).bump ..).keepCircs _⟩
  · rw [reg_keepCircs, hslot.bump (hslot.cnt4 p p.isLt), reg_freeCirc]
  · rw [circs_keepCircs] at ho
    have hkept := (List.mem_filter.mp ho).2
    rintro ⟨hport, hslot⟩
    simp [hport, hslot] at hkept

end Sys2Proof.Claims

open Sys2Proof.Claims

/-- Settles O29, a lemma for each way in which a circuit begins, goes on or ends. -/
theorem circuits : Obligations.Circuits := by
  unfold Obligations.Circuits
  exact ⟨fun _ _ _ _ _ _ hhead hty hdest hsrc hok hcirc _ => circSetupReceive_hop hhead hty hdest hsrc hok hcirc,
    fun _ _ _ _ _ => circSetupReceive_dest,
    fun _ _ _ _ _ _ hhead hty hdest _ => circTearReceive_hop hhead hty hdest,
    fun _ _ _ hfind _ _ => circSetupTimeout_tears hfind, fun _ _ _ => circRefresh_refreshes, fun _ _ _ => circLeaseExpire_frees⟩

end
